-- ==== Sys2Proof/Word.lean ====
section
/-!
DEFINITION. The word and byte types of the model, and the plainest arithmetic on them (spec/00 R5, R10).
-/
namespace Sys2Proof

/-- A register word: every register is 32 bits wide (R10). -/
abbrev Word := BitVec 32

/-- A byte of memory or of a message. -/
abbrev Byte := BitVec 8

/-- One number, or zero where a Boolean is false: the bit a Boolean stands for. -/
def bit (b : Bool) : Nat := if b then 1 else 0

end Sys2Proof
end

