-- ==== Sys2Proof/Types.lean ====
section
/-!
DEFINITION. The types that commands and state share: requesting paths (spec/00 R18), messages and their routing headers
(spec/06 R184, spec/09 R241 to R243), address spaces (spec/14 R376), stitch markers (spec/02 R64), training blocks, flits
and control messages of a Mornu link (spec/06 R161, R174).
-/
namespace Sys2Proof

/-- The requesting paths of R18, and the loader's own path (R507). -/
inductive Path where
  | bar                 -- the management BAR
  | mctp (eid : Nat)    -- an MCTP endpoint issuing vendor CSR commands
  | core (c : Nat)      -- Clicker core c
  | debug               -- the debug master
  | loader              -- the LAST block's commit writes
deriving DecidableEq, Repr

/-- The number that separates the copies of a banked register: R438's path numbers, and the loader's own after them. -/
def Path.code : Path → Nat
  | .bar => 0
  | .core c => 1 + c
  | .debug => 5
  | .loader => 6
  | .mctp e => 8 + e

/-- The colour a meter gives a request (spec/08 R230). -/
inductive Colour where
  | green | yellow | red
deriving DecidableEq, Repr

/-- The KIND of the routing header (R184). -/
inductive Kind where
  | memM2S | memS2M | cacheD2H | cacheH2D | bi | io | mctp | fence
deriving DecidableEq, Repr

/-- The operation a message carries, by the protocol's name for it. -/
inductive Op where
  -- CXL.mem, master to subordinate
  | memRd | memRdData | memSpecRd | memInv | memInvNT | memClnEvct | memWr | memWrPtl | biConflict
  -- CXL.mem, subordinate to master
  | memData | cmp | biConflictAck
  -- back-invalidate
  | biSnpInv | biSnpData | biRspI | biRspS
  -- CXL.cache, device to host
  | rdCurr | rdOwn | rdShared | rdAny | rdOwnNoData | itoMWr | wrCur | wrInv | wrInvPtl
  | dirtyEvict | cleanEvict | cleanEvictNoData | cacheOther | cacheRspI | cacheRspS | cacheData
  -- CXL.cache, host to device
  | snpInv | snpData | go | goErr | goWritePull | goWritePullDrop
  -- CXL.io
  | mRd | mRdLk | unlock | mWr | cfgRd | cfgWr | atomicOp | cplD | cpl | cplDLk | cplLk | msg
  -- management and route fences
  | mctp | fence
deriving DecidableEq, Repr

/-- The MetaValue of a CXL.mem request, or the state a response grants. -/
inductive Meta where
  | none | inv | shr | any
deriving DecidableEq, Repr

/-- How a response ends: data or completion, or one of the errors the chapters name. -/
inductive Status where
  | ok | ur | ca | link | access | timeout
deriving DecidableEq, Repr

/-- The address spaces of R376. -/
inductive Space where
  | bus | obj | rgn | dpa | csr
deriving DecidableEq, Repr

/-- A message of the data plane: the routing header of R184, and of the body what the model's rules read. -/
structure Msg where
  id : Nat
  via : Nat                   -- agent through which it entered this module (R178, R180)
  kind : Kind
  op : Op
  metaV : Meta
  srcSw : Nat
  srcAg : Nat
  dstSw : Nat
  dstAg : Nat
  slice : Nat
  cls : Nat
  colour : Colour
  stamp : Nat
  body : Nat
  hops : Nat
  space : Space
  sid : Nat
  addr : Nat
  len : Nat
  pasid : Option Nat
  tag : Nat
  data : List Byte
  poison : Bool
  status : Status
  devload : Nat
  be : Bool
deriving DecidableEq, Repr

/-- The target classes of ingress decode (spec/01 R30), with what the decoder yields: the destination, or none. -/
inductive Target where
  | insole (dpa : Nat)
  | coherent (rgn line : Nat) (n : Nat) (ofs : Nat)
  | pass (port : Nat)
  | remote (sw ag : Nat)
  | vamp (port : Nat)
  | mgmt
  | tiered (rng : Nat) (gran : Nat) (ofs : Nat)
  | none
deriving DecidableEq, Repr

/-- What the decoders outside the CSR space yield for a request at an edge port (spec/01 R28, step 5): the HDM decoders and bridge windows of the
requester's virtual switch choose a vPPB and an offset in what it presents; a device's CXL.cache request decodes to a coherent
region; a device's other request goes upstream to its host; the management function; or nothing matches. DEDUCED (log entry 27). -/
inductive Route where
  | vppb (v ofs : Nat)
  | region (rgn ofs : Nat)
  | up
  | mgmt
  | none
deriving DecidableEq, Repr

/-- What a core's load is: a plain load, the load of an AMO (its store is the core's next store), or an LR or SC (spec/15 R418). -/
inductive CoreAcc where
  | load
  | amo
  | lrsc
deriving DecidableEq, Repr

/-- The stitch marker payload (spec/02 R64). -/
structure Marker where
  stitch : Nat
  rootId : Nat
  hops : Nat
  state : Nat
  long : Bool
  echoValid : Bool
  txOfs : Int
  echo : Int
deriving DecidableEq, Repr

/-- The four epoch generators (spec/02 R53). -/
inductive Epoch where
  | heat | acct | tel | fw
deriving DecidableEq, Repr

/-- The fifteen swap groups with their bits in LAST_SWAP_CTL.MASK (spec/20 R504). -/
inductive Grp where
  | glb | lb | ep | ml | sole | sched | ha | ins | bnd | vamp | eye | pmc | flt | cob | clk
deriving DecidableEq, Repr

/-- The group's bit in the mask (R504). -/
def Grp.bitNo : Grp → Nat
  | .glb => 0 | .lb => 1 | .ep => 2 | .ml => 3 | .sole => 4 | .sched => 5 | .ha => 6 | .ins => 7
  | .bnd => 8 | .vamp => 9 | .eye => 10 | .pmc => 11 | .flt => 12 | .cob => 13 | .clk => 14

/-- The groups in the order of the boundary's work (spec/02 R47, steps 2 and 5 to 9). -/
def Grp.order : List Grp :=
  [.sole, .sched, .eye, .vamp, .cob, .ha, .ins, .bnd, .pmc, .clk, .glb, .flt, .lb, .ep, .ml]

/-- The header of a flit (spec/06 R161). -/
structure FlitHdr where
  ftype : Nat
  ackv : Bool
  nak : Bool
  rpl : Bool
  shcr : Bool
  seq : Nat
  ack : Nat
  vc : Nat
  plen : Nat
  crpool : Nat
  crtot : Nat
deriving DecidableEq, Repr

/-- The INIT message of a Mornu link (spec/06 R174). -/
structure InitMsg where
  fabric : Nat
  sw : Nat
  ml : Nat
  resume : Bool
  seen : Bool
  rxok : Nat
  lset : Nat
  nonce : Nat
  session : Nat
  e : Nat
deriving DecidableEq, Repr

/-- What the PWR block samples at a boundary (spec/18 R474, R478): each feed's voltage in 10 mV and current in mA, the input power in 10 mW,
the core rail's voltage in mV and current in 0.1 A, the hottest die sensor and the pass FET in 0.5 °C, and of the four core-rail
domains the smallest margin of the past stitch in 1/64 clock and the ring oscillator frequency in MHz. -/
structure Samples where
  va : Nat
  ia : Nat
  vb : Nat
  ib : Nat
  pin : Nat
  cv : Nat
  ci : Nat
  die : Int
  fet : Int
  margins : List Nat
  freqs : List Nat
deriving DecidableEq, Repr

end Sys2Proof
end

