-- ==== Sys2Proof/Syntax.lean ====
section
/-!
DEFINITION. The commands the module takes, one constructor per row of spec/opcode_table.json: register writes that start
an operation, messages and markers that arrive, and events of timers, lanes, links, engines and pins. Register writes carry the requesting
path, the unit and the word written.
-/
namespace Sys2Proof

/-- A command. -/
inductive Instr where
  /-- A write to a register that has no row of its own takes effect according to the access code of each field. (R13) -/
  | registerWrite (p : Path) (off : Nat) (v : Word)
  /-- A read of a _LO register captures the _HI half of the same instant for the reading path. (R16) -/
  | loReadSnapshot (p : Path) (off : Nat)
  /-- A write of a _LO register holds the value for the path without applying it. (R17) -/
  | loWriteHold (p : Path) (off : Nat) (v : Word)
  /-- A write of a _HI register applies the held _LO value and the _HI value together. (R17) -/
  | hiWriteApply (p : Path) (off : Nat) (v : Word)
  /-- A W1C write to a sticky bit clears it; the clear may be refused at the boundary that follows. (R435) -/
  | stickyBitClear (p : Path) (off : Nat) (v : Word)
  /-- Every 2,560 Sole clocks the stitch ends, and the boundary work is done domain by domain in fixed order. (R47) -/
  | stitchBoundary (smp : Samples)
  /-- Setting GLB_STITCH_CTL.RUN starts the stitch counter at the next division point. (R45) -/
  | stitchRun (p : Path) (v : Word)
  /-- Setting LAST_SWAP_CTL.ARM arms a swap with target, mask, scope and mode, or refuses it with an error code. (R55) -/
  | swapArm (p : Path) (v : Word)
  /-- Setting DISARM before the lock point cancels the armed swap; after the lock point it is refused with LATE. (R56) -/
  | swapDisarm (p : Path) (v : Word)
  /-- At the target boundary each masked group applies its staged values at its instant, in COPY or EXCHANGE mode. (R57) -/
  | swapApply (g : Grp) (unit : Nat)
  /-- A block receives the arm state over the Shank, keeps its own copy and acknowledges it to the LAST block. (R48) -/
  | armStateRx (g : Grp) (unit : Nat)
  /-- A block that received the arm state after the target applies the swap at its first boundary after receipt. (R49) -/
  | swapLateApply (g : Grp) (unit : Nat)
  /-- A received stitch marker updates the link delay, the phase offset, err and the oscillator trim. (R65) -/
  | stitchMarkerRx (m : Nat) (mk : Marker) (rootOfs : Int) (arrival : Int)
  /-- After 64 consecutive stitches with |err| of 8 ns or less in ACQUIRE, the module becomes ALIGNED. (R67) -/
  | alignAcquired
  /-- An error above 40 ns for 4 consecutive stitches takes an ALIGNED module to OUT. (R67) -/
  | alignLost
  /-- Sixteen stitches without a valid uplink marker, or a lost pin source, moves the module to HOLDOVER or OUT. (R67) -/
  | sourceLost
  /-- When the holdover limit expires, the module goes from HOLDOVER to OUT. (R67) -/
  | holdoverExpiry
  /-- A backup whose count of marker-less stitches reaches 1,024 × i becomes root. (R62) -/
  | backupRootTakeover
  /-- A STITCH_IN pulse under PIN gives the upstream boundary and is checked for a valid period. (R66) -/
  | stitchInPulse (long : Bool) (period : Nat) (ofs : Int)
  /-- An epoch of 2^k stitches ends at a boundary and closes heat, accounting, telemetry or firmware periods. (R53) -/
  | epochEnd (e : Epoch)
  /-- Setting LAST_LOAD_CTL.START begins a load from the selected source in FETCH. (R80) -/
  | loadStart (p : Path) (v : Word)
  /-- Setting ABORT ends a load before COMMIT with code ABORTED. (R81) -/
  | loadAbort (p : Path) (v : Word)
  /-- The header and section table have been read and the layout checked; the load moves to AUTH or FAILED. (R80) -/
  | loadFetchDone (srcErr : Option Nat)
  /-- The enclave has finished the key, signature, SVN and target checks; the load moves to CHECK or FAILED. (R73) -/
  | loadAuthDone (sigOk : Bool)
  /-- The bodies, digests and records have been checked; the load becomes VERIFIED or FAILED. (R80) -/
  | loadCheckDone (srcErr : Option Nat) (digestOk : List Bool)
  /-- A VERIFIED load enters COMMIT once no overlapping swap is armed, after rechecking BASE. (R84) -/
  | loadCommitStart
  /-- All groups have been committed; the load is COMMITTED and STAGED_ID is recorded. (R80) -/
  | loadCommitDone
  /-- STG writes held during a group's commit are performed after that commit ends. (R85) -/
  | heldStgWriteRelease
  /-- An arm write held during a commit is checked and performed when the overlapping commits end. (R85) -/
  | heldArmRelease
  /-- The enclave ends verification of a firmware image and starts it or fails the boot attempt. (R393) -/
  | firmwareVerifyDone (ok : Bool) (svn : Nat)
  /-- Writing LAST_BOOT.CONFIRM confirms the boot and resets the attempt counter. (R93) -/
  | bootConfirm (p : Path) (v : Word)
  /-- No CONFIRM within 60 s of starting fails the boot attempt. (R93) -/
  | bootConfirmTimeout
  /-- A write of LAST_BOOT_PREF stores the preferred image in both boot records. (R94) -/
  | bootPrefWrite (p : Path) (v : Word)
  /-- Receiver detection finds the far termination and the lane moves to CDR. (R105) -/
  | laneDetectDone (b : Nat) (l : Nat)
  /-- No termination is found within 12 stitches, and the lane returns to IDLE. (R105) -/
  | laneDetectTimeout (b : Nat) (l : Nat)
  /-- Clock recovery locks frequency and phase, and the lane moves to ADAPT. (R105) -/
  | laneCdrLock (b : Nat) (l : Nat) (ofs : Int)
  /-- The CTLE and DFE convergence metric settles, and the lane moves to ORIENT. (R105) -/
  | laneAdaptDone (b : Nat) (l : Nat)
  /-- After 500 stitches in ADAPT, the lane moves to ORIENT. (R105) -/
  | laneAdaptTimeout (b : Nat) (l : Nat)
  /-- A Mornu training block with a good CHK is taken, feeding the correlator and FFE tuning. (R106) -/
  | trainingBlockRx (b : Nat) (l : Nat) (blk : Nat) (mir : Bool) (own : Bool)
  /-- After 1,024 stitches, a lane that had a map fault retries training. (R105) -/
  | laneMapRetry (b : Nat) (l : Nat)
  /-- After 64 consecutive valid sync headers, the lane locks alignment. (R109) -/
  | laneBlockLock (b : Nat) (l : Nat)
  /-- The sixteenth invalid header in a 64-block window loses lock, and the lane enters ALIGN and re-hunts. (R109) -/
  | laneBlockLockLoss (b : Nat) (l : Nat)
  /-- An out-of-range frequency or 1,024 UI without transitions makes the CDR declare loss. (R117) -/
  | laneCdrLoss (b : Nat) (l : Nat)
  /-- A lane relocks after a loss; a second loss within 1,024 stitches makes the fault lasting. (R110) -/
  | laneRelock (b : Nat) (l : Nat)
  /-- No relock within 16 stitches makes the fault lasting and sets its sticky bit. (R110) -/
  | laneRelockTimeout (b : Nat) (l : Nat)
  /-- A relock that holds for 1,024 stitches is transient and increments RELOCKS. (R110) -/
  | laneRelockStable (b : Nat) (l : Nat)
  /-- The receiver updates its equaliser on live traffic every 4,096 UI, applying the freeze bits. (R113) -/
  | adaptUpdate (b : Nat) (l : Nat)
  /-- A write of the LB_LANE_ADAPT freeze bits holds or resumes adaptation from the next update instant. (R114) -/
  | adaptFreezeWrite (p : Path) (b : Nat) (l : Nat) (v : Word)
  /-- Setting LB_LANE_ADAPT.SNAP captures all coefficients of the lane at one update instant. (R115) -/
  | coefSnapshot (p : Path) (b : Nat) (l : Nat) (v : Word)
  /-- LB_LANE_MARGIN_CTL.START starts a margin scan, or is refused with NOTDATA or BUSY. (R119) -/
  | marginScanStart (p : Path) (b : Nat) (l : Nat) (v : Word)
  /-- A dwell ends, and the point passes or fails; the scan moves outward or ends that direction. (R119) -/
  | marginPointDone (b : Nat) (l : Nat) (pass : Bool)
  /-- A PCIe lane margining command takes the monitor, preempting a local scan. (R120) -/
  | hostMarginCommand (b : Nat) (l : Nat) (start : Bool)
  /-- LB_BANK_CTL.WAKE requests power-up of an enabled bank under the wake budget. (R121) -/
  | bankWake (p : Path) (b : Nat) (v : Word)
  /-- LB_BANK_CTL.PARK parks an idle bank, withdraws a waiting request, or is refused. (R122) -/
  | bankPark (p : Path) (b : Nat) (v : Word)
  /-- The bank power-up completes 301 stitches after the grant, and held writes and missed swaps are applied. (R121) -/
  | bankReady (b : Nat) (pllOk : Bool) (calOk : Bool)
  /-- A parking bank reaches OFF within 10 stitches. (R122) -/
  | bankParkDone (b : Nat)
  /-- The TX PLL of a READY bank loses lock; lanes go to IDLE and a relock is retried. (R123) -/
  | bankPllUnlock (b : Nat)
  /-- The PLL relock and calibration retry ends: transient, or FAULT with LB_PLL_UNLOCK. (R123) -/
  | bankRelockDone (b : Nat) (locked : Bool)
  /-- A write of LB_BANK_CTL.FAMILY retunes the Mornu bank's PLL and takes both links down. (R103) -/
  | familyChange (p : Path) (b : Nat) (v : Word)
  /-- The link reaches L0 at the target rate; the attempt succeeds and hot plug moves to WAIT. (R138) -/
  | portLinkUp (n : Nat) (rate : Nat) (width : Nat) (flit : Bool) (ver : Nat) (protos : Nat) (fmt : Nat) (lds : Nat) (bi : Bool)
  /-- An attempt that has not reached L0 within TRAIN_LIMIT × 256 stitches fails. (R138) -/
  | portTrainTimeout (n : Nat)
  /-- The LTSSM enters Detect or Disabled, failing an attempt or leading to a link loss declaration. (R147) -/
  | portLtssmDetect (n : Nat)
  /-- A link in L0 enters Recovery and the recovery count increments. (R139) -/
  | portRecoveryEntry (n : Nat)
  /-- At each boundary that is a multiple of 1,024, recoveries above RCV_LIMIT lower the cap. (R139) -/
  | recoveryWindowEnd (n : Nat)
  /-- Setting or clearing XR_ENABLE changes the 128.0 GT/s advertisement, and a downstream port changes speed. (R136) -/
  | xrEnableWrite (n : Nat) (en : Bool) (lopt : Bool)
  /-- A failed attempt at 128.0 GT/s returns the port to 64.0 GT/s and sets XR_FAILED. (R137) -/
  | xrAttemptFail (n : Nat)
  /-- EP_LINK_CMD.RETRAIN restores the cap to TGT_RATE, clears ATTEMPTS and retrains. (R141) -/
  | portRetrain (p : Path) (n : Nat) (v : Word)
  /-- EP_LINK_CMD.HOT_RESET sends hot reset to a downstream partner, or is refused on upstream modes. (R145) -/
  | portHotReset (p : Path) (n : Nat) (v : Word)
  /-- Setting EP_LINK_CMD.DISABLE holds the link in Disabled. (R145) -/
  | portDisable (p : Path) (n : Nat) (v : Word)
  /-- A hot reset from the host resets every vPPB of the port's virtual switch. (R145) -/
  | hotResetReceived (n : Nat)
  /-- A secondary bus reset on a vPPB resets the partner or LD bound behind it. (R145) -/
  | secondaryBusReset (n : Nat) (vs : Nat) (k : Nat)
  /-- A completion arriving at an edge port is routed by identifier and cancels its table entry's timer. (R142) -/
  | npCompletionRx (n : Nat) (msg : Msg)
  /-- EP_CPL_TO expires for a request of a KX64 agent, which completes with TIMEOUT. (R143) -/
  | switchCplTimeout (n : Nat) (id : Nat)
  /-- The LTSSM has been out of L0, L0p and L1 for EP_HP_LOSS.LIMIT stitches. (R147) -/
  | hpLossTimeout (n : Nat)
  /-- At the first boundary after a loss cause, the port declares its link lost and enters LOST. (R147) -/
  | linkLossDeclare (n : Nat)
  /-- All outstanding entries and queued cells have been completed, and the port goes from LOST to EMPTY. (R148) -/
  | linkLossComplete (n : Nat)
  /-- The readiness wait elapses, and the port moves to DISCOVER. (R150) -/
  | hpWaitExpiry (n : Nat)
  /-- A DRS message with DRS_EN set ends the readiness wait. (R150) -/
  | drsReceived (n : Nat)
  /-- An IDE_KM key programming and start loads the idle key set and switches at a flit or TLP boundary. (R154) -/
  | ideKeyProg (n : Nat) (stream : Nat) (ok : Bool)
  /-- No secure stream EST_LIMIT stitches after link-up sets EP_IDE_FAIL. (R152) -/
  | ideEstTimeout (n : Nat)
  /-- An integrity check failure makes the stream insecure and blocks the port. (R153) -/
  | ideMacFail (n : Nat) (stream : Nat)
  /-- Every REKEY stitches the module refreshes the keys of its requester streams. (R394) -/
  | ideRekeyTimer (n : Nat)
  /-- A lane marker block is received and the lanes are deskewed by GCNT. (R159) -/
  | laneMarkerRx (m : Nat) (lane : Nat) (gcnt : Nat) (skew : Nat)
  /-- A received Mornu flit is checked and handled by sequence, ACK, NAK and credit report. (R163) -/
  | flitRx (m : Nat) (ok : Bool) (corr : Nat) (unc : Nat) (h : FlitHdr) (ids : List Nat) (msgs : List Msg)
  /-- At each flit boundary the link sends a due replay, an LCTL flit, a new DATA flit or IDLE. (R204) -/
  | flitTx (m : Nat)
  /-- The replay timer expires and the transmitter replays from the oldest unacknowledged flit. (R166) -/
  | replayTimerExpiry (m : Nat)
  /-- A spilled flit is read back for replay; an uncorrectable error sets ML_SPILL_ERR and flushes the link. (R171) -/
  | spillReadback (m : Nat) (seq : Nat) (ok : Bool)
  /-- An INIT message drives the leader-follower handshake to UP, or detects a peer mismatch. (R175) -/
  | initRx (m : Nat) (im : InitMsg)
  /-- INIT is retried every 1,024 stitches after a peer mismatch. (R172) -/
  | initRetryTimer (m : Nat)
  /-- A CRED message delivers the far side's pool sizes at a fresh INIT. (R169) -/
  | credRx (m : Nat) (pool : Nat) (size : Nat)
  /-- A LINKDOWN message takes an UP link into RETRAIN. (R172) -/
  | linkdownRx (m : Nat)
  /-- A LACE_REQ starts the added lanes training, or is refused. (R181) -/
  | laceReqRx (m : Nat) (arg : Nat)
  /-- A LACE_READY from the far side lets the transmitter switch to the wider set at its next group. (R181) -/
  | laceReadyRx (m : Nat) (arg : Nat)
  /-- An UNLACE_REQ is answered with UNLACE_ACK, and the responder switches at its next group. (R182) -/
  | unlaceReqRx (m : Nat) (arg : Nat)
  /-- An UNLACE_ACK lets the initiator switch to the narrower set, or reports a refusal. (R182) -/
  | unlaceAckRx (m : Nat) (arg : Nat)
  /-- A LACE_ABORT ends a lace or unlace with its reason. (R183) -/
  | laceAbortRx (m : Nat) (arg : Nat)
  /-- A FENCE message passes step 7 in each VC, and FENCE_DONE is answered once all eight have passed. (R186) -/
  | fenceRx (m : Nat) (msg : Msg)
  /-- A FENCE_DONE moves traffic back to the primary link. (R186) -/
  | fenceDoneRx (sw : Nat) (fid : Nat)
  /-- A FLUSHED message for the primary's session lets traffic move to the alternate. (R186) -/
  | flushedRx (sw : Nat) (session : Nat)
  /-- ML_LINK_CMD.RETRAIN takes an UP link into RETRAIN. (R172) -/
  | mlRetrain (p : Path) (m : Nat) (v : Word)
  /-- Setting ML_LINK_CMD.DISABLE holds the link DISABLED, flushing it from RETRAIN. (R172) -/
  | mlDisable (p : Path) (m : Nat) (v : Word)
  /-- A training attempt ends at 4,096 stitches, and the next one uses the widest aligned set or all lanes. (R173) -/
  | mlTrainTimeout (m : Nat)
  /-- A link still in RETRAIN at its grace expiry enters FLUSH. (R177) -/
  | graceExpiry (m : Nat)
  /-- All held traffic has been completed; the link sends FLUSHED and goes to TRAIN or DISABLED. (R179) -/
  | mlFlushDone (m : Nat)
  /-- ML_LACE_CTL.GO with CMD LACE starts widening the link toward TGT_LSET. (R181) -/
  | laceGo (p : Path) (m : Nat) (v : Word)
  /-- ML_LACE_CTL.GO with CMD UNLACE starts narrowing the link toward TGT_LSET. (R182) -/
  | unlaceGo (p : Path) (m : Nat) (v : Word)
  /-- A lace not switched within 4,096 stitches is aborted, and STATE becomes FAILED. (R181) -/
  | laceTimeout (m : Nat)
  /-- Without FLUSHED after 2 × GRACE + 512 stitches, traffic moves to the alternate and ML_FLUSH_SYNC is set. (R186) -/
  | routeFailoverTimeout (sw : Nat)
  /-- No FENCE_DONE within 256 stitches sends new fences with a new FENCE_ID. (R186) -/
  | fenceRetryTimeout (sw : Nat)
  /-- A request arriving at an edge port, or originated by an internal agent, passes ingress examination steps 1 to 7. (R28) -/
  | requestArrival (n : Nat) (r : Route) (msg : Msg)
  /-- A message waiting at step 7 is allocated its cells in stamp order once they become free. (R196) -/
  | cellAllocateWaiting (c : Nat)
  /-- A deferred red request is enqueued in the first cell time in which Q is below HARD. (R208) -/
  | redDeferRelease (id : Nat)
  /-- A message waiting for an active queue slot claims one, by a free slot or by eviction. (R217) -/
  | activeSlotClaim
  /-- An idle queue's state arrives from the Insole and its cells become eligible. (R216) -/
  | queueStateFetchDone (q : Nat) (out : Nat)
  /-- Each cell time, a new matching starts, three rounds advance, and matched cells cross the crossbar. (R198) -/
  | cellTime (ecc : List Nat)
  /-- Every 64 cell times, the average A of each pair is updated from Q. (R205) -/
  | congestionAvgUpdate
  /-- A coherent request reaches its slice, and is admitted with a tack or waits in a conflict queue. (R256) -/
  | coherentRequestArrival (h : Nat) (id : Nat) (ecc : Nat)
  /-- A directory set fetched from the store is placed in a frame, and the tack proceeds. (R254) -/
  | dirSetFetchDone (h : Nat) (rgn : Nat) (line : Nat) (out : Nat)
  /-- A memory read returns or a write is accepted for a tack, which may then close. (R247) -/
  | haMemoryResponse (h : Nat) (rgn : Nat) (line : Nat)
  /-- A snoop response reaches its tack's reserved place; the tack closes when all of its conditions hold. (R248) -/
  | snoopResponseRx (h : Nat) (id : Nat)
  /-- A BIConflict is answered with BIConflictAck at once or after the open tack's response. (R276) -/
  | biconflictRx (h : Nat) (id : Nat)
  /-- A tack's timer expires; unanswered agents depart and the requester receives its response with poison. (R283) -/
  | tackTimeout (h : Nat) (rgn : Nat) (line : Nat)
  /-- A line's hold window ends and a waiting snooper may be admitted. (R272) -/
  | holdWindowEnd (h : Nat) (rgn : Nat) (line : Nat)
  /-- When a queue's obstacle clears, its arbiter admits one waiting request. (R270) -/
  | conflictQueueAdmit (h : Nat)
  /-- A request waiting in EVICT receives an eviction tack, oldest stamp first. (R260) -/
  | evictionTackGrant (h : Nat)
  /-- HA_CTL.RESUME_CLEAN ends degraded handling and empties the degraded-set table, or is refused. (R265) -/
  | haResumeClean (p : Path) (h : Nat) (v : Word)
  /-- HA_DEPART_CLR.GO returns an FPID to normal handling, or is refused before its walk ends. (R282) -/
  | haDepartClear (p : Path) (h : Nat) (v : Word)
  /-- The walk of all directory sets for departed FPIDs ends. (R281) -/
  | departureWalkEnd (h : Nat)
  /-- When a route to the home is UP, a lost-write record is resent unchanged. (R286) -/
  | lwtResend (id : Nat)
  /-- The completion of a resent write frees its record and releases the writer's held messages. (R286) -/
  | lwtResendComplete (id : Nat)
  /-- Once a route is UP again, snoops flushed with a link are re-issued. (R288) -/
  | snoopReissue (h : Nat)
  /-- A channel serves a pool, home-path or service-port access under weighted round robin. (R296) -/
  | insoleRequest (ch : Nat)
  /-- A channel read returns, corrected, retried, repaired from the mirror or poisoned. (R294) -/
  | insoleReadDone (ch : Nat) (client : Nat) (out : Nat)
  /-- INS_TAG_WR.GO queues a tag write for the next boundary, or is refused. (R305) -/
  | tagWriteGo (p : Path) (v : Word)
  /-- A remap cache miss is filled from the table and the held lookup proceeds. (R309) -/
  | remapFillDone (rng : Nat) (gran : Nat) (out : Nat)
  /-- The heat scan ends with candidate lists, and migrations may start. (R312) -/
  | heatScanEnd
  /-- The engine starts a promotion or demotion within the budget and open limit, holding writes. (R314) -/
  | migrationStart
  /-- The source's outstanding writes complete, and the copy begins. (R314) -/
  | migrationWritesDrained (rng : Nat) (gran : Nat)
  /-- Every copy write is accepted; the state switches and held writes are released. (R314) -/
  | migrationCopyDone (rng : Nat) (gran : Nat) (ok : Bool) (data : List Byte) (poison : Bool)
  /-- A demoted frame is freed once its outstanding reads complete. (R314) -/
  | frameFree (frame : Nat)
  /-- INS_GCMD PROMOTE starts a promotion of one granule outside the budget. (R317) -/
  | gcmdPromote (p : Path) (v : Word)
  /-- INS_GCMD DEMOTE starts a demotion of one granule. (R317) -/
  | gcmdDemote (p : Path) (v : Word)
  /-- INS_GCMD PIN sets PIN of a granule. (R317) -/
  | gcmdPin (p : Path) (v : Word)
  /-- INS_GCMD UNPIN clears PIN of a granule. (R317) -/
  | gcmdUnpin (p : Path) (v : Word)
  /-- INS_GCMD RESET returns a granule to HOME, clearing D and HEAT and freeing its frame. (R317) -/
  | gcmdReset (p : Path) (v : Word)
  /-- INS_SHELF_CMD.CLEAN starts a cleaning pass of an AWAKE shelf. (R319) -/
  | shelfClean (p : Path) (v : Word)
  /-- INS_SHELF_CMD.RELEASE returns a CLEANING or CLEAN shelf to AWAKE. (R318) -/
  | shelfRelease (p : Path) (v : Word)
  /-- The cleaning pass ends; the shelf is CLEAN and the Clicker sends park commands. (R319) -/
  | cleaningPassEnd (sh : Nat)
  /-- Channel calibration, training, zero fill and queue state writing end, or start-up stops. (R321) -/
  | insoleStartupDone (trained : List Bool)
  /-- A lasting channel fault sets INS_CH_FAIL and, when fenced, its blocks are served as R322 gives. (R322) -/
  | channelFault (ch : Nat)
  /-- The Clicker ends discovery of a partner, and the port becomes BOUND or UNBOUND. (R325) -/
  | discoveryComplete (n : Nat) (kind : Nat) (lds : Nat) (dcd : Bool) (xr : Bool) (sn : Option Nat) (vendor : Nat)
  /-- DISC_LIMIT expires in DISCOVER; the port becomes UNBOUND and BND_DISC_FAIL is set. (R325) -/
  | discoveryTimeout (n : Nat)
  /-- BND_BCMD.GO with OP BIND checks a bind and queues it for the next boundary, or refuses it. (R328) -/
  | bindCommand (p : Path) (v : Word)
  /-- BND_BCMD.GO with OP UNBIND starts an unbind in WAIT, MANAGED or SURPRISE mode. (R329) -/
  | unbindCommand (p : Path) (v : Word)
  /-- A checked bind applies at the Management instant of the next boundary. (R328) -/
  | bindApply
  /-- A binding is removed at the boundary its mode gives, once the host has brought the link down where required. (R329) -/
  | unbindApply (v : Nat) (hostDown : Bool)
  /-- BND_SL_CMD.GO with OP RESET starts a drain or squash reset of an OPEN slice, or is refused. (R336) -/
  | sliceReset (p : Path) (v : Word)
  /-- BND_SL_CMD.GO with OP REMOVE starts a drain or squash removal of an OPEN slice, or is refused. (R336) -/
  | sliceRemove (p : Path) (v : Word)
  /-- At the gate boundary the slice enters DRAINING or SQUASHING and admits no request. (R336) -/
  | sliceGate (sl : Nat)
  /-- The drain limit expires with work outstanding, and the slice enters SQUASHING. (R337) -/
  | sliceDrainTimeout (sl : Nat)
  /-- OUT reaches zero; a RESET reopens the slice and a REMOVE closes it, with DONE reported. (R339) -/
  | sliceCmdEnd (sl : Nat)
  /-- All records of a frame are accepted and its header is written last. (R455) -/
  | dumpFrameWriteDone (ok : Bool)
  /-- COB_QP_CTL.ENABLE zeroes the queue pair's pointers and phase and enables it. (R343) -/
  | qpEnable (p : Path) (v : Word)
  /-- COB_QP_CTL.DISABLE stops fetching at once. (R343) -/
  | qpDisable (p : Path) (v : Word)
  /-- A doorbell write sets a new SQ tail or CQ head, or is ignored. (R342) -/
  | cobDoorbell (qp : Nat) (head : Bool) (v : Nat)
  /-- A fetched descriptor is checked whole, or completes with the status of its first failing field. (R345) -/
  | descriptorFetchDone (qp : Nat) (ok : Bool) (data : List Byte)
  /-- A startable descriptor begins within the MAX_OPEN and DEPTH limits, round robin. (R346) -/
  | descriptorStart
  /-- A descriptor ends and its completion entry is written to the completion ring. (R347) -/
  | descriptorComplete (qp : Nat) (ok : Bool)
  /-- A descriptor's no-progress timer expires and it completes TIMEOUT. (R346) -/
  | cobDescTimeout (qp : Nat)
  /-- A waiting wake request at the head is granted when its cost fits the tokens. (R349) -/
  | wakeGrant
  /-- BND_SHELF_CMD.PARK starts parking an AWAKE shelf, or is refused with BUSY. (R351) -/
  | shelfPark (p : Path) (v : Word)
  /-- BND_SHELF_CMD.WAKE requests a wake of a PARKED shelf, or is refused with BUSY. (R351) -/
  | shelfWake (p : Path) (v : Word)
  /-- A shelf idle for PARK_IDLE × 1,024 stitches with PARK_EN set starts parking. (R351) -/
  | shelfIdlePark (sh : Nat)
  /-- Every port acknowledges the park, and the shelf becomes PARKED. (R351) -/
  | shelfParkAck (sh : Nat)
  /-- Parking not acknowledged in WAKE_LIMIT × 64 stitches returns the shelf to AWAKE with ERR PARK. (R351) -/
  | shelfParkTimeout (sh : Nat)
  /-- Every port of the shelf is BOUND again; the shelf is AWAKE and held requests are released. (R351) -/
  | shelfWakeDone (sh : Nat)
  /-- A wake not done in WAKE_LIMIT × 64 stitches fails, completing held requests with errors. (R351) -/
  | shelfWakeTimeout (sh : Nat)
  /-- The FM API Physical Port Control command from the owner controls an edge port, or is refused with Busy. (R352) -/
  | fmPhysicalPortControl (eid : Nat) (sw : Nat) (n : Nat) (op : Nat)
  /-- The FM API Bind vPPB command issues a bind command from the owner. (R352) -/
  | fmBindVppb (eid : Nat) (sw : Nat) (v : Nat) (kind : Nat) (port : Nat) (obj : Nat) (slice : Nat)
  /-- The FM API Unbind vPPB command issues an unbind command from the owner. (R352) -/
  | fmUnbindVppb (eid : Nat) (sw : Nat) (v : Nat) (umode : Nat)
  /-- The FM API Generate AER Event command reports an AER event on a vPPB. (R352) -/
  | fmGenerateAerEvent (eid : Nat) (sw : Nat) (v : Nat) (err : Nat)
  /-- The FM API Send PPB CXL.io Config Request forwards a configuration request to a partner. (R352) -/
  | fmPpbConfigRequest (eid : Nat) (sw : Nat) (n : Nat) (reg : Nat) (write : Bool) (val : Nat) (len : Nat)
  /-- An FM API MLD command is tunnelled to an LD through the partner mailbox. (R352) -/
  | fmMldTunnel (eid : Nat) (sw : Nat) (n : Nat) (ld : Nat) (body : List Byte)
  /-- A DCD command adds or releases capacity of an export object by a local INS swap. (R352) -/
  | fmDcdCapacityChange (eid : Nat) (sw : Nat) (obj : Nat) (ext : Nat) (add : Bool) (n : Nat)
  /-- Ownership lapses after LEASE seconds without a command from the owner. (R353) -/
  | fmLeaseExpiry
  /-- A departure, upstream loss or REMOVE report from another Clicker is applied at the next boundary. (R354) -/
  | remoteReportRx (sw : Nat) (kind : Nat) (val : Nat)
  /-- An unacknowledged report is sent again every 256 stitches. (R354) -/
  | remoteReportRepeat (sw : Nat)
  /-- A far Clicker's acknowledgement ends the repetition of a report. (R354) -/
  | remoteReportAckRx (sw : Nat) (kind : Nat) (val : Nat)
  /-- A host request to a presented function is translated, tagged and forwarded, or served from prefetch. (R360) -/
  | vampOutboundRequest (id : Nat)
  /-- A device request matches an inbound window and is translated, or is unmapped. (R361) -/
  | vampInboundRequest (id : Nat)
  /-- A device completion is matched by tag, translated back and returned under the passing rules. (R360) -/
  | vampCompletion (id : Nat)
  /-- An MRdLk takes the port's semaphore and is forwarded as MRd, or waits in the lock queue. (R366) -/
  | vampMrdlk (id : Nat)
  /-- The holder's Unlock releases the semaphore and the lock queue in arrival order. (R366) -/
  | vampUnlock (id : Nat)
  /-- A lock held VAMP_LOCK_TO stitches is broken and VAMP_LOCK_BREAK is set. (R367) -/
  | vampLockTimeout (n : Nat)
  /-- Assert_INTx or Deassert_INTx updates the function's state and is sent to each enabled binding. (R368) -/
  | vampIntxMessage (id : Nat) (rtid : Nat) (pin : Nat) (on : Bool)
  /-- An ERR_COR, ERR_NONFATAL or ERR_FATAL is reported by each binding's AER and as an event. (R368) -/
  | vampErrMessage (id : Nat) (rtid : Nat) (sev : Nat)
  /-- PM_PME and vendor-defined messages are forwarded to the configuration owner. (R368) -/
  | vampForwardMessage (id : Nat) (rtid : Nat)
  /-- LTR, OBFF and other device messages are consumed and counted. (R368) -/
  | vampConsumedMessage (id : Nat)
  /-- A device message is released once every earlier posted write has been accepted at its target. (R369) -/
  | vampMessageRelease (n : Nat)
  /-- A far module's acceptance notice marks a posted write as accepted. (R369) -/
  | acceptanceNoticeRx (id : Nat)
  /-- A prefetched line older than AGE stitches is discarded unread. (R364) -/
  | pfLineAgeExpiry (w : Nat) (slice : Nat) (addr : Nat)
  /-- A tracking entry's timer expires; the requester receives completer abort and VAMP_NP_TIMEOUT is set. (R372) -/
  | vampNpTimeout (no : Nat)
  /-- A configuration write to a presented function is held per binding, forwarded by the owner, or ignored. (R359) -/
  | vampConfigWrite (id : Nat) (what : Nat) (k : Nat)
  /-- A configuration read returns the presented configuration space. (R359) -/
  | vampConfigRead (id : Nat) (what : Nat) (k : Nat)
  /-- A queued violation record is written to the ring and raises its VIOLATION event. (R386) -/
  | violationRecordWrite
  /-- OWNER_CLAIM with a PROV token moves the module from SHIPPED to OWNED. (R390) -/
  | ownerClaim (nonce : Nat) (signer : Option Nat) (snOk : Bool) (ids : List Nat)
  /-- KEY_INSTALL adds an ACTIVE key entry with the given usage. (R391) -/
  | keyInstall (nonce : Nat) (signer : Option Nat) (usage : Nat) (ids : List Nat)
  /-- KEY_REVOKE makes an entry REVOKED unless that would leave no needed key. (R391) -/
  | keyRevoke (nonce : Nat) (signer : Option Nat) (entry : Nat)
  /-- SVN_RAISE raises LAST_SVN_MIN or SEC_FW_SVN_MIN within the permitted range. (R391) -/
  | svnRaise (nonce : Nat) (signer : Option Nat) (fw : Bool) (v : Nat)
  /-- DEBUG_UNLOCK with a DEBUG token unlocks the debug master from the next boundary. (R385) -/
  | debugUnlock (nonce : Nat) (signer : Option Nat) (snOk : Bool)
  /-- DEBUG_LOCK locks the debug master from the next boundary. (R385) -/
  | debugLock (nonce : Nat)
  /-- OWNER_RELEASE zeroes the owner keys and returns the module to SHIPPED. (R390) -/
  | ownerRelease (nonce : Nat) (signer : Option Nat)
  /-- RETURN starts the uninterruptible sequence that zeroes keys and locked memory. (R392) -/
  | returnModule (nonce : Nat) (signer : Option Nat)
  /-- The zero fill of the locked region ends; RETURNED is written and debug unlocked. (R392) -/
  | returnFillDone
  /-- FLASH_WRITE verifies an image set and writes it to the flash not booted from. (R94) -/
  | flashWrite (nonce : Nat) (img : Nat) (ok : Bool) (data : List Nat)
  /-- SELFTEST runs the known-answer tests, entering the error state on failure. (R399) -/
  | selftest (nonce : Nat) (ok : Bool)
  /-- A continuous DRBG health test failure puts the enclave in its error state. (R399) -/
  | healthTestFail
  /-- GET_VERSION is answered listing SPDM 1.2. (R395) -/
  | spdmGetVersion (who : Nat)
  /-- GET_CAPABILITIES is answered with the supported SPDM capabilities. (R395) -/
  | spdmGetCapabilities (who : Nat)
  /-- NEGOTIATE_ALGORITHMS selects the P-384, SHA-384, secp384r1 and AES-256-GCM suite. (R395) -/
  | spdmNegotiateAlgorithms (who : Nat)
  /-- GET_CERTIFICATE returns the chain of slot 0 or slot 1. (R395) -/
  | spdmGetCertificate (who : Nat) (slot : Nat)
  /-- CHALLENGE is answered with a signed response. (R395) -/
  | spdmChallenge (who : Nat) (slot : Nat)
  /-- GET_MEASUREMENTS returns the measurement blocks, waiting for block 10 when needed. (R396) -/
  | spdmGetMeasurements (who : Nat) (idx : Nat)
  /-- KEY_EXCHANGE opens one of at most 16 responder sessions. (R395) -/
  | spdmKeyExchange (who : Nat) (slot : Nat) (id : Nat)
  /-- FINISH completes the session handshake. (R395) -/
  | spdmFinish (who : Nat) (id : Nat)
  /-- The enclave finishes the digest of the active rule set for measurement block 10. (R397) -/
  | eyeDigestDone
  /-- An MCTP packet is reassembled into a message, bridged to another module, or dropped. (R403) -/
  | mctpPacketRx (path : Nat) (src : Nat) (dst : Nat) (tag : Nat) (ty : Nat) (som : Bool) (eom : Bool) (body : List Byte)
  /-- Set Endpoint ID assigns the binding's endpoint ID and, at the first, starts the pool request. (R403) -/
  | setEndpointId (path : Nat) (eid : Nat) (tag : Nat) (new : Nat)
  /-- Get Endpoint ID returns the endpoint ID. (R402) -/
  | getEndpointId (path : Nat) (eid : Nat) (tag : Nat)
  /-- Get MCTP Version Support returns the supported versions. (R402) -/
  | getMctpVersionSupport (path : Nat) (eid : Nat) (tag : Nat)
  /-- Get Message Type Support returns the supported message types. (R402) -/
  | getMessageTypeSupport (path : Nat) (eid : Nat) (tag : Nat)
  /-- Get Vendor Defined Message Support returns the vendor message support. (R402) -/
  | getVendorDefinedSupport (path : Nat) (eid : Nat) (tag : Nat)
  /-- The bus owner's Allocate Endpoint IDs grants the 64-ID bridge pool. (R404) -/
  | allocateEndpointIds (path : Nat) (base : Nat) (n : Nat)
  /-- Routing Information Update updates the bridge's routing information. (R402) -/
  | routingInfoUpdate (path : Nat) (eid : Nat) (tag : Nat)
  /-- The vendor CSR_READ reads COUNT registers by the CSR agent. (R407) -/
  | csrRead (eid : Nat) (tag : Nat) (off : Nat) (width : Nat) (n : Nat)
  /-- The vendor CSR_WRITE writes COUNT registers by the CSR agent, stopping at the first failure. (R407) -/
  | csrWrite (eid : Nat) (sw : Nat) (tag : Nat) (off : Nat) (width : Nat) (vals : List Word)
  /-- LAST_XFER writes its data bytes into the load buffer at OFS. (R408) -/
  | lastXfer (eid : Nat) (sw : Nat) (tag : Nat) (len : Nat) (off : Nat) (data : List Byte)
  /-- SEC_RELAY relays a security command record to the enclave and returns its status. (R391) -/
  | secRelay (eid : Nat) (sw : Nat) (tag : Nat) (op : Nat) (nonce : Nat) (signer : Option Nat) (a : Nat) (b : Nat) (ok : Bool) (ids : List Nat)
  /-- EVENT_REPLAY returns up to COUNT records from the event log, or GONE. (R413) -/
  | eventReplay (eid : Nat) (tag : Nat) (first : Nat) (n : Nat)
  /-- MODULE_INFO returns the module's identity, build ID, lifecycle and state. (R406) -/
  | moduleInfo (eid : Nat) (tag : Nat)
  /-- RECOVERY_BOOT starts the Clicker complex from the named image in the recovery state. (R409) -/
  | recoveryBoot (eid : Nat) (tag : Nat) (img : Nat)
  /-- DBG_OPEN opens a debug session for its endpoint, or returns BUSY. (R510) -/
  | dbgOpen (path : Nat) (eid : Nat) (tag : Nat)
  /-- DBG_ACCESS makes one checked read or write of agent 84 in the named space. (R510) -/
  | dbgAccess (path : Nat) (eid : Nat) (tag : Nat) (write : Bool) (sp : Nat) (ident : Nat) (len : Nat) (addr : Nat) (data : List Byte)
  /-- DBG_CLOSE closes the debug session. (R510) -/
  | dbgClose (path : Nat) (eid : Nat) (tag : Nat)
  /-- A session idle for IDLE_LIMIT × 1,024 stitches is closed. (R510) -/
  | dbgIdleTimeout
  /-- A core issues a non-speculative device load, which faults precisely on error or timeout. (R420) -/
  | coreDeviceLoad (c : Nat) (addr : Nat) (n : Nat) (acc : CoreAcc)
  /-- A core's device store takes its attribute and leaves the store buffer in program order. (R418) -/
  | coreDeviceStore (c : Nat) (addr : Nat) (n : Nat) (v : Word)
  /-- A FENCE waits for earlier stores and loads to complete as its sets require. (R419) -/
  | coreFence (c : Nat) (ow : Bool) (ir : Bool)
  /-- On a trap, the core completes its older stores before the handler's first instruction. (R421) -/
  | coreTrap (c : Nat)
  /-- A device store's write response or vendor response reaches the core. (R418) -/
  | deviceStoreComplete (c : Nat) (err : Nat) (late : Bool)
  /-- CLK_STO expires for a device access, which completes in error. (R420) -/
  | deviceAccessTimeout (c : Nat)
  /-- CLK_CORE_CTL.RESET resets a core and discards its unaccepted stores. (R421) -/
  | coreReset (p : Path) (c : Nat) (v : Word)
  /-- A write of CLK_CORE_CTL.HOLD holds a core in reset or releases it. (R421) -/
  | coreHoldWrite (p : Path) (c : Nat) (v : Word)
  /-- A bad Shank packet is resent once, and a second failure drops it and sets CLK_SHANK_LINK. (R426) -/
  | shankParityError (x : Nat) (y : Nat) (cured : Bool)
  /-- A fenced unit whose last fencing bit cleared is released at the following boundary. (R436) -/
  | unitRelease (kind : Nat) (unit : Nat)
  /-- FLT_RESTART.GO starts verification of the named firmware image. (R439) -/
  | warmRestart (p : Path) (v : Word)
  /-- The restart image is verified and the cores are held at the next boundary, or the restart is refused. (R439) -/
  | restartVerifyDone (ok : Bool) (svn : Nat)
  /-- The new firmware has been loaded and the cores start, awaiting CONFIRM. (R439) -/
  | restartLoadDone
  /-- No CONFIRM within 60 s reverts to the previous image and sets FLT_RESTART_REVERT. (R439) -/
  | restartConfirmTimeout
  /-- FLT_PWRDN_CTL.GO holds ingress at the next boundary and starts the controlled power-down. (R443) -/
  | powerdownGo (p : Path) (v : Word)
  /-- FLT_PWRDN_CTL.ABORT releases the ingress hold and clears the link DISABLE bits. (R443) -/
  | powerdownAbort (p : Path) (v : Word)
  /-- The cell buffer holds no request and every OUT is zero; cleaning starts. (R443) -/
  | pwrdnDrainDone
  /-- DRAIN_LIMIT expires; DRAIN_TO is set and cleaning starts. (R443) -/
  | pwrdnDrainTimeout
  /-- Cleaning passes end, and GPF starts toward the partners. (R443) -/
  | pwrdnCleanDone
  /-- CLEAN_LIMIT expires; CLEAN_TO is set and GPF starts. (R443) -/
  | pwrdnCleanTimeout
  /-- GPF ends; the Mornu links are disabled and STEP reads READY. (R443) -/
  | pwrdnGpfDone
  /-- A GPF Phase 1 request is forwarded to every bound partner. (R442) -/
  | gpfPhase1Request (n : Nat)
  /-- A GPF Phase 2 request cleans tiered data and posted writes and is then forwarded. (R442) -/
  | gpfPhase2Request (n : Nat)
  /-- The write-back not done within P2_MS forwards Phase 2 anyway and sets FLT_GPF_FAIL. (R442) -/
  | gpfP2Timeout (n : Nat)
  /-- A forwarded GPF request completes, and the host's request completes with the last one. (R442) -/
  | gpfPartnerComplete (n : Nat)
  /-- A feed passes its enter deglitch and enters its window. (R459) -/
  | feedWindowEnter (feed : Nat)
  /-- A feed leaves its window, its ORing FET is held off, and a loss bit or turn-off follows. (R459) -/
  | feedWindowLeave (feed : Nat)
  /-- Controller bias appears and the controller enters OFF. (R463) -/
  | biasPresent
  /-- Bias absent for 1,000 ms puts the controller in NOBIAS, forgetting latch and cool-down. (R463) -/
  | biasLoss
  /-- The insertion delay elapses, and with PM_EN high the ramp starts. (R464) -/
  | insertionDelayExpiry
  /-- PM_EN rises, starting a ramp or restarting a cool-down. (R463) -/
  | pmEnRise
  /-- PM_EN low for 100 µs turns the module off with cause PM_EN. (R463) -/
  | pmEnLow
  /-- PM_EN low for 100 ms with a feed in window clears the trip latch. (R470) -/
  | latchClear
  /-- The 5 s cool-down ends, and with the latch clear the controller leaves LATCHED. (R470) -/
  | cooldownEnd
  /-- V_out reaches V_in − 1.0 V; the pass FET is fully on and the controller enters ON. (R466) -/
  | powerGood
  /-- One millisecond after power good the regulators are enabled and the die's start-up begins. (R466) -/
  | regulatorEnable
  /-- V_out below V_in − 3.0 V for 100 µs in ON is a BREAKER trip. (R466) -/
  | powerGoodLost
  /-- Pass FET current above 24 A turns the FET off within 1 µs and latches. (R467) -/
  | fastTrip
  /-- The breaker timer reaches 1 ms and the FET is turned off and latched. (R468) -/
  | breakerTrip
  /-- The SOA timer reaches 10 ms and the FET is turned off and latched. (R469) -/
  | soaTrip
  /-- No power good 40 ms after the ramp began trips the controller. (R469) -/
  | rampTimeout
  /-- The pass FET above 150 °C trips the controller. (R469) -/
  | fetOvertemp
  /-- An ORing FET turns off on reverse current and sets PWR_REVERSE. (R462) -/
  | reverseCurrentTurnoff (feed : Nat)
  /-- PWR_CFG.NV_COMMIT writes INS_DELAY to the controller's record. (R481) -/
  | nvCommit (p : Path) (v : Word)
  /-- PWR_PIN_PEAK.CLR clears the peak input power. (R479) -/
  | peakClear (p : Path) (v : Word)
  /-- All margins above M_HIGH for 1,024 stitches lower the setpoint one step. (R475) -/
  | avsRegularLower
  /-- A margin below M_CRIT raises the setpoint by 25 mV at once. (R475) -/
  | avsUrgentRaise (d : Nat) (margin : Nat)
  /-- PERST_N low for 100 µs resets every die domain. (R499) -/
  | perstAssert
  /-- PERST_N high releases the module reset and start-up resumes at step 2. (R499) -/
  | perstRelease
  /-- GLB_RST.MODULE resets the module for 1 ms. (R499) -/
  | moduleResetCmd (p : Path) (v : Word)
  /-- GLB_RST.MGMT resets the Management domain, or is refused during a swap or commit. (R500) -/
  | mgmtReset (p : Path) (v : Word)
  /-- A write of GLB_RST.MGMT_HOLD holds or releases the Management domain reset. (R500) -/
  | mgmtHoldWrite (p : Path) (v : Word)
  /-- The restart load after a management reset commits groups BND, PMC and CLK. (R501) -/
  | mgmtRestartDone
  /-- Cn_RST_N is released 100 ms after the bank is READY, and downstream ports start training. (R488) -/
  | cageResetRelease (b : Nat)
  /-- The READY record is sent at the first boundary at which ports, links and alignment have settled. (R495) -/
  | readySend
  /-- READY_LIMIT stitches after step 5, READY is sent with PARTIAL set. (R495) -/
  | readyLimitExpiry
  /-- ENTDAA assigns the dynamic address using the provisional ID. (R491) -/
  | i3cEntdaa (addr : Nat)
  /-- RSTDAA resets the dynamic address. (R491) -/
  | i3cRstdaa
  /-- SETNEWDA changes the dynamic address. (R491) -/
  | i3cSetnewda (addr : Nat)
  /-- GETPID returns the provisional ID. (R491) -/
  | i3cGetpid
  /-- GETBCR returns the bus characteristics register. (R491) -/
  | i3cGetbcr
  /-- GETDCR returns the device characteristics register. (R491) -/
  | i3cGetdcr
  /-- GETMXDS returns the maximum data speed. (R491) -/
  | i3cGetmxds
  /-- ENEC enables in-band interrupts. (R491) -/
  | i3cEnec
  /-- DISEC disables in-band interrupts, taking I3C subscribers' paths down. (R491) -/
  | i3cDisec
  /-- SETMRL sets the maximum read length. (R491) -/
  | i3cSetmrl (n : Nat)
  /-- SETMWL sets the maximum write length. (R491) -/
  | i3cSetmwl (n : Nat)
  /-- With the Always-on domain up and no dynamic address, the module requests Hot-Join. (R491) -/
  | i3cHotJoin
  /-- Once the rails have come up in order, the Always-on reset is released, the controller record is read and PWR_FUSE_TRIP is evaluated. (R494) -/
  | alwaysOnResetRelease
  /-- The enclave's power-up known-answer tests end, passing into firmware verification or failing into the error state. (R399) -/
  | powerUpSelfTestDone (ok : Bool)
  /-- The 1 ms hold of a GLB_RST.MODULE reset ends and start-up resumes at step 2. (R499) -/
  | moduleResetPulseEnd
  /-- The 150-stitch PLL relock after a Mornu family change ends, and both links of the bank train again. (R103) -/
  | familyRelockDone (b : Nat)
  /-- A colour tag cache miss is filled over the service port, and the waiting colour check passes, fails or fails with TAGERR. (R305) -/
  | tagCacheFillDone (line : Nat) (out : Nat)
  /-- The response to a core's device load arrives and completes the load, or raises a precise access fault on an error response. (R420) -/
  | deviceLoadComplete (c : Nat) (err : Nat) (v : Word) (late : Bool)
deriving DecidableEq, Repr

end Sys2Proof
end

