-- ==== Sys2Proof/Decode.lean ====
section
/-!
DEFINITION. The commands that a word spells. spec/opcode_table.json gives no row any bits: a command reaches the part as a register write, a
message, a marker or an event, never as a word of its own, so no word spells one.
-/
namespace Sys2Proof

/-- The command that a word spells by the bits of the table: none, for no row has bits. DESIGN CHOICE (log entry 1). -/
def decodeTableWord (_nbits _w : Nat) : Option Instr := none

end Sys2Proof
end

