-- ==== Sys2Proof/Config.lean ====
section
/-!
DEFINITION. What the specification leaves open and no run may fix: the free values of the model. None has a body, so no proof
can learn a value of one; a statement about them holds for every value.
-/
namespace Sys2Proof.Config

/-- A value the specification states an instruction or an event produces without stating which value: the outputs of
the DRBG (spec/14 R398), of the linear-feedback generators whose polynomial is not given (spec/07 R206, spec/11 R311), of
cryptographic operations and of identifiers the specification does not give (spec/19 R491). Applied to the plain counter
`freeCtr` of State, which each use advances. DESIGN CHOICE (log entry 7). -/
opaque free : Nat → BitVec 64

/-- The digest of block 10 of the measurements as a function of the contents digested (spec/14 R397). DESIGN CHOICE (log entry 8). -/
opaque digest : Nat → BitVec 64

/-- Whether the host has enabled viral on the virtual switch of a port: a control of the presented configuration space that no
register of the CSR space holds (spec/05 R148, R153). DESIGN CHOICE (log entry 8). -/
opaque viralEnabled : Nat → Bool

/-- The max payload size and the max read request size that software has programmed at a port: controls of the presented configuration space that no
register of the CSR space holds (spec/05 R130, R134). The size is 128 B times two to the power of the value, within the sizes that R130 supports.
DESIGN CHOICE (log entry 8). -/
opaque maxPayload : Nat → BitVec 8
opaque maxRead : Nat → BitVec 8

/-- Constants of the device that the specification names without giving their values: of the I3C target (spec/19 R491), 0 Staolo's MIPI
Manufacturer ID, 1 the bus characteristics, 2 the device characteristics, 3 the maximum data speeds. DESIGN CHOICE (log entry 8). -/
opaque device : Nat → BitVec 64

end Sys2Proof.Config
end

