-- ==== Sys2Proof/Machine/Mem.lean ====
section
/-!
DEFINITION. The Insole's memory as sparse bytes in one canonical form (spec/01 R37, spec/11 R293, R321).
-/
namespace Sys2Proof.Machine
open Sys2Proof

/-- Memory in canonical form: addresses rising, no byte equal to what an unlisted address reads as. -/
abbrev Mem := List (Nat × Byte)

namespace Mem

/-- What an address that is not listed reads as: the zero of the start-up fill (R321). DESIGN CHOICE (log entry 6). -/
def blank : Byte := 0

/-- The byte at an address. -/
def get : Mem → Nat → Byte
  | [], _ => blank
  | (a', b) :: rest, a => if a = a' then b else Mem.get rest a

/-- The memory without an entry for the address. -/
def drop : Mem → Nat → Mem
  | [], _ => []
  | (a', b) :: rest, a => if a' = a then Mem.drop rest a else (a', b) :: Mem.drop rest a

/-- The memory with a byte put at its place. -/
def insert : Mem → Nat → Byte → Mem
  | [], a, b => [(a, b)]
  | (a', b') :: rest, a, b =>
    if a < a' then (a, b) :: (a', b') :: rest
    else if a = a' then (a, b) :: rest
    else (a', b') :: Mem.insert rest a b

/-- The memory with a byte written, in canonical form. -/
def set (m : Mem) (a : Nat) (b : Byte) : Mem := if b = blank then Mem.drop m a else Mem.insert m a b

/-- The memory with consecutive bytes written from an address. -/
def sets (m : Mem) (a : Nat) : List Byte → Mem
  | [] => m
  | b :: bs => Mem.sets (Mem.set m a b) (a + 1) bs

/-- Consecutive bytes from an address. -/
def gets (m : Mem) (a : Nat) : Nat → List Byte
  | 0 => []
  | n + 1 => Mem.get m a :: Mem.gets m (a + 1) n

/-- The memory with no entry in a range of addresses. -/
def clear (m : Mem) (a n : Nat) : Mem := m.filter fun e => decide (e.1 < a) || decide (a + n ≤ e.1)

/-- Addresses strictly rising from a bound, no blank byte listed. -/
def wfFrom : Nat → Mem → Bool
  | _, [] => true
  | b, (a, v) :: rest => decide (b ≤ a) && (v != blank) && Mem.wfFrom (a + 1) rest

/-- The canonical form. -/
def wf (m : Mem) : Bool := Mem.wfFrom 0 m

end Mem

end Sys2Proof.Machine
end

