-- ==== Sys2Proof/Machine/Fields.lean ====
section
/-!
DEFINITION. Fields of a register and their access codes (spec/00 R12, R13), and reading and writing a field of a word.
-/
namespace Sys2Proof.Machine
open Sys2Proof

/-- The access codes of R13; a bit no field names is RSV. -/
inductive Acc where
  | rw | ro | w1c | w1s | rwl | stg
deriving DecidableEq, Repr

/-- One field of a register: the register's offset (in its first unit), the field's lowest bit and width, its access code and
its reset value (R12). -/
structure Fld where
  off : Nat
  lsb : Nat
  width : Nat
  acc : Acc
  rst : Nat
deriving DecidableEq, Repr

/-- How a register's offset leads to its contents (spec/20 R506): by itself, per requesting path, or per entry that the path's
copy of a selector register names. -/
inductive Reach where
  | plain | banked | selected (sel : Nat)
deriving DecidableEq, Repr

/-- One row of the register index (spec/20 R505): the offset in the first unit, the units as (stride, count) in falling order
of stride, how it is reached, and its fields. -/
structure RegDef where
  off : Nat
  dims : List (Nat × Nat)
  reach : Reach
  flds : List Fld
deriving DecidableEq, Repr

/-- The field's value in a word. -/
def Fld.of (f : Fld) (w : Word) : Nat := (w.toNat >>> f.lsb) % 2 ^ f.width

/-- The bits of a word the field occupies. -/
def Fld.mask (f : Fld) : Word := BitVec.ofNat 32 ((2 ^ f.width - 1) <<< f.lsb)

/-- A value placed at the field's bits, cut to its width. -/
def Fld.place (f : Fld) (v : Nat) : Word := BitVec.ofNat 32 ((v % 2 ^ f.width) <<< f.lsb)

/-- The word with the field set to `v`, cut to its width, and every other bit kept. -/
def Fld.upd (f : Fld) (w : Word) (v : Nat) : Word := (w &&& ~~~ f.mask) ||| f.place v

/-- The bits of a register whose fields have one of the given access codes. -/
def RegDef.maskOf (d : RegDef) (p : Acc → Bool) : Word :=
  d.flds.foldl (fun m f => if p f.acc then m ||| f.mask else m) 0

/-- The reset word of a register as its table gives it. -/
def RegDef.reset (d : RegDef) : Word := d.flds.foldl (fun m f => m ||| f.place f.rst) 0

/-- Whether a distance from the first unit is that of some unit of the dimensions. -/
def unitOk : List (Nat × Nat) → Nat → Bool
  | [], r => r == 0
  | (st, n) :: ds, r => decide (r / st < n) && unitOk ds (r % st)

/-- Whether the register occupies the offset. -/
def RegDef.at? (d : RegDef) (o : Nat) : Bool := decide (d.off ≤ o) && unitOk d.dims (o - d.off)

/-- The two's complement reading of the low `w` bits of a number. -/
def signed (w n : Nat) : Int := if n % 2 ^ w < 2 ^ (w - 1) then (n % 2 ^ w : Nat) else ((n % 2 ^ w : Nat) : Int) - (2 ^ w : Nat)

/-- The low `w` bits of an integer, as a number. -/
def unsigned (w : Nat) (i : Int) : Nat := (i % (2 ^ w : Nat)).toNat

end Sys2Proof.Machine
end

