-- ==== Sys2Proof/Machine/CsrFields.lean ====
section
/-!
DEFINITION. The fields of every register of the CSR space, from the register tables of the chapters
(spec/00 R12, R13; spec/02 R71; spec/03 R97; spec/04 R126; spec/05 R155; spec/06 R188; spec/07 R211; spec/08 R232;
spec/09 and spec/10; spec/11; spec/12 R356; spec/13 R373; spec/14 R401; spec/15 R427; spec/16 R444; spec/17 R457;
spec/18; spec/19 R502, R503; spec/20 R505, R509). One constant per field, named REGISTER_FIELD as the table spells
them: offset of the register's first unit, lowest bit, width, access code, reset value. A reset value that depends on the
unit or comes from storage is 0 here and is laid over in `resetWord`; the week of manufacture is 1 (DESIGN CHOICE, log entry 43).
-/
namespace Sys2Proof.Machine.F

def GLB_STITCH_LO_STITCH : Fld := ⟨0x10, 0, 32, .ro, 0⟩
def GLB_STITCH_HI_STITCH : Fld := ⟨0x14, 0, 16, .ro, 0⟩
def GLB_STITCH_CTL_RUN : Fld := ⟨0x20, 0, 1, .w1s, 0⟩
def GLB_STITCH_CTL_SRC : Fld := ⟨0x20, 1, 2, .rwl, 0⟩
def GLB_STITCH_CTL_BK_EN : Fld := ⟨0x20, 3, 3, .rwl, 0⟩
def GLB_STITCH_STATUS_STATE : Fld := ⟨0x24, 0, 3, .ro, 0⟩
def GLB_STITCH_STATUS_DRIFT : Fld := ⟨0x24, 3, 1, .ro, 0⟩
def GLB_STITCH_STATUS_UPLINK : Fld := ⟨0x24, 4, 3, .ro, 0⟩
def GLB_STITCH_STATUS_UPLINK_VALID : Fld := ⟨0x24, 7, 1, .ro, 0⟩
def GLB_STITCH_STATUS_HOPS : Fld := ⟨0x24, 8, 4, .ro, 0⟩
def GLB_STITCH_STATUS_ROOT_CUR : Fld := ⟨0x24, 12, 6, .ro, 0⟩
def GLB_STITCH_ERR_OFFSET : Fld := ⟨0x28, 0, 16, .ro, 0⟩
def GLB_STITCH_ERR_TRIM : Fld := ⟨0x28, 16, 16, .ro, 0⟩
def GLB_STITCH_ROOTS_ROOT : Fld := ⟨0x2c, 0, 6, .rwl, 0⟩
def GLB_STITCH_ROOTS_BK1 : Fld := ⟨0x2c, 8, 6, .rwl, 0⟩
def GLB_STITCH_ROOTS_BK2 : Fld := ⟨0x2c, 16, 6, .rwl, 0⟩
def GLB_STITCH_ROOTS_BK3 : Fld := ⟨0x2c, 24, 6, .rwl, 0⟩
def GLB_STITCH_LOAD_LO_LOAD : Fld := ⟨0x30, 0, 32, .rw, 0⟩
def GLB_STITCH_LOAD_HI_LOAD : Fld := ⟨0x34, 0, 16, .rw, 0⟩
def GLB_STITCH_PINADJ_DELAY : Fld := ⟨0x38, 0, 16, .rw, 0⟩
def GLB_STITCH_HOLD_LIMIT : Fld := ⟨0x3c, 0, 20, .rw, 8192⟩
def GLB_STITCH_LINKADJ_ASYM : Fld := ⟨0x40, 0, 16, .rw, 0⟩
def GLB_EPOCH_CFG_HEAT_EXP : Fld := ⟨0x60, 0, 5, .stg, 10⟩
def GLB_EPOCH_CFG_ACCT_EXP : Fld := ⟨0x60, 8, 5, .stg, 10⟩
def GLB_EPOCH_CFG_TEL_EXP : Fld := ⟨0x60, 16, 5, .stg, 10⟩
def GLB_EPOCH_CFG_FW_EXP : Fld := ⟨0x60, 24, 5, .stg, 10⟩
def LAST_SWAP_TGT_LO_TGT : Fld := ⟨0x1100100, 0, 32, .rw, 0⟩
def LAST_SWAP_TGT_HI_TGT : Fld := ⟨0x1100104, 0, 16, .rw, 0⟩
def LAST_SWAP_CTL_MASK : Fld := ⟨0x1100108, 0, 15, .rw, 0⟩
def LAST_SWAP_CTL_SCOPE : Fld := ⟨0x1100108, 16, 1, .rw, 0⟩
def LAST_SWAP_CTL_MODE : Fld := ⟨0x1100108, 17, 1, .rw, 0⟩
def LAST_SWAP_CTL_ARM : Fld := ⟨0x1100108, 24, 1, .w1s, 0⟩
def LAST_SWAP_CTL_DISARM : Fld := ⟨0x1100108, 25, 1, .w1s, 0⟩
def LAST_SWAP_STATUS_STATE : Fld := ⟨0x110010c, 0, 3, .ro, 0⟩
def LAST_SWAP_STATUS_ERR : Fld := ⟨0x110010c, 8, 4, .ro, 0⟩
def LAST_SWAP_STATUS_LATE : Fld := ⟨0x110010c, 12, 1, .ro, 0⟩
def LAST_SWAP_DONE_LO_DONE : Fld := ⟨0x1100110, 0, 32, .ro, 0⟩
def LAST_SWAP_DONE_HI_DONE : Fld := ⟨0x1100114, 0, 16, .ro, 0⟩
def LAST_VIEW_CTL_VIEW_ACTIVE : Fld := ⟨0x1100118, 0, 1, .rw, 0⟩
def LAST_LOAD_CTL_START : Fld := ⟨0x1100000, 0, 1, .w1s, 0⟩
def LAST_LOAD_CTL_ABORT : Fld := ⟨0x1100000, 1, 1, .w1s, 0⟩
def LAST_LOAD_CTL_SRC : Fld := ⟨0x1100000, 2, 2, .rw, 0⟩
def LAST_LOAD_LEN_LEN : Fld := ⟨0x1100004, 0, 26, .rw, 0⟩
def LAST_LOAD_STATUS_STATE : Fld := ⟨0x1100008, 0, 3, .ro, 0⟩
def LAST_LOAD_STATUS_START_REFUSED : Fld := ⟨0x1100008, 3, 1, .w1c, 0⟩
def LAST_LOAD_STATUS_BOOT : Fld := ⟨0x1100008, 4, 1, .ro, 0⟩
def LAST_LOAD_STATUS_CODE : Fld := ⟨0x1100008, 8, 8, .ro, 0⟩
def LAST_LOAD_STATUS_SECTION : Fld := ⟨0x1100008, 16, 5, .ro, 0⟩
def LAST_LOAD_ITEM_OFS : Fld := ⟨0x110000c, 0, 25, .ro, 0⟩
def LAST_LOAD_FIELD_CSR_OFS : Fld := ⟨0x1100010, 0, 26, .ro, 0⟩
def LAST_LOAD_FIELD_LSB : Fld := ⟨0x1100010, 26, 5, .ro, 0⟩
def LAST_LOAD_FIELD_VALID : Fld := ⟨0x1100010, 31, 1, .ro, 0⟩
def LAST_ACTIVE_ID_LO_ID : Fld := ⟨0x1100020, 0, 32, .ro, 0⟩
def LAST_ACTIVE_ID_HI_ID : Fld := ⟨0x1100024, 0, 32, .ro, 0⟩
def LAST_STAGED_ID_LO_ID : Fld := ⟨0x1100028, 0, 32, .ro, 0⟩
def LAST_STAGED_ID_HI_ID : Fld := ⟨0x110002c, 0, 32, .ro, 0⟩
def LAST_ID_STATUS_MIXED : Fld := ⟨0x1100030, 0, 1, .ro, 0⟩
def LAST_SVN_SVN : Fld := ⟨0x1100034, 0, 32, .ro, 0⟩
def LAST_SVN_MIN_MIN : Fld := ⟨0x1100038, 0, 32, .ro, 0⟩
def LAST_BOOT_IMAGE : Fld := ⟨0x1100040, 0, 1, .ro, 0⟩
def LAST_BOOT_FALLBACK : Fld := ⟨0x1100040, 1, 1, .ro, 0⟩
def LAST_BOOT_CONFIRM : Fld := ⟨0x1100040, 2, 1, .w1s, 0⟩
def LAST_BOOT_TRIES : Fld := ⟨0x1100040, 4, 2, .ro, 0⟩
def LAST_BOOT_PREF_PREFER : Fld := ⟨0x1100044, 0, 1, .rw, 0⟩
def LAST_LOCK_LOCKED : Fld := ⟨0x1100048, 0, 1, .ro, 0⟩
def LB_BANK_ID_BANK : Fld := ⟨0x200000, 0, 5, .ro, 0⟩
def LB_BANK_ID_MORNU : Fld := ⟨0x200000, 8, 1, .ro, 0⟩
def LB_BANK_CFG_BIFUR : Fld := ⟨0x200004, 0, 3, .rwl, 0⟩
def LB_BANK_CFG_CLKMODE : Fld := ⟨0x200004, 4, 1, .rwl, 0⟩
def LB_BANK_CFG_SSC_EN : Fld := ⟨0x200004, 5, 1, .rwl, 0⟩
def LB_BANK_CFG_MFAM : Fld := ⟨0x200004, 8, 2, .rwl, 0⟩
def LB_BANK_CFG_BOOT_EN : Fld := ⟨0x200004, 12, 1, .rwl, 0⟩
def LB_BANK_CFG_EN : Fld := ⟨0x200004, 13, 1, .rwl, 0⟩
def LB_BANK_CTL_WAKE : Fld := ⟨0x200008, 0, 1, .w1s, 0⟩
def LB_BANK_CTL_PARK : Fld := ⟨0x200008, 1, 1, .w1s, 0⟩
def LB_BANK_CTL_FAMILY : Fld := ⟨0x200008, 8, 1, .rw, 0⟩
def LB_BANK_STATUS_STATE : Fld := ⟨0x20000c, 0, 3, .ro, 0⟩
def LB_BANK_STATUS_PLL_LOCK_A : Fld := ⟨0x20000c, 4, 1, .ro, 0⟩
def LB_BANK_STATUS_PLL_LOCK_B : Fld := ⟨0x20000c, 5, 1, .ro, 0⟩
def LB_BANK_STATUS_REFUSE : Fld := ⟨0x20000c, 8, 2, .ro, 0⟩
def LB_BANK_STATUS_PLL_RELOCKS : Fld := ⟨0x20000c, 16, 8, .ro, 0⟩
def LB_LANE_STATUS_STATE : Fld := ⟨0x201000, 0, 4, .ro, 0⟩
def LB_LANE_STATUS_DETECTED : Fld := ⟨0x201000, 4, 1, .ro, 0⟩
def LB_LANE_STATUS_CDR_LOCK : Fld := ⟨0x201000, 5, 1, .ro, 0⟩
def LB_LANE_STATUS_BLOCK_LOCK : Fld := ⟨0x201000, 6, 1, .ro, 0⟩
def LB_LANE_STATUS_RX_INV : Fld := ⟨0x201000, 7, 1, .ro, 0⟩
def LB_LANE_STATUS_LOGICAL : Fld := ⟨0x201000, 8, 4, .ro, 0⟩
def LB_LANE_STATUS_PRECODE : Fld := ⟨0x201000, 12, 1, .ro, 0⟩
def LB_LANE_FAR_FAR_SWITCH : Fld := ⟨0x201004, 0, 6, .ro, 0⟩
def LB_LANE_FAR_FAR_ML : Fld := ⟨0x201004, 8, 3, .ro, 0⟩
def LB_LANE_FAR_FAR_LANE : Fld := ⟨0x201004, 12, 3, .ro, 0⟩
def LB_LANE_FAR_VALID : Fld := ⟨0x201004, 15, 1, .ro, 0⟩
def LB_LANE_TXEQ_PRESET : Fld := ⟨0x201008, 0, 4, .stg, 4⟩
def LB_LANE_TXEQ_PRECODE : Fld := ⟨0x201008, 4, 1, .stg, 0⟩
def LB_LANE_TXEQ_MC_M1 : Fld := ⟨0x201008, 5, 6, .stg, 56⟩
def LB_LANE_TXEQ_MC_P1 : Fld := ⟨0x201008, 11, 6, .stg, 60⟩
def LB_LANE_TXEQ_MC_M2 : Fld := ⟨0x201008, 17, 4, .stg, 0⟩
def LB_LANE_TXEQ_MC_M3 : Fld := ⟨0x201008, 21, 4, .stg, 0⟩
def LB_LANE_TXCOEF_C_M3 : Fld := ⟨0x20100c, 0, 4, .ro, 0⟩
def LB_LANE_TXCOEF_C_M2 : Fld := ⟨0x20100c, 4, 4, .ro, 0⟩
def LB_LANE_TXCOEF_C_M1 : Fld := ⟨0x20100c, 8, 6, .ro, 0⟩
def LB_LANE_TXCOEF_C_0 : Fld := ⟨0x20100c, 14, 7, .ro, 0⟩
def LB_LANE_TXCOEF_C_P1 : Fld := ⟨0x20100c, 21, 6, .ro, 0⟩
def LB_LANE_ADAPT_FREEZE_CTLE : Fld := ⟨0x201010, 0, 1, .rw, 0⟩
def LB_LANE_ADAPT_FREEZE_DFE : Fld := ⟨0x201010, 1, 1, .rw, 0⟩
def LB_LANE_ADAPT_FREEZE_TX : Fld := ⟨0x201010, 2, 1, .rw, 0⟩
def LB_LANE_ADAPT_SNAP : Fld := ⟨0x201010, 4, 1, .w1s, 0⟩
def LB_LANE_ADAPT_SNAP_VALID : Fld := ⟨0x201010, 5, 1, .ro, 0⟩
def LB_LANE_ADAPT_AT_LIMIT : Fld := ⟨0x201010, 6, 1, .ro, 0⟩
def LB_LANE_ADAPT_DEF_FREEZE_DEF : Fld := ⟨0x201014, 0, 3, .stg, 0⟩
def LB_LANE_CTLE_PEAK : Fld := ⟨0x201018, 0, 4, .ro, 0⟩
def LB_LANE_CTLE_GAIN : Fld := ⟨0x201018, 4, 8, .ro, 0⟩
def LB_LANE_DFE_TAP_A : Fld := ⟨0x201020, 0, 8, .ro, 0⟩
def LB_LANE_DFE_TAP_B : Fld := ⟨0x201020, 8, 8, .ro, 0⟩
def LB_LANE_DFE_TAP_C : Fld := ⟨0x201020, 16, 8, .ro, 0⟩
def LB_LANE_CDR_FREQ_OFS : Fld := ⟨0x201030, 0, 16, .ro, 0⟩
def LB_LANE_ERR_BAD_HDR : Fld := ⟨0x201034, 0, 16, .w1c, 0⟩
def LB_LANE_ERR_RELOCKS : Fld := ⟨0x201034, 16, 8, .ro, 0⟩
def LB_LANE_MARGIN_CTL_START : Fld := ⟨0x201040, 0, 1, .w1s, 0⟩
def LB_LANE_MARGIN_CTL_MODE : Fld := ⟨0x201040, 2, 4, .rw, 15⟩
def LB_LANE_MARGIN_CTL_EYE : Fld := ⟨0x201040, 6, 2, .rw, 3⟩
def LB_LANE_MARGIN_CTL_DWELL : Fld := ⟨0x201040, 8, 5, .rw, 20⟩
def LB_LANE_MARGIN_CTL_BER_EXP : Fld := ⟨0x201040, 16, 4, .rw, 6⟩
def LB_LANE_MARGIN_RES_LEFT : Fld := ⟨0x201044, 0, 6, .ro, 0⟩
def LB_LANE_MARGIN_RES_RIGHT : Fld := ⟨0x201044, 8, 6, .ro, 0⟩
def LB_LANE_MARGIN_RES_UP : Fld := ⟨0x201044, 16, 7, .ro, 0⟩
def LB_LANE_MARGIN_RES_DOWN : Fld := ⟨0x201044, 24, 7, .ro, 0⟩
def LB_LANE_MARGIN_STATUS_STATE : Fld := ⟨0x201048, 0, 2, .ro, 0⟩
def LB_LANE_MARGIN_STATUS_ERR : Fld := ⟨0x201048, 4, 3, .ro, 0⟩
def LB_LANE_MARGIN_STATUS_HOST : Fld := ⟨0x201048, 7, 1, .ro, 0⟩
def EP_PORT_ID_PORT : Fld := ⟨0x400000, 0, 6, .ro, 0⟩
def EP_PORT_ID_BANK : Fld := ⟨0x400000, 8, 5, .ro, 0⟩
def EP_PORT_ID_LANES : Fld := ⟨0x400000, 16, 5, .ro, 0⟩
def EP_PORT_ID_PRESENT : Fld := ⟨0x400000, 24, 1, .ro, 0⟩
def EP_PORT_CFG_MODE : Fld := ⟨0x400004, 0, 4, .rwl, 0⟩
def EP_PORT_CFG_MAXRATE : Fld := ⟨0x400004, 4, 3, .rwl, 0⟩
def EP_PORT_CFG_MGMT : Fld := ⟨0x400004, 8, 1, .rwl, 0⟩
def EP_PORT_CFG_XR_ALLOW : Fld := ⟨0x400004, 9, 1, .rwl, 0⟩
def EP_LINK_CTL_TGT_RATE : Fld := ⟨0x400010, 0, 3, .stg, 0⟩
def EP_LINK_CTL_XR_POLICY : Fld := ⟨0x400010, 3, 1, .stg, 0⟩
def EP_LINK_CTL_L1_EN : Fld := ⟨0x400010, 4, 1, .stg, 0⟩
def EP_LINK_CTL_L0P_EN : Fld := ⟨0x400010, 5, 1, .stg, 0⟩
def EP_LINK_CTL_EQ_BYPASS_EN : Fld := ⟨0x400010, 6, 1, .stg, 1⟩
def EP_LINK_CTL_FLIT_PREF : Fld := ⟨0x400010, 8, 2, .stg, 0⟩
def EP_LINK_CMD_RETRAIN : Fld := ⟨0x400014, 0, 1, .w1s, 0⟩
def EP_LINK_CMD_HOT_RESET : Fld := ⟨0x400014, 1, 1, .w1s, 0⟩
def EP_LINK_CMD_DISABLE : Fld := ⟨0x400014, 2, 1, .rw, 0⟩
def EP_LINK_STATUS_LTSSM : Fld := ⟨0x400018, 0, 4, .ro, 0⟩
def EP_LINK_STATUS_RATE : Fld := ⟨0x400018, 4, 3, .ro, 0⟩
def EP_LINK_STATUS_WIDTH : Fld := ⟨0x400018, 8, 5, .ro, 0⟩
def EP_LINK_STATUS_DL_UP : Fld := ⟨0x400018, 13, 1, .ro, 0⟩
def EP_LINK_STATUS_FLIT : Fld := ⟨0x400018, 14, 1, .ro, 0⟩
def EP_LINK_STATUS_CMD_REFUSED : Fld := ⟨0x400018, 15, 1, .w1c, 0⟩
def EP_LINK_STATUS_CAP_RATE : Fld := ⟨0x400018, 16, 3, .ro, 0⟩
def EP_LINK_STATUS_DS_REASON : Fld := ⟨0x400018, 20, 2, .ro, 0⟩
def EP_LINK_STATUS_ATTEMPTS : Fld := ⟨0x400018, 24, 4, .ro, 0⟩
def EP_CXL_STATUS_VER : Fld := ⟨0x40001c, 0, 2, .ro, 0⟩
def EP_CXL_STATUS_IO : Fld := ⟨0x40001c, 2, 1, .ro, 0⟩
def EP_CXL_STATUS_CACHE : Fld := ⟨0x40001c, 3, 1, .ro, 0⟩
def EP_CXL_STATUS_MEM : Fld := ⟨0x40001c, 4, 1, .ro, 0⟩
def EP_CXL_STATUS_FLITFMT : Fld := ⟨0x40001c, 5, 2, .ro, 0⟩
def EP_CXL_STATUS_MLD : Fld := ⟨0x40001c, 7, 1, .ro, 0⟩
def EP_CXL_STATUS_LDS : Fld := ⟨0x40001c, 8, 5, .ro, 0⟩
def EP_CXL_STATUS_BI : Fld := ⟨0x40001c, 13, 1, .ro, 0⟩
def EP_CXL_STATUS_VIRAL : Fld := ⟨0x40001c, 14, 1, .ro, 0⟩
def EP_DS_CFG_MIN_RATE : Fld := ⟨0x400020, 0, 3, .stg, 0⟩
def EP_DS_CFG_FAIL_LIMIT : Fld := ⟨0x400020, 4, 2, .stg, 3⟩
def EP_DS_CFG_RCV_LIMIT : Fld := ⟨0x400020, 8, 8, .stg, 16⟩
def EP_DS_CFG_WIDTH_EN : Fld := ⟨0x400020, 16, 1, .stg, 1⟩
def EP_DS_CFG_TRAIN_LIMIT : Fld := ⟨0x400020, 20, 12, .stg, 1024⟩
def EP_CPL_TO_LIMIT : Fld := ⟨0x400030, 0, 24, .stg, 48829⟩
def EP_NP_STATUS_OUTSTANDING : Fld := ⟨0x400034, 0, 12, .ro, 0⟩
def EP_NP_STATUS_FULL : Fld := ⟨0x400034, 12, 1, .ro, 0⟩
def EP_NP_STATUS_TO_COUNT : Fld := ⟨0x400034, 16, 8, .ro, 0⟩
def EP_NP_STATUS_LATE_COUNT : Fld := ⟨0x400034, 24, 8, .ro, 0⟩
def EP_HP_CFG_POLICY : Fld := ⟨0x400040, 0, 2, .stg, 0⟩
def EP_HP_CFG_DRS_EN : Fld := ⟨0x400040, 2, 1, .stg, 1⟩
def EP_HP_STATUS_HP_STATE : Fld := ⟨0x400044, 0, 3, .ro, 0⟩
def EP_HP_STATUS_PRESENT : Fld := ⟨0x400044, 3, 1, .ro, 0⟩
def EP_HP_STATUS_INSERTS : Fld := ⟨0x400044, 8, 8, .ro, 0⟩
def EP_HP_STATUS_REMOVALS : Fld := ⟨0x400044, 16, 8, .ro, 0⟩
def EP_HP_LOSS_LIMIT : Fld := ⟨0x400048, 0, 20, .stg, 24415⟩
def EP_HP_WAIT_WAIT : Fld := ⟨0x40004c, 0, 20, .stg, 97657⟩
def EP_IDE_CFG_LINK_POLICY : Fld := ⟨0x400060, 0, 2, .stg, 0⟩
def EP_IDE_CFG_CXL_CONTAIN : Fld := ⟨0x400060, 2, 1, .stg, 0⟩
def EP_IDE_CFG_SEL_MAX : Fld := ⟨0x400060, 3, 4, .stg, 0⟩
def EP_IDE_CFG_EST_LIMIT : Fld := ⟨0x400060, 12, 20, .stg, 0⟩
def EP_IDE_STATUS_LINK_STATE : Fld := ⟨0x400064, 0, 2, .ro, 0⟩
def EP_IDE_STATUS_KEYSET : Fld := ⟨0x400064, 2, 1, .ro, 0⟩
def EP_IDE_STATUS_SEL_ACTIVE : Fld := ⟨0x400064, 4, 8, .ro, 0⟩
def EP_IDE_STATUS_BLOCKED : Fld := ⟨0x400064, 12, 1, .ro, 0⟩
def EP_IDE_ERR_MAC_FAIL : Fld := ⟨0x400068, 0, 16, .ro, 0⟩
def EP_IDE_ERR_REKEYS : Fld := ⟨0x400068, 16, 16, .ro, 0⟩
def EP_XR_STATUS_LOCAL_EN : Fld := ⟨0x400070, 0, 1, .ro, 0⟩
def EP_XR_STATUS_PARTNER_CAP : Fld := ⟨0x400070, 1, 1, .ro, 0⟩
def EP_XR_STATUS_PARTNER_EN : Fld := ⟨0x400070, 2, 1, .ro, 0⟩
def EP_XR_STATUS_ACTIVE : Fld := ⟨0x400070, 3, 1, .ro, 0⟩
def EP_XR_STATUS_FAILED : Fld := ⟨0x400070, 4, 1, .w1c, 0⟩
def EP_XR_STATUS_FAILS : Fld := ⟨0x400070, 8, 8, .ro, 0⟩
def EP_DROP_CNT_POSTED_DROP : Fld := ⟨0x400074, 0, 16, .ro, 0⟩
def EP_DROP_CNT_CPL_DISCARD : Fld := ⟨0x400074, 16, 16, .ro, 0⟩
def ML_LINK_ID_LINK : Fld := ⟨0x500000, 0, 3, .ro, 0⟩
def ML_LINK_ID_BANK : Fld := ⟨0x500000, 8, 5, .ro, 0⟩
def ML_LINK_ID_UPPER : Fld := ⟨0x500000, 16, 1, .ro, 0⟩
def ML_LINK_CFG_MIN_WIDTH : Fld := ⟨0x500004, 0, 2, .rwl, 0⟩
def ML_LINK_CFG_SPILL_EN : Fld := ⟨0x500004, 4, 1, .rwl, 1⟩
def ML_LINK_CFG_RATES : Fld := ⟨0x500004, 8, 3, .rwl, 7⟩
def ML_LINK_CTL_GRACE : Fld := ⟨0x500008, 0, 20, .stg, 1954⟩
def ML_LINK_CTL_AUTO_LACE : Fld := ⟨0x500008, 20, 1, .stg, 1⟩
def ML_REPLAY_CFG_TO : Fld := ⟨0x50000c, 0, 24, .stg, 10240⟩
def ML_LINK_CMD_RETRAIN : Fld := ⟨0x500010, 0, 1, .w1s, 0⟩
def ML_LINK_CMD_DISABLE : Fld := ⟨0x500010, 1, 1, .rw, 0⟩
def ML_LINK_STATUS_STATE : Fld := ⟨0x500014, 0, 3, .ro, 0⟩
def ML_LINK_STATUS_LSET : Fld := ⟨0x500014, 4, 4, .ro, 0⟩
def ML_LINK_STATUS_RATE : Fld := ⟨0x500014, 8, 2, .ro, 0⟩
def ML_LINK_STATUS_LEADER : Fld := ⟨0x500014, 10, 1, .ro, 0⟩
def ML_LINK_STATUS_SESSION : Fld := ⟨0x500014, 16, 16, .ro, 0⟩
def ML_PEER_FAR_SWITCH : Fld := ⟨0x500018, 0, 6, .ro, 0⟩
def ML_PEER_FAR_ML : Fld := ⟨0x500018, 8, 3, .ro, 0⟩
def ML_PEER_VALID : Fld := ⟨0x500018, 15, 1, .ro, 0⟩
def ML_LACE_CTL_CMD : Fld := ⟨0x500020, 0, 2, .rw, 0⟩
def ML_LACE_CTL_GO : Fld := ⟨0x500020, 4, 1, .w1s, 0⟩
def ML_LACE_CTL_TGT_LSET : Fld := ⟨0x500020, 8, 4, .rw, 0⟩
def ML_LACE_STATUS_STATE : Fld := ⟨0x500024, 0, 2, .ro, 0⟩
def ML_LACE_STATUS_ERR : Fld := ⟨0x500024, 4, 3, .ro, 0⟩
def ML_LACE_STATUS_TAG : Fld := ⟨0x500024, 8, 4, .ro, 0⟩
def ML_LACE_STATUS_RXOK : Fld := ⟨0x500024, 16, 8, .ro, 0⟩
def ML_CRED_CFG_SIZE : Fld := ⟨0x500040, 0, 16, .stg, 0⟩
def ML_CRED_STATUS_AVAIL : Fld := ⟨0x500080, 0, 20, .ro, 0⟩
def ML_REPLAY_STATUS_UNACKED : Fld := ⟨0x5000c0, 0, 17, .ro, 0⟩
def ML_SPILL_STATUS_SPILLED : Fld := ⟨0x5000c4, 0, 17, .ro, 0⟩
def ML_ERR_CNT0_CRC_FAIL : Fld := ⟨0x5000c8, 0, 16, .ro, 0⟩
def ML_ERR_CNT0_NAKS : Fld := ⟨0x5000c8, 16, 16, .ro, 0⟩
def ML_ERR_CNT1_REPLAYS : Fld := ⟨0x5000cc, 0, 16, .ro, 0⟩
def ML_ERR_CNT1_TIMER_REPLAYS : Fld := ⟨0x5000cc, 16, 16, .ro, 0⟩
def ML_ERR_CNT2_DUPS : Fld := ⟨0x5000d0, 0, 16, .ro, 0⟩
def ML_ERR_CNT2_FEC_UNCORR : Fld := ⟨0x5000d0, 16, 16, .ro, 0⟩
def ML_FEC_CNT_CORR : Fld := ⟨0x5000d4, 0, 32, .ro, 0⟩
def ML_FLUSH_CNT_FLUSHES : Fld := ⟨0x5000e0, 0, 8, .ro, 0⟩
def ML_FLUSH_CNT_RESUMES : Fld := ⟨0x5000e0, 8, 8, .ro, 0⟩
def ML_FLUSH_CNT_POSTED_DROP : Fld := ⟨0x5000e0, 16, 16, .ro, 0⟩
def ML_XT_STATUS_OUTSTANDING : Fld := ⟨0x5000e8, 0, 17, .ro, 0⟩
def ML_RSP_CNT_RSP_DISCARD : Fld := ⟨0x5000ec, 0, 16, .ro, 0⟩
def SOLE_ROUTE_PRIMARY : Fld := ⟨0x608000, 0, 3, .stg, 0⟩
def SOLE_ROUTE_PVALID : Fld := ⟨0x608000, 3, 1, .stg, 0⟩
def SOLE_ROUTE_ALT : Fld := ⟨0x608000, 4, 3, .stg, 0⟩
def SOLE_ROUTE_AVALID : Fld := ⟨0x608000, 7, 1, .stg, 0⟩
def SOLE_MATCH_CTL_ROUNDS : Fld := ⟨0x600000, 0, 2, .ro, 3⟩
def SOLE_MATCH_CTL_SEN_EN : Fld := ⟨0x600000, 8, 1, .stg, 1⟩
def SOLE_RES_RSP_CELLS : Fld := ⟨0x600010, 0, 18, .stg, 8192⟩
def SOLE_RES_SNP_CELLS : Fld := ⟨0x600014, 0, 18, .stg, 4096⟩
def SOLE_RES_MGMT_CELLS : Fld := ⟨0x600018, 0, 18, .stg, 1024⟩
def SOLE_MARK_CFG_AVG_W : Fld := ⟨0x60001c, 0, 4, .stg, 4⟩
def SOLE_BUF_STATUS_SHARED_FREE : Fld := ⟨0x600020, 0, 18, .ro, 0⟩
def SOLE_BUF_LAND_LANDED : Fld := ⟨0x600024, 0, 18, .ro, 0⟩
def SOLE_BUF_SHARED_SHARED_SIZE : Fld := ⟨0x600028, 0, 18, .ro, 0⟩
def SOLE_CLASS_RES_MIN : Fld := ⟨0x600100, 0, 18, .stg, 512⟩
def SOLE_CLASS_RES_ALPHA : Fld := ⟨0x600100, 18, 3, .stg, 4⟩
def SOLE_CLASS_RES_BE : Fld := ⟨0x600100, 24, 1, .stg, 0⟩
def SOLE_CLASS_PROF_G_PROF : Fld := ⟨0x600140, 0, 4, .stg, 0⟩
def SOLE_CLASS_PROF_Y_PROF : Fld := ⟨0x600140, 4, 4, .stg, 0⟩
def SOLE_CLASS_PROF_R_PROF : Fld := ⟨0x600140, 8, 4, .stg, 0⟩
def SOLE_CLASS_PROF_HARD : Fld := ⟨0x600140, 16, 14, .stg, 4096⟩
def SOLE_CLASS_OCC_SHARED : Fld := ⟨0x600180, 0, 18, .ro, 0⟩
def SOLE_CPROF_TH_MIN_TH : Fld := ⟨0x600200, 0, 16, .stg, 65535⟩
def SOLE_CPROF_TH_MAX_TH : Fld := ⟨0x600200, 16, 16, .stg, 65535⟩
def SOLE_CPROF_P_MAXP : Fld := ⟨0x600240, 0, 8, .stg, 0⟩
def SOLE_SEN_XB_THR : Fld := ⟨0x600300, 0, 16, .stg, 8⟩
def SOLE_SEN_XB_EN : Fld := ⟨0x600300, 16, 1, .stg, 1⟩
def SOLE_SEN_MUX_THR : Fld := ⟨0x600380, 0, 16, .stg, 8⟩
def SOLE_SEN_MUX_EN : Fld := ⟨0x600380, 16, 1, .stg, 1⟩
def SOLE_SEN_VC_THR : Fld := ⟨0x6003e0, 0, 16, .stg, 8⟩
def SOLE_SEN_VC_EN : Fld := ⟨0x6003e0, 16, 1, .stg, 1⟩
def SOLE_DEFER_CNT_DEFERRED : Fld := ⟨0x600400, 0, 32, .ro, 0⟩
def SOLE_MARK_CNT_HITS : Fld := ⟨0x600404, 0, 32, .ro, 0⟩
def SOLE_BE_DROP_CNT_DROPS : Fld := ⟨0x600408, 0, 32, .ro, 0⟩
def SOLE_ECC_CNT_CORR : Fld := ⟨0x60040c, 0, 16, .ro, 0⟩
def SOLE_ECC_CNT_REREAD_OK : Fld := ⟨0x60040c, 16, 16, .ro, 0⟩
def SCHED_ACT_CFG_ACT_MIN : Fld := ⟨0x700000, 0, 16, .rwl, 64⟩
def SCHED_ACT_STATUS_ACTIVE : Fld := ⟨0x700004, 0, 17, .ro, 0⟩
def SCHED_ACT_STATUS_WAITING : Fld := ⟨0x700004, 17, 15, .ro, 0⟩
def SCHED_ERR_CNT_REREAD_OK : Fld := ⟨0x700008, 0, 16, .ro, 0⟩
def SCHED_ERR_CNT_STATE_RESET : Fld := ⟨0x700008, 16, 16, .ro, 0⟩
def SCHED_QSEL_QIDX : Fld := ⟨0x700100, 0, 20, .rw, 0⟩
def SCHED_QCFG_CONF : Fld := ⟨0x700104, 0, 1, .ro, 0⟩
def SCHED_QCFG_PRIO : Fld := ⟨0x700104, 1, 3, .stg, 4⟩
def SCHED_QCFG_WEIGHT : Fld := ⟨0x700104, 16, 16, .stg, 1⟩
def SCHED_QALIAS_TARGET : Fld := ⟨0x700108, 0, 20, .rwl, 0⟩
def SCHED_QALIAS_CONF : Fld := ⟨0x700108, 30, 1, .rwl, 0⟩
def SCHED_QALIAS_ALIASED : Fld := ⟨0x700108, 31, 1, .rwl, 0⟩
def SCHED_QSTAT_CELLS : Fld := ⟨0x70010c, 0, 18, .ro, 0⟩
def SCHED_QSTAT_ACTIVE : Fld := ⟨0x70010c, 18, 1, .ro, 0⟩
def SCHED_QSTAT_CAND : Fld := ⟨0x70010c, 19, 1, .ro, 0⟩
def SCHED_QDEF_DEFICIT : Fld := ⟨0x700110, 0, 24, .ro, 0⟩
def SCHED_QFIN_LO_FIN : Fld := ⟨0x700114, 0, 32, .ro, 0⟩
def SCHED_QFIN_HI_FIN : Fld := ⟨0x700118, 0, 16, .ro, 0⟩
def SCHED_PSEL_PAIR : Fld := ⟨0x700200, 0, 16, .rw, 0⟩
def SCHED_PCFG_SHP_ID : Fld := ⟨0x700204, 0, 14, .stg, 0⟩
def SCHED_PCFG_SHP_EN : Fld := ⟨0x700204, 15, 1, .stg, 0⟩
def SCHED_PCFG_MTR_ID : Fld := ⟨0x700204, 16, 14, .stg, 0⟩
def SCHED_PCFG_MTR_EN : Fld := ⟨0x700204, 31, 1, .stg, 0⟩
def SCHED_SSEL_SHP : Fld := ⟨0x700300, 0, 14, .rw, 0⟩
def SCHED_SRATE_RATE : Fld := ⟨0x700304, 0, 20, .stg, 1⟩
def SCHED_SRATE_EN : Fld := ⟨0x700304, 31, 1, .stg, 0⟩
def SCHED_SBURST_BURST : Fld := ⟨0x700308, 0, 24, .stg, 1⟩
def SCHED_STOK_TOKENS : Fld := ⟨0x70030c, 0, 25, .ro, 0⟩
def SCHED_MSEL_MTR : Fld := ⟨0x700400, 0, 14, .rw, 0⟩
def SCHED_MCIR_RATE : Fld := ⟨0x700404, 0, 20, .stg, 1⟩
def SCHED_MPIR_RATE : Fld := ⟨0x700408, 0, 20, .stg, 1⟩
def SCHED_MCBS_SIZE : Fld := ⟨0x70040c, 0, 24, .stg, 1⟩
def SCHED_MPBS_SIZE : Fld := ⟨0x700410, 0, 24, .stg, 1⟩
def SCHED_MCFG_AWARE : Fld := ⟨0x700414, 0, 1, .stg, 0⟩
def SCHED_MTOK_C_TOKENS : Fld := ⟨0x700418, 0, 25, .ro, 0⟩
def SCHED_MTOK_P_TOKENS : Fld := ⟨0x70041c, 0, 25, .ro, 0⟩
def SCHED_CMAP_MREQ : Fld := ⟨0x701000, 0, 4, .stg, 0⟩
def SCHED_CMAP_HREQ : Fld := ⟨0x701000, 4, 4, .stg, 0⟩
def SCHED_CMAP_SNP : Fld := ⟨0x701000, 8, 4, .stg, 0⟩
def SCHED_CMAP_SRSP : Fld := ⟨0x701000, 12, 4, .stg, 0⟩
def SCHED_CMAP_DRSP : Fld := ⟨0x701000, 16, 4, .stg, 0⟩
def SCHED_CMAP_IOP : Fld := ⟨0x701000, 20, 4, .stg, 0⟩
def SCHED_CMAP_IONP : Fld := ⟨0x701000, 24, 4, .stg, 0⟩
def SCHED_CMAP_IOC : Fld := ⟨0x701000, 28, 4, .stg, 0⟩
def SCHED_EGR_CFG_MODE : Fld := ⟨0x702000, 0, 1, .rwl, 0⟩
def SCHED_EGR_CFG_NQ : Fld := ⟨0x702000, 1, 14, .ro, 0⟩
def SCHED_EGR_DEFQ_DEF_Q : Fld := ⟨0x702004, 0, 20, .rwl, 0⟩
def SCHED_EGR_OVH_OVH_FIX : Fld := ⟨0x702008, 0, 8, .stg, 0⟩
def SCHED_EGR_OVH_OVH_SCALE : Fld := ⟨0x702008, 8, 8, .stg, 0⟩
def SCHED_EGR_SRATE_RATE : Fld := ⟨0x70200c, 0, 20, .stg, 1⟩
def SCHED_EGR_SRATE_EN : Fld := ⟨0x70200c, 31, 1, .stg, 0⟩
def SCHED_EGR_SBURST_BURST : Fld := ⟨0x702010, 0, 24, .stg, 1⟩
def SCHED_EGR_STOK_TOKENS : Fld := ⟨0x702014, 0, 25, .ro, 0⟩
def SCHED_EGR_VT_LO_V : Fld := ⟨0x702018, 0, 32, .ro, 0⟩
def SCHED_EGR_VT_HI_V : Fld := ⟨0x70201c, 0, 16, .ro, 0⟩
def HA_ID_SLICE : Fld := ⟨0x900000, 0, 2, .ro, 0⟩
def HA_ID_AGENT : Fld := ⟨0x900000, 8, 7, .ro, 0⟩
def HA_CFG_EXCL_ON_INV : Fld := ⟨0x900004, 0, 1, .stg, 0⟩
def HA_HOLD_WINDOW : Fld := ⟨0x900008, 0, 13, .stg, 512⟩
def HA_TACK_TO_LIMIT : Fld := ⟨0x90000c, 0, 20, .stg, 977⟩
def HA_SEN_THR : Fld := ⟨0x900010, 0, 16, .stg, 8⟩
def HA_SEN_EN : Fld := ⟨0x900010, 16, 1, .stg, 1⟩
def HA_LOAD_CFG_OPT : Fld := ⟨0x900014, 0, 8, .stg, 128⟩
def HA_LOAD_CFG_MOD : Fld := ⟨0x900014, 8, 8, .stg, 192⟩
def HA_LOAD_CFG_SEV : Fld := ⟨0x900014, 16, 8, .stg, 240⟩
def HA_CTL_RESUME_CLEAN : Fld := ⟨0x900018, 0, 1, .w1s, 0⟩
def HA_STATUS_DEGRADED_ALL : Fld := ⟨0x90001c, 0, 1, .ro, 0⟩
def HA_STATUS_CMD_REFUSED : Fld := ⟨0x90001c, 1, 1, .w1c, 0⟩
def HA_TACK_STATUS_REQ_USED : Fld := ⟨0x900020, 0, 14, .ro, 0⟩
def HA_TACK_STATUS_EVT_USED : Fld := ⟨0x900020, 14, 10, .ro, 0⟩
def HA_WAIT_STATUS_WAITING : Fld := ⟨0x900024, 0, 14, .ro, 0⟩
def HA_WAIT_STATUS_FULL : Fld := ⟨0x900024, 16, 1, .ro, 0⟩
def HA_DIRC_STATUS_PINNED : Fld := ⟨0x900028, 0, 16, .ro, 0⟩
def HA_DEGR_STATUS_COUNT : Fld := ⟨0x90002c, 0, 7, .ro, 0⟩
def HA_ERR_CNT_CORR : Fld := ⟨0x900030, 0, 16, .ro, 0⟩
def HA_ERR_CNT_REREAD_OK : Fld := ⟨0x900030, 16, 16, .ro, 0⟩
def HA_LATE_CNT_LATE : Fld := ⟨0x900034, 0, 16, .ro, 0⟩
def HA_LATE_CNT_DOMAIN_DENY : Fld := ⟨0x900034, 16, 16, .ro, 0⟩
def HA_EVICT_CNT_LO_EVICTS : Fld := ⟨0x900038, 0, 32, .ro, 0⟩
def HA_EVICT_CNT_HI_EVICTS : Fld := ⟨0x90003c, 0, 32, .ro, 0⟩
def HA_RSEL_RGN : Fld := ⟨0x900100, 0, 10, .rw, 0⟩
def HA_RGN_CFG_VALID : Fld := ⟨0x900104, 0, 1, .rwl, 0⟩
def HA_RGN_CFG_HOME : Fld := ⟨0x900104, 1, 1, .rwl, 0⟩
def HA_RGN_CFG_FMT : Fld := ⟨0x900104, 2, 2, .rwl, 0⟩
def HA_RGN_CFG_DOM : Fld := ⟨0x900104, 4, 8, .rwl, 0⟩
def HA_RGN_CFG_EXP_PORT : Fld := ⟨0x900104, 12, 6, .rwl, 0⟩
def HA_RGN_CFG_EXP_LD : Fld := ⟨0x900104, 18, 4, .rwl, 0⟩
def HA_RGN_BASE_LO_BASE : Fld := ⟨0x900108, 0, 32, .rwl, 0⟩
def HA_RGN_BASE_HI_BASE : Fld := ⟨0x90010c, 0, 6, .rwl, 0⟩
def HA_RGN_SIZE_SIZE : Fld := ⟨0x900110, 0, 27, .rwl, 0⟩
def HA_DSEL_DOM : Fld := ⟨0x900200, 0, 8, .rw, 0⟩
def HA_DSEL_MBR : Fld := ⟨0x900200, 8, 6, .rw, 0⟩
def HA_DMEM_FPID : Fld := ⟨0x900204, 0, 12, .rwl, 0⟩
def HA_DMEM_VALID : Fld := ⟨0x900204, 12, 1, .rwl, 0⟩
def HA_DGSEL_IDX : Fld := ⟨0x900300, 0, 6, .rw, 0⟩
def HA_DGSET_SET : Fld := ⟨0x900304, 0, 21, .ro, 0⟩
def HA_DGSET_VALID : Fld := ⟨0x900304, 31, 1, .ro, 0⟩
def HA_CQ_LINE_WAITING : Fld := ⟨0x900040, 0, 14, .ro, 0⟩
def HA_CQ_LINE_LINES : Fld := ⟨0x900040, 16, 14, .ro, 0⟩
def HA_CQ_SET_SET_WAIT : Fld := ⟨0x900044, 0, 14, .ro, 0⟩
def HA_CQ_SET_RES_WAIT : Fld := ⟨0x900044, 16, 14, .ro, 0⟩
def HA_HOLD_STATUS_ACTIVE : Fld := ⟨0x900048, 0, 15, .ro, 0⟩
def HA_HOLD_STATUS_CUT : Fld := ⟨0x900048, 16, 16, .ro, 0⟩
def HA_XCNT_ABSORBED : Fld := ⟨0x90004c, 0, 16, .ro, 0⟩
def HA_XCNT_BICONFLICT : Fld := ⟨0x90004c, 16, 16, .ro, 0⟩
def HA_XCNT2_NONOWNER_WB : Fld := ⟨0x900050, 0, 16, .ro, 0⟩
def HA_XCNT2_DCT_MATCH : Fld := ⟨0x900050, 16, 16, .ro, 0⟩
def HA_TO_STATUS_TIMEOUTS : Fld := ⟨0x900054, 0, 16, .ro, 0⟩
def HA_TO_STATUS_LAST_FPID : Fld := ⟨0x900054, 16, 12, .ro, 0⟩
def HA_TO_STATUS_LAST_VALID : Fld := ⟨0x900054, 31, 1, .ro, 0⟩
def HA_DEPART_STATUS_WALKING : Fld := ⟨0x900058, 0, 1, .ro, 0⟩
def HA_DEPART_STATUS_PENDING : Fld := ⟨0x900058, 1, 1, .ro, 0⟩
def HA_DEPART_STATUS_DEPARTED : Fld := ⟨0x900058, 4, 13, .ro, 0⟩
def HA_DEPART_CNT_DROPPED : Fld := ⟨0x90005c, 0, 16, .ro, 0⟩
def HA_DEPART_CNT_POISONED : Fld := ⟨0x90005c, 16, 16, .ro, 0⟩
def HA_DEPART_CLR_FPID : Fld := ⟨0x900060, 0, 12, .rw, 0⟩
def HA_DEPART_CLR_GO : Fld := ⟨0x900060, 31, 1, .w1s, 0⟩
def HA_DCT_STATUS_USED : Fld := ⟨0x900064, 0, 11, .ro, 0⟩
def HA_DCT_STATUS_OVERFLOWS : Fld := ⟨0x900064, 16, 16, .ro, 0⟩
def HA_MIG_STATUS_MIG_TACKS : Fld := ⟨0x900068, 0, 7, .ro, 0⟩
def HA_MIG_STATUS_LINES : Fld := ⟨0x900068, 16, 16, .ro, 0⟩
def HA_LWT_STATUS_RECORDS : Fld := ⟨0x900400, 0, 14, .ro, 0⟩
def HA_LWT_STATUS_RESENT : Fld := ⟨0x900400, 16, 16, .ro, 0⟩
def INS_ID_CHANNELS : Fld := ⟨0xa00000, 0, 4, .ro, 4⟩
def INS_ID_GIB_PER_CH : Fld := ⟨0xa00000, 8, 8, .ro, 32⟩
def INS_CARVE_POOL_UNITS : Fld := ⟨0xa00004, 0, 9, .rwl, 0⟩
def INS_CARVE_CACHE_UNITS : Fld := ⟨0xa00004, 9, 9, .rwl, 0⟩
def INS_CARVE_MIRROR : Fld := ⟨0xa00004, 18, 2, .rwl, 0⟩
def INS_ARB_W_POOL : Fld := ⟨0xa00008, 0, 4, .stg, 4⟩
def INS_ARB_W_HOME : Fld := ⟨0xa00008, 4, 4, .stg, 4⟩
def INS_ARB_W_SVC : Fld := ⟨0xa00008, 8, 4, .stg, 8⟩
def INS_SCRUB_CFG_RATE : Fld := ⟨0xa0000c, 0, 7, .stg, 1⟩
def INS_CH_STATUS_TRAINED : Fld := ⟨0xa00010, 0, 1, .ro, 0⟩
def INS_CH_STATUS_FENCED : Fld := ⟨0xa00010, 1, 1, .ro, 0⟩
def INS_CH_STATUS_PASSES : Fld := ⟨0xa00010, 8, 24, .ro, 0⟩
def INS_ECC_CNT_CORR : Fld := ⟨0xa00020, 0, 16, .ro, 0⟩
def INS_ECC_CNT_REREAD_OK : Fld := ⟨0xa00020, 16, 16, .ro, 0⟩
def INS_UE_LOG_LO_DPA : Fld := ⟨0xa00030, 0, 32, .ro, 0⟩
def INS_UE_LOG_HI_DPA : Fld := ⟨0xa00034, 0, 5, .ro, 0⟩
def INS_UE_LOG_HI_VALID : Fld := ⟨0xa00034, 31, 1, .ro, 0⟩
def INS_MIRROR_CNT_REPAIRS : Fld := ⟨0xa00038, 0, 16, .ro, 0⟩
def INS_MIRROR_CNT_FENCED_READS : Fld := ⟨0xa00038, 16, 16, .ro, 0⟩
def INS_LOAD_CFG_OPT : Fld := ⟨0xa00040, 0, 8, .stg, 128⟩
def INS_LOAD_CFG_MOD : Fld := ⟨0xa00040, 8, 8, .stg, 192⟩
def INS_LOAD_CFG_SEV : Fld := ⟨0xa00040, 16, 8, .stg, 240⟩
def INS_OSEL_OBJ : Fld := ⟨0xa00100, 0, 9, .rw, 0⟩
def INS_OBJ_CFG_VALID : Fld := ⟨0xa00104, 0, 1, .stg, 0⟩
def INS_OBJ_CFG_KIND : Fld := ⟨0xa00104, 1, 1, .stg, 0⟩
def INS_OBJ_CFG_FIRST : Fld := ⟨0xa00104, 2, 11, .stg, 0⟩
def INS_OBJ_CFG_COUNT : Fld := ⟨0xa00104, 13, 12, .stg, 0⟩
def INS_ESEL_ENT : Fld := ⟨0xa00200, 0, 11, .rw, 0⟩
def INS_EXT_PEXT : Fld := ⟨0xa00204, 0, 11, .stg, 0⟩
def INS_PSEL_PEXT : Fld := ⟨0xa00210, 0, 11, .rw, 0⟩
def INS_PEXT_STATE : Fld := ⟨0xa00214, 0, 2, .ro, 0⟩
def INS_PEXT_OBJ : Fld := ⟨0xa00214, 12, 9, .ro, 0⟩
def INS_TRSEL_RNG : Fld := ⟨0xa00300, 0, 6, .rw, 0⟩
def INS_TR_CFG_VALID : Fld := ⟨0xa00304, 0, 1, .stg, 0⟩
def INS_TR_CFG_PROMOTE : Fld := ⟨0xa00304, 1, 1, .stg, 0⟩
def INS_TR_CFG_PROMOTE_ON_WAKE : Fld := ⟨0xa00304, 2, 1, .stg, 0⟩
def INS_TR_CFG_PORT : Fld := ⟨0xa00304, 4, 6, .stg, 0⟩
def INS_TR_CFG_LD : Fld := ⟨0xa00304, 10, 4, .stg, 0⟩
def INS_TR_CFG_SHELF : Fld := ⟨0xa00304, 16, 6, .stg, 0⟩
def INS_TR_BASE_BASE_GIB : Fld := ⟨0xa00308, 0, 22, .stg, 0⟩
def INS_TR_SIZE_SIZE_GIB : Fld := ⟨0xa0030c, 0, 12, .stg, 0⟩
def INS_TR_SIZE_RT_BASE : Fld := ⟨0xa0030c, 12, 11, .stg, 0⟩
def INS_TIER_CFG_SAMPLE : Fld := ⟨0xa00400, 0, 3, .stg, 4⟩
def INS_TIER_CFG_DECAY : Fld := ⟨0xa00400, 4, 3, .stg, 2⟩
def INS_TIER_CFG_MIG_OPEN : Fld := ⟨0xa00400, 8, 5, .stg, 8⟩
def INS_TIER_CFG_MIG_BUDGET : Fld := ⟨0xa00400, 13, 16, .stg, 256⟩
def INS_TIER_TH_PROMO_TH : Fld := ⟨0xa00404, 0, 8, .stg, 96⟩
def INS_TIER_TH_DEMO_TH : Fld := ⟨0xa00404, 8, 8, .stg, 16⟩
def INS_TIER_STATUS_SCANNING : Fld := ⟨0xa00408, 0, 1, .ro, 0⟩
def INS_TIER_STATUS_OPEN : Fld := ⟨0xa00408, 1, 5, .ro, 0⟩
def INS_TIER_STATUS_SKIPS : Fld := ⟨0xa00408, 8, 8, .ro, 0⟩
def INS_TIER_STATUS_FREE_FRAMES_K : Fld := ⟨0xa00408, 16, 16, .ro, 0⟩
def INS_TIER_CNT_PROMOTIONS : Fld := ⟨0xa0040c, 0, 16, .ro, 0⟩
def INS_TIER_CNT_DEMOTIONS : Fld := ⟨0xa0040c, 16, 16, .ro, 0⟩
def INS_TIER_CNT2_ABANDONED : Fld := ⟨0xa00410, 0, 16, .ro, 0⟩
def INS_TIER_CNT2_NOFRAME : Fld := ⟨0xa00410, 16, 16, .ro, 0⟩
def INS_GCMD_GRAN_GRANULE : Fld := ⟨0xa0041c, 0, 25, .rw, 0⟩
def INS_GCMD_RNG : Fld := ⟨0xa00420, 0, 6, .rw, 0⟩
def INS_GCMD_OP : Fld := ⟨0xa00420, 8, 3, .rw, 0⟩
def INS_GCMD_GO : Fld := ⟨0xa00420, 31, 1, .w1s, 0⟩
def INS_GCMD_STATUS_STATE : Fld := ⟨0xa00424, 0, 2, .ro, 0⟩
def INS_GCMD_STATUS_ERR : Fld := ⟨0xa00424, 4, 3, .ro, 0⟩
def INS_GCMD_STATUS_GSTATE : Fld := ⟨0xa00424, 8, 3, .ro, 0⟩
def INS_SHSEL_SHELF : Fld := ⟨0xa00500, 0, 6, .rw, 0⟩
def INS_SHELF_CMD_CLEAN : Fld := ⟨0xa00504, 0, 1, .w1s, 0⟩
def INS_SHELF_CMD_RELEASE : Fld := ⟨0xa00504, 1, 1, .w1s, 0⟩
def INS_SHELF_STATUS_STATE : Fld := ⟨0xa00508, 0, 3, .ro, 0⟩
def INS_SHELF_STATUS_UNCLEANED : Fld := ⟨0xa00508, 3, 1, .ro, 0⟩
def INS_SHELF_STATUS_REFUSED : Fld := ⟨0xa00508, 4, 1, .w1c, 0⟩
def INS_SHELF_STATUS_HELD : Fld := ⟨0xa00508, 8, 12, .ro, 0⟩
def INS_SHELF_STATUS_DIRTY : Fld := ⟨0xa00508, 20, 12, .ro, 0⟩
def INS_TAG_ADDR_LO_DPA : Fld := ⟨0xa00600, 12, 20, .rw, 0⟩
def INS_TAG_ADDR_HI_DPA : Fld := ⟨0xa00604, 0, 5, .rw, 0⟩
def INS_TAG_WR_TAG : Fld := ⟨0xa00608, 0, 4, .rw, 0⟩
def INS_TAG_WR_GO : Fld := ⟨0xa00608, 4, 1, .w1s, 0⟩
def INS_TAG_WR_REFUSED : Fld := ⟨0xa00608, 5, 1, .w1c, 0⟩
def BND_ID_VSW : Fld := ⟨0xb00000, 0, 7, .ro, 0⟩
def BND_ID_VPPB : Fld := ⟨0xb00000, 16, 11, .ro, 0⟩
def BND_FM_OWNER_EID : Fld := ⟨0xb00004, 0, 8, .ro, 0⟩
def BND_FM_OWNER_SW : Fld := ⟨0xb00004, 8, 6, .ro, 0⟩
def BND_FM_OWNED : Fld := ⟨0xb00004, 14, 1, .ro, 0⟩
def BND_FM_LEASE : Fld := ⟨0xb00004, 16, 16, .stg, 60⟩
def BND_CFG_DISC_LIMIT : Fld := ⟨0xb00008, 0, 20, .stg, 9766⟩
def BND_VSW_UPORT : Fld := ⟨0xb00100, 0, 6, .rwl, 0⟩
def BND_VSW_FIRST : Fld := ⟨0xb00100, 6, 10, .rwl, 0⟩
def BND_VSW_COUNT : Fld := ⟨0xb00100, 16, 7, .rwl, 0⟩
def BND_VSW_VALID : Fld := ⟨0xb00100, 31, 1, .rwl, 0⟩
def BND_VSEL_VPPB : Fld := ⟨0xb00200, 0, 10, .rw, 0⟩
def BND_VPPB_POL_KIND : Fld := ⟨0xb00204, 0, 3, .stg, 0⟩
def BND_VPPB_POL_PORT : Fld := ⟨0xb00204, 3, 6, .stg, 0⟩
def BND_VPPB_POL_LD_OBJ : Fld := ⟨0xb00204, 9, 9, .stg, 0⟩
def BND_VPPB_POL_SLICE : Fld := ⟨0xb00204, 18, 9, .stg, 0⟩
def BND_VPPB_POL_SN_EN : Fld := ⟨0xb00204, 27, 1, .stg, 0⟩
def BND_VPPB_SN_LO_SN : Fld := ⟨0xb00208, 0, 32, .stg, 0⟩
def BND_VPPB_SN_HI_SN : Fld := ⟨0xb0020c, 0, 32, .stg, 0⟩
def BND_VPPB_BIND_TARGET : Fld := ⟨0xb00210, 0, 27, .ro, 0⟩
def BND_VPPB_BIND_BOUND : Fld := ⟨0xb00210, 31, 1, .ro, 0⟩
def BND_BCMD_OP : Fld := ⟨0xb00220, 0, 1, .rw, 0⟩
def BND_BCMD_UMODE : Fld := ⟨0xb00220, 1, 2, .rw, 0⟩
def BND_BCMD_KIND : Fld := ⟨0xb00220, 3, 3, .rw, 0⟩
def BND_BCMD_PORT : Fld := ⟨0xb00220, 6, 6, .rw, 0⟩
def BND_BCMD_LD_OBJ : Fld := ⟨0xb00220, 12, 9, .rw, 0⟩
def BND_BCMD_SLICE : Fld := ⟨0xb00220, 21, 9, .rw, 0⟩
def BND_BCMD_GO : Fld := ⟨0xb00220, 31, 1, .w1s, 0⟩
def BND_BCMD_STATUS_STATE : Fld := ⟨0xb00224, 0, 2, .ro, 0⟩
def BND_BCMD_STATUS_REASON : Fld := ⟨0xb00224, 4, 4, .ro, 0⟩
def BND_SSEL_SLICE : Fld := ⟨0xb00300, 0, 9, .rw, 0⟩
def BND_SL_CFG_VALID : Fld := ⟨0xb00304, 0, 1, .stg, 0⟩
def BND_SL_CFG_PROTECTED : Fld := ⟨0xb00304, 1, 1, .rwl, 0⟩
def BND_SL_CFG_DRAIN : Fld := ⟨0xb00304, 8, 24, .stg, 97657⟩
def BND_SL_STATUS_STATE : Fld := ⟨0xb00308, 0, 3, .ro, 0⟩
def BND_SL_STATUS_OUT : Fld := ⟨0xb00308, 8, 24, .ro, 0⟩
def BND_SL_CMD_OP : Fld := ⟨0xb0030c, 0, 1, .rw, 0⟩
def BND_SL_CMD_MODE : Fld := ⟨0xb0030c, 1, 1, .rw, 0⟩
def BND_SL_CMD_SCOPE : Fld := ⟨0xb0030c, 2, 1, .rw, 0⟩
def BND_SL_CMD_GO : Fld := ⟨0xb0030c, 31, 1, .w1s, 0⟩
def BND_SL_TGT_LO_TGT : Fld := ⟨0xb00310, 0, 32, .rw, 0⟩
def BND_SL_TGT_HI_TGT : Fld := ⟨0xb00314, 0, 16, .rw, 0⟩
def BND_SL_CMD_STATUS_STATE : Fld := ⟨0xb00318, 0, 3, .ro, 0⟩
def BND_SL_CMD_STATUS_ERR : Fld := ⟨0xb00318, 4, 4, .ro, 0⟩
def BND_SL_CMD_STATUS_SQUASHED : Fld := ⟨0xb00318, 8, 1, .ro, 0⟩
def BND_KSEL_KEY : Fld := ⟨0xb00400, 0, 14, .rw, 0⟩
def BND_KEY_VALID : Fld := ⟨0xb00404, 0, 1, .stg, 0⟩
def BND_KEY_NOPASID : Fld := ⟨0xb00404, 1, 1, .stg, 0⟩
def BND_KEY_AGENT : Fld := ⟨0xb00404, 2, 6, .stg, 0⟩
def BND_KEY_PASID : Fld := ⟨0xb00404, 8, 20, .stg, 0⟩
def BND_KEY_SL_SLICE : Fld := ⟨0xb00408, 0, 9, .stg, 0⟩
def BND_AGSL_SLICE : Fld := ⟨0xb00500, 0, 9, .stg, 0⟩
def BND_WAKE_CFG_RATE : Fld := ⟨0xb00600, 0, 16, .stg, 4⟩
def BND_WAKE_CFG_CAP : Fld := ⟨0xb00600, 16, 16, .stg, 1200⟩
def BND_WAKE_STATUS_TOKENS : Fld := ⟨0xb00604, 0, 16, .ro, 0⟩
def BND_WAKE_STATUS_QUEUED : Fld := ⟨0xb00604, 16, 7, .ro, 0⟩
def BND_WCOST_COST : Fld := ⟨0xb00640, 0, 16, .stg, 52⟩
def BND_SHSEL_SHELF : Fld := ⟨0xb00700, 0, 6, .rw, 0⟩
def BND_SHELF_CFG_VALID : Fld := ⟨0xb00704, 0, 1, .stg, 0⟩
def BND_SHELF_CFG_PARK_EN : Fld := ⟨0xb00704, 1, 1, .stg, 0⟩
def BND_SHELF_CFG_COST : Fld := ⟨0xb00704, 16, 16, .stg, 0⟩
def BND_SHELF_TIME_PARK_IDLE : Fld := ⟨0xb00708, 0, 16, .stg, 0⟩
def BND_SHELF_TIME_WAKE_LIMIT : Fld := ⟨0xb00708, 16, 16, .stg, 16⟩
def BND_SHELF_PORTS_LO_PORTS : Fld := ⟨0xb0070c, 0, 32, .stg, 0⟩
def BND_SHELF_PORTS_HI_PORTS : Fld := ⟨0xb00710, 0, 32, .stg, 0⟩
def BND_SHELF_CMD_PARK : Fld := ⟨0xb00714, 0, 1, .w1s, 0⟩
def BND_SHELF_CMD_WAKE : Fld := ⟨0xb00714, 1, 1, .w1s, 0⟩
def BND_SHELF_STATUS_STATE : Fld := ⟨0xb00718, 0, 3, .ro, 0⟩
def BND_SHELF_STATUS_ERR : Fld := ⟨0xb00718, 4, 3, .ro, 0⟩
def BND_SHELF_STATUS_WAKES : Fld := ⟨0xb00718, 16, 16, .ro, 0⟩
def BND_PSEL_PORT : Fld := ⟨0xb00800, 0, 6, .rw, 0⟩
def BND_PARTNER_KIND : Fld := ⟨0xb00804, 0, 3, .ro, 0⟩
def BND_PARTNER_LDS : Fld := ⟨0xb00804, 3, 5, .ro, 0⟩
def BND_PARTNER_DCD : Fld := ⟨0xb00804, 8, 1, .ro, 0⟩
def BND_PARTNER_XR : Fld := ⟨0xb00804, 9, 1, .ro, 0⟩
def BND_PARTNER_SN_VALID : Fld := ⟨0xb00804, 10, 1, .ro, 0⟩
def BND_PARTNER_VENDOR : Fld := ⟨0xb00804, 16, 16, .ro, 0⟩
def BND_PARTNER_SN_LO_SN : Fld := ⟨0xb00808, 0, 32, .ro, 0⟩
def BND_PARTNER_SN_HI_SN : Fld := ⟨0xb0080c, 0, 32, .ro, 0⟩
def COB_CFG_MAX_OPEN : Fld := ⟨0x1200000, 0, 7, .stg, 64⟩
def COB_TO_LIMIT : Fld := ⟨0x1200004, 0, 20, .stg, 977⟩
def COB_STATUS_OPEN : Fld := ⟨0x1200008, 0, 7, .ro, 0⟩
def COB_STATUS_SANITISING : Fld := ⟨0x1200008, 8, 1, .ro, 0⟩
def COB_CNT_DONE : Fld := ⟨0x120000c, 0, 16, .ro, 0⟩
def COB_CNT_ERRORS : Fld := ⟨0x120000c, 16, 16, .ro, 0⟩
def COB_QSEL_QP : Fld := ⟨0x1200100, 0, 9, .rw, 0⟩
def COB_QP_CFG_VALID : Fld := ⟨0x1200104, 0, 1, .stg, 0⟩
def COB_QP_CFG_PRIV : Fld := ⟨0x1200104, 1, 1, .rwl, 0⟩
def COB_QP_CFG_RING_DPA : Fld := ⟨0x1200104, 2, 1, .stg, 0⟩
def COB_QP_CFG_SQ_LOG2 : Fld := ⟨0x1200104, 3, 5, .stg, 4⟩
def COB_QP_CFG_CQ_LOG2 : Fld := ⟨0x1200104, 8, 5, .stg, 4⟩
def COB_QP_CFG_DEPTH : Fld := ⟨0x1200104, 13, 3, .stg, 4⟩
def COB_QP_CFG_NOTIFY_EN : Fld := ⟨0x1200104, 16, 1, .stg, 0⟩
def COB_QP_CFG_VEC : Fld := ⟨0x1200104, 17, 9, .stg, 0⟩
def COB_QP_CFG_PORT : Fld := ⟨0x1200104, 26, 6, .stg, 0⟩
def COB_QP_PASID_PASID : Fld := ⟨0x1200108, 0, 20, .stg, 0⟩
def COB_QP_PASID_PASID_EN : Fld := ⟨0x1200108, 20, 1, .stg, 0⟩
def COB_SQ_BASE_LO_ADDR : Fld := ⟨0x1200110, 6, 26, .stg, 0⟩
def COB_SQ_BASE_HI_ADDR : Fld := ⟨0x1200114, 0, 32, .stg, 0⟩
def COB_CQ_BASE_LO_ADDR : Fld := ⟨0x1200118, 6, 26, .stg, 0⟩
def COB_CQ_BASE_HI_ADDR : Fld := ⟨0x120011c, 0, 32, .stg, 0⟩
def COB_QP_CTL_ENABLE : Fld := ⟨0x1200120, 0, 1, .w1s, 0⟩
def COB_QP_CTL_DISABLE : Fld := ⟨0x1200120, 1, 1, .w1s, 0⟩
def COB_QP_DB_SQ_TAIL : Fld := ⟨0x1200124, 0, 16, .rw, 0⟩
def COB_QP_DB_CQ_HEAD : Fld := ⟨0x1200124, 16, 16, .rw, 0⟩
def COB_QP_STATE_SQ_HEAD : Fld := ⟨0x1200128, 0, 16, .ro, 0⟩
def COB_QP_STATE_STATE : Fld := ⟨0x1200128, 16, 3, .ro, 0⟩
def COB_QP_STATE_CQ_FULL : Fld := ⟨0x1200128, 19, 1, .ro, 0⟩
def COB_QP_ERR_IGNORED_DB : Fld := ⟨0x120012c, 0, 16, .ro, 0⟩
def VAMP_NP_TO_LIMIT : Fld := ⟨0xc00000, 0, 20, .stg, 48829⟩
def VAMP_LOCK_TO_LIMIT : Fld := ⟨0xc00004, 0, 20, .stg, 977⟩
def VAMP_PF_CFG_AGE : Fld := ⟨0xc00008, 0, 8, .stg, 8⟩
def VAMP_PF_CFG_DISC_TH : Fld := ⟨0xc00008, 16, 16, .stg, 0⟩
def VAMP_STATUS_NP_OUT : Fld := ⟨0xc0000c, 0, 13, .ro, 0⟩
def VAMP_STATUS_NP_IN : Fld := ⟨0xc0000c, 16, 13, .ro, 0⟩
def VAMP_CNT_LATE : Fld := ⟨0xc00010, 0, 16, .ro, 0⟩
def VAMP_CNT_CFG_IGN : Fld := ⟨0xc00010, 16, 16, .ro, 0⟩
def VAMP_CNT2_MSG_CONSUMED : Fld := ⟨0xc00014, 0, 10, .ro, 0⟩
def VAMP_CNT2_LOCK_BREAKS : Fld := ⟨0xc00014, 10, 10, .ro, 0⟩
def VAMP_CNT2_ATTR_REJ : Fld := ⟨0xc00014, 20, 12, .ro, 0⟩
def VAMP_FSEL_FN : Fld := ⟨0xc00100, 0, 9, .rw, 0⟩
def VAMP_FN_CFG_VALID : Fld := ⟨0xc00104, 0, 1, .stg, 0⟩
def VAMP_FN_CFG_PORT : Fld := ⟨0xc00104, 1, 6, .stg, 0⟩
def VAMP_FN_CFG_RTID : Fld := ⟨0xc00104, 16, 16, .stg, 0⟩
def VAMP_FN_STATUS_BINDINGS : Fld := ⟨0xc00108, 0, 5, .ro, 0⟩
def VAMP_FN_STATUS_OWNER : Fld := ⟨0xc00108, 16, 10, .ro, 0⟩
def VAMP_FN_STATUS_OWNER_VALID : Fld := ⟨0xc00108, 31, 1, .ro, 0⟩
def VAMP_WSEL_WIN : Fld := ⟨0xc00200, 0, 11, .rw, 0⟩
def VAMP_WIN_CFG_VALID : Fld := ⟨0xc00204, 0, 1, .stg, 0⟩
def VAMP_WIN_CFG_DIR : Fld := ⟨0xc00204, 1, 1, .stg, 0⟩
def VAMP_WIN_CFG_FN : Fld := ⟨0xc00204, 2, 9, .stg, 0⟩
def VAMP_WIN_CFG_BAR : Fld := ⟨0xc00204, 11, 3, .stg, 0⟩
def VAMP_WIN_CFG_RD : Fld := ⟨0xc00204, 14, 1, .stg, 0⟩
def VAMP_WIN_CFG_WR : Fld := ⟨0xc00204, 15, 1, .stg, 0⟩
def VAMP_WIN_CFG_PF : Fld := ⟨0xc00204, 16, 1, .stg, 0⟩
def VAMP_WIN_CFG_MSG : Fld := ⟨0xc00204, 17, 1, .stg, 0⟩
def VAMP_WIN_CFG_PF_LEN : Fld := ⟨0xc00204, 18, 7, .stg, 0⟩
def VAMP_WIN_CFG_SZ_LOG2 : Fld := ⟨0xc00204, 25, 6, .stg, 12⟩
def VAMP_WIN_DBASE_LO_DBASE : Fld := ⟨0xc00208, 12, 20, .stg, 0⟩
def VAMP_WIN_DBASE_HI_DBASE : Fld := ⟨0xc0020c, 0, 32, .stg, 0⟩
def VAMP_WIN_TGT_TKIND : Fld := ⟨0xc00210, 0, 2, .stg, 0⟩
def VAMP_WIN_TGT_VPPB : Fld := ⟨0xc00210, 2, 10, .stg, 0⟩
def VAMP_WIN_TGT_OBJ : Fld := ⟨0xc00210, 12, 9, .stg, 0⟩
def VAMP_WIN_TGT_SW : Fld := ⟨0xc00210, 21, 6, .stg, 0⟩
def VAMP_WIN_TBASE_LO_TBASE : Fld := ⟨0xc00214, 12, 20, .stg, 0⟩
def VAMP_WIN_TBASE_HI_TBASE : Fld := ⟨0xc00218, 0, 32, .stg, 0⟩
def VAMP_WIN_PFSTAT_USED : Fld := ⟨0xc0021c, 0, 16, .ro, 0⟩
def VAMP_WIN_PFSTAT_DISC : Fld := ⟨0xc0021c, 16, 16, .ro, 0⟩
def VAMP_WIN_PFERR_PF_ERR : Fld := ⟨0xc00220, 0, 16, .ro, 0⟩
def VAMP_LSEL_PORT : Fld := ⟨0xc00300, 0, 6, .rw, 0⟩
def VAMP_LOCK_STATUS_HELD : Fld := ⟨0xc00304, 0, 1, .ro, 0⟩
def VAMP_LOCK_STATUS_HOLDER : Fld := ⟨0xc00304, 1, 12, .ro, 0⟩
def VAMP_LOCK_STATUS_QUEUED : Fld := ⟨0xc00304, 13, 11, .ro, 0⟩
def EYE_SLOT_FIRST : Fld := ⟨0xd00000, 0, 12, .stg, 0⟩
def EYE_SLOT_COUNT : Fld := ⟨0xd00000, 12, 9, .stg, 0⟩
def EYE_SLOT_KEY : Fld := ⟨0xd00000, 24, 4, .stg, 0⟩
def EYE_SLOT_ANYTAG : Fld := ⟨0xd00000, 28, 1, .stg, 0⟩
def EYE_WSEL_WIN : Fld := ⟨0xd00400, 0, 12, .rw, 0⟩
def EYE_WIN_BASE_LO_BASE : Fld := ⟨0xd00404, 6, 26, .stg, 0⟩
def EYE_WIN_BASE_HI_BASE : Fld := ⟨0xd00408, 0, 20, .stg, 0⟩
def EYE_WIN_LIM_LO_LIMIT : Fld := ⟨0xd0040c, 6, 26, .stg, 0⟩
def EYE_WIN_LIM_HI_LIMIT : Fld := ⟨0xd00410, 0, 20, .stg, 0⟩
def EYE_WIN_ATTR_SPACE : Fld := ⟨0xd00414, 0, 3, .stg, 0⟩
def EYE_WIN_ATTR_RD : Fld := ⟨0xd00414, 3, 1, .stg, 0⟩
def EYE_WIN_ATTR_WR : Fld := ⟨0xd00414, 4, 1, .stg, 0⟩
def EYE_WIN_ATTR_CACHE : Fld := ⟨0xd00414, 5, 1, .stg, 0⟩
def EYE_WIN_ATTR_ATOM : Fld := ⟨0xd00414, 6, 1, .stg, 0⟩
def EYE_WIN_ATTR_KEY_EN : Fld := ⟨0xd00414, 7, 1, .stg, 0⟩
def EYE_WIN_ATTR_KEY : Fld := ⟨0xd00414, 8, 4, .stg, 0⟩
def EYE_WIN_ATTR_SL_EN : Fld := ⟨0xd00414, 12, 1, .stg, 0⟩
def EYE_WIN_ATTR_SLICE : Fld := ⟨0xd00414, 13, 9, .stg, 0⟩
def EYE_WIN_ATTR_ID : Fld := ⟨0xd00414, 22, 10, .stg, 0⟩
def EYE_VIOL_SEQ_SEQ : Fld := ⟨0xd00500, 0, 32, .ro, 0⟩
def EYE_VIOL_STATUS_QUEUED : Fld := ⟨0xd00504, 0, 9, .ro, 0⟩
def EYE_VIOL_STATUS_LOST : Fld := ⟨0xd00504, 16, 16, .ro, 0⟩
def EYE_VIOL_LAST_LO_ADDR : Fld := ⟨0xd00508, 0, 32, .ro, 0⟩
def EYE_VIOL_LAST_HI_ADDR : Fld := ⟨0xd0050c, 0, 32, .ro, 0⟩
def EYE_VIOL_LAST_INFO_REASON : Fld := ⟨0xd00510, 0, 8, .ro, 0⟩
def EYE_VIOL_LAST_INFO_KIND : Fld := ⟨0xd00510, 8, 4, .ro, 0⟩
def EYE_VIOL_LAST_INFO_SLOT : Fld := ⟨0xd00510, 12, 7, .ro, 0⟩
def EYE_VIOL_LAST_INFO_SLICE : Fld := ⟨0xd00510, 19, 9, .ro, 0⟩
def SEC_STATUS_LIFECYCLE : Fld := ⟨0x1300000, 0, 2, .ro, 0⟩
def SEC_STATUS_DEBUG : Fld := ⟨0x1300000, 2, 1, .ro, 0⟩
def SEC_STATUS_APPROVED : Fld := ⟨0x1300000, 3, 1, .ro, 0⟩
def SEC_STATUS_SELFTEST_OK : Fld := ⟨0x1300000, 4, 1, .ro, 0⟩
def SEC_STATUS_ERROR : Fld := ⟨0x1300000, 5, 1, .ro, 0⟩
def SEC_NONCE_LO_NONCE : Fld := ⟨0x1300004, 0, 32, .ro, 0⟩
def SEC_NONCE_HI_NONCE : Fld := ⟨0x1300008, 0, 32, .ro, 0⟩
def SEC_CMD_OP : Fld := ⟨0x1300010, 0, 8, .rw, 0⟩
def SEC_CMD_GO : Fld := ⟨0x1300010, 31, 1, .w1s, 0⟩
def SEC_CMD_STATUS_STATE : Fld := ⟨0x1300014, 0, 2, .ro, 0⟩
def SEC_CMD_STATUS_ERR : Fld := ⟨0x1300014, 4, 3, .ro, 0⟩
def SEC_FW_SVN_SVN : Fld := ⟨0x1300018, 0, 32, .ro, 0⟩
def SEC_FW_SVN_MIN_SVN : Fld := ⟨0x130001c, 0, 32, .ro, 0⟩
def SEC_IDE_CFG_REKEY : Fld := ⟨0x1300020, 0, 24, .rw, 3515625⟩
def SEC_KSEL_ENTRY : Fld := ⟨0x1300100, 0, 5, .rw, 0⟩
def SEC_KEY_INFO_STATE : Fld := ⟨0x1300104, 0, 2, .ro, 0⟩
def SEC_KEY_INFO_USAGE : Fld := ⟨0x1300104, 8, 5, .ro, 0⟩
def SEC_KEY_ID_ID : Fld := ⟨0x1300108, 0, 32, .ro, 0⟩
def CLK_CORE_CTL_RESET : Fld := ⟨0xe00000, 0, 1, .w1s, 0⟩
def CLK_CORE_CTL_HOLD : Fld := ⟨0xe00000, 1, 1, .rw, 0⟩
def CLK_CORE_STATUS_STATE : Fld := ⟨0xe00010, 0, 2, .ro, 0⟩
def CLK_CORE_STATUS_SB : Fld := ⟨0xe00010, 2, 6, .ro, 0⟩
def CLK_CORE_STATUS_OUT : Fld := ⟨0xe00010, 8, 6, .ro, 0⟩
def CLK_IRQ_EN_EPOCH : Fld := ⟨0xe00020, 0, 1, .rw, 0⟩
def CLK_IRQ_EN_EVENT : Fld := ⟨0xe00020, 1, 1, .rw, 0⟩
def CLK_IRQ_EN_STERR : Fld := ⟨0xe00020, 2, 1, .rw, 0⟩
def CLK_IRQ_EN_COB : Fld := ⟨0xe00020, 3, 1, .rw, 0⟩
def CLK_IRQ_EN_MBOX : Fld := ⟨0xe00020, 4, 1, .rw, 0⟩
def CLK_IRQ_PEND_EPOCH : Fld := ⟨0xe00030, 0, 1, .w1c, 0⟩
def CLK_IRQ_PEND_EVENT : Fld := ⟨0xe00030, 1, 1, .w1c, 0⟩
def CLK_IRQ_PEND_STERR : Fld := ⟨0xe00030, 2, 1, .w1c, 0⟩
def CLK_IRQ_PEND_COB : Fld := ⟨0xe00030, 3, 1, .w1c, 0⟩
def CLK_IRQ_PEND_MBOX : Fld := ⟨0xe00030, 4, 1, .w1c, 0⟩
def CLK_STERR_ADDR_LO_ADDR : Fld := ⟨0xe00040, 0, 32, .ro, 0⟩
def CLK_STERR_ADDR_HI_ADDR : Fld := ⟨0xe00044, 0, 6, .ro, 0⟩
def CLK_STERR_INFO_CAUSE : Fld := ⟨0xe00060, 0, 3, .ro, 0⟩
def CLK_STERR_INFO_COUNT : Fld := ⟨0xe00060, 8, 8, .ro, 0⟩
def CLK_STERR_INFO_LATE : Fld := ⟨0xe00060, 16, 8, .ro, 0⟩
def CLK_STO_LIMIT : Fld := ⟨0xe00070, 0, 24, .stg, 1200000⟩
def CLK_RSEL_ENT : Fld := ⟨0xe00100, 0, 5, .rw, 0⟩
def CLK_RAT_BASE_ADDR : Fld := ⟨0xe00104, 0, 22, .stg, 0⟩
def CLK_RAT_LIM_ADDR : Fld := ⟨0xe00108, 0, 22, .stg, 0⟩
def CLK_RAT_ATTR_VALID : Fld := ⟨0xe0010c, 0, 1, .stg, 0⟩
def CLK_RAT_ATTR_EA : Fld := ⟨0xe0010c, 1, 1, .stg, 0⟩
def CLK_MCTP_CFG_VDM_EN : Fld := ⟨0xe00200, 0, 1, .stg, 1⟩
def CLK_MCTP_CFG_I3C_EN : Fld := ⟨0xe00200, 1, 1, .stg, 1⟩
def CLK_MCTP_CFG_BRIDGE_EN : Fld := ⟨0xe00200, 2, 1, .stg, 1⟩
def CLK_MCTP_STATUS_VDM_EID : Fld := ⟨0xe00204, 0, 8, .ro, 0⟩
def CLK_MCTP_STATUS_I3C_EID : Fld := ⟨0xe00204, 8, 8, .ro, 0⟩
def CLK_MCTP_STATUS_POOL_BASE : Fld := ⟨0xe00204, 16, 8, .ro, 0⟩
def CLK_MCTP_STATUS_POOL_VALID : Fld := ⟨0xe00204, 24, 1, .ro, 0⟩
def CLK_MCTP_CNT_UNSUPPORTED : Fld := ⟨0xe00208, 0, 10, .ro, 0⟩
def CLK_MCTP_CNT_REASM_DROP : Fld := ⟨0xe00208, 10, 10, .ro, 0⟩
def CLK_MCTP_CNT_UNROUTED : Fld := ⟨0xe00208, 20, 12, .ro, 0⟩
def CLK_EVT_SEQ_NEXT : Fld := ⟨0xe00300, 0, 32, .ro, 0⟩
def CLK_EVT_STATUS_KEYS : Fld := ⟨0xe00304, 0, 11, .ro, 0⟩
def CLK_EVT_STATUS_OVERFLOWS : Fld := ⟨0xe00304, 16, 16, .ro, 0⟩
def CLK_EVT_RATE_RATE : Fld := ⟨0xe00310, 0, 16, .stg, 1024⟩
def CLK_EVT_RATE_BURST : Fld := ⟨0xe00310, 16, 12, .stg, 64⟩
def CLK_EVT_SUPP_SUPPRESSED : Fld := ⟨0xe00330, 0, 16, .ro, 0⟩
def CLK_EVT_SUB_VALID : Fld := ⟨0xe00350, 0, 1, .stg, 0⟩
def CLK_EVT_SUB_PATH : Fld := ⟨0xe00350, 1, 1, .stg, 0⟩
def CLK_EVT_SUB_EID : Fld := ⟨0xe00350, 8, 8, .stg, 0⟩
def CLK_EVT_SUB_CLASSES : Fld := ⟨0xe00350, 16, 8, .stg, 0⟩
def CLK_SHANK_STATUS_RETRIES : Fld := ⟨0xe00400, 0, 16, .ro, 0⟩
def CLK_SHANK_STATUS_FAIL_X : Fld := ⟨0xe00400, 16, 3, .ro, 0⟩
def CLK_SHANK_STATUS_FAIL_Y : Fld := ⟨0xe00400, 19, 3, .ro, 0⟩
def CLK_SHANK_STATUS_FAIL_VALID : Fld := ⟨0xe00400, 22, 1, .ro, 0⟩
def CLK_SHANK_MAP_SLOT0 : Fld := ⟨0xe00410, 0, 2, .rwl, 0⟩
def CLK_SHANK_MAP_SLOT1 : Fld := ⟨0xe00410, 2, 2, .rwl, 0⟩
def CLK_SHANK_MAP_SLOT2 : Fld := ⟨0xe00410, 4, 2, .rwl, 0⟩
def CLK_SHANK_MAP_SLOT3 : Fld := ⟨0xe00410, 6, 2, .rwl, 0⟩
def CLK_SHANK_MAP_SLOT4 : Fld := ⟨0xe00410, 8, 2, .rwl, 0⟩
def CLK_SHANK_MAP_SLOT5 : Fld := ⟨0xe00410, 10, 2, .rwl, 0⟩
def CLK_SHANK_MAP_SLOT6 : Fld := ⟨0xe00410, 12, 2, .rwl, 0⟩
def CLK_SHANK_MAP_SLOT7 : Fld := ⟨0xe00410, 14, 2, .rwl, 0⟩
def CLK_SHANK_MAP_SLOT8 : Fld := ⟨0xe00410, 16, 2, .rwl, 0⟩
def CLK_SHANK_MAP_SLOT9 : Fld := ⟨0xe00410, 18, 2, .rwl, 0⟩
def CLK_SHANK_MAP_SLOT10 : Fld := ⟨0xe00410, 20, 2, .rwl, 0⟩
def CLK_SHANK_MAP_SLOT11 : Fld := ⟨0xe00410, 22, 2, .rwl, 0⟩
def CLK_SHANK_MAP_SLOT12 : Fld := ⟨0xe00410, 24, 2, .rwl, 0⟩
def CLK_SHANK_MAP_SLOT13 : Fld := ⟨0xe00410, 26, 2, .rwl, 0⟩
def CLK_SHANK_MAP_SLOT14 : Fld := ⟨0xe00410, 28, 2, .rwl, 0⟩
def CLK_SHANK_MAP_SLOT15 : Fld := ⟨0xe00410, 30, 2, .rwl, 0⟩
def CLK_SHANK_SEN_THR : Fld := ⟨0xe00460, 0, 16, .rwl, 8⟩
def CLK_SHANK_SEN_EN : Fld := ⟨0xe00460, 16, 1, .rwl, 1⟩
def FLT_SUM_ANY : Fld := ⟨0xf00000, 0, 32, .ro, 0⟩
def FLT_CLR_STATUS_REFUSED : Fld := ⟨0xf00010, 0, 16, .ro, 0⟩
def FLT_CLR_STATUS_LAST : Fld := ⟨0xf00010, 16, 12, .ro, 0⟩
def FLT_CLR_STATUS_LAST_VALID : Fld := ⟨0xf00010, 31, 1, .ro, 0⟩
def FLT_LOG_SEQ_NEXT : Fld := ⟨0xf00014, 0, 32, .ro, 0⟩
def FLT_GPF_CFG_P1_MS : Fld := ⟨0xf00020, 0, 12, .stg, 10⟩
def FLT_GPF_CFG_P2_MS : Fld := ⟨0xf00020, 16, 12, .stg, 500⟩
def FLT_PWRDN_CTL_GO : Fld := ⟨0xf00024, 0, 1, .w1s, 0⟩
def FLT_PWRDN_CTL_ABORT : Fld := ⟨0xf00024, 1, 1, .w1s, 0⟩
def FLT_PWRDN_CFG_DRAIN_LIMIT : Fld := ⟨0xf00028, 0, 16, .stg, 9766⟩
def FLT_PWRDN_CFG_CLEAN_LIMIT : Fld := ⟨0xf00028, 16, 16, .stg, 977⟩
def FLT_PWRDN_STATUS_STEP : Fld := ⟨0xf0002c, 0, 3, .ro, 0⟩
def FLT_PWRDN_STATUS_DRAIN_TO : Fld := ⟨0xf0002c, 3, 1, .ro, 0⟩
def FLT_PWRDN_STATUS_CLEAN_TO : Fld := ⟨0xf0002c, 4, 1, .ro, 0⟩
def FLT_PWRDN_STATUS_DIRTY_LEFT : Fld := ⟨0xf0002c, 16, 16, .ro, 0⟩
def FLT_RESTART_IMAGE : Fld := ⟨0xf00030, 0, 1, .rw, 0⟩
def FLT_RESTART_GO : Fld := ⟨0xf00030, 1, 1, .w1s, 0⟩
def FLT_RESTART_STATUS_STATE : Fld := ⟨0xf00034, 0, 2, .ro, 0⟩
def FLT_RESTART_STATUS_REFUSED : Fld := ⟨0xf00034, 2, 1, .w1c, 0⟩
def FLT_RESTART_STATUS_REVERTED : Fld := ⟨0xf00034, 3, 1, .w1c, 0⟩
def FLT_STICKY_S : Fld := ⟨0xf01000, 0, 32, .w1c, 0⟩
def FLT_REACT_REACT0 : Fld := ⟨0xf02000, 0, 2, .stg, 0⟩
def FLT_REACT_ALERT0 : Fld := ⟨0xf02000, 2, 1, .stg, 0⟩
def FLT_REACT_REACT1 : Fld := ⟨0xf02000, 4, 2, .stg, 0⟩
def FLT_REACT_ALERT1 : Fld := ⟨0xf02000, 6, 1, .stg, 0⟩
def FLT_REACT_REACT2 : Fld := ⟨0xf02000, 8, 2, .stg, 0⟩
def FLT_REACT_ALERT2 : Fld := ⟨0xf02000, 10, 1, .stg, 0⟩
def FLT_REACT_REACT3 : Fld := ⟨0xf02000, 12, 2, .stg, 0⟩
def FLT_REACT_ALERT3 : Fld := ⟨0xf02000, 14, 1, .stg, 0⟩
def FLT_REACT_REACT4 : Fld := ⟨0xf02000, 16, 2, .stg, 0⟩
def FLT_REACT_ALERT4 : Fld := ⟨0xf02000, 18, 1, .stg, 0⟩
def FLT_REACT_REACT5 : Fld := ⟨0xf02000, 20, 2, .stg, 0⟩
def FLT_REACT_ALERT5 : Fld := ⟨0xf02000, 22, 1, .stg, 0⟩
def FLT_REACT_REACT6 : Fld := ⟨0xf02000, 24, 2, .stg, 0⟩
def FLT_REACT_ALERT6 : Fld := ⟨0xf02000, 26, 1, .stg, 0⟩
def FLT_REACT_REACT7 : Fld := ⟨0xf02000, 28, 2, .stg, 0⟩
def FLT_REACT_ALERT7 : Fld := ⟨0xf02000, 30, 1, .stg, 0⟩
def PMC_CYC_LO_CYC : Fld := ⟨0x1000000, 0, 32, .ro, 0⟩
def PMC_CYC_HI_CYC : Fld := ⟨0x1000004, 0, 32, .ro, 0⟩
def PMC_CYC_RD_LO_CYC : Fld := ⟨0x1000008, 0, 32, .ro, 0⟩
def PMC_CYC_RD_HI_CYC : Fld := ⟨0x100000c, 0, 32, .ro, 0⟩
def PMC_CTR_LO_CNT : Fld := ⟨0x1000010, 0, 32, .rw, 0⟩
def PMC_CTR_HI_CNT : Fld := ⟨0x1000014, 0, 16, .rw, 0⟩
def PMC_SEL_EVENT : Fld := ⟨0x1000050, 0, 6, .stg, 0⟩
def PMC_SEL_UNIT : Fld := ⟨0x1000050, 8, 7, .stg, 0⟩
def PMC_SEL_UNIT_EN : Fld := ⟨0x1000050, 15, 1, .stg, 0⟩
def PMC_SEL_SLICE : Fld := ⟨0x1000050, 16, 9, .stg, 0⟩
def PMC_SEL_SLICE_EN : Fld := ⟨0x1000050, 25, 1, .stg, 0⟩
def PMC_SEL_EN : Fld := ⟨0x1000050, 31, 1, .stg, 0⟩
def PMC_CBCTL_CHAIN : Fld := ⟨0x1000070, 0, 4, .stg, 0⟩
def PMC_OVF_OVF : Fld := ⟨0x1000074, 0, 8, .w1c, 0⟩
def PMC_CBID_KIND : Fld := ⟨0x1000078, 0, 4, .ro, 0⟩
def PMC_CBID_BLOCK : Fld := ⟨0x1000078, 4, 6, .ro, 0⟩
def PMC_ACCT_CFG_DST : Fld := ⟨0x1008000, 0, 1, .stg, 0⟩
def PMC_ACCT_CFG_FRAMES : Fld := ⟨0x1008000, 1, 11, .stg, 1⟩
def PMC_ACCT_CFG_EN : Fld := ⟨0x1008000, 31, 1, .stg, 0⟩
def PMC_ACCT_BASE_LO_BASE : Fld := ⟨0x1008004, 7, 25, .stg, 3145728⟩
def PMC_ACCT_BASE_HI_BASE : Fld := ⟨0x1008008, 0, 32, .stg, 0⟩
def PMC_ACCT_HOST_PORT : Fld := ⟨0x100800c, 0, 6, .stg, 0⟩
def PMC_ACCT_HOST_PASID : Fld := ⟨0x100800c, 6, 20, .stg, 0⟩
def PMC_ACCT_HOST_PASID_EN : Fld := ⟨0x100800c, 26, 1, .stg, 0⟩
def PMC_ACCT_ACK_SEQ : Fld := ⟨0x1008010, 0, 32, .rw, 4294967295⟩
def PMC_ACCT_SEQ_NEXT : Fld := ⟨0x1008014, 0, 32, .ro, 0⟩
def PMC_ACCT_STATUS_BUSY : Fld := ⟨0x1008018, 0, 2, .ro, 0⟩
def PMC_ACCT_STATUS_SKIPPED : Fld := ⟨0x1008018, 2, 14, .ro, 0⟩
def PMC_ACCT_STATUS_LOST : Fld := ⟨0x1008018, 16, 16, .ro, 0⟩
def PMC_ACCT_SLOT_NEXT : Fld := ⟨0x100801c, 0, 11, .ro, 0⟩
def PMC_ASEL_SLICE : Fld := ⟨0x1008020, 0, 9, .rw, 0⟩
def PMC_ASEL_CTR : Fld := ⟨0x1008020, 16, 3, .rw, 0⟩
def PMC_ACTR_LO_VAL : Fld := ⟨0x1008024, 0, 32, .ro, 0⟩
def PMC_ACTR_HI_VAL : Fld := ⟨0x1008028, 0, 32, .ro, 0⟩
def PWR_STATUS_FEED_A_OK : Fld := ⟨0x100000, 0, 1, .ro, 0⟩
def PWR_STATUS_FEED_B_OK : Fld := ⟨0x100000, 1, 1, .ro, 0⟩
def PWR_STATUS_ORA_ON : Fld := ⟨0x100000, 2, 1, .ro, 0⟩
def PWR_STATUS_ORB_ON : Fld := ⟨0x100000, 3, 1, .ro, 0⟩
def PWR_STATUS_PM_EN : Fld := ⟨0x100000, 4, 1, .ro, 0⟩
def PWR_STATUS_REVERSALS : Fld := ⟨0x100000, 8, 8, .ro, 0⟩
def PWR_OFF_CAUSE_CAUSE : Fld := ⟨0x100004, 0, 4, .ro, 0⟩
def PWR_OFF_CAUSE_TRIPS : Fld := ⟨0x100004, 16, 16, .ro, 0⟩
def PWR_CFG_INS_DELAY : Fld := ⟨0x100008, 0, 7, .rw, 0⟩
def PWR_CFG_NV_COMMIT : Fld := ⟨0x100008, 8, 1, .w1s, 0⟩
def PWR_CFG_NV_BUSY : Fld := ⟨0x100008, 9, 1, .ro, 0⟩
def PWR_FEEDA_V : Fld := ⟨0x100010, 0, 14, .ro, 0⟩
def PWR_FEEDA_I : Fld := ⟨0x100010, 16, 16, .ro, 0⟩
def PWR_FEEDB_V : Fld := ⟨0x100014, 0, 14, .ro, 0⟩
def PWR_FEEDB_I : Fld := ⟨0x100014, 16, 16, .ro, 0⟩
def PWR_FEEDA_AVG_V : Fld := ⟨0x100018, 0, 14, .ro, 0⟩
def PWR_FEEDA_AVG_I : Fld := ⟨0x100018, 16, 16, .ro, 0⟩
def PWR_FEEDB_AVG_V : Fld := ⟨0x10001c, 0, 14, .ro, 0⟩
def PWR_FEEDB_AVG_I : Fld := ⟨0x10001c, 16, 16, .ro, 0⟩
def PWR_PIN_INST : Fld := ⟨0x100020, 0, 16, .ro, 0⟩
def PWR_PIN_AVG : Fld := ⟨0x100020, 16, 16, .ro, 0⟩
def PWR_PIN_PEAK_PEAK : Fld := ⟨0x100024, 0, 16, .ro, 0⟩
def PWR_PIN_PEAK_CLR : Fld := ⟨0x100024, 31, 1, .w1s, 0⟩
def PWR_ENERGY_LO_E : Fld := ⟨0x100028, 0, 32, .ro, 0⟩
def PWR_ENERGY_HI_E : Fld := ⟨0x10002c, 0, 32, .ro, 0⟩
def PWR_CORE_V : Fld := ⟨0x100030, 0, 10, .ro, 0⟩
def PWR_CORE_I : Fld := ⟨0x100030, 16, 12, .ro, 0⟩
def PWR_TEMP_DIE : Fld := ⟨0x100034, 0, 10, .ro, 0⟩
def PWR_TEMP_FET : Fld := ⟨0x100034, 16, 10, .ro, 0⟩
def PWR_THERM_CFG_ALARM : Fld := ⟨0x100038, 0, 8, .rw, 105⟩
def PWR_AVS_CFG_EN : Fld := ⟨0x100040, 0, 1, .rw, 1⟩
def PWR_AVS_CFG_VMIN : Fld := ⟨0x100040, 8, 8, .rw, 130⟩
def PWR_AVS_CFG_VMAX : Fld := ⟨0x100040, 16, 8, .rw, 170⟩
def PWR_AVS_MARGIN_M_CRIT : Fld := ⟨0x100044, 0, 6, .rw, 4⟩
def PWR_AVS_MARGIN_M_LOW : Fld := ⟨0x100044, 8, 6, .rw, 8⟩
def PWR_AVS_MARGIN_M_HIGH : Fld := ⟨0x100044, 16, 6, .rw, 12⟩
def PWR_AVS_STATUS_SETPOINT : Fld := ⟨0x100048, 0, 8, .ro, 170⟩
def PWR_AVS_STATUS_LIMITING : Fld := ⟨0x100048, 8, 2, .ro, 0⟩
def PWR_AVS_STATUS_LOWER_CNT : Fld := ⟨0x100048, 16, 11, .ro, 0⟩
def PWR_AVS_MON_MARGIN : Fld := ⟨0x100050, 0, 6, .ro, 0⟩
def PWR_AVS_MON_RO_FREQ : Fld := ⟨0x100050, 16, 16, .ro, 0⟩
def PWR_AVS_CNT_URGENT : Fld := ⟨0x100060, 0, 16, .ro, 0⟩
def PWR_AVS_CNT_CAPPED : Fld := ⟨0x100060, 16, 16, .ro, 0⟩
def GLB_ID_DIE_STEP : Fld := ⟨0x0, 0, 8, .ro, 177⟩
def GLB_ID_MOD_STEP : Fld := ⟨0x0, 8, 4, .ro, 11⟩
def GLB_ID_PART : Fld := ⟨0x0, 16, 16, .ro, 100⟩
def GLB_SERIAL_LO_SN : Fld := ⟨0x4, 0, 32, .ro, 0⟩
def GLB_SERIAL_HI_SN_39_32 : Fld := ⟨0x8, 0, 8, .ro, 0⟩
def GLB_SERIAL_HI_SN_47_40 : Fld := ⟨0x8, 8, 8, .ro, 1⟩
def GLB_SERIAL_HI_SN_63_48 : Fld := ⟨0x8, 16, 16, .ro, 100⟩
def GLB_SWITCH_ID : Fld := ⟨0xc, 0, 6, .rwl, 0⟩
def GLB_FABRIC_ID_ID : Fld := ⟨0x18, 0, 32, .rwl, 0⟩
def GLB_RST_MODULE : Fld := ⟨0x70, 0, 1, .w1s, 0⟩
def GLB_RST_MGMT : Fld := ⟨0x70, 1, 1, .w1s, 0⟩
def GLB_RST_MGMT_HOLD : Fld := ⟨0x70, 2, 1, .rw, 0⟩
def GLB_RST_REFUSED : Fld := ⟨0x70, 3, 1, .w1c, 0⟩
def GLB_START_CFG_READY_LIMIT : Fld := ⟨0x74, 0, 24, .rw, 976563⟩
def GLB_START_STATUS_STEP : Fld := ⟨0x78, 0, 4, .ro, 1⟩
def GLB_START_STATUS_PARTIAL : Fld := ⟨0x78, 4, 1, .ro, 0⟩
def GLB_START_STATUS_STOPPED : Fld := ⟨0x78, 5, 1, .ro, 0⟩
def GLB_START_STATUS_LAST_RESET : Fld := ⟨0x78, 6, 2, .ro, 0⟩
def DBG_STATUS_DEBUG : Fld := ⟨0x1400000, 0, 1, .ro, 0⟩
def DBG_STATUS_SESSION : Fld := ⟨0x1400000, 1, 1, .ro, 0⟩
def DBG_STATUS_DENIED : Fld := ⟨0x1400000, 16, 16, .ro, 0⟩
def DBG_CFG_IDLE_LIMIT : Fld := ⟨0x1400004, 0, 16, .rw, 57220⟩
def DBG_CFG_I3C_EN : Fld := ⟨0x1400004, 16, 1, .rw, 1⟩
def DBG_CFG_VDM_EN : Fld := ⟨0x1400004, 17, 1, .rw, 1⟩
def DBG_DENY_ADDR_LO_ADDR : Fld := ⟨0x1400008, 0, 32, .ro, 0⟩
def DBG_DENY_ADDR_HI_ADDR : Fld := ⟨0x140000c, 0, 31, .ro, 0⟩
def DBG_DENY_ADDR_HI_VALID : Fld := ⟨0x140000c, 31, 1, .ro, 0⟩

end Sys2Proof.Machine.F
end

