-- ==== Sys2Proof/Machine/CsrMap.lean ====
section
/-!
DEFINITION. The CSR map (spec/20 R504 to R506): for each block, its registers in order of offset, with their unit
dimensions (stride, count), whether they lie behind a selector or are banked per path (R506), and their fields.
An offset no entry names is unoccupied (R11).
-/
namespace Sys2Proof.Machine.CsrMap
open Sys2Proof.Machine

def regsGLB0 : List RegDef := [
  ⟨0x0, [], .plain,
    [F.GLB_ID_DIE_STEP, F.GLB_ID_MOD_STEP, F.GLB_ID_PART]⟩,
  ⟨0x4, [], .plain,
    [F.GLB_SERIAL_LO_SN]⟩,
  ⟨0x8, [], .plain,
    [F.GLB_SERIAL_HI_SN_39_32, F.GLB_SERIAL_HI_SN_47_40, F.GLB_SERIAL_HI_SN_63_48]⟩,
  ⟨0xc, [], .plain,
    [F.GLB_SWITCH_ID]⟩,
  ⟨0x10, [], .plain,
    [F.GLB_STITCH_LO_STITCH]⟩,
  ⟨0x14, [], .plain,
    [F.GLB_STITCH_HI_STITCH]⟩,
  ⟨0x18, [], .plain,
    [F.GLB_FABRIC_ID_ID]⟩,
  ⟨0x20, [], .plain,
    [F.GLB_STITCH_CTL_RUN, F.GLB_STITCH_CTL_SRC, F.GLB_STITCH_CTL_BK_EN]⟩,
  ⟨0x24, [], .plain,
    [F.GLB_STITCH_STATUS_STATE, F.GLB_STITCH_STATUS_DRIFT, F.GLB_STITCH_STATUS_UPLINK, F.GLB_STITCH_STATUS_UPLINK_VALID, F.GLB_STITCH_STATUS_HOPS, F.GLB_STITCH_STATUS_ROOT_CUR]⟩,
  ⟨0x28, [], .plain,
    [F.GLB_STITCH_ERR_OFFSET, F.GLB_STITCH_ERR_TRIM]⟩,
  ⟨0x2c, [], .plain,
    [F.GLB_STITCH_ROOTS_ROOT, F.GLB_STITCH_ROOTS_BK1, F.GLB_STITCH_ROOTS_BK2, F.GLB_STITCH_ROOTS_BK3]⟩,
  ⟨0x30, [], .plain,
    [F.GLB_STITCH_LOAD_LO_LOAD]⟩]

def regsGLB1 : List RegDef := [
  ⟨0x34, [], .plain,
    [F.GLB_STITCH_LOAD_HI_LOAD]⟩,
  ⟨0x38, [], .plain,
    [F.GLB_STITCH_PINADJ_DELAY]⟩,
  ⟨0x3c, [], .plain,
    [F.GLB_STITCH_HOLD_LIMIT]⟩,
  ⟨0x40, [(0x4, 8)], .plain,
    [F.GLB_STITCH_LINKADJ_ASYM]⟩,
  ⟨0x60, [], .plain,
    [F.GLB_EPOCH_CFG_HEAT_EXP, F.GLB_EPOCH_CFG_ACCT_EXP, F.GLB_EPOCH_CFG_TEL_EXP, F.GLB_EPOCH_CFG_FW_EXP]⟩,
  ⟨0x70, [], .plain,
    [F.GLB_RST_MODULE, F.GLB_RST_MGMT, F.GLB_RST_MGMT_HOLD, F.GLB_RST_REFUSED]⟩,
  ⟨0x74, [], .plain,
    [F.GLB_START_CFG_READY_LIMIT]⟩,
  ⟨0x78, [], .plain,
    [F.GLB_START_STATUS_STEP, F.GLB_START_STATUS_PARTIAL, F.GLB_START_STATUS_STOPPED, F.GLB_START_STATUS_LAST_RESET]⟩]

/-- The registers of block GLB. -/
def regsGLB : List RegDef := regsGLB0 ++ regsGLB1

def regsPWR0 : List RegDef := [
  ⟨0x100000, [], .plain,
    [F.PWR_STATUS_FEED_A_OK, F.PWR_STATUS_FEED_B_OK, F.PWR_STATUS_ORA_ON, F.PWR_STATUS_ORB_ON, F.PWR_STATUS_PM_EN, F.PWR_STATUS_REVERSALS]⟩,
  ⟨0x100004, [], .plain,
    [F.PWR_OFF_CAUSE_CAUSE, F.PWR_OFF_CAUSE_TRIPS]⟩,
  ⟨0x100008, [], .plain,
    [F.PWR_CFG_INS_DELAY, F.PWR_CFG_NV_COMMIT, F.PWR_CFG_NV_BUSY]⟩,
  ⟨0x100010, [], .plain,
    [F.PWR_FEEDA_V, F.PWR_FEEDA_I]⟩,
  ⟨0x100014, [], .plain,
    [F.PWR_FEEDB_V, F.PWR_FEEDB_I]⟩,
  ⟨0x100018, [], .plain,
    [F.PWR_FEEDA_AVG_V, F.PWR_FEEDA_AVG_I]⟩,
  ⟨0x10001c, [], .plain,
    [F.PWR_FEEDB_AVG_V, F.PWR_FEEDB_AVG_I]⟩,
  ⟨0x100020, [], .plain,
    [F.PWR_PIN_INST, F.PWR_PIN_AVG]⟩,
  ⟨0x100024, [], .plain,
    [F.PWR_PIN_PEAK_PEAK, F.PWR_PIN_PEAK_CLR]⟩,
  ⟨0x100028, [], .plain,
    [F.PWR_ENERGY_LO_E]⟩,
  ⟨0x10002c, [], .plain,
    [F.PWR_ENERGY_HI_E]⟩,
  ⟨0x100030, [], .plain,
    [F.PWR_CORE_V, F.PWR_CORE_I]⟩]

def regsPWR1 : List RegDef := [
  ⟨0x100034, [], .plain,
    [F.PWR_TEMP_DIE, F.PWR_TEMP_FET]⟩,
  ⟨0x100038, [], .plain,
    [F.PWR_THERM_CFG_ALARM]⟩,
  ⟨0x100040, [], .plain,
    [F.PWR_AVS_CFG_EN, F.PWR_AVS_CFG_VMIN, F.PWR_AVS_CFG_VMAX]⟩,
  ⟨0x100044, [], .plain,
    [F.PWR_AVS_MARGIN_M_CRIT, F.PWR_AVS_MARGIN_M_LOW, F.PWR_AVS_MARGIN_M_HIGH]⟩,
  ⟨0x100048, [], .plain,
    [F.PWR_AVS_STATUS_SETPOINT, F.PWR_AVS_STATUS_LIMITING, F.PWR_AVS_STATUS_LOWER_CNT]⟩,
  ⟨0x100050, [(0x4, 4)], .plain,
    [F.PWR_AVS_MON_MARGIN, F.PWR_AVS_MON_RO_FREQ]⟩,
  ⟨0x100060, [], .plain,
    [F.PWR_AVS_CNT_URGENT, F.PWR_AVS_CNT_CAPPED]⟩]

/-- The registers of block PWR. -/
def regsPWR : List RegDef := regsPWR0 ++ regsPWR1

def regsLB0 : List RegDef := [
  ⟨0x200000, [(0x10000, 20)], .plain,
    [F.LB_BANK_ID_BANK, F.LB_BANK_ID_MORNU]⟩,
  ⟨0x200004, [(0x10000, 20)], .plain,
    [F.LB_BANK_CFG_BIFUR, F.LB_BANK_CFG_CLKMODE, F.LB_BANK_CFG_SSC_EN, F.LB_BANK_CFG_MFAM, F.LB_BANK_CFG_BOOT_EN, F.LB_BANK_CFG_EN]⟩,
  ⟨0x200008, [(0x10000, 20)], .plain,
    [F.LB_BANK_CTL_WAKE, F.LB_BANK_CTL_PARK, F.LB_BANK_CTL_FAMILY]⟩,
  ⟨0x20000c, [(0x10000, 20)], .plain,
    [F.LB_BANK_STATUS_STATE, F.LB_BANK_STATUS_PLL_LOCK_A, F.LB_BANK_STATUS_PLL_LOCK_B, F.LB_BANK_STATUS_REFUSE, F.LB_BANK_STATUS_PLL_RELOCKS]⟩,
  ⟨0x201000, [(0x10000, 20), (0x100, 16)], .plain,
    [F.LB_LANE_STATUS_STATE, F.LB_LANE_STATUS_DETECTED, F.LB_LANE_STATUS_CDR_LOCK, F.LB_LANE_STATUS_BLOCK_LOCK, F.LB_LANE_STATUS_RX_INV, F.LB_LANE_STATUS_LOGICAL, F.LB_LANE_STATUS_PRECODE]⟩,
  ⟨0x201004, [(0x10000, 20), (0x100, 16)], .plain,
    [F.LB_LANE_FAR_FAR_SWITCH, F.LB_LANE_FAR_FAR_ML, F.LB_LANE_FAR_FAR_LANE, F.LB_LANE_FAR_VALID]⟩,
  ⟨0x201008, [(0x10000, 20), (0x100, 16)], .plain,
    [F.LB_LANE_TXEQ_PRESET, F.LB_LANE_TXEQ_PRECODE, F.LB_LANE_TXEQ_MC_M1, F.LB_LANE_TXEQ_MC_P1, F.LB_LANE_TXEQ_MC_M2, F.LB_LANE_TXEQ_MC_M3]⟩,
  ⟨0x20100c, [(0x10000, 20), (0x100, 16)], .plain,
    [F.LB_LANE_TXCOEF_C_M3, F.LB_LANE_TXCOEF_C_M2, F.LB_LANE_TXCOEF_C_M1, F.LB_LANE_TXCOEF_C_0, F.LB_LANE_TXCOEF_C_P1]⟩,
  ⟨0x201010, [(0x10000, 20), (0x100, 16)], .plain,
    [F.LB_LANE_ADAPT_FREEZE_CTLE, F.LB_LANE_ADAPT_FREEZE_DFE, F.LB_LANE_ADAPT_FREEZE_TX, F.LB_LANE_ADAPT_SNAP, F.LB_LANE_ADAPT_SNAP_VALID, F.LB_LANE_ADAPT_AT_LIMIT]⟩,
  ⟨0x201014, [(0x10000, 20), (0x100, 16)], .plain,
    [F.LB_LANE_ADAPT_DEF_FREEZE_DEF]⟩,
  ⟨0x201018, [(0x10000, 20), (0x100, 16)], .plain,
    [F.LB_LANE_CTLE_PEAK, F.LB_LANE_CTLE_GAIN]⟩,
  ⟨0x201020, [(0x10000, 20), (0x100, 16), (0x4, 4)], .plain,
    [F.LB_LANE_DFE_TAP_A, F.LB_LANE_DFE_TAP_B, F.LB_LANE_DFE_TAP_C]⟩]

def regsLB1 : List RegDef := [
  ⟨0x201030, [(0x10000, 20), (0x100, 16)], .plain,
    [F.LB_LANE_CDR_FREQ_OFS]⟩,
  ⟨0x201034, [(0x10000, 20), (0x100, 16)], .plain,
    [F.LB_LANE_ERR_BAD_HDR, F.LB_LANE_ERR_RELOCKS]⟩,
  ⟨0x201040, [(0x10000, 20), (0x100, 16)], .plain,
    [F.LB_LANE_MARGIN_CTL_START, F.LB_LANE_MARGIN_CTL_MODE, F.LB_LANE_MARGIN_CTL_EYE, F.LB_LANE_MARGIN_CTL_DWELL, F.LB_LANE_MARGIN_CTL_BER_EXP]⟩,
  ⟨0x201044, [(0x10000, 20), (0x100, 16)], .plain,
    [F.LB_LANE_MARGIN_RES_LEFT, F.LB_LANE_MARGIN_RES_RIGHT, F.LB_LANE_MARGIN_RES_UP, F.LB_LANE_MARGIN_RES_DOWN]⟩,
  ⟨0x201048, [(0x10000, 20), (0x100, 16)], .plain,
    [F.LB_LANE_MARGIN_STATUS_STATE, F.LB_LANE_MARGIN_STATUS_ERR, F.LB_LANE_MARGIN_STATUS_HOST]⟩]

/-- The registers of block LB. -/
def regsLB : List RegDef := regsLB0 ++ regsLB1

def regsEP0 : List RegDef := [
  ⟨0x400000, [(0x4000, 64)], .plain,
    [F.EP_PORT_ID_PORT, F.EP_PORT_ID_BANK, F.EP_PORT_ID_LANES, F.EP_PORT_ID_PRESENT]⟩,
  ⟨0x400004, [(0x4000, 64)], .plain,
    [F.EP_PORT_CFG_MODE, F.EP_PORT_CFG_MAXRATE, F.EP_PORT_CFG_MGMT, F.EP_PORT_CFG_XR_ALLOW]⟩,
  ⟨0x400010, [(0x4000, 64)], .plain,
    [F.EP_LINK_CTL_TGT_RATE, F.EP_LINK_CTL_XR_POLICY, F.EP_LINK_CTL_L1_EN, F.EP_LINK_CTL_L0P_EN, F.EP_LINK_CTL_EQ_BYPASS_EN, F.EP_LINK_CTL_FLIT_PREF]⟩,
  ⟨0x400014, [(0x4000, 64)], .plain,
    [F.EP_LINK_CMD_RETRAIN, F.EP_LINK_CMD_HOT_RESET, F.EP_LINK_CMD_DISABLE]⟩,
  ⟨0x400018, [(0x4000, 64)], .plain,
    [F.EP_LINK_STATUS_LTSSM, F.EP_LINK_STATUS_RATE, F.EP_LINK_STATUS_WIDTH, F.EP_LINK_STATUS_DL_UP, F.EP_LINK_STATUS_FLIT, F.EP_LINK_STATUS_CMD_REFUSED, F.EP_LINK_STATUS_CAP_RATE, F.EP_LINK_STATUS_DS_REASON, F.EP_LINK_STATUS_ATTEMPTS]⟩,
  ⟨0x40001c, [(0x4000, 64)], .plain,
    [F.EP_CXL_STATUS_VER, F.EP_CXL_STATUS_IO, F.EP_CXL_STATUS_CACHE, F.EP_CXL_STATUS_MEM, F.EP_CXL_STATUS_FLITFMT, F.EP_CXL_STATUS_MLD, F.EP_CXL_STATUS_LDS, F.EP_CXL_STATUS_BI, F.EP_CXL_STATUS_VIRAL]⟩,
  ⟨0x400020, [(0x4000, 64)], .plain,
    [F.EP_DS_CFG_MIN_RATE, F.EP_DS_CFG_FAIL_LIMIT, F.EP_DS_CFG_RCV_LIMIT, F.EP_DS_CFG_WIDTH_EN, F.EP_DS_CFG_TRAIN_LIMIT]⟩,
  ⟨0x400030, [(0x4000, 64)], .plain,
    [F.EP_CPL_TO_LIMIT]⟩,
  ⟨0x400034, [(0x4000, 64)], .plain,
    [F.EP_NP_STATUS_OUTSTANDING, F.EP_NP_STATUS_FULL, F.EP_NP_STATUS_TO_COUNT, F.EP_NP_STATUS_LATE_COUNT]⟩,
  ⟨0x400040, [(0x4000, 64)], .plain,
    [F.EP_HP_CFG_POLICY, F.EP_HP_CFG_DRS_EN]⟩,
  ⟨0x400044, [(0x4000, 64)], .plain,
    [F.EP_HP_STATUS_HP_STATE, F.EP_HP_STATUS_PRESENT, F.EP_HP_STATUS_INSERTS, F.EP_HP_STATUS_REMOVALS]⟩,
  ⟨0x400048, [(0x4000, 64)], .plain,
    [F.EP_HP_LOSS_LIMIT]⟩]

def regsEP1 : List RegDef := [
  ⟨0x40004c, [(0x4000, 64)], .plain,
    [F.EP_HP_WAIT_WAIT]⟩,
  ⟨0x400060, [(0x4000, 64)], .plain,
    [F.EP_IDE_CFG_LINK_POLICY, F.EP_IDE_CFG_CXL_CONTAIN, F.EP_IDE_CFG_SEL_MAX, F.EP_IDE_CFG_EST_LIMIT]⟩,
  ⟨0x400064, [(0x4000, 64)], .plain,
    [F.EP_IDE_STATUS_LINK_STATE, F.EP_IDE_STATUS_KEYSET, F.EP_IDE_STATUS_SEL_ACTIVE, F.EP_IDE_STATUS_BLOCKED]⟩,
  ⟨0x400068, [(0x4000, 64)], .plain,
    [F.EP_IDE_ERR_MAC_FAIL, F.EP_IDE_ERR_REKEYS]⟩,
  ⟨0x400070, [(0x4000, 64)], .plain,
    [F.EP_XR_STATUS_LOCAL_EN, F.EP_XR_STATUS_PARTNER_CAP, F.EP_XR_STATUS_PARTNER_EN, F.EP_XR_STATUS_ACTIVE, F.EP_XR_STATUS_FAILED, F.EP_XR_STATUS_FAILS]⟩,
  ⟨0x400074, [(0x4000, 64)], .plain,
    [F.EP_DROP_CNT_POSTED_DROP, F.EP_DROP_CNT_CPL_DISCARD]⟩]

/-- The registers of block EP. -/
def regsEP : List RegDef := regsEP0 ++ regsEP1

def regsML0 : List RegDef := [
  ⟨0x500000, [(0x10000, 8)], .plain,
    [F.ML_LINK_ID_LINK, F.ML_LINK_ID_BANK, F.ML_LINK_ID_UPPER]⟩,
  ⟨0x500004, [(0x10000, 8)], .plain,
    [F.ML_LINK_CFG_MIN_WIDTH, F.ML_LINK_CFG_SPILL_EN, F.ML_LINK_CFG_RATES]⟩,
  ⟨0x500008, [(0x10000, 8)], .plain,
    [F.ML_LINK_CTL_GRACE, F.ML_LINK_CTL_AUTO_LACE]⟩,
  ⟨0x50000c, [(0x10000, 8)], .plain,
    [F.ML_REPLAY_CFG_TO]⟩,
  ⟨0x500010, [(0x10000, 8)], .plain,
    [F.ML_LINK_CMD_RETRAIN, F.ML_LINK_CMD_DISABLE]⟩,
  ⟨0x500014, [(0x10000, 8)], .plain,
    [F.ML_LINK_STATUS_STATE, F.ML_LINK_STATUS_LSET, F.ML_LINK_STATUS_RATE, F.ML_LINK_STATUS_LEADER, F.ML_LINK_STATUS_SESSION]⟩,
  ⟨0x500018, [(0x10000, 8)], .plain,
    [F.ML_PEER_FAR_SWITCH, F.ML_PEER_FAR_ML, F.ML_PEER_VALID]⟩,
  ⟨0x500020, [(0x10000, 8)], .plain,
    [F.ML_LACE_CTL_CMD, F.ML_LACE_CTL_GO, F.ML_LACE_CTL_TGT_LSET]⟩,
  ⟨0x500024, [(0x10000, 8)], .plain,
    [F.ML_LACE_STATUS_STATE, F.ML_LACE_STATUS_ERR, F.ML_LACE_STATUS_TAG, F.ML_LACE_STATUS_RXOK]⟩,
  ⟨0x500040, [(0x10000, 8), (0x4, 9)], .plain,
    [F.ML_CRED_CFG_SIZE]⟩,
  ⟨0x500080, [(0x10000, 8), (0x4, 9)], .plain,
    [F.ML_CRED_STATUS_AVAIL]⟩,
  ⟨0x5000c0, [(0x10000, 8)], .plain,
    [F.ML_REPLAY_STATUS_UNACKED]⟩]

def regsML1 : List RegDef := [
  ⟨0x5000c4, [(0x10000, 8)], .plain,
    [F.ML_SPILL_STATUS_SPILLED]⟩,
  ⟨0x5000c8, [(0x10000, 8)], .plain,
    [F.ML_ERR_CNT0_CRC_FAIL, F.ML_ERR_CNT0_NAKS]⟩,
  ⟨0x5000cc, [(0x10000, 8)], .plain,
    [F.ML_ERR_CNT1_REPLAYS, F.ML_ERR_CNT1_TIMER_REPLAYS]⟩,
  ⟨0x5000d0, [(0x10000, 8)], .plain,
    [F.ML_ERR_CNT2_DUPS, F.ML_ERR_CNT2_FEC_UNCORR]⟩,
  ⟨0x5000d4, [(0x10000, 8)], .plain,
    [F.ML_FEC_CNT_CORR]⟩,
  ⟨0x5000e0, [(0x10000, 8)], .plain,
    [F.ML_FLUSH_CNT_FLUSHES, F.ML_FLUSH_CNT_RESUMES, F.ML_FLUSH_CNT_POSTED_DROP]⟩,
  ⟨0x5000e8, [(0x10000, 8)], .plain,
    [F.ML_XT_STATUS_OUTSTANDING]⟩,
  ⟨0x5000ec, [(0x10000, 8)], .plain,
    [F.ML_RSP_CNT_RSP_DISCARD]⟩]

/-- The registers of block ML. -/
def regsML : List RegDef := regsML0 ++ regsML1

def regsSOLE0 : List RegDef := [
  ⟨0x600000, [], .plain,
    [F.SOLE_MATCH_CTL_ROUNDS, F.SOLE_MATCH_CTL_SEN_EN]⟩,
  ⟨0x600010, [], .plain,
    [F.SOLE_RES_RSP_CELLS]⟩,
  ⟨0x600014, [], .plain,
    [F.SOLE_RES_SNP_CELLS]⟩,
  ⟨0x600018, [], .plain,
    [F.SOLE_RES_MGMT_CELLS]⟩,
  ⟨0x60001c, [], .plain,
    [F.SOLE_MARK_CFG_AVG_W]⟩,
  ⟨0x600020, [], .plain,
    [F.SOLE_BUF_STATUS_SHARED_FREE]⟩,
  ⟨0x600024, [], .plain,
    [F.SOLE_BUF_LAND_LANDED]⟩,
  ⟨0x600028, [], .plain,
    [F.SOLE_BUF_SHARED_SHARED_SIZE]⟩,
  ⟨0x600100, [(0x4, 16)], .plain,
    [F.SOLE_CLASS_RES_MIN, F.SOLE_CLASS_RES_ALPHA, F.SOLE_CLASS_RES_BE]⟩,
  ⟨0x600140, [(0x4, 16)], .plain,
    [F.SOLE_CLASS_PROF_G_PROF, F.SOLE_CLASS_PROF_Y_PROF, F.SOLE_CLASS_PROF_R_PROF, F.SOLE_CLASS_PROF_HARD]⟩,
  ⟨0x600180, [(0x4, 16)], .plain,
    [F.SOLE_CLASS_OCC_SHARED]⟩,
  ⟨0x600200, [(0x4, 16)], .plain,
    [F.SOLE_CPROF_TH_MIN_TH, F.SOLE_CPROF_TH_MAX_TH]⟩]

def regsSOLE1 : List RegDef := [
  ⟨0x600240, [(0x4, 16)], .plain,
    [F.SOLE_CPROF_P_MAXP]⟩,
  ⟨0x600300, [(0x4, 32)], .plain,
    [F.SOLE_SEN_XB_THR, F.SOLE_SEN_XB_EN]⟩,
  ⟨0x600380, [(0x4, 20)], .plain,
    [F.SOLE_SEN_MUX_THR, F.SOLE_SEN_MUX_EN]⟩,
  ⟨0x6003e0, [(0x4, 8)], .plain,
    [F.SOLE_SEN_VC_THR, F.SOLE_SEN_VC_EN]⟩,
  ⟨0x600400, [], .plain,
    [F.SOLE_DEFER_CNT_DEFERRED]⟩,
  ⟨0x600404, [], .plain,
    [F.SOLE_MARK_CNT_HITS]⟩,
  ⟨0x600408, [], .plain,
    [F.SOLE_BE_DROP_CNT_DROPS]⟩,
  ⟨0x60040c, [], .plain,
    [F.SOLE_ECC_CNT_CORR, F.SOLE_ECC_CNT_REREAD_OK]⟩,
  ⟨0x608000, [(0x4, 64)], .plain,
    [F.SOLE_ROUTE_PRIMARY, F.SOLE_ROUTE_PVALID, F.SOLE_ROUTE_ALT, F.SOLE_ROUTE_AVALID]⟩]

/-- The registers of block SOLE. -/
def regsSOLE : List RegDef := regsSOLE0 ++ regsSOLE1

def regsSCHED0 : List RegDef := [
  ⟨0x700000, [], .plain,
    [F.SCHED_ACT_CFG_ACT_MIN]⟩,
  ⟨0x700004, [], .plain,
    [F.SCHED_ACT_STATUS_ACTIVE, F.SCHED_ACT_STATUS_WAITING]⟩,
  ⟨0x700008, [], .plain,
    [F.SCHED_ERR_CNT_REREAD_OK, F.SCHED_ERR_CNT_STATE_RESET]⟩,
  ⟨0x700100, [], .banked,
    [F.SCHED_QSEL_QIDX]⟩,
  ⟨0x700104, [], (.selected 0x700100),
    [F.SCHED_QCFG_CONF, F.SCHED_QCFG_PRIO, F.SCHED_QCFG_WEIGHT]⟩,
  ⟨0x700108, [], (.selected 0x700100),
    [F.SCHED_QALIAS_TARGET, F.SCHED_QALIAS_CONF, F.SCHED_QALIAS_ALIASED]⟩,
  ⟨0x70010c, [], (.selected 0x700100),
    [F.SCHED_QSTAT_CELLS, F.SCHED_QSTAT_ACTIVE, F.SCHED_QSTAT_CAND]⟩,
  ⟨0x700110, [], (.selected 0x700100),
    [F.SCHED_QDEF_DEFICIT]⟩,
  ⟨0x700114, [], (.selected 0x700100),
    [F.SCHED_QFIN_LO_FIN]⟩,
  ⟨0x700118, [], (.selected 0x700100),
    [F.SCHED_QFIN_HI_FIN]⟩,
  ⟨0x700200, [], .banked,
    [F.SCHED_PSEL_PAIR]⟩,
  ⟨0x700204, [], (.selected 0x700200),
    [F.SCHED_PCFG_SHP_ID, F.SCHED_PCFG_SHP_EN, F.SCHED_PCFG_MTR_ID, F.SCHED_PCFG_MTR_EN]⟩]

def regsSCHED1 : List RegDef := [
  ⟨0x700300, [], .banked,
    [F.SCHED_SSEL_SHP]⟩,
  ⟨0x700304, [], (.selected 0x700300),
    [F.SCHED_SRATE_RATE, F.SCHED_SRATE_EN]⟩,
  ⟨0x700308, [], (.selected 0x700300),
    [F.SCHED_SBURST_BURST]⟩,
  ⟨0x70030c, [], (.selected 0x700300),
    [F.SCHED_STOK_TOKENS]⟩,
  ⟨0x700400, [], .banked,
    [F.SCHED_MSEL_MTR]⟩,
  ⟨0x700404, [], (.selected 0x700400),
    [F.SCHED_MCIR_RATE]⟩,
  ⟨0x700408, [], (.selected 0x700400),
    [F.SCHED_MPIR_RATE]⟩,
  ⟨0x70040c, [], (.selected 0x700400),
    [F.SCHED_MCBS_SIZE]⟩,
  ⟨0x700410, [], (.selected 0x700400),
    [F.SCHED_MPBS_SIZE]⟩,
  ⟨0x700414, [], (.selected 0x700400),
    [F.SCHED_MCFG_AWARE]⟩,
  ⟨0x700418, [], (.selected 0x700400),
    [F.SCHED_MTOK_C_TOKENS]⟩,
  ⟨0x70041c, [], (.selected 0x700400),
    [F.SCHED_MTOK_P_TOKENS]⟩]

def regsSCHED2 : List RegDef := [
  ⟨0x701000, [(0x4, 512)], .plain,
    [F.SCHED_CMAP_MREQ, F.SCHED_CMAP_HREQ, F.SCHED_CMAP_SNP, F.SCHED_CMAP_SRSP, F.SCHED_CMAP_DRSP, F.SCHED_CMAP_IOP, F.SCHED_CMAP_IONP, F.SCHED_CMAP_IOC]⟩,
  ⟨0x702000, [(0x20, 84)], .plain,
    [F.SCHED_EGR_CFG_MODE, F.SCHED_EGR_CFG_NQ]⟩,
  ⟨0x702004, [(0x20, 84)], .plain,
    [F.SCHED_EGR_DEFQ_DEF_Q]⟩,
  ⟨0x702008, [(0x20, 84)], .plain,
    [F.SCHED_EGR_OVH_OVH_FIX, F.SCHED_EGR_OVH_OVH_SCALE]⟩,
  ⟨0x70200c, [(0x20, 84)], .plain,
    [F.SCHED_EGR_SRATE_RATE, F.SCHED_EGR_SRATE_EN]⟩,
  ⟨0x702010, [(0x20, 84)], .plain,
    [F.SCHED_EGR_SBURST_BURST]⟩,
  ⟨0x702014, [(0x20, 84)], .plain,
    [F.SCHED_EGR_STOK_TOKENS]⟩,
  ⟨0x702018, [(0x20, 84)], .plain,
    [F.SCHED_EGR_VT_LO_V]⟩,
  ⟨0x70201c, [(0x20, 84)], .plain,
    [F.SCHED_EGR_VT_HI_V]⟩]

/-- The registers of block SCHED. -/
def regsSCHED : List RegDef := regsSCHED0 ++ regsSCHED1 ++ regsSCHED2

def regsHA0 : List RegDef := [
  ⟨0x900000, [(0x40000, 4)], .plain,
    [F.HA_ID_SLICE, F.HA_ID_AGENT]⟩,
  ⟨0x900004, [(0x40000, 4)], .plain,
    [F.HA_CFG_EXCL_ON_INV]⟩,
  ⟨0x900008, [(0x40000, 4)], .plain,
    [F.HA_HOLD_WINDOW]⟩,
  ⟨0x90000c, [(0x40000, 4)], .plain,
    [F.HA_TACK_TO_LIMIT]⟩,
  ⟨0x900010, [(0x40000, 4)], .plain,
    [F.HA_SEN_THR, F.HA_SEN_EN]⟩,
  ⟨0x900014, [(0x40000, 4)], .plain,
    [F.HA_LOAD_CFG_OPT, F.HA_LOAD_CFG_MOD, F.HA_LOAD_CFG_SEV]⟩,
  ⟨0x900018, [(0x40000, 4)], .plain,
    [F.HA_CTL_RESUME_CLEAN]⟩,
  ⟨0x90001c, [(0x40000, 4)], .plain,
    [F.HA_STATUS_DEGRADED_ALL, F.HA_STATUS_CMD_REFUSED]⟩,
  ⟨0x900020, [(0x40000, 4)], .plain,
    [F.HA_TACK_STATUS_REQ_USED, F.HA_TACK_STATUS_EVT_USED]⟩,
  ⟨0x900024, [(0x40000, 4)], .plain,
    [F.HA_WAIT_STATUS_WAITING, F.HA_WAIT_STATUS_FULL]⟩,
  ⟨0x900028, [(0x40000, 4)], .plain,
    [F.HA_DIRC_STATUS_PINNED]⟩,
  ⟨0x90002c, [(0x40000, 4)], .plain,
    [F.HA_DEGR_STATUS_COUNT]⟩]

def regsHA1 : List RegDef := [
  ⟨0x900030, [(0x40000, 4)], .plain,
    [F.HA_ERR_CNT_CORR, F.HA_ERR_CNT_REREAD_OK]⟩,
  ⟨0x900034, [(0x40000, 4)], .plain,
    [F.HA_LATE_CNT_LATE, F.HA_LATE_CNT_DOMAIN_DENY]⟩,
  ⟨0x900038, [(0x40000, 4)], .plain,
    [F.HA_EVICT_CNT_LO_EVICTS]⟩,
  ⟨0x90003c, [(0x40000, 4)], .plain,
    [F.HA_EVICT_CNT_HI_EVICTS]⟩,
  ⟨0x900040, [(0x40000, 4)], .plain,
    [F.HA_CQ_LINE_WAITING, F.HA_CQ_LINE_LINES]⟩,
  ⟨0x900044, [(0x40000, 4)], .plain,
    [F.HA_CQ_SET_SET_WAIT, F.HA_CQ_SET_RES_WAIT]⟩,
  ⟨0x900048, [(0x40000, 4)], .plain,
    [F.HA_HOLD_STATUS_ACTIVE, F.HA_HOLD_STATUS_CUT]⟩,
  ⟨0x90004c, [(0x40000, 4)], .plain,
    [F.HA_XCNT_ABSORBED, F.HA_XCNT_BICONFLICT]⟩,
  ⟨0x900050, [(0x40000, 4)], .plain,
    [F.HA_XCNT2_NONOWNER_WB, F.HA_XCNT2_DCT_MATCH]⟩,
  ⟨0x900054, [(0x40000, 4)], .plain,
    [F.HA_TO_STATUS_TIMEOUTS, F.HA_TO_STATUS_LAST_FPID, F.HA_TO_STATUS_LAST_VALID]⟩,
  ⟨0x900058, [(0x40000, 4)], .plain,
    [F.HA_DEPART_STATUS_WALKING, F.HA_DEPART_STATUS_PENDING, F.HA_DEPART_STATUS_DEPARTED]⟩,
  ⟨0x90005c, [(0x40000, 4)], .plain,
    [F.HA_DEPART_CNT_DROPPED, F.HA_DEPART_CNT_POISONED]⟩]

def regsHA2 : List RegDef := [
  ⟨0x900060, [(0x40000, 4)], .plain,
    [F.HA_DEPART_CLR_FPID, F.HA_DEPART_CLR_GO]⟩,
  ⟨0x900064, [(0x40000, 4)], .plain,
    [F.HA_DCT_STATUS_USED, F.HA_DCT_STATUS_OVERFLOWS]⟩,
  ⟨0x900068, [(0x40000, 4)], .plain,
    [F.HA_MIG_STATUS_MIG_TACKS, F.HA_MIG_STATUS_LINES]⟩,
  ⟨0x900100, [], .banked,
    [F.HA_RSEL_RGN]⟩,
  ⟨0x900104, [], (.selected 0x900100),
    [F.HA_RGN_CFG_VALID, F.HA_RGN_CFG_HOME, F.HA_RGN_CFG_FMT, F.HA_RGN_CFG_DOM, F.HA_RGN_CFG_EXP_PORT, F.HA_RGN_CFG_EXP_LD]⟩,
  ⟨0x900108, [], (.selected 0x900100),
    [F.HA_RGN_BASE_LO_BASE]⟩,
  ⟨0x90010c, [], (.selected 0x900100),
    [F.HA_RGN_BASE_HI_BASE]⟩,
  ⟨0x900110, [], (.selected 0x900100),
    [F.HA_RGN_SIZE_SIZE]⟩,
  ⟨0x900200, [], .banked,
    [F.HA_DSEL_DOM, F.HA_DSEL_MBR]⟩,
  ⟨0x900204, [], (.selected 0x900200),
    [F.HA_DMEM_FPID, F.HA_DMEM_VALID]⟩,
  ⟨0x900300, [(0x40000, 4)], .banked,
    [F.HA_DGSEL_IDX]⟩,
  ⟨0x900304, [(0x40000, 4)], (.selected 0x900300),
    [F.HA_DGSET_SET, F.HA_DGSET_VALID]⟩]

def regsHA3 : List RegDef := [
  ⟨0x900400, [], .plain,
    [F.HA_LWT_STATUS_RECORDS, F.HA_LWT_STATUS_RESENT]⟩]

/-- The registers of block HA. -/
def regsHA : List RegDef := regsHA0 ++ regsHA1 ++ regsHA2 ++ regsHA3

def regsINS0 : List RegDef := [
  ⟨0xa00000, [], .plain,
    [F.INS_ID_CHANNELS, F.INS_ID_GIB_PER_CH]⟩,
  ⟨0xa00004, [], .plain,
    [F.INS_CARVE_POOL_UNITS, F.INS_CARVE_CACHE_UNITS, F.INS_CARVE_MIRROR]⟩,
  ⟨0xa00008, [], .plain,
    [F.INS_ARB_W_POOL, F.INS_ARB_W_HOME, F.INS_ARB_W_SVC]⟩,
  ⟨0xa0000c, [], .plain,
    [F.INS_SCRUB_CFG_RATE]⟩,
  ⟨0xa00010, [(0x4, 4)], .plain,
    [F.INS_CH_STATUS_TRAINED, F.INS_CH_STATUS_FENCED, F.INS_CH_STATUS_PASSES]⟩,
  ⟨0xa00020, [(0x4, 4)], .plain,
    [F.INS_ECC_CNT_CORR, F.INS_ECC_CNT_REREAD_OK]⟩,
  ⟨0xa00030, [], .plain,
    [F.INS_UE_LOG_LO_DPA]⟩,
  ⟨0xa00034, [], .plain,
    [F.INS_UE_LOG_HI_DPA, F.INS_UE_LOG_HI_VALID]⟩,
  ⟨0xa00038, [], .plain,
    [F.INS_MIRROR_CNT_REPAIRS, F.INS_MIRROR_CNT_FENCED_READS]⟩,
  ⟨0xa00040, [], .plain,
    [F.INS_LOAD_CFG_OPT, F.INS_LOAD_CFG_MOD, F.INS_LOAD_CFG_SEV]⟩,
  ⟨0xa00100, [], .banked,
    [F.INS_OSEL_OBJ]⟩,
  ⟨0xa00104, [], (.selected 0xa00100),
    [F.INS_OBJ_CFG_VALID, F.INS_OBJ_CFG_KIND, F.INS_OBJ_CFG_FIRST, F.INS_OBJ_CFG_COUNT]⟩]

def regsINS1 : List RegDef := [
  ⟨0xa00200, [], .banked,
    [F.INS_ESEL_ENT]⟩,
  ⟨0xa00204, [], (.selected 0xa00200),
    [F.INS_EXT_PEXT]⟩,
  ⟨0xa00210, [], .banked,
    [F.INS_PSEL_PEXT]⟩,
  ⟨0xa00214, [], (.selected 0xa00210),
    [F.INS_PEXT_STATE, F.INS_PEXT_OBJ]⟩,
  ⟨0xa00300, [], .banked,
    [F.INS_TRSEL_RNG]⟩,
  ⟨0xa00304, [], (.selected 0xa00300),
    [F.INS_TR_CFG_VALID, F.INS_TR_CFG_PROMOTE, F.INS_TR_CFG_PROMOTE_ON_WAKE, F.INS_TR_CFG_PORT, F.INS_TR_CFG_LD, F.INS_TR_CFG_SHELF]⟩,
  ⟨0xa00308, [], (.selected 0xa00300),
    [F.INS_TR_BASE_BASE_GIB]⟩,
  ⟨0xa0030c, [], (.selected 0xa00300),
    [F.INS_TR_SIZE_SIZE_GIB, F.INS_TR_SIZE_RT_BASE]⟩,
  ⟨0xa00400, [], .plain,
    [F.INS_TIER_CFG_SAMPLE, F.INS_TIER_CFG_DECAY, F.INS_TIER_CFG_MIG_OPEN, F.INS_TIER_CFG_MIG_BUDGET]⟩,
  ⟨0xa00404, [], .plain,
    [F.INS_TIER_TH_PROMO_TH, F.INS_TIER_TH_DEMO_TH]⟩,
  ⟨0xa00408, [], .plain,
    [F.INS_TIER_STATUS_SCANNING, F.INS_TIER_STATUS_OPEN, F.INS_TIER_STATUS_SKIPS, F.INS_TIER_STATUS_FREE_FRAMES_K]⟩,
  ⟨0xa0040c, [], .plain,
    [F.INS_TIER_CNT_PROMOTIONS, F.INS_TIER_CNT_DEMOTIONS]⟩]

def regsINS2 : List RegDef := [
  ⟨0xa00410, [], .plain,
    [F.INS_TIER_CNT2_ABANDONED, F.INS_TIER_CNT2_NOFRAME]⟩,
  ⟨0xa0041c, [], .plain,
    [F.INS_GCMD_GRAN_GRANULE]⟩,
  ⟨0xa00420, [], .plain,
    [F.INS_GCMD_RNG, F.INS_GCMD_OP, F.INS_GCMD_GO]⟩,
  ⟨0xa00424, [], .plain,
    [F.INS_GCMD_STATUS_STATE, F.INS_GCMD_STATUS_ERR, F.INS_GCMD_STATUS_GSTATE]⟩,
  ⟨0xa00500, [], .banked,
    [F.INS_SHSEL_SHELF]⟩,
  ⟨0xa00504, [], (.selected 0xa00500),
    [F.INS_SHELF_CMD_CLEAN, F.INS_SHELF_CMD_RELEASE]⟩,
  ⟨0xa00508, [], (.selected 0xa00500),
    [F.INS_SHELF_STATUS_STATE, F.INS_SHELF_STATUS_UNCLEANED, F.INS_SHELF_STATUS_REFUSED, F.INS_SHELF_STATUS_HELD, F.INS_SHELF_STATUS_DIRTY]⟩,
  ⟨0xa00600, [], .plain,
    [F.INS_TAG_ADDR_LO_DPA]⟩,
  ⟨0xa00604, [], .plain,
    [F.INS_TAG_ADDR_HI_DPA]⟩,
  ⟨0xa00608, [], .plain,
    [F.INS_TAG_WR_TAG, F.INS_TAG_WR_GO, F.INS_TAG_WR_REFUSED]⟩]

/-- The registers of block INS. -/
def regsINS : List RegDef := regsINS0 ++ regsINS1 ++ regsINS2

def regsBND0 : List RegDef := [
  ⟨0xb00000, [], .plain,
    [F.BND_ID_VSW, F.BND_ID_VPPB]⟩,
  ⟨0xb00004, [], .plain,
    [F.BND_FM_OWNER_EID, F.BND_FM_OWNER_SW, F.BND_FM_OWNED, F.BND_FM_LEASE]⟩,
  ⟨0xb00008, [], .plain,
    [F.BND_CFG_DISC_LIMIT]⟩,
  ⟨0xb00100, [(0x4, 64)], .plain,
    [F.BND_VSW_UPORT, F.BND_VSW_FIRST, F.BND_VSW_COUNT, F.BND_VSW_VALID]⟩,
  ⟨0xb00200, [], .banked,
    [F.BND_VSEL_VPPB]⟩,
  ⟨0xb00204, [], (.selected 0xb00200),
    [F.BND_VPPB_POL_KIND, F.BND_VPPB_POL_PORT, F.BND_VPPB_POL_LD_OBJ, F.BND_VPPB_POL_SLICE, F.BND_VPPB_POL_SN_EN]⟩,
  ⟨0xb00208, [], (.selected 0xb00200),
    [F.BND_VPPB_SN_LO_SN]⟩,
  ⟨0xb0020c, [], (.selected 0xb00200),
    [F.BND_VPPB_SN_HI_SN]⟩,
  ⟨0xb00210, [], (.selected 0xb00200),
    [F.BND_VPPB_BIND_TARGET, F.BND_VPPB_BIND_BOUND]⟩,
  ⟨0xb00220, [], (.selected 0xb00200),
    [F.BND_BCMD_OP, F.BND_BCMD_UMODE, F.BND_BCMD_KIND, F.BND_BCMD_PORT, F.BND_BCMD_LD_OBJ, F.BND_BCMD_SLICE, F.BND_BCMD_GO]⟩,
  ⟨0xb00224, [], (.selected 0xb00200),
    [F.BND_BCMD_STATUS_STATE, F.BND_BCMD_STATUS_REASON]⟩,
  ⟨0xb00300, [], .banked,
    [F.BND_SSEL_SLICE]⟩]

def regsBND1 : List RegDef := [
  ⟨0xb00304, [], (.selected 0xb00300),
    [F.BND_SL_CFG_VALID, F.BND_SL_CFG_PROTECTED, F.BND_SL_CFG_DRAIN]⟩,
  ⟨0xb00308, [], (.selected 0xb00300),
    [F.BND_SL_STATUS_STATE, F.BND_SL_STATUS_OUT]⟩,
  ⟨0xb0030c, [], (.selected 0xb00300),
    [F.BND_SL_CMD_OP, F.BND_SL_CMD_MODE, F.BND_SL_CMD_SCOPE, F.BND_SL_CMD_GO]⟩,
  ⟨0xb00310, [], (.selected 0xb00300),
    [F.BND_SL_TGT_LO_TGT]⟩,
  ⟨0xb00314, [], (.selected 0xb00300),
    [F.BND_SL_TGT_HI_TGT]⟩,
  ⟨0xb00318, [], (.selected 0xb00300),
    [F.BND_SL_CMD_STATUS_STATE, F.BND_SL_CMD_STATUS_ERR, F.BND_SL_CMD_STATUS_SQUASHED]⟩,
  ⟨0xb00400, [], .banked,
    [F.BND_KSEL_KEY]⟩,
  ⟨0xb00404, [], (.selected 0xb00400),
    [F.BND_KEY_VALID, F.BND_KEY_NOPASID, F.BND_KEY_AGENT, F.BND_KEY_PASID]⟩,
  ⟨0xb00408, [], (.selected 0xb00400),
    [F.BND_KEY_SL_SLICE]⟩,
  ⟨0xb00500, [(0x4, 14)], .plain,
    [F.BND_AGSL_SLICE]⟩,
  ⟨0xb00600, [], .plain,
    [F.BND_WAKE_CFG_RATE, F.BND_WAKE_CFG_CAP]⟩,
  ⟨0xb00604, [], .plain,
    [F.BND_WAKE_STATUS_TOKENS, F.BND_WAKE_STATUS_QUEUED]⟩]

def regsBND2 : List RegDef := [
  ⟨0xb00640, [(0x4, 20)], .plain,
    [F.BND_WCOST_COST]⟩,
  ⟨0xb00700, [], .banked,
    [F.BND_SHSEL_SHELF]⟩,
  ⟨0xb00704, [], (.selected 0xb00700),
    [F.BND_SHELF_CFG_VALID, F.BND_SHELF_CFG_PARK_EN, F.BND_SHELF_CFG_COST]⟩,
  ⟨0xb00708, [], (.selected 0xb00700),
    [F.BND_SHELF_TIME_PARK_IDLE, F.BND_SHELF_TIME_WAKE_LIMIT]⟩,
  ⟨0xb0070c, [], (.selected 0xb00700),
    [F.BND_SHELF_PORTS_LO_PORTS]⟩,
  ⟨0xb00710, [], (.selected 0xb00700),
    [F.BND_SHELF_PORTS_HI_PORTS]⟩,
  ⟨0xb00714, [], (.selected 0xb00700),
    [F.BND_SHELF_CMD_PARK, F.BND_SHELF_CMD_WAKE]⟩,
  ⟨0xb00718, [], (.selected 0xb00700),
    [F.BND_SHELF_STATUS_STATE, F.BND_SHELF_STATUS_ERR, F.BND_SHELF_STATUS_WAKES]⟩,
  ⟨0xb00800, [], .banked,
    [F.BND_PSEL_PORT]⟩,
  ⟨0xb00804, [], (.selected 0xb00800),
    [F.BND_PARTNER_KIND, F.BND_PARTNER_LDS, F.BND_PARTNER_DCD, F.BND_PARTNER_XR, F.BND_PARTNER_SN_VALID, F.BND_PARTNER_VENDOR]⟩,
  ⟨0xb00808, [], (.selected 0xb00800),
    [F.BND_PARTNER_SN_LO_SN]⟩,
  ⟨0xb0080c, [], (.selected 0xb00800),
    [F.BND_PARTNER_SN_HI_SN]⟩]

/-- The registers of block BND. -/
def regsBND : List RegDef := regsBND0 ++ regsBND1 ++ regsBND2

def regsVAMP0 : List RegDef := [
  ⟨0xc00000, [], .plain,
    [F.VAMP_NP_TO_LIMIT]⟩,
  ⟨0xc00004, [], .plain,
    [F.VAMP_LOCK_TO_LIMIT]⟩,
  ⟨0xc00008, [], .plain,
    [F.VAMP_PF_CFG_AGE, F.VAMP_PF_CFG_DISC_TH]⟩,
  ⟨0xc0000c, [], .plain,
    [F.VAMP_STATUS_NP_OUT, F.VAMP_STATUS_NP_IN]⟩,
  ⟨0xc00010, [], .plain,
    [F.VAMP_CNT_LATE, F.VAMP_CNT_CFG_IGN]⟩,
  ⟨0xc00014, [], .plain,
    [F.VAMP_CNT2_MSG_CONSUMED, F.VAMP_CNT2_LOCK_BREAKS, F.VAMP_CNT2_ATTR_REJ]⟩,
  ⟨0xc00100, [], .banked,
    [F.VAMP_FSEL_FN]⟩,
  ⟨0xc00104, [], (.selected 0xc00100),
    [F.VAMP_FN_CFG_VALID, F.VAMP_FN_CFG_PORT, F.VAMP_FN_CFG_RTID]⟩,
  ⟨0xc00108, [], (.selected 0xc00100),
    [F.VAMP_FN_STATUS_BINDINGS, F.VAMP_FN_STATUS_OWNER, F.VAMP_FN_STATUS_OWNER_VALID]⟩,
  ⟨0xc00200, [], .banked,
    [F.VAMP_WSEL_WIN]⟩,
  ⟨0xc00204, [], (.selected 0xc00200),
    [F.VAMP_WIN_CFG_VALID, F.VAMP_WIN_CFG_DIR, F.VAMP_WIN_CFG_FN, F.VAMP_WIN_CFG_BAR, F.VAMP_WIN_CFG_RD, F.VAMP_WIN_CFG_WR, F.VAMP_WIN_CFG_PF, F.VAMP_WIN_CFG_MSG, F.VAMP_WIN_CFG_PF_LEN, F.VAMP_WIN_CFG_SZ_LOG2]⟩,
  ⟨0xc00208, [], (.selected 0xc00200),
    [F.VAMP_WIN_DBASE_LO_DBASE]⟩]

def regsVAMP1 : List RegDef := [
  ⟨0xc0020c, [], (.selected 0xc00200),
    [F.VAMP_WIN_DBASE_HI_DBASE]⟩,
  ⟨0xc00210, [], (.selected 0xc00200),
    [F.VAMP_WIN_TGT_TKIND, F.VAMP_WIN_TGT_VPPB, F.VAMP_WIN_TGT_OBJ, F.VAMP_WIN_TGT_SW]⟩,
  ⟨0xc00214, [], (.selected 0xc00200),
    [F.VAMP_WIN_TBASE_LO_TBASE]⟩,
  ⟨0xc00218, [], (.selected 0xc00200),
    [F.VAMP_WIN_TBASE_HI_TBASE]⟩,
  ⟨0xc0021c, [], (.selected 0xc00200),
    [F.VAMP_WIN_PFSTAT_USED, F.VAMP_WIN_PFSTAT_DISC]⟩,
  ⟨0xc00220, [], (.selected 0xc00200),
    [F.VAMP_WIN_PFERR_PF_ERR]⟩,
  ⟨0xc00300, [], .banked,
    [F.VAMP_LSEL_PORT]⟩,
  ⟨0xc00304, [], (.selected 0xc00300),
    [F.VAMP_LOCK_STATUS_HELD, F.VAMP_LOCK_STATUS_HOLDER, F.VAMP_LOCK_STATUS_QUEUED]⟩]

/-- The registers of block VAMP. -/
def regsVAMP : List RegDef := regsVAMP0 ++ regsVAMP1

def regsEYE0 : List RegDef := [
  ⟨0xd00000, [(0x4, 86)], .plain,
    [F.EYE_SLOT_FIRST, F.EYE_SLOT_COUNT, F.EYE_SLOT_KEY, F.EYE_SLOT_ANYTAG]⟩,
  ⟨0xd00400, [], .banked,
    [F.EYE_WSEL_WIN]⟩,
  ⟨0xd00404, [], (.selected 0xd00400),
    [F.EYE_WIN_BASE_LO_BASE]⟩,
  ⟨0xd00408, [], (.selected 0xd00400),
    [F.EYE_WIN_BASE_HI_BASE]⟩,
  ⟨0xd0040c, [], (.selected 0xd00400),
    [F.EYE_WIN_LIM_LO_LIMIT]⟩,
  ⟨0xd00410, [], (.selected 0xd00400),
    [F.EYE_WIN_LIM_HI_LIMIT]⟩,
  ⟨0xd00414, [], (.selected 0xd00400),
    [F.EYE_WIN_ATTR_SPACE, F.EYE_WIN_ATTR_RD, F.EYE_WIN_ATTR_WR, F.EYE_WIN_ATTR_CACHE, F.EYE_WIN_ATTR_ATOM, F.EYE_WIN_ATTR_KEY_EN, F.EYE_WIN_ATTR_KEY, F.EYE_WIN_ATTR_SL_EN, F.EYE_WIN_ATTR_SLICE, F.EYE_WIN_ATTR_ID]⟩,
  ⟨0xd00500, [], .plain,
    [F.EYE_VIOL_SEQ_SEQ]⟩,
  ⟨0xd00504, [], .plain,
    [F.EYE_VIOL_STATUS_QUEUED, F.EYE_VIOL_STATUS_LOST]⟩,
  ⟨0xd00508, [], .plain,
    [F.EYE_VIOL_LAST_LO_ADDR]⟩,
  ⟨0xd0050c, [], .plain,
    [F.EYE_VIOL_LAST_HI_ADDR]⟩,
  ⟨0xd00510, [], .plain,
    [F.EYE_VIOL_LAST_INFO_REASON, F.EYE_VIOL_LAST_INFO_KIND, F.EYE_VIOL_LAST_INFO_SLOT, F.EYE_VIOL_LAST_INFO_SLICE]⟩]

/-- The registers of block EYE. -/
def regsEYE : List RegDef := regsEYE0

def regsCLK0 : List RegDef := [
  ⟨0xe00000, [(0x4, 4)], .plain,
    [F.CLK_CORE_CTL_RESET, F.CLK_CORE_CTL_HOLD]⟩,
  ⟨0xe00010, [(0x4, 4)], .plain,
    [F.CLK_CORE_STATUS_STATE, F.CLK_CORE_STATUS_SB, F.CLK_CORE_STATUS_OUT]⟩,
  ⟨0xe00020, [(0x4, 4)], .plain,
    [F.CLK_IRQ_EN_EPOCH, F.CLK_IRQ_EN_EVENT, F.CLK_IRQ_EN_STERR, F.CLK_IRQ_EN_COB, F.CLK_IRQ_EN_MBOX]⟩,
  ⟨0xe00030, [(0x4, 4)], .plain,
    [F.CLK_IRQ_PEND_EPOCH, F.CLK_IRQ_PEND_EVENT, F.CLK_IRQ_PEND_STERR, F.CLK_IRQ_PEND_COB, F.CLK_IRQ_PEND_MBOX]⟩,
  ⟨0xe00040, [(0x8, 4)], .plain,
    [F.CLK_STERR_ADDR_LO_ADDR]⟩,
  ⟨0xe00044, [(0x8, 4)], .plain,
    [F.CLK_STERR_ADDR_HI_ADDR]⟩,
  ⟨0xe00060, [(0x4, 4)], .plain,
    [F.CLK_STERR_INFO_CAUSE, F.CLK_STERR_INFO_COUNT, F.CLK_STERR_INFO_LATE]⟩,
  ⟨0xe00070, [], .plain,
    [F.CLK_STO_LIMIT]⟩,
  ⟨0xe00100, [], .banked,
    [F.CLK_RSEL_ENT]⟩,
  ⟨0xe00104, [], (.selected 0xe00100),
    [F.CLK_RAT_BASE_ADDR]⟩,
  ⟨0xe00108, [], (.selected 0xe00100),
    [F.CLK_RAT_LIM_ADDR]⟩,
  ⟨0xe0010c, [], (.selected 0xe00100),
    [F.CLK_RAT_ATTR_VALID, F.CLK_RAT_ATTR_EA]⟩]

def regsCLK1 : List RegDef := [
  ⟨0xe00200, [], .plain,
    [F.CLK_MCTP_CFG_VDM_EN, F.CLK_MCTP_CFG_I3C_EN, F.CLK_MCTP_CFG_BRIDGE_EN]⟩,
  ⟨0xe00204, [], .plain,
    [F.CLK_MCTP_STATUS_VDM_EID, F.CLK_MCTP_STATUS_I3C_EID, F.CLK_MCTP_STATUS_POOL_BASE, F.CLK_MCTP_STATUS_POOL_VALID]⟩,
  ⟨0xe00208, [], .plain,
    [F.CLK_MCTP_CNT_UNSUPPORTED, F.CLK_MCTP_CNT_REASM_DROP, F.CLK_MCTP_CNT_UNROUTED]⟩,
  ⟨0xe00300, [], .plain,
    [F.CLK_EVT_SEQ_NEXT]⟩,
  ⟨0xe00304, [], .plain,
    [F.CLK_EVT_STATUS_KEYS, F.CLK_EVT_STATUS_OVERFLOWS]⟩,
  ⟨0xe00310, [(0x4, 8)], .plain,
    [F.CLK_EVT_RATE_RATE, F.CLK_EVT_RATE_BURST]⟩,
  ⟨0xe00330, [(0x4, 8)], .plain,
    [F.CLK_EVT_SUPP_SUPPRESSED]⟩,
  ⟨0xe00350, [(0x4, 4)], .plain,
    [F.CLK_EVT_SUB_VALID, F.CLK_EVT_SUB_PATH, F.CLK_EVT_SUB_EID, F.CLK_EVT_SUB_CLASSES]⟩,
  ⟨0xe00400, [], .plain,
    [F.CLK_SHANK_STATUS_RETRIES, F.CLK_SHANK_STATUS_FAIL_X, F.CLK_SHANK_STATUS_FAIL_Y, F.CLK_SHANK_STATUS_FAIL_VALID]⟩,
  ⟨0xe00410, [(0x4, 20)], .plain,
    [F.CLK_SHANK_MAP_SLOT0, F.CLK_SHANK_MAP_SLOT1, F.CLK_SHANK_MAP_SLOT2, F.CLK_SHANK_MAP_SLOT3, F.CLK_SHANK_MAP_SLOT4, F.CLK_SHANK_MAP_SLOT5, F.CLK_SHANK_MAP_SLOT6, F.CLK_SHANK_MAP_SLOT7, F.CLK_SHANK_MAP_SLOT8, F.CLK_SHANK_MAP_SLOT9, F.CLK_SHANK_MAP_SLOT10, F.CLK_SHANK_MAP_SLOT11, F.CLK_SHANK_MAP_SLOT12, F.CLK_SHANK_MAP_SLOT13, F.CLK_SHANK_MAP_SLOT14, F.CLK_SHANK_MAP_SLOT15]⟩,
  ⟨0xe00460, [], .plain,
    [F.CLK_SHANK_SEN_THR, F.CLK_SHANK_SEN_EN]⟩]

/-- The registers of block CLK. -/
def regsCLK : List RegDef := regsCLK0 ++ regsCLK1

def regsFLT0 : List RegDef := [
  ⟨0xf00000, [(0x4, 3)], .plain,
    [F.FLT_SUM_ANY]⟩,
  ⟨0xf00010, [], .plain,
    [F.FLT_CLR_STATUS_REFUSED, F.FLT_CLR_STATUS_LAST, F.FLT_CLR_STATUS_LAST_VALID]⟩,
  ⟨0xf00014, [], .plain,
    [F.FLT_LOG_SEQ_NEXT]⟩,
  ⟨0xf00020, [], .plain,
    [F.FLT_GPF_CFG_P1_MS, F.FLT_GPF_CFG_P2_MS]⟩,
  ⟨0xf00024, [], .plain,
    [F.FLT_PWRDN_CTL_GO, F.FLT_PWRDN_CTL_ABORT]⟩,
  ⟨0xf00028, [], .plain,
    [F.FLT_PWRDN_CFG_DRAIN_LIMIT, F.FLT_PWRDN_CFG_CLEAN_LIMIT]⟩,
  ⟨0xf0002c, [], .plain,
    [F.FLT_PWRDN_STATUS_STEP, F.FLT_PWRDN_STATUS_DRAIN_TO, F.FLT_PWRDN_STATUS_CLEAN_TO, F.FLT_PWRDN_STATUS_DIRTY_LEFT]⟩,
  ⟨0xf00030, [], .plain,
    [F.FLT_RESTART_IMAGE, F.FLT_RESTART_GO]⟩,
  ⟨0xf00034, [], .plain,
    [F.FLT_RESTART_STATUS_STATE, F.FLT_RESTART_STATUS_REFUSED, F.FLT_RESTART_STATUS_REVERTED]⟩,
  ⟨0xf01000, [(0x4, 72)], .plain,
    [F.FLT_STICKY_S]⟩,
  ⟨0xf02000, [(0x4, 288)], .plain,
    [F.FLT_REACT_REACT0, F.FLT_REACT_ALERT0, F.FLT_REACT_REACT1, F.FLT_REACT_ALERT1, F.FLT_REACT_REACT2, F.FLT_REACT_ALERT2, F.FLT_REACT_REACT3, F.FLT_REACT_ALERT3, F.FLT_REACT_REACT4, F.FLT_REACT_ALERT4, F.FLT_REACT_REACT5, F.FLT_REACT_ALERT5, F.FLT_REACT_REACT6, F.FLT_REACT_ALERT6, F.FLT_REACT_REACT7, F.FLT_REACT_ALERT7]⟩]

/-- The registers of block FLT. -/
def regsFLT : List RegDef := regsFLT0

def regsPMC0 : List RegDef := [
  ⟨0x1000000, [(0x100, 34)], .plain,
    [F.PMC_CYC_LO_CYC]⟩,
  ⟨0x1000004, [(0x100, 34)], .plain,
    [F.PMC_CYC_HI_CYC]⟩,
  ⟨0x1000008, [(0x100, 34)], .banked,
    [F.PMC_CYC_RD_LO_CYC]⟩,
  ⟨0x100000c, [(0x100, 34)], .banked,
    [F.PMC_CYC_RD_HI_CYC]⟩,
  ⟨0x1000010, [(0x100, 34), (0x8, 8)], .plain,
    [F.PMC_CTR_LO_CNT]⟩,
  ⟨0x1000014, [(0x100, 34), (0x8, 8)], .plain,
    [F.PMC_CTR_HI_CNT]⟩,
  ⟨0x1000050, [(0x100, 34), (0x4, 8)], .plain,
    [F.PMC_SEL_EVENT, F.PMC_SEL_UNIT, F.PMC_SEL_UNIT_EN, F.PMC_SEL_SLICE, F.PMC_SEL_SLICE_EN, F.PMC_SEL_EN]⟩,
  ⟨0x1000070, [(0x100, 34)], .plain,
    [F.PMC_CBCTL_CHAIN]⟩,
  ⟨0x1000074, [(0x100, 34)], .plain,
    [F.PMC_OVF_OVF]⟩,
  ⟨0x1000078, [(0x100, 34)], .plain,
    [F.PMC_CBID_KIND, F.PMC_CBID_BLOCK]⟩,
  ⟨0x1008000, [], .plain,
    [F.PMC_ACCT_CFG_DST, F.PMC_ACCT_CFG_FRAMES, F.PMC_ACCT_CFG_EN]⟩,
  ⟨0x1008004, [], .plain,
    [F.PMC_ACCT_BASE_LO_BASE]⟩]

def regsPMC1 : List RegDef := [
  ⟨0x1008008, [], .plain,
    [F.PMC_ACCT_BASE_HI_BASE]⟩,
  ⟨0x100800c, [], .plain,
    [F.PMC_ACCT_HOST_PORT, F.PMC_ACCT_HOST_PASID, F.PMC_ACCT_HOST_PASID_EN]⟩,
  ⟨0x1008010, [], .plain,
    [F.PMC_ACCT_ACK_SEQ]⟩,
  ⟨0x1008014, [], .plain,
    [F.PMC_ACCT_SEQ_NEXT]⟩,
  ⟨0x1008018, [], .plain,
    [F.PMC_ACCT_STATUS_BUSY, F.PMC_ACCT_STATUS_SKIPPED, F.PMC_ACCT_STATUS_LOST]⟩,
  ⟨0x100801c, [], .plain,
    [F.PMC_ACCT_SLOT_NEXT]⟩,
  ⟨0x1008020, [], .banked,
    [F.PMC_ASEL_SLICE, F.PMC_ASEL_CTR]⟩,
  ⟨0x1008024, [], (.selected 0x1008020),
    [F.PMC_ACTR_LO_VAL]⟩,
  ⟨0x1008028, [], (.selected 0x1008020),
    [F.PMC_ACTR_HI_VAL]⟩]

/-- The registers of block PMC. -/
def regsPMC : List RegDef := regsPMC0 ++ regsPMC1

def regsLAST0 : List RegDef := [
  ⟨0x1100000, [], .plain,
    [F.LAST_LOAD_CTL_START, F.LAST_LOAD_CTL_ABORT, F.LAST_LOAD_CTL_SRC]⟩,
  ⟨0x1100004, [], .plain,
    [F.LAST_LOAD_LEN_LEN]⟩,
  ⟨0x1100008, [], .plain,
    [F.LAST_LOAD_STATUS_STATE, F.LAST_LOAD_STATUS_START_REFUSED, F.LAST_LOAD_STATUS_BOOT, F.LAST_LOAD_STATUS_CODE, F.LAST_LOAD_STATUS_SECTION]⟩,
  ⟨0x110000c, [], .plain,
    [F.LAST_LOAD_ITEM_OFS]⟩,
  ⟨0x1100010, [], .plain,
    [F.LAST_LOAD_FIELD_CSR_OFS, F.LAST_LOAD_FIELD_LSB, F.LAST_LOAD_FIELD_VALID]⟩,
  ⟨0x1100020, [], .plain,
    [F.LAST_ACTIVE_ID_LO_ID]⟩,
  ⟨0x1100024, [], .plain,
    [F.LAST_ACTIVE_ID_HI_ID]⟩,
  ⟨0x1100028, [], .plain,
    [F.LAST_STAGED_ID_LO_ID]⟩,
  ⟨0x110002c, [], .plain,
    [F.LAST_STAGED_ID_HI_ID]⟩,
  ⟨0x1100030, [], .plain,
    [F.LAST_ID_STATUS_MIXED]⟩,
  ⟨0x1100034, [], .plain,
    [F.LAST_SVN_SVN]⟩,
  ⟨0x1100038, [], .plain,
    [F.LAST_SVN_MIN_MIN]⟩]

def regsLAST1 : List RegDef := [
  ⟨0x1100040, [], .plain,
    [F.LAST_BOOT_IMAGE, F.LAST_BOOT_FALLBACK, F.LAST_BOOT_CONFIRM, F.LAST_BOOT_TRIES]⟩,
  ⟨0x1100044, [], .plain,
    [F.LAST_BOOT_PREF_PREFER]⟩,
  ⟨0x1100048, [], .plain,
    [F.LAST_LOCK_LOCKED]⟩,
  ⟨0x1100100, [], .plain,
    [F.LAST_SWAP_TGT_LO_TGT]⟩,
  ⟨0x1100104, [], .plain,
    [F.LAST_SWAP_TGT_HI_TGT]⟩,
  ⟨0x1100108, [], .plain,
    [F.LAST_SWAP_CTL_MASK, F.LAST_SWAP_CTL_SCOPE, F.LAST_SWAP_CTL_MODE, F.LAST_SWAP_CTL_ARM, F.LAST_SWAP_CTL_DISARM]⟩,
  ⟨0x110010c, [], .plain,
    [F.LAST_SWAP_STATUS_STATE, F.LAST_SWAP_STATUS_ERR, F.LAST_SWAP_STATUS_LATE]⟩,
  ⟨0x1100110, [], .plain,
    [F.LAST_SWAP_DONE_LO_DONE]⟩,
  ⟨0x1100114, [], .plain,
    [F.LAST_SWAP_DONE_HI_DONE]⟩,
  ⟨0x1100118, [], .banked,
    [F.LAST_VIEW_CTL_VIEW_ACTIVE]⟩]

/-- The registers of block LAST. -/
def regsLAST : List RegDef := regsLAST0 ++ regsLAST1

def regsCOB0 : List RegDef := [
  ⟨0x1200000, [], .plain,
    [F.COB_CFG_MAX_OPEN]⟩,
  ⟨0x1200004, [], .plain,
    [F.COB_TO_LIMIT]⟩,
  ⟨0x1200008, [], .plain,
    [F.COB_STATUS_OPEN, F.COB_STATUS_SANITISING]⟩,
  ⟨0x120000c, [], .plain,
    [F.COB_CNT_DONE, F.COB_CNT_ERRORS]⟩,
  ⟨0x1200100, [], .banked,
    [F.COB_QSEL_QP]⟩,
  ⟨0x1200104, [], (.selected 0x1200100),
    [F.COB_QP_CFG_VALID, F.COB_QP_CFG_PRIV, F.COB_QP_CFG_RING_DPA, F.COB_QP_CFG_SQ_LOG2, F.COB_QP_CFG_CQ_LOG2, F.COB_QP_CFG_DEPTH, F.COB_QP_CFG_NOTIFY_EN, F.COB_QP_CFG_VEC, F.COB_QP_CFG_PORT]⟩,
  ⟨0x1200108, [], (.selected 0x1200100),
    [F.COB_QP_PASID_PASID, F.COB_QP_PASID_PASID_EN]⟩,
  ⟨0x1200110, [], (.selected 0x1200100),
    [F.COB_SQ_BASE_LO_ADDR]⟩,
  ⟨0x1200114, [], (.selected 0x1200100),
    [F.COB_SQ_BASE_HI_ADDR]⟩,
  ⟨0x1200118, [], (.selected 0x1200100),
    [F.COB_CQ_BASE_LO_ADDR]⟩,
  ⟨0x120011c, [], (.selected 0x1200100),
    [F.COB_CQ_BASE_HI_ADDR]⟩,
  ⟨0x1200120, [], (.selected 0x1200100),
    [F.COB_QP_CTL_ENABLE, F.COB_QP_CTL_DISABLE]⟩]

def regsCOB1 : List RegDef := [
  ⟨0x1200124, [], (.selected 0x1200100),
    [F.COB_QP_DB_SQ_TAIL, F.COB_QP_DB_CQ_HEAD]⟩,
  ⟨0x1200128, [], (.selected 0x1200100),
    [F.COB_QP_STATE_SQ_HEAD, F.COB_QP_STATE_STATE, F.COB_QP_STATE_CQ_FULL]⟩,
  ⟨0x120012c, [], (.selected 0x1200100),
    [F.COB_QP_ERR_IGNORED_DB]⟩]

/-- The registers of block COB. -/
def regsCOB : List RegDef := regsCOB0 ++ regsCOB1

def regsSEC0 : List RegDef := [
  ⟨0x1300000, [], .plain,
    [F.SEC_STATUS_LIFECYCLE, F.SEC_STATUS_DEBUG, F.SEC_STATUS_APPROVED, F.SEC_STATUS_SELFTEST_OK, F.SEC_STATUS_ERROR]⟩,
  ⟨0x1300004, [], .plain,
    [F.SEC_NONCE_LO_NONCE]⟩,
  ⟨0x1300008, [], .plain,
    [F.SEC_NONCE_HI_NONCE]⟩,
  ⟨0x1300010, [], .plain,
    [F.SEC_CMD_OP, F.SEC_CMD_GO]⟩,
  ⟨0x1300014, [], .plain,
    [F.SEC_CMD_STATUS_STATE, F.SEC_CMD_STATUS_ERR]⟩,
  ⟨0x1300018, [], .plain,
    [F.SEC_FW_SVN_SVN]⟩,
  ⟨0x130001c, [], .plain,
    [F.SEC_FW_SVN_MIN_SVN]⟩,
  ⟨0x1300020, [], .plain,
    [F.SEC_IDE_CFG_REKEY]⟩,
  ⟨0x1300100, [], .banked,
    [F.SEC_KSEL_ENTRY]⟩,
  ⟨0x1300104, [], (.selected 0x1300100),
    [F.SEC_KEY_INFO_STATE, F.SEC_KEY_INFO_USAGE]⟩,
  ⟨0x1300108, [(0x4, 12)], (.selected 0x1300100),
    [F.SEC_KEY_ID_ID]⟩]

/-- The registers of block SEC. -/
def regsSEC : List RegDef := regsSEC0

def regsDBG0 : List RegDef := [
  ⟨0x1400000, [], .plain,
    [F.DBG_STATUS_DEBUG, F.DBG_STATUS_SESSION, F.DBG_STATUS_DENIED]⟩,
  ⟨0x1400004, [], .plain,
    [F.DBG_CFG_IDLE_LIMIT, F.DBG_CFG_I3C_EN, F.DBG_CFG_VDM_EN]⟩,
  ⟨0x1400008, [], .plain,
    [F.DBG_DENY_ADDR_LO_ADDR]⟩,
  ⟨0x140000c, [], .plain,
    [F.DBG_DENY_ADDR_HI_ADDR, F.DBG_DENY_ADDR_HI_VALID]⟩]

/-- The registers of block DBG. -/
def regsDBG : List RegDef := regsDBG0

/-- The registers whose offset lies in the megabyte with the given number, bits [25:20] of the offset (R504); LB spans 2 and 3. -/
def ofBlock (b : Nat) : List RegDef :=
  match b with
  | 0 => regsGLB
  | 1 => regsPWR
  | 2 => regsLB
  | 3 => regsLB
  | 4 => regsEP
  | 5 => regsML
  | 6 => regsSOLE
  | 7 => regsSCHED
  | 9 => regsHA
  | 10 => regsINS
  | 11 => regsBND
  | 12 => regsVAMP
  | 13 => regsEYE
  | 14 => regsCLK
  | 15 => regsFLT
  | 16 => regsPMC
  | 17 => regsLAST
  | 18 => regsCOB
  | 19 => regsSEC
  | 20 => regsDBG
  | _ => []

end Sys2Proof.Machine.CsrMap
end

