-- ==== Sys2Proof/Machine/CsrOffsets.lean ====
section
/-!
DEFINITION. The offsets of the registers (spec/20 R505), by name: for a register that repeats per unit, the offset in its first unit.
-/
namespace Sys2Proof.Machine.R

def GLB_STITCH_LO : Nat := 0x10
def GLB_STITCH_HI : Nat := 0x14
def GLB_STITCH_CTL : Nat := 0x20
def GLB_STITCH_STATUS : Nat := 0x24
def GLB_STITCH_ERR : Nat := 0x28
def GLB_STITCH_ROOTS : Nat := 0x2c
def GLB_STITCH_LOAD_LO : Nat := 0x30
def GLB_STITCH_LOAD_HI : Nat := 0x34
def GLB_STITCH_PINADJ : Nat := 0x38
def GLB_STITCH_HOLD : Nat := 0x3c
def GLB_STITCH_LINKADJ : Nat := 0x40
def GLB_EPOCH_CFG : Nat := 0x60
def LAST_SWAP_TGT_LO : Nat := 0x1100100
def LAST_SWAP_TGT_HI : Nat := 0x1100104
def LAST_SWAP_CTL : Nat := 0x1100108
def LAST_SWAP_STATUS : Nat := 0x110010c
def LAST_SWAP_DONE_LO : Nat := 0x1100110
def LAST_SWAP_DONE_HI : Nat := 0x1100114
def LAST_VIEW_CTL : Nat := 0x1100118
def LAST_LOAD_CTL : Nat := 0x1100000
def LAST_LOAD_LEN : Nat := 0x1100004
def LAST_LOAD_STATUS : Nat := 0x1100008
def LAST_LOAD_ITEM : Nat := 0x110000c
def LAST_LOAD_FIELD : Nat := 0x1100010
def LAST_ACTIVE_ID_LO : Nat := 0x1100020
def LAST_ACTIVE_ID_HI : Nat := 0x1100024
def LAST_STAGED_ID_LO : Nat := 0x1100028
def LAST_STAGED_ID_HI : Nat := 0x110002c
def LAST_ID_STATUS : Nat := 0x1100030
def LAST_SVN : Nat := 0x1100034
def LAST_SVN_MIN : Nat := 0x1100038
def LAST_BOOT : Nat := 0x1100040
def LAST_BOOT_PREF : Nat := 0x1100044
def LAST_LOCK : Nat := 0x1100048
def LB_BANK_ID : Nat := 0x200000
def LB_BANK_CFG : Nat := 0x200004
def LB_BANK_CTL : Nat := 0x200008
def LB_BANK_STATUS : Nat := 0x20000c
def LB_LANE_STATUS : Nat := 0x201000
def LB_LANE_FAR : Nat := 0x201004
def LB_LANE_TXEQ : Nat := 0x201008
def LB_LANE_TXCOEF : Nat := 0x20100c
def LB_LANE_ADAPT : Nat := 0x201010
def LB_LANE_ADAPT_DEF : Nat := 0x201014
def LB_LANE_CTLE : Nat := 0x201018
def LB_LANE_DFE : Nat := 0x201020
def LB_LANE_CDR : Nat := 0x201030
def LB_LANE_ERR : Nat := 0x201034
def LB_LANE_MARGIN_CTL : Nat := 0x201040
def LB_LANE_MARGIN_RES : Nat := 0x201044
def LB_LANE_MARGIN_STATUS : Nat := 0x201048
def EP_PORT_ID : Nat := 0x400000
def EP_PORT_CFG : Nat := 0x400004
def EP_LINK_CTL : Nat := 0x400010
def EP_LINK_CMD : Nat := 0x400014
def EP_LINK_STATUS : Nat := 0x400018
def EP_CXL_STATUS : Nat := 0x40001c
def EP_DS_CFG : Nat := 0x400020
def EP_CPL_TO : Nat := 0x400030
def EP_NP_STATUS : Nat := 0x400034
def EP_HP_CFG : Nat := 0x400040
def EP_HP_STATUS : Nat := 0x400044
def EP_HP_LOSS : Nat := 0x400048
def EP_HP_WAIT : Nat := 0x40004c
def EP_IDE_CFG : Nat := 0x400060
def EP_IDE_STATUS : Nat := 0x400064
def EP_IDE_ERR : Nat := 0x400068
def EP_XR_STATUS : Nat := 0x400070
def EP_DROP_CNT : Nat := 0x400074
def ML_LINK_ID : Nat := 0x500000
def ML_LINK_CFG : Nat := 0x500004
def ML_LINK_CTL : Nat := 0x500008
def ML_REPLAY_CFG : Nat := 0x50000c
def ML_LINK_CMD : Nat := 0x500010
def ML_LINK_STATUS : Nat := 0x500014
def ML_PEER : Nat := 0x500018
def ML_LACE_CTL : Nat := 0x500020
def ML_LACE_STATUS : Nat := 0x500024
def ML_CRED_CFG : Nat := 0x500040
def ML_CRED_STATUS : Nat := 0x500080
def ML_REPLAY_STATUS : Nat := 0x5000c0
def ML_SPILL_STATUS : Nat := 0x5000c4
def ML_ERR_CNT0 : Nat := 0x5000c8
def ML_ERR_CNT1 : Nat := 0x5000cc
def ML_ERR_CNT2 : Nat := 0x5000d0
def ML_FEC_CNT : Nat := 0x5000d4
def ML_FLUSH_CNT : Nat := 0x5000e0
def ML_XT_STATUS : Nat := 0x5000e8
def ML_RSP_CNT : Nat := 0x5000ec
def SOLE_ROUTE : Nat := 0x608000
def SOLE_MATCH_CTL : Nat := 0x600000
def SOLE_RES_RSP : Nat := 0x600010
def SOLE_RES_SNP : Nat := 0x600014
def SOLE_RES_MGMT : Nat := 0x600018
def SOLE_MARK_CFG : Nat := 0x60001c
def SOLE_BUF_STATUS : Nat := 0x600020
def SOLE_BUF_LAND : Nat := 0x600024
def SOLE_BUF_SHARED : Nat := 0x600028
def SOLE_CLASS_RES : Nat := 0x600100
def SOLE_CLASS_PROF : Nat := 0x600140
def SOLE_CLASS_OCC : Nat := 0x600180
def SOLE_CPROF_TH : Nat := 0x600200
def SOLE_CPROF_P : Nat := 0x600240
def SOLE_SEN_XB : Nat := 0x600300
def SOLE_SEN_MUX : Nat := 0x600380
def SOLE_SEN_VC : Nat := 0x6003e0
def SOLE_DEFER_CNT : Nat := 0x600400
def SOLE_MARK_CNT : Nat := 0x600404
def SOLE_BE_DROP_CNT : Nat := 0x600408
def SOLE_ECC_CNT : Nat := 0x60040c
def SCHED_ACT_CFG : Nat := 0x700000
def SCHED_ACT_STATUS : Nat := 0x700004
def SCHED_ERR_CNT : Nat := 0x700008
def SCHED_QSEL : Nat := 0x700100
def SCHED_QCFG : Nat := 0x700104
def SCHED_QALIAS : Nat := 0x700108
def SCHED_QSTAT : Nat := 0x70010c
def SCHED_QDEF : Nat := 0x700110
def SCHED_QFIN_LO : Nat := 0x700114
def SCHED_QFIN_HI : Nat := 0x700118
def SCHED_PSEL : Nat := 0x700200
def SCHED_PCFG : Nat := 0x700204
def SCHED_SSEL : Nat := 0x700300
def SCHED_SRATE : Nat := 0x700304
def SCHED_SBURST : Nat := 0x700308
def SCHED_STOK : Nat := 0x70030c
def SCHED_MSEL : Nat := 0x700400
def SCHED_MCIR : Nat := 0x700404
def SCHED_MPIR : Nat := 0x700408
def SCHED_MCBS : Nat := 0x70040c
def SCHED_MPBS : Nat := 0x700410
def SCHED_MCFG : Nat := 0x700414
def SCHED_MTOK_C : Nat := 0x700418
def SCHED_MTOK_P : Nat := 0x70041c
def SCHED_CMAP : Nat := 0x701000
def SCHED_EGR_CFG : Nat := 0x702000
def SCHED_EGR_DEFQ : Nat := 0x702004
def SCHED_EGR_OVH : Nat := 0x702008
def SCHED_EGR_SRATE : Nat := 0x70200c
def SCHED_EGR_SBURST : Nat := 0x702010
def SCHED_EGR_STOK : Nat := 0x702014
def SCHED_EGR_VT_LO : Nat := 0x702018
def SCHED_EGR_VT_HI : Nat := 0x70201c
def HA_ID : Nat := 0x900000
def HA_CFG : Nat := 0x900004
def HA_HOLD : Nat := 0x900008
def HA_TACK_TO : Nat := 0x90000c
def HA_SEN : Nat := 0x900010
def HA_LOAD_CFG : Nat := 0x900014
def HA_CTL : Nat := 0x900018
def HA_STATUS : Nat := 0x90001c
def HA_TACK_STATUS : Nat := 0x900020
def HA_WAIT_STATUS : Nat := 0x900024
def HA_DIRC_STATUS : Nat := 0x900028
def HA_DEGR_STATUS : Nat := 0x90002c
def HA_ERR_CNT : Nat := 0x900030
def HA_LATE_CNT : Nat := 0x900034
def HA_EVICT_CNT_LO : Nat := 0x900038
def HA_EVICT_CNT_HI : Nat := 0x90003c
def HA_RSEL : Nat := 0x900100
def HA_RGN_CFG : Nat := 0x900104
def HA_RGN_BASE_LO : Nat := 0x900108
def HA_RGN_BASE_HI : Nat := 0x90010c
def HA_RGN_SIZE : Nat := 0x900110
def HA_DSEL : Nat := 0x900200
def HA_DMEM : Nat := 0x900204
def HA_DGSEL : Nat := 0x900300
def HA_DGSET : Nat := 0x900304
def HA_CQ_LINE : Nat := 0x900040
def HA_CQ_SET : Nat := 0x900044
def HA_HOLD_STATUS : Nat := 0x900048
def HA_XCNT : Nat := 0x90004c
def HA_XCNT2 : Nat := 0x900050
def HA_TO_STATUS : Nat := 0x900054
def HA_DEPART_STATUS : Nat := 0x900058
def HA_DEPART_CNT : Nat := 0x90005c
def HA_DEPART_CLR : Nat := 0x900060
def HA_DCT_STATUS : Nat := 0x900064
def HA_MIG_STATUS : Nat := 0x900068
def HA_LWT_STATUS : Nat := 0x900400
def INS_ID : Nat := 0xa00000
def INS_CARVE : Nat := 0xa00004
def INS_ARB : Nat := 0xa00008
def INS_SCRUB_CFG : Nat := 0xa0000c
def INS_CH_STATUS : Nat := 0xa00010
def INS_ECC_CNT : Nat := 0xa00020
def INS_UE_LOG_LO : Nat := 0xa00030
def INS_UE_LOG_HI : Nat := 0xa00034
def INS_MIRROR_CNT : Nat := 0xa00038
def INS_LOAD_CFG : Nat := 0xa00040
def INS_OSEL : Nat := 0xa00100
def INS_OBJ_CFG : Nat := 0xa00104
def INS_ESEL : Nat := 0xa00200
def INS_EXT : Nat := 0xa00204
def INS_PSEL : Nat := 0xa00210
def INS_PEXT : Nat := 0xa00214
def INS_TRSEL : Nat := 0xa00300
def INS_TR_CFG : Nat := 0xa00304
def INS_TR_BASE : Nat := 0xa00308
def INS_TR_SIZE : Nat := 0xa0030c
def INS_TIER_CFG : Nat := 0xa00400
def INS_TIER_TH : Nat := 0xa00404
def INS_TIER_STATUS : Nat := 0xa00408
def INS_TIER_CNT : Nat := 0xa0040c
def INS_TIER_CNT2 : Nat := 0xa00410
def INS_GCMD_GRAN : Nat := 0xa0041c
def INS_GCMD : Nat := 0xa00420
def INS_GCMD_STATUS : Nat := 0xa00424
def INS_SHSEL : Nat := 0xa00500
def INS_SHELF_CMD : Nat := 0xa00504
def INS_SHELF_STATUS : Nat := 0xa00508
def INS_TAG_ADDR_LO : Nat := 0xa00600
def INS_TAG_ADDR_HI : Nat := 0xa00604
def INS_TAG_WR : Nat := 0xa00608
def BND_ID : Nat := 0xb00000
def BND_FM : Nat := 0xb00004
def BND_CFG : Nat := 0xb00008
def BND_VSW : Nat := 0xb00100
def BND_VSEL : Nat := 0xb00200
def BND_VPPB_POL : Nat := 0xb00204
def BND_VPPB_SN_LO : Nat := 0xb00208
def BND_VPPB_SN_HI : Nat := 0xb0020c
def BND_VPPB_BIND : Nat := 0xb00210
def BND_BCMD : Nat := 0xb00220
def BND_BCMD_STATUS : Nat := 0xb00224
def BND_SSEL : Nat := 0xb00300
def BND_SL_CFG : Nat := 0xb00304
def BND_SL_STATUS : Nat := 0xb00308
def BND_SL_CMD : Nat := 0xb0030c
def BND_SL_TGT_LO : Nat := 0xb00310
def BND_SL_TGT_HI : Nat := 0xb00314
def BND_SL_CMD_STATUS : Nat := 0xb00318
def BND_KSEL : Nat := 0xb00400
def BND_KEY : Nat := 0xb00404
def BND_KEY_SL : Nat := 0xb00408
def BND_AGSL : Nat := 0xb00500
def BND_WAKE_CFG : Nat := 0xb00600
def BND_WAKE_STATUS : Nat := 0xb00604
def BND_WCOST : Nat := 0xb00640
def BND_SHSEL : Nat := 0xb00700
def BND_SHELF_CFG : Nat := 0xb00704
def BND_SHELF_TIME : Nat := 0xb00708
def BND_SHELF_PORTS_LO : Nat := 0xb0070c
def BND_SHELF_PORTS_HI : Nat := 0xb00710
def BND_SHELF_CMD : Nat := 0xb00714
def BND_SHELF_STATUS : Nat := 0xb00718
def BND_PSEL : Nat := 0xb00800
def BND_PARTNER : Nat := 0xb00804
def BND_PARTNER_SN_LO : Nat := 0xb00808
def BND_PARTNER_SN_HI : Nat := 0xb0080c
def COB_CFG : Nat := 0x1200000
def COB_TO : Nat := 0x1200004
def COB_STATUS : Nat := 0x1200008
def COB_CNT : Nat := 0x120000c
def COB_QSEL : Nat := 0x1200100
def COB_QP_CFG : Nat := 0x1200104
def COB_QP_PASID : Nat := 0x1200108
def COB_SQ_BASE_LO : Nat := 0x1200110
def COB_SQ_BASE_HI : Nat := 0x1200114
def COB_CQ_BASE_LO : Nat := 0x1200118
def COB_CQ_BASE_HI : Nat := 0x120011c
def COB_QP_CTL : Nat := 0x1200120
def COB_QP_DB : Nat := 0x1200124
def COB_QP_STATE : Nat := 0x1200128
def COB_QP_ERR : Nat := 0x120012c
def VAMP_NP_TO : Nat := 0xc00000
def VAMP_LOCK_TO : Nat := 0xc00004
def VAMP_PF_CFG : Nat := 0xc00008
def VAMP_STATUS : Nat := 0xc0000c
def VAMP_CNT : Nat := 0xc00010
def VAMP_CNT2 : Nat := 0xc00014
def VAMP_FSEL : Nat := 0xc00100
def VAMP_FN_CFG : Nat := 0xc00104
def VAMP_FN_STATUS : Nat := 0xc00108
def VAMP_WSEL : Nat := 0xc00200
def VAMP_WIN_CFG : Nat := 0xc00204
def VAMP_WIN_DBASE_LO : Nat := 0xc00208
def VAMP_WIN_DBASE_HI : Nat := 0xc0020c
def VAMP_WIN_TGT : Nat := 0xc00210
def VAMP_WIN_TBASE_LO : Nat := 0xc00214
def VAMP_WIN_TBASE_HI : Nat := 0xc00218
def VAMP_WIN_PFSTAT : Nat := 0xc0021c
def VAMP_WIN_PFERR : Nat := 0xc00220
def VAMP_LSEL : Nat := 0xc00300
def VAMP_LOCK_STATUS : Nat := 0xc00304
def EYE_SLOT : Nat := 0xd00000
def EYE_WSEL : Nat := 0xd00400
def EYE_WIN_BASE_LO : Nat := 0xd00404
def EYE_WIN_BASE_HI : Nat := 0xd00408
def EYE_WIN_LIM_LO : Nat := 0xd0040c
def EYE_WIN_LIM_HI : Nat := 0xd00410
def EYE_WIN_ATTR : Nat := 0xd00414
def EYE_VIOL_SEQ : Nat := 0xd00500
def EYE_VIOL_STATUS : Nat := 0xd00504
def EYE_VIOL_LAST_LO : Nat := 0xd00508
def EYE_VIOL_LAST_HI : Nat := 0xd0050c
def EYE_VIOL_LAST_INFO : Nat := 0xd00510
def SEC_STATUS : Nat := 0x1300000
def SEC_NONCE_LO : Nat := 0x1300004
def SEC_NONCE_HI : Nat := 0x1300008
def SEC_CMD : Nat := 0x1300010
def SEC_CMD_STATUS : Nat := 0x1300014
def SEC_FW_SVN : Nat := 0x1300018
def SEC_FW_SVN_MIN : Nat := 0x130001c
def SEC_IDE_CFG : Nat := 0x1300020
def SEC_KSEL : Nat := 0x1300100
def SEC_KEY_INFO : Nat := 0x1300104
def SEC_KEY_ID : Nat := 0x1300108
def CLK_CORE_CTL : Nat := 0xe00000
def CLK_CORE_STATUS : Nat := 0xe00010
def CLK_IRQ_EN : Nat := 0xe00020
def CLK_IRQ_PEND : Nat := 0xe00030
def CLK_STERR_ADDR_LO : Nat := 0xe00040
def CLK_STERR_ADDR_HI : Nat := 0xe00044
def CLK_STERR_INFO : Nat := 0xe00060
def CLK_STO : Nat := 0xe00070
def CLK_RSEL : Nat := 0xe00100
def CLK_RAT_BASE : Nat := 0xe00104
def CLK_RAT_LIM : Nat := 0xe00108
def CLK_RAT_ATTR : Nat := 0xe0010c
def CLK_MCTP_CFG : Nat := 0xe00200
def CLK_MCTP_STATUS : Nat := 0xe00204
def CLK_MCTP_CNT : Nat := 0xe00208
def CLK_EVT_SEQ : Nat := 0xe00300
def CLK_EVT_STATUS : Nat := 0xe00304
def CLK_EVT_RATE : Nat := 0xe00310
def CLK_EVT_SUPP : Nat := 0xe00330
def CLK_EVT_SUB : Nat := 0xe00350
def CLK_SHANK_STATUS : Nat := 0xe00400
def CLK_SHANK_MAP : Nat := 0xe00410
def CLK_SHANK_SEN : Nat := 0xe00460
def FLT_SUM : Nat := 0xf00000
def FLT_CLR_STATUS : Nat := 0xf00010
def FLT_LOG_SEQ : Nat := 0xf00014
def FLT_GPF_CFG : Nat := 0xf00020
def FLT_PWRDN_CTL : Nat := 0xf00024
def FLT_PWRDN_CFG : Nat := 0xf00028
def FLT_PWRDN_STATUS : Nat := 0xf0002c
def FLT_RESTART : Nat := 0xf00030
def FLT_RESTART_STATUS : Nat := 0xf00034
def FLT_STICKY : Nat := 0xf01000
def FLT_REACT : Nat := 0xf02000
def PMC_CYC_LO : Nat := 0x1000000
def PMC_CYC_HI : Nat := 0x1000004
def PMC_CYC_RD_LO : Nat := 0x1000008
def PMC_CYC_RD_HI : Nat := 0x100000c
def PMC_CTR_LO : Nat := 0x1000010
def PMC_CTR_HI : Nat := 0x1000014
def PMC_SEL : Nat := 0x1000050
def PMC_CBCTL : Nat := 0x1000070
def PMC_OVF : Nat := 0x1000074
def PMC_CBID : Nat := 0x1000078
def PMC_ACCT_CFG : Nat := 0x1008000
def PMC_ACCT_BASE_LO : Nat := 0x1008004
def PMC_ACCT_BASE_HI : Nat := 0x1008008
def PMC_ACCT_HOST : Nat := 0x100800c
def PMC_ACCT_ACK : Nat := 0x1008010
def PMC_ACCT_SEQ : Nat := 0x1008014
def PMC_ACCT_STATUS : Nat := 0x1008018
def PMC_ACCT_SLOT : Nat := 0x100801c
def PMC_ASEL : Nat := 0x1008020
def PMC_ACTR_LO : Nat := 0x1008024
def PMC_ACTR_HI : Nat := 0x1008028
def PWR_STATUS : Nat := 0x100000
def PWR_OFF_CAUSE : Nat := 0x100004
def PWR_CFG : Nat := 0x100008
def PWR_FEEDA : Nat := 0x100010
def PWR_FEEDB : Nat := 0x100014
def PWR_FEEDA_AVG : Nat := 0x100018
def PWR_FEEDB_AVG : Nat := 0x10001c
def PWR_PIN : Nat := 0x100020
def PWR_PIN_PEAK : Nat := 0x100024
def PWR_ENERGY_LO : Nat := 0x100028
def PWR_ENERGY_HI : Nat := 0x10002c
def PWR_CORE : Nat := 0x100030
def PWR_TEMP : Nat := 0x100034
def PWR_THERM_CFG : Nat := 0x100038
def PWR_AVS_CFG : Nat := 0x100040
def PWR_AVS_MARGIN : Nat := 0x100044
def PWR_AVS_STATUS : Nat := 0x100048
def PWR_AVS_MON : Nat := 0x100050
def PWR_AVS_CNT : Nat := 0x100060
def GLB_ID : Nat := 0x0
def GLB_SERIAL_LO : Nat := 0x4
def GLB_SERIAL_HI : Nat := 0x8
def GLB_SWITCH : Nat := 0xc
def GLB_FABRIC_ID : Nat := 0x18
def GLB_RST : Nat := 0x70
def GLB_START_CFG : Nat := 0x74
def GLB_START_STATUS : Nat := 0x78
def DBG_STATUS : Nat := 0x1400000
def DBG_CFG : Nat := 0x1400004
def DBG_DENY_ADDR_LO : Nat := 0x1400008
def DBG_DENY_ADDR_HI : Nat := 0x140000c

end Sys2Proof.Machine.R
end

