-- ==== Sys2Proof/Machine/RegFile.lean ====
section
/-!
DEFINITION. The register file: every register of the CSR space under one key, in one canonical sparse form (spec/00 R12,
spec/20 R504 to R506). The key of a register is its offset, plus the entry number times 2^26 where it lies behind a
selector, or the path's code times 2^26 where it is banked per requesting path.
-/
namespace Sys2Proof.Machine
open Sys2Proof

/-- Entries are 64 MiB apart, beyond the CSR space of one path (R504). -/
def entStride : Nat := 67108864

/-- The distance of an entry behind a selector, or of a path's copy. -/
def ent (e : Nat) : Nat := e * entStride

/-- The register that occupies an offset, if any (R11, R505). -/
def regAt (o : Nat) : Option RegDef :=
  if o < entStride then (CsrMap.ofBlock (o / 0x100000)).find? (fun d => d.at? o) else none

/-- The default reaction of a source with its ALERT bit at bit 2 (spec/16 R430, column Default). -/
def reactDefault (n : Nat) : Nat :=
  if n = 1 then 0 else if n = 20 then 0
  else if n = 2 || n = 9 || n = 18 || n = 19 || n = 23 || n = 25 || n = 26 || n = 28 then 5
  else if n ≤ 28 then 1
  else if n < 32 then 0
  else if n ≤ 50 then 1
  else if n < 64 then 0
  else if n ≤ 67 then 0
  else if n ≤ 71 then 1
  else if n ≤ 79 then 5
  else if n ≤ 91 then 1
  else if n ≤ 95 then 5
  else if n ≤ 99 then 6
  else if n < 128 then 0
  else if 168 ≤ n && n ≤ 175 then 5
  else if n ≤ 199 then 1
  else if n < 256 then 0
  else if n ≤ 295 then 1
  else if n < 320 then 0
  else if n ≤ 447 then 1
  else if n ≤ 511 then 0
  else if 704 ≤ n && n ≤ 767 then 5
  else if n ≤ 1151 then 1
  else if n ≤ 1279 then 0
  else if n ≤ 1919 then 2
  else if n ≤ 2239 then 1
  else 0

/-- FLT_REACT at reset: the defaults of its eight sources (R430, R444). -/
def reactWord (w : Nat) : Word :=
  (List.range 8).foldl (fun a j => a ||| BitVec.ofNat 32 (reactDefault (8 * w + j) <<< (4 * j))) 0

/-- The kind of counter block `b` (spec/17 R445). -/
def pmcKind (b : Nat) : Nat :=
  if b < 20 then 0 else if b = 20 then 1 else if b = 21 then 2 else if b < 26 then 3 else if b < 30 then 4
  else b - 25

/-- What the tables give per unit at reset, laid over the plain reset word: the identity registers, the rate set of a
Mornu bank, the shared credit pool of a link, the ports of an X16 bank, the default reactions. -/
def resetOverlay (o : Nat) : Word :=
  if 0x200000 ≤ o && o < 0x340000 then
    let n := (o - 0x200000) / 0x10000
    let r := (o - 0x200000) % 0x10000
    if r = 0 then BitVec.ofNat 32 (n + 256 * bit (decide (16 ≤ n)))
    else if r = 4 then (if 16 ≤ n then 0x300 else 0) else 0
  else if 0x400000 ≤ o && o < 0x500000 && o % 0x4000 = 0 then
    let n := (o - 0x400000) / 0x4000
    BitVec.ofNat 32 (n + 256 * (n / 4) + (if n % 4 = 0 then 0x1100000 else 0))
  else if 0x500000 ≤ o && o < 0x580000 then
    let m := (o - 0x500000) / 0x10000
    let r := (o - 0x500000) % 0x10000
    if r = 0 then BitVec.ofNat 32 (m + 256 * (16 + m / 2) + 65536 * (m % 2))
    else if 0x40 ≤ r && r < 0x60 then 256 else if r = 0x60 then 4096 else 0
  else if 0x900000 ≤ o && o < 0xa00000 && o % 0x40000 = 0 then
    let n := (o - 0x900000) / 0x40000
    BitVec.ofNat 32 (n + 256 * (76 + n))
  else if 0xf02000 ≤ o && o < 0xf02480 then reactWord ((o - 0xf02000) / 4)
  else if 0x1000000 ≤ o && o < 0x1002200 && o % 256 = 0x78 then
    let b := (o - 0x1000000) / 256
    BitVec.ofNat 32 (pmcKind b + 16 * b)
  else 0

/-- The word a register holds after the reset of its domain (R12). An offset no register occupies reads zero (R11). DEDUCED (log entry 43). -/
def resetWord (k : Nat) : Word :=
  match regAt (k % entStride) with
  | some d => d.reset ||| resetOverlay (k % entStride)
  | none => 0

/-- The register file: (key, word) pairs, keys rising, no word equal to the one its key holds at reset. -/
abbrev RegFile := List (Nat × Word)

namespace RegFile

/-- The word of a key: what the file lists, or the reset word. -/
def get : RegFile → Nat → Word
  | [], k => resetWord k
  | (k', w) :: rest, k => if k = k' then w else RegFile.get rest k

/-- The file without an entry for the key. -/
def drop : RegFile → Nat → RegFile
  | [], _ => []
  | (k', w) :: rest, k => if k' = k then RegFile.drop rest k else (k', w) :: RegFile.drop rest k

/-- The file with an entry put at its place, the key not listed before. -/
def insert : RegFile → Nat → Word → RegFile
  | [], k, w => [(k, w)]
  | (k', w') :: rest, k, w =>
    if k < k' then (k, w) :: (k', w') :: rest
    else if k = k' then (k, w) :: rest
    else (k', w') :: RegFile.insert rest k w

/-- The file with the key's word replaced, in canonical form. -/
def set (r : RegFile) (k : Nat) (w : Word) : RegFile :=
  if w = resetWord k then RegFile.drop r k else RegFile.insert r k w

/-- Keys strictly rising from a bound, and no word equal to its reset word. -/
def wfFrom : Nat → RegFile → Bool
  | _, [] => true
  | b, (k, w) :: rest => decide (b ≤ k) && (w != resetWord k) && RegFile.wfFrom (k + 1) rest

/-- The canonical form of the file. -/
def wf (r : RegFile) : Bool := RegFile.wfFrom 0 r

end RegFile

/-- A finite map as data: (key, value) pairs, keys rising. -/
abbrev Tab (α : Type) := List (Nat × α)

namespace Tab

/-- The value of a key, if listed. -/
def find {α : Type} : Tab α → Nat → Option α
  | [], _ => none
  | (k', v) :: rest, k => if k = k' then some v else Tab.find rest k

/-- The map without the key. -/
def del {α : Type} : Tab α → Nat → Tab α
  | [], _ => []
  | (k', v) :: rest, k => if k' = k then Tab.del rest k else (k', v) :: Tab.del rest k

/-- The map with the key's value replaced or added. -/
def set {α : Type} : Tab α → Nat → α → Tab α
  | [], k, v => [(k, v)]
  | (k', v') :: rest, k, v =>
    if k < k' then (k, v) :: (k', v') :: rest
    else if k = k' then (k, v) :: rest
    else (k', v') :: Tab.set rest k v

/-- The value of a key, or a default. -/
def getD {α : Type} (t : Tab α) (k : Nat) (d : α) : α := (Tab.find t k).getD d

end Tab

end Sys2Proof.Machine
end

