-- ==== Sys2Proof/Machine/State.lean ====
section
/-!
DEFINITION. The state of the module as plain data: the register file (every register of the CSR space, live or staged,
and the active copies of the staged fields), and chapter by chapter the state the specification gives the module
beside its registers. `State.reset` is the module before its feeds are present: every field at the value the
specification gives for reset, or at the value an entry of the assumption log names. Fault and Refusal are the reasons a
command may stop for.
-/
namespace Sys2Proof.Machine
open Sys2Proof

/-- Why a command stops with a fault. -/
inductive Fault where
  /-- A command names a unit the part does not have (spec/01 R23: banks, lanes, ports, links, slices, channels and the like): raised by the guards of
  Machine/Units.lean. Safe: no such command can reach the part. -/
  | noSuchUnit
deriving DecidableEq, Repr

/-- Why a command is refused by the model. -/
inductive Refusal where
  /-- The command has no meaning yet: raised by the arms of exec only. Safe: the model stops. -/
  | notModelled (mnemonic : String)
deriving DecidableEq, Repr

/-! ### Time, alignment and swaps (spec/02) -/

/-- The arm state of the LAST block (R48, R49, R55): target, mask, scope FABRIC, mode EXCHANGE, the blocks (group bit, unit) that hold their copy,
those that have received it in the running stitch, those that have applied it, the groups that failed their swap-time check, and MIXED as it stood
before a late application. -/
structure Arm where
  target : Nat
  mask : Nat
  fabric : Bool
  exchange : Bool
  held : List (Nat × Nat)
  fresh : List (Nat × Nat)
  done : List (Nat × Nat)
  failed : List Nat
  wasMixed : Bool
deriving DecidableEq, Repr

/-- A write that waits: the path, the offset, the register with the entry the path's selector named when it arrived, the value, and the bits
it writes (R36, R85). -/
structure HeldWrite where
  path : Path
  off : Nat
  key : Nat
  value : Word
  mask : Word
deriving DecidableEq, Repr

/-- What a disabled bank missed, in the order of occurrence (R36, R59): a held write, or a swap of one group. -/
inductive Missed where
  | write (w : HeldWrite)
  | swap (grp : Grp) (exchange : Bool)
deriving DecidableEq, Repr

/-- Time and alignment beside the registers (spec/02). -/
structure TimeSt where
  num : Nat               -- the Sole's stitch number (R46)
  bnd : Nat               -- boundaries that have occurred, for timers (R50)
  running : Bool          -- the first boundary after RUN has occurred (R45)
  cells : Nat             -- cell times since the last division point of the Sole clock (R43)
  cyc : Nat               -- CYC of block 20 at the last division point (R446)
  arm : Option Arm
  marks : Tab (Marker × Nat)   -- last marker of each Mornu link, with the boundary count at its arrival (R64)
  seen : List Nat         -- links whose marker arrived in this stitch
  delay : Int             -- D of R65, in 1/8 Sole clock
  okRun : Nat             -- consecutive stitches with an error of 8 ns or less (R67)
  badRun : Nat            -- consecutive stitches with an error above 40 ns (R67)
  dryRun : Nat            -- consecutive stitches without a valid marker of the uplink (R67)
  backupRun : Nat         -- a backup's count of stitches without a senior marker (R62)
  actingRoot : Bool       -- root by R62
  jump : Bool             -- the number jumps at the next boundary in ACQUIRE (R67)
  hold : Option Nat       -- holdover timer: its expiry (R67)
  pinSeen : Bool          -- a STITCH_IN pulse arrived in this stitch
  pinBad : List Nat       -- boundary counts of the invalid periods of the last 64 stitches (R66)
  pinLost : Bool
  pinLoaded : Bool        -- the number has been loaded at a long pulse (R66)
  stitchOut : Nat         -- width of the last STITCH_OUT pulse in ns, zero before any (R66)
  epochs : Tab Nat        -- exponent in force per epoch generator (R54)
  epochEnds : List Epoch  -- generators whose epoch ended at the last boundary, the end not yet processed
  short : List Epoch      -- generators whose last epoch was marked short (R70)
deriving DecidableEq, Repr

/-! ### Register access (spec/00 R16 to R18, R36; spec/03 R85) -/

/-- What register accesses leave pending per path. -/
structure AccessSt where
  snaps : List (Path × Nat × Word)   -- _HI snapshots by path and key of _LO (R16)
  holds : List (Path × Nat × Word)   -- held _LO values by path and key (R17)
  missed : Tab (List Missed)         -- per bank (R36, R59)
  missedClr : List (Nat × Path)      -- clears refused for a disabled bank in this stitch (R36)
deriving DecidableEq, Repr

/-! ### The Last (spec/03) -/

/-- A record write of an accepted image: the key written and the word, with the mask of the bits the section may write. -/
structure RecWrite where
  key : Nat
  value : Word
  mask : Word
deriving DecidableEq, Repr

/-- The load in progress (R80), once its parts are known. -/
structure Load where
  src : Nat
  len : Nat
  partImg : Bool
  buildId : Nat
  baseId : Nat
  svn : Nat
  boot : Bool                 -- the boot load (R82)
  startId : Option Nat        -- LAST_ACTIVE_ID at START; none where it was MIXED (R92)
  groups : List Grp           -- groups of its staged sections
  structural : List RecWrite
  staged : List (Grp × List RecWrite)
  digests : List Nat          -- digests of the structural sections
  doneGrps : List Grp         -- groups whose commit has ended
deriving DecidableEq, Repr

/-- The loader and the images beside the registers (spec/03). -/
structure LastSt where
  load : Option Load
  committing : Option Grp
  heldStg : List (Grp × HeldWrite)       -- R85
  heldArm : List (Path × Word)           -- R85
  heldJobs : List (Path × Nat × Instr)   -- accesses of a path to a block that wait behind its held write (R85)
  structDigests : List Nat               -- applied at boot (R84)
  direct : List Grp                      -- groups with a direct write since their last commit (R91)
  lastGroups : List Grp                  -- groups written by the last committed load (R91)
  flashA : Mem             -- image sets in the boot flash devices, as sparse bytes
  flashB : Mem
  prefImage : Nat                        -- the boot records (R93, R94)
  tries : Nat
  fallback : Bool
  bootFailed : List Nat                  -- images whose attempt failed in this power cycle
  confirm : Option Nat                   -- the 60 s CONFIRM timer, as its expiry
  recovery : Bool                        -- recovery state (R409)
  fwRunning : Bool                       -- the Clicker complex runs firmware
deriving DecidableEq, Repr

/-! ### Lanes and banks (spec/04) -/

/-- Why a lane is relocking (R110, R117). -/
inductive Relock where
  | block | cdr
deriving DecidableEq, Repr

/-- One lane beside its registers, keyed by 16 × bank + lane. -/
structure LaneSt where
  timer : Option Nat          -- expiry of the state's timer (DETECT, ADAPT)
  retry : Option Nat          -- expiry of the map-fault retry
  relock : Option (Relock × Nat)   -- a loss being relocked, with its expiry
  stable : Option (Relock × Nat)   -- a relock awaiting its 1,024 stitches
  matches_ : Nat              -- consecutive correlator matches (R107)
  mirrored : Bool             -- the correlator's form of the last match
  preset : Nat                -- the active preset it trains with (R116)
  mcoef : Nat                 -- the active starting taps it trains with
  tapM3 : Int
  tapM2 : Int
  tapM1 : Int
  tap0 : Int
  tapP1 : Int
  peak : Nat                  -- live CTLE and DFE values
  gain : Nat
  dfe : List Nat
  farDone : Bool
  ownDone : Bool
  stat : Nat                  -- answer to the far request: STAT of R106
  scan : Option (Nat × Nat)   -- a running margin scan: direction 0 to 3 and step
  fenced : Bool
deriving DecidableEq, Repr

/-- One bank beside its registers. -/
structure BankSt where
  timer : Option Nat          -- power-up, park or relock timer: expiry
  relocking : Bool            -- the retry of R123 runs
  stable : Option Nat         -- a transient relock's 1,024 stitches: expiry (R123)
  family : Option Nat         -- a family retune: expiry (R103)
deriving DecidableEq, Repr

/-! ### Edge ports (spec/05) -/

/-- An entry of a port's non-posted table (R142). -/
structure NpEntry where
  msg : Msg
  own : Bool                  -- of a KX64 agent (reserved entries)
  timer : Option Nat          -- EP_CPL_TO expiry (R143)
deriving DecidableEq, Repr

/-- One edge port beside its registers. -/
structure PortSt where
  np : List NpEntry
  attempt : Option Nat        -- training attempt: expiry (R138)
  aim : Nat                   -- the rate the attempt aims for
  everUp : Bool               -- the link has been in L0 since the last Detect
  recoveries : Nat            -- entries to Recovery in the running window (R139)
  loss : Option Nat           -- loss timer: expiry (R147)
  lossAt : Option Nat         -- a loss cause awaits the boundary after this count of boundaries (R147)
  wait : Option Nat           -- readiness wait: expiry (R150)
  disc : Option Nat           -- discovery limit: expiry (R325)
  est : Option Nat            -- IDE establishment limit: expiry (R152)
  estOnce : Bool              -- a stream has been established on this link
  rekey : Option Nat          -- requester key refresh: expiry (R394)
  xrEnable : Bool             -- XR_ENABLE of the DVSEC (R135)
  xrLopt : Bool
  advertise128 : Bool         -- 128.0 GT/s is advertised (R136)
  speedChange : Option Nat    -- a speed change the port has started, with its rate
  xrBar : Bool                -- no further attempt at 128.0 GT/s until RETRAIN or a new link-up (R137)
  opened : List Nat           -- requests accepted from the port that await their completion (R146)
  stale : List Nat            -- those whose completion is discarded after a reset (R146)
  lastReq : Nat               -- boundary count of the last request sent through the port (R351)
deriving DecidableEq, Repr

/-! ### Mornu links (spec/06) -/

/-- Where an unacknowledged flit is kept (R170): on the die, in the spill area, or there and read back for a replay. -/
inductive Kept where
  | die | spilled | readBack
deriving DecidableEq, Repr

/-- An unacknowledged DATA flit (R163, R170): its messages are those with bytes in it. -/
structure TxFlit where
  seq : Nat
  vc : Nat
  shared : Bool
  msgs : List Msg
  kept : Kept
deriving DecidableEq, Repr

/-- An entry of a crossing table (R178): the request sent, whose response returns to the agent it came by. -/
structure Crossing where
  req : Msg
  via : Nat
  dead : Bool                 -- marked by a slice squash: its response is discarded (R338)
deriving DecidableEq, Repr

/-- A message in a link's transmit queue: its virtual channel and the slots not yet sent (R161, R168). -/
structure TxMsg where
  vc : Nat
  msg : Msg
  left : Nat
deriving DecidableEq, Repr

/-- One Mornu link beside its registers. -/
structure LinkSt where
  nextSeq : Nat
  acked : Nat                 -- last acknowledged number (2^20 - 1 before any)
  unacked : List TxFlit       -- oldest first
  expSeq : Nat                -- E
  rxAny : Bool                -- a DATA flit has been accepted since INIT (R164)
  nakPend : Bool
  lastNak : Option (Nat × Nat)     -- A of the last replay by NAK, and the Sole clock it started at (R165)
  replaying : List Nat        -- sequence numbers still to replay
  retried : Option Nat        -- the flit at which the last unfinished replay started (R166)
  timer : Option Nat          -- replay timer: expiry in Sole clocks
  consumed : Tab Nat          -- credits consumed per pool 0 to 8 (R169)
  returned : Tab Nat          -- CRTOT received per pool
  freed : Tab Nat             -- CRTOT of the own receiver per pool
  rot : Nat                   -- pool reported next
  farSize : Tab Nat           -- far pool sizes delivered by CRED
  txq : List TxMsg            -- transmit queue, in order of entry
  vcPtr : Nat                 -- pointer of the VC arbiter
  landed : List (Nat × List Nat)   -- landing slots in use: credit pool, and messages with bytes in the flit
  lctl : List (Nat × Nat)     -- control messages due: (type, argument)
  rep : List (Nat × Nat × Nat)     -- control messages repeated until a boundary count: (type, argument, count)
  flits : Nat                 -- flits sent, modulo 64 (R174)
  grace : Option Nat          -- grace expiry (R177)
  attempt : Option Nat        -- training attempt: expiry (R173)
  trainSet : Nat              -- lane set code the attempt trains
  deskewed : List Nat         -- link lanes whose markers are deskewed (R159)
  gcnt : Nat                  -- GCNT of the last marker
  nonce : Nat
  seen : Bool                 -- an INIT of the far side has been received
  farRx : Nat                 -- far RXOK
  chosen : Nat                -- the leader's chosen set, or REPL
  initRetry : Option Nat      -- retry after a peer mismatch: expiry
  cause : Nat                 -- CAUSE of the LINKDOWN messages
  pendSet : Option Nat        -- set a width change is pending toward
  laceTag : Nat
  laceTo : Option Nat         -- lace limit: expiry (R181)
  laceTx : Bool               -- LACE_READY sent
  laceRx : Bool               -- LACE_READY received
  unlacing : Bool
  laceOwn : Bool              -- this side is the initiator
  xt : List Crossing
  inb : List Nat              -- requests of the session that came over the link and await their response (R180)
  flushEnd : Option Nat       -- flush in progress: latest end
  fenceHeld : Bool            -- FENCED after the flush
deriving DecidableEq, Repr

/-- Failover state of the route of one switch ID (R186). -/
structure RouteSt where
  onAlt : Bool                -- traffic is on the alternate link
  wait : Option Nat           -- waiting for FLUSHED: expiry
  early : Option Nat          -- session of a FLUSHED that came before the primary left FLUSH
  fence : Option (Nat × Nat)  -- a fence outstanding: FENCE_ID and expiry
  fenceVcs : Nat              -- VCs of an arriving fence that have passed step 7
  fenceId : Nat               -- its FENCE_ID
deriving DecidableEq, Repr

/-! ### The Sole and the schedulers (spec/07, spec/08) -/

/-- Where a message's cells are charged (R194). -/
inductive Charge where
  | min | shared | rsp | snp | mgmt | landing
deriving DecidableEq, Repr

/-- A message in the cell buffer (R189 to R192). -/
structure Queued where
  msg : Msg
  qidx : Nat                  -- queue index it is scheduled in
  src : Nat                   -- agent through which it entered
  xin : Nat                   -- ingress crossbar port
  egress : Nat                -- egress agent
  cells : Nat
  sent : Nat                  -- cells already crossed
  reserved : Nat              -- cells reserved by matchings in flight
  charge : Charge
  due : Bool                  -- eligible: its queue's state is on the die
deriving DecidableEq, Repr

/-- A request of a matching in flight (R199). -/
structure MReq where
  i : Nat
  j : Nat
  msgId : Nat
  agent : Nat
  stamp : Nat
deriving DecidableEq, Repr

/-- A matching in flight (R198): its age in cell times, its requests and its matches. -/
structure Matching where
  age : Nat
  reqs : List MReq
  done : List MReq
deriving DecidableEq, Repr

/-- Scheduler state of one queue index (R215). -/
structure QueueSt where
  deficit : Int
  fLast : Nat
  start : Nat
  finish : Nat
  idleSince : Nat
  ready : Bool                -- state on the die
  slot : Bool                 -- holds an active slot
  blocked : Bool              -- its shaper blocked it
  inTurn : Bool               -- its turn has begun (R220)
deriving DecidableEq, Repr

/-- The Sole and the schedulers beside their registers. -/
structure SoleSt where
  buf : List Queued           -- messages holding cells, in order of enqueueing
  waiting : List Queued       -- messages waiting at step 7 for cells (R196)
  slotWait : List Queued      -- messages waiting at step 7 for an active queue slot (R217)
  deferred : List Queued      -- red requests deferred (R208)
  flight : List Matching
  grantPtr : Tab Nat          -- G_j
  acceptPtr : Tab Nat         -- A_i
  muxPtr : Tab Nat            -- egress pointer of each bank
  avg : Tab Nat               -- A of (agent, class), in 1/65536 cells
  marks : Tab Nat             -- mark counter of (slice, agent)
  severe : Tab Nat            -- boundary count of the last severe event of (slice, agent)
  queues : Tab QueueSt
  lru : List Nat              -- queue indices holding a slot, least recently used first
  fetching : List Nat         -- indices whose state is being fetched
  lists : Tab (List Nat)      -- service list of each egress agent (Mode S)
  meters : Tab (Int × Int)    -- Tc and Tp of the meters that differ from an untouched one
  meterDef : Int              -- Tc and Tp of an untouched meter
  behind : List (Nat × Nat × Msg)  -- link agent, egress agent and message waiting behind a message of its VC (R195)
  posted : List (Nat × Nat)   -- posted writes through a held port not yet accepted at their target: message, port (R369)
  crossing : List (Nat × Msg) -- messages delivered toward an internal agent and not yet taken by it
deriving DecidableEq, Repr

/-! ### Home agents (spec/09, spec/10) -/

/-- The eight coherent operations (R241). -/
inductive CohOp where
  | rdS | rdO | rdON | rdC | wb | ce | wrInv | wrPtl
deriving DecidableEq, Repr

/-- The tack states (R255). -/
inductive TackState where
  | lookup | dirf | evict | snoop | mem
deriving DecidableEq, Repr

/-- A tack (R255). -/
structure Tack where
  rgn : Nat
  line : Nat
  op : CohOp
  req : Msg                   -- the request it serves
  fpid : Option Nat           -- requester's FPID
  st : TackState
  toSnoop : List Nat          -- snoops outstanding, by FPID
  reissue : List Nat          -- snoops to re-issue (R288)
  inv : Bool                  -- the snoops are SNP_INV
  memRd : Bool                -- a memory read is outstanding
  memWr : Nat                 -- memory writes outstanding
  data : List Byte
  haveDirty : Bool            -- dirty data of an owner or an absorbed write has been taken
  poison : Bool
  wrote : Bool                -- the write the operation ends with has been issued
  timer : Option Nat
  dl : Nat                    -- DevLoad of the expander's response (R258)
  degraded : Bool
  eviction : Bool             -- an eviction tack
  migration : Bool
  absorbed : List Msg         -- absorbed writes awaiting their completion (R275)
  part : List Msg             -- absorbed partial writes to be merged when the line's data is there
  acks : List Msg             -- BIConflicts answered behind the response
deriving DecidableEq, Repr

/-- A directory entry (R252). -/
structure DirEntry where
  rgn : Nat
  line : Nat
  own : Bool
  sharers : List Nat          -- FPIDs, in pointer order
  ovf : Bool
  used : Nat                  -- order of last use, for the victim choice
deriving DecidableEq, Repr

/-- A request in a conflict queue: the Home clock and the order of its arrival (R268). -/
structure Wait where
  clk : Nat
  seq : Nat
  msg : Msg
deriving DecidableEq, Repr

/-- One home agent slice beside its registers. -/
structure HomeSt where
  tacks : List Tack
  dir : List DirEntry         -- every valid entry of the directory, cached or in the store
  frames : List (Nat × Bool × Nat)  -- cached sets: set index, modified, order of last use
  presence : List Nat         -- FPIDs whose presence bit is set (R246)
  chain : List Wait           -- line chains, in arrival order (R269)
  setQ : List Wait
  resQ : List Wait
  holds : List (Nat × Nat × Nat)    -- hold windows: region, line, end in Home clocks (R272)
  tick : Nat                  -- order of use and of arrival
  degraded : List Nat         -- degraded sets, at most 64
  departed : List Nat
  walking : List Nat          -- FPIDs of the running walk
  walkEnd : Nat               -- the boundary count its last set is walked at
  gathered : List Nat         -- FPIDs of the next pass
  walked : List Nat           -- departed FPIDs whose walk has ended
  clearOk : List Nat          -- departed FPIDs with a reason to return (R282)
  dct : List (Nat × Nat × Nat)      -- discarded completions: FPID, region, line
  fenced : Bool
deriving DecidableEq, Repr

/-- A lost-write record (R286). -/
structure LostWrite where
  fpid : Nat
  msg : Msg
  resent : Bool
deriving DecidableEq, Repr

/-! ### The Insole (spec/11) -/

/-- A remap entry held in the remap cache (R307, R309). -/
structure Remap where
  v : Bool
  st : Nat                    -- granule state of R307: 0 HOME, 1 CACHED, 2 PROMOTING, 3 DEMOTING, 4 CLEANING, 5 LOST
  d : Bool
  pin : Bool
  frame : Nat
  cnt0 : Nat
  cnt1 : Nat
  heat : Nat
deriving DecidableEq, Repr

/-- A migration in progress, or a cleaning write-back (R314, R319). -/
structure Mig where
  rng : Nat
  gran : Nat
  kind : Nat                  -- 0 promotion, 1 demotion, 2 cleaning
  frame : Nat
  copying : Bool              -- step 3 has begun
  before : Nat                -- STATE before step 1
  viaCmd : Bool               -- started by INS_GCMD
  coh : Bool                  -- a granule of a coherent region, copied by migration reads (R290)
  next : Nat                  -- next line a migration read is issued for
  left : Tab Nat              -- migration reads open, by slice
  held : List Msg             -- writes held, in arrival order
deriving DecidableEq, Repr

/-- A request that waits at a channel's service port (R296): its rank in the strict order 1 to 9, and its DPA. -/
structure Svc where
  rank : Nat
  dpa : Nat
deriving DecidableEq, Repr

/-- An access of the home path (R27): the slice, the line, and for a write its data. -/
structure HomeAcc where
  h : Nat
  rgn : Nat
  line : Nat
  dpa : Nat
  write : Bool
  data : List Byte
  poison : Bool
deriving DecidableEq, Repr

/-- One Insole channel beside its registers. -/
structure ChanSt where
  home : List HomeAcc         -- accesses of the home path, in order
  homeRd : List HomeAcc       -- its reads served and not yet returned, oldest first
  homeDone : List HomeAcc     -- its accesses done, which the slice has not yet taken
  svc : List Svc              -- accesses of the service port, in order
  reads : List Msg            -- pool reads in the channel's read queue, oldest first
  turns : List Nat            -- turns left in the round: pool, home path, service port
  scrub : Nat                 -- next block of the patrol on this channel
deriving DecidableEq, Repr

/-- The Insole and the tiering engine beside their registers. -/
structure InsSt where
  mem : Mem                   -- the 128 GiB, in canonical form: addresses rising, no zero byte listed
  bad : List Nat              -- channels whose blocks hold the poison code, mirrored areas apart (R437)
  flip : List Nat             -- 32 B words that differ in this from their channel (R293), rising
  chans : Tab ChanSt
  ready : Bool                -- the start-up of R321 has ended
  tagQ : List (Nat × Nat)     -- tag update queue: granule and tag (R305)
  tagC : List Nat             -- lines of the tag cache, last used first
  remap : Tab Remap           -- the remap cache, by entry index
  remapUse : List Nat         -- its indices, last used first
  fills : List (Nat × Nat × Nat × Msg)  -- lookups held for a fill: range, granule, ingress agent, message
  disp : List (Nat × Nat × Bool)        -- dispatched requests not complete: message, entry index, write (R309)
  frames : List Nat           -- cache frames not free, rising
  freeing : List Nat          -- frames of demoted granules that await their old reads (R314)
  oldReads : List (Nat × Nat) -- message and frame of the reads awaited
  scanEnd : Option Nat        -- parity the running scan closes (R312)
  counting : Nat              -- parity that counts (R311, R313)
  promo : List (Nat × Nat × Nat)  -- promotion candidates: heat, range, granule, in order of start
  demo : List (Nat × Nat × Nat)
  started : Nat               -- migrations started of this heat epoch's budget
  migs : List Mig
  held : Tab (List Msg)       -- requests held for a wake, per shelf (R320)
  wakeProm : Tab (List (Nat × Nat))   -- granules whose requests were held, per shelf
  cleaning : List Nat         -- shelves whose cleaning pass runs
  again : List (Nat × Msg)    -- ingress agent and message of held requests released by the running command
  sanTags : List Nat          -- sanitised extents whose tags become zero at the next boundary (R303)
deriving DecidableEq, Repr

/-! ### Management, events and the Clicker cores (spec/15) -/

/-- An event raised in the running stitch (R410, R411). -/
structure Ev where
  cls : Nat
  blk : Nat
  inst : Nat
  code : Nat
  data : Nat
  quiet : Bool                -- a FAULT event whose reaction is LOG (R414)
deriving DecidableEq, Repr

/-- A message being reassembled (R403). -/
structure Reasm where
  src : Nat
  tag : Nat
  body : List Byte
deriving DecidableEq, Repr

/-- A store in a core's store buffer (R417, R418). -/
structure CStore where
  addr : Nat
  n : Nat
  data : Word
  device : Bool
  ea : Bool
  accepted : Bool
  timer : Option Nat          -- expiry, in Management clocks
deriving DecidableEq, Repr

/-- A device load in progress (R418, R420). -/
structure CLoad where
  addr : Nat
  n : Nat
  issued : Bool
  timer : Option Nat
deriving DecidableEq, Repr

/-- One Clicker core beside its registers. -/
structure CoreSt where
  sb : List CStore            -- oldest first
  loads : List CLoad
  fence : Option (Bool × Bool)    -- a FENCE waiting: predecessor set includes O or W; includes I or R
  trap : Bool                 -- a trap waits for the older stores
  mtval : Option Nat          -- address of the last precise load access fault
  faults : Nat                -- access faults raised
  result : Word               -- value of the last load
  dropped : List CStore       -- stores accepted before a reset, whose responses will be discarded (R421)
  expired : List CStore       -- stores whose timeout has expired and whose response may still come (R420)
  lateLoads : Nat             -- loads whose timeout has expired and whose response may still come
deriving DecidableEq, Repr

/-- The request of the debug master in progress (spec/20 R510). -/
structure DbgRun where
  tag : Nat
  write : Bool
  sp : Nat
  ident : Nat
  addr : Nat
  len : Nat
  done : Nat
  wait : Nat                  -- the message whose response is awaited
  data : List Byte            -- of a write, what is to be written; of a read, what has been read
deriving DecidableEq, Repr

/-- Management beside its registers. -/
structure MgtSt where
  events : List Ev            -- events of the running stitch, in order
  evCount : Nat               -- records written since reset, for the oldest one in the ring
  tokens : List Nat           -- class buckets in 1/1,024 event (R414)
  reasm : List Reasm
  open_ : List (Nat × Nat)    -- outstanding requests: source endpoint and tag, in order (R405)
  cores : Tab CoreSt
  poolReq : Bool              -- Allocate Endpoint IDs has been requested (R404)
  vdmSet : Bool               -- an endpoint ID has been assigned on PCIe VDM
  i3cPool : Bool              -- the BMC has granted a pool on I3C
  dbg : Option (Nat × Nat)    -- debug session: endpoint and idle expiry (R510)
  dbgRun : Option DbgRun
  seq : Nat                   -- requests that the Clicker complex and the debug master have made through the crossbar
  coreReqs : List (Nat × Nat × Nat × Bool)   -- accesses of a core to the Insole window: message, core, address, load
  fmReqs : List (Nat × Nat)   -- configuration requests of an FM command: message and endpoint (spec/12 R352)
  fwJobs : List (Nat × Instr) -- work of firmware that waits for its restart (spec/16 R440): the shelf selected where it names one, and the command
  mbox : Mem                  -- the enclave mailbox (R40)
  sram : Mem                  -- the Clicker SRAM (R40)
deriving DecidableEq, Repr

/-! ### Faults (spec/16) -/

/-- The units a fault reaction can fence (R436, R437). -/
inductive FUnit where
  | lane (b l : Nat)
  | bank (b : Nat)
  | port (n : Nat)
  | link (m : Nat)
  | slice (h : Nat)
  | chan (c : Nat)
  | qp (q : Nat)
  | win (w : Nat)
deriving DecidableEq, Repr

/-- Faults, restart and power-down beside their registers. -/
structure FltSt where
  occs : List Nat             -- bits set since the last boundary and not yet readable (R431)
  clears : List (Nat × Path)  -- bits cleared in the running stitch (R435)
  fences : List (FUnit × Nat) -- fenced units with the bits that fence them (R436)
  fenceQ : List FUnit         -- fences whose effect on the unit is to be applied by the same command
  release : List FUnit        -- units whose release takes place at the coming boundary
  released : List FUnit       -- units at their instant of release in the boundary under way
  logCount : Nat              -- records written since reset
  alert : Bool                -- the sticky bits assert ALERT_N (R433)
  encAlert : Bool             -- the enclave asserts ALERT_N (R93, R399, R409)
  restartTo : Option Nat      -- restart: expiry of the CONFIRM limit (R439)
  restartImg : Nat            -- image the restart starts
  restartPrev : Nat           -- image running before the restart
  restartSvn : Nat            -- SVN of the firmware the restart starts, then of the one it replaced
  reverting : Bool            -- the previous image is being started again
  pdHold : Bool               -- ingress admits no new request (R443)
  pdStart : Bool              -- GO awaits its boundary
  pdAbort : Bool              -- ABORT awaits its boundary
  pdTimer : Option Nat        -- limit of the running step
  pdDisabled : List Nat       -- links whose DISABLE step 5 has set
  pdPhase : Nat               -- GPF phase of step 4
  pdFail : Bool               -- a partner has left a GPF phase unanswered
  pdWait : List Nat           -- ports whose GPF answer is awaited
  gpfReqs : List (Nat × Nat × List Nat)  -- host GPF requests: port, phase, partners outstanding
  gpfBack : List (Nat × Nat)  -- host ports whose Phase 2 waits for the write-back, and its expiry
deriving DecidableEq, Repr

/-! ### Binding, slices, the wake budget and shelves (spec/12) -/

/-- A bind that has passed its check and applies at the next boundary (R328): the path whose status reports it, if any. -/
structure BindCmd where
  since : Nat                 -- boundary count at its check
  path : Option Path
  vppb : Nat
  kind : Nat
  port : Nat
  obj : Nat
  slice : Nat
deriving DecidableEq, Repr

/-- An unbind that waits (R329): the option taken, and the path that reports it. -/
structure Unbind where
  since : Nat
  path : Option Path
  vppb : Nat
  umode : Nat
deriving DecidableEq, Repr

/-- A slice command that waits for its gate or runs (R336 to R339). -/
structure SlCmd where
  since : Nat                 -- boundary count of its issue, then of its gate or its fall to squash
  slice : Nat
  remove : Bool
  squash : Bool
  target : Option Nat         -- the gate stitch of FABRIC scope
  running : Bool
  timer : Option Nat          -- drain timer: expiry
  fell : Bool                 -- the drain fell back to squash
deriving DecidableEq, Repr

/-- A report to the Clicker of another module (R354): its cause as 0 departure, 1 upstream loss, 2 REMOVE, and what it names. -/
structure Report where
  sw : Nat
  kind : Nat
  val : Nat
  next : Nat                  -- boundary count at which it is sent again
deriving DecidableEq, Repr

/-- Binding beside its registers. -/
structure BndSt where
  binds : List BindCmd        -- checked binds, for the next boundary
  unbinds : List Unbind
  lost : List Nat             -- vPPBs whose binding a link loss removes at the next boundary (R330)
  slCmds : List SlCmd
  lease : Option Nat          -- ownership lease: its expiry (R353)
  reports : List Report       -- reports not acknowledged
  reportsRx : List (Nat × Nat)    -- reports received, for the next boundary: kind and value
  partLds : Tab Nat           -- capacity of a partner's LDs in units of 64 MiB, as discovery found it (R325)
  wakeQ : List (Nat × Nat)    -- waiting wake requests: stamp, and bank b or 20 + shelf, in the order of R350
  pendWake : List Nat         -- shelves whose wake request is kept while they clean or park (R351)
  shelfTo : Tab Nat           -- park or wake limit of a shelf: its expiry
  heldIn : List (Nat × Route × Msg)   -- headers held while BND values apply: agent, route and request (R324)
  dcdArm : Bool               -- a LOCAL swap of group INS for a capacity change waits to be armed (R352)
deriving DecidableEq, Repr

/-! ### The Cobbler (spec/12) -/

/-- Where a descriptor stands: fetched and checked, running, or ended and waiting to post its completion. -/
inductive DescState where
  | ready | running | ended
deriving DecidableEq, Repr

/-- A descriptor fetched and not yet completed (R344 to R347). -/
structure Desc where
  no : Nat                    -- order of fetching
  qp : Nat
  idx : Nat                   -- its place in the submission ring
  op : Nat
  fence : Bool
  notify : Bool
  ss : Nat
  ds : Nat
  len : Nat
  src : Nat
  dst : Nat
  arg : Nat
  ident : Nat
  st : DescState
  status : Nat
  field : Nat
  done : Nat                  -- bytes accepted, a prefix of the destination
  poison : Bool
  timer : Option Nat          -- no-progress timer: expiry (R346)
  wait : Option Nat           -- a read (low bit 0) or write (low bit 1) of its is outstanding: twice the message's number
  chunk : Nat                 -- bytes of the access outstanding
  postAt : Nat                -- boundary count from which its completion may be written (R348)
deriving DecidableEq, Repr

/-- The Cobbler beside its registers. -/
structure CobSt where
  descs : List Desc           -- in order of fetching
  tails : Tab Nat             -- submission tail by queue pair
  gateTails : Tab Nat         -- the tail written before the gate (R338)
  cqHeads : Tab Nat
  cqTails : Tab Nat
  phase : Tab Bool            -- PHASE of the completion written next (R347)
  rr : Nat                    -- queue pair served last (R346)
  seq : Nat                   -- descriptors fetched and accesses issued, for their numbers
  san : List (Nat × Bool)     -- extents to sanitise that await submission, with their retry (R348)
  sanRun : List (Nat × Bool)  -- extents submitted
deriving DecidableEq, Repr

/-! ### The Vamp bridge (spec/13) -/

/-- The virtual configuration of one binding (R359): BAR bases by number, memory space enable, bus master enable, INTx disable. -/
structure VBind where
  bars : Tab Nat
  memEn : Bool
  busEn : Bool
  intxDis : Bool
deriving DecidableEq, Repr

/-- A tracking entry (R360, R372). -/
structure VTrack where
  outb : Bool                 -- outbound: from a host toward a device
  req : Msg                   -- the request as it reached the bridge
  port : Nat                  -- the held port of the device
  win : Nat
  tag : Nat                   -- the tag toward the device, which numbers the forwarded request
  dev : Nat                   -- its device address
  extra : Nat                 -- bytes of prefetch beyond it (R363)
  locked : Bool               -- the read of an MRdLk (R366)
  timer : Nat                 -- Vamp non-posted timer: expiry
  detached : Bool             -- detached from its slice by a squash (R338)
deriving DecidableEq, Repr

/-- A prefetched line (R364). -/
structure PfLine where
  win : Nat
  slice : Nat
  addr : Nat
  data : List Byte
  born : Nat
deriving DecidableEq, Repr

/-- A lock semaphore (R366, R367): its port, the holder's FPID and slice, its expiry, and whether it has been broken and its
holder's Unlock has not arrived. -/
structure VLock where
  port : Nat
  fpid : Nat
  slice : Nat
  timer : Nat
  broken : Bool
deriving DecidableEq, Repr

/-- A message from a device in the inbound message queue (R368, R369): what it is (0 MSG-window write, 1 INTx, 2 error, 3 forwarded,
4 consumed). -/
structure VMsg where
  port : Nat
  kind : Nat
  msg : Msg
  win : Nat
deriving DecidableEq, Repr

/-- The bridge beside its registers. -/
structure VampSt where
  binds : Tab VBind           -- by vPPB
  tracks : List VTrack
  npq : List (Bool × Msg)     -- non-posted requests waiting for an entry: outbound or inbound (R371)
  lines : List PfLine         -- least recently used first
  locks : List VLock
  lockQ : List (Nat × Msg)    -- port and message, in arrival order
  inq : List VMsg
  intx : List (Nat × Nat)     -- asserted INTx: presented function and pin
  tag : Nat                   -- next tag toward devices
deriving DecidableEq, Repr

/-! ### Access control and security (spec/14) -/

/-- A violation record (R386). -/
structure Viol where
  seq : Nat
  stitch : Nat
  reason : Nat
  kind : Nat
  space : Nat
  addr : Nat
  len : Nat
  fpid : Option Nat
  agent : Nat
  sw : Nat
  slot : Nat
  window : Option Nat
  slice : Nat
  key : Nat
  tag : Option Nat
  ident : Nat
deriving DecidableEq, Repr

/-- A request whose colour check waits for a line of tags (R305, R381): the line, the request as it leaves step 6, what the eyelet check
found, what its violation record would say, the DPA of the access, and the tags of its granules as they stood where a boundary has changed them
since. -/
structure TagWait where
  line : Nat
  agent : Nat
  msg : Msg
  viol : Viol
  dpa : Nat
  old : List (Nat × Nat)
deriving DecidableEq, Repr

/-- A security command record (R391): OP, the nonce it holds, the key store entry under which its signature verifies, and its arguments.
DESIGN CHOICE (log entry 46). -/
structure SecRec where
  op : Nat
  nonce : Nat
  signer : Option Nat
  a : Nat
  b : Nat
  ok : Bool
  ids : List Nat
deriving DecidableEq, Repr

/-- Access control and the enclave beside their registers. -/
structure SecSt where
  violQ : List Viol           -- the on-die queue, at most 256
  tagWait : List TagWait
  identity : Bool             -- the device identity key is held
  ownerKey : Bool             -- the owner attestation key is held
  owners : List Nat           -- key store entries installed by the owner
  running : Option Nat        -- OP of a command that runs on (RETURN, FLASH_WRITE)
  waiting : List SecRec       -- commands that wait for a verification to end
  dbgPend : Option Bool       -- a debug change for the next boundary
  dbgEver : Bool              -- the debug master has been UNLOCKED since the power entry
  returning : Option Nat      -- RETURN: boundary count at its acceptance
  digest : Option Nat         -- block 10 of the measurements, once computed
  digBusy : Bool              -- its computation runs
  digWait : List (Nat × Bool) -- requesters waiting for it, and whether they asked for every block
  conns : Tab Nat             -- SPDM state of a requester: 1 version, 2 capabilities, 3 algorithms (R395)
  sessions : List (Nat × Bool)    -- responder sessions and whether their handshake has finished
  ideKeys : List (Nat × Nat)  -- streams whose keys the enclave has installed: port and stream (R394)
deriving DecidableEq, Repr

/-! ### Counters (spec/17) -/

/-- A snapshot of the accounting store in a snapshot buffer, with the buffer configuration of its instant (R453 to R455). -/
structure Frame where
  seq : Nat
  slot : Nat
  stitch : Nat
  astate : Nat
  kind : Nat
  short : Bool
  lost : Nat
  skipped : Nat
  cyc : Nat
  host : Bool
  base : Nat
  hostPort : Nat
  pasid : Option Nat
  ctrs : Tab Nat              -- the counters, by 8 × slice + counter
  gens : Tab Nat
  states : Tab Nat            -- slice states other than zero
  final : List Nat            -- slices whose RESET ends here
deriving DecidableEq, Repr

/-- The accounting store and the dump beside their registers. -/
structure CntSt where
  acct : Tab Nat              -- accounting counters, by 8 × slice + counter
  gens : Tab Nat              -- resets of a slice, modulo 2^16
  bufs : List Frame           -- snapshot buffers in use, at most two, in SEQ order
  slots : Tab Nat             -- slots taken since the slot counter was last zeroed, with the frame's SEQ
deriving DecidableEq, Repr


/-! ### Power entry, AVS and telemetry (spec/18) -/

/-- The power entry controller with its nonvolatile record, and what the PWR block holds beside its registers. -/
structure PwrSt where
  ctl : Nat                   -- state of R463: 0 NOBIAS, 1 OFF, 2 INSERT, 3 RAMP, 4 ON, 5 LATCHED
  feedA : Bool                -- the feed is in its window (R459)
  feedB : Bool
  orA : Bool                  -- the ORing FET conducts (R461)
  orB : Bool
  insRun : Bool               -- the insertion timer runs (R464)
  insDone : Bool              -- the insertion delay has elapsed
  pmEn : Bool                 -- level of PM_EN
  latch : Bool                -- the trip latch (R470)
  cool : Bool                 -- the cool-down runs
  recCause : Nat              -- the nonvolatile record (R473)
  recTrips : Nat
  recIns : Nat
  nvBusy : Option Nat         -- a record write of NV_COMMIT: its expiry
  regsOn : Bool               -- the regulators are enabled (R466)
  urgentAt : Option Nat       -- Sole clock of the last urgent raise (R475)
  sums : List Nat             -- sums of the samples of the running TEL epoch: V and I of feed A, of feed B, input power
  samples : Nat               -- samples in them
  frac : Nat                  -- input energy not yet counted, in 1/100,000 µJ (R479)
  therm : Bool                -- the condition of PWR_THERMAL holds (R480)
  avsLim : Bool               -- the condition of PWR_AVS_LIMIT holds (R476)
deriving DecidableEq, Repr


/-! ### The module: resets, start-up, cages and the sideband (spec/19) -/

/-- The module beside its registers. -/
structure ModSt where
  perst : Bool                -- PERST_N is low (R499)
  aonHeld : Bool              -- the Always-on reset is held after a power-on (R494)
  pulse : Bool                -- the 1 ms hold of GLB_RST.MODULE runs
  mgmtLoad : Bool             -- the restart of R501 runs
  cages : Tab Nat             -- expiry of the 100 ms after READY, per edge bank (R488)
  released : List Nat         -- edge banks whose Cn_RST_N is released
  readyTo : Option Nat        -- READY_LIMIT: its expiry (R495)
  tried : List Nat            -- links that have ended their first training attempt (R495)
  bootWake : Bool             -- the banks with BOOT_EN request a wake at the next boundary (R494, step 5)
  dynAddr : Option Nat        -- I3C dynamic address (R491)
  ibi : Bool                  -- the controller has enabled in-band interrupts
  mrl : Nat                   -- maximum read and write lengths
  mwl : Nat
  hotJoin : Bool              -- Hot-Join has been requested
deriving DecidableEq, Repr

/-! ### What leaves the module -/

/-- What the module sends, in order of sending: the model's record of its outputs. DESIGN CHOICE (log entry 45). -/
inductive Out where
  /-- a message leaves an edge port -/
  | port (n : Nat) (msg : Msg)
  /-- a flit leaves a link: its header, and of a DATA flit the messages with bytes in it -/
  | flit (m : Nat) (h : FlitHdr) (msgs : List Msg)
  /-- an INIT message leaves a link (R174) -/
  | init (m : Nat) (i : InitMsg)
  /-- a link control message leaves a link (R174): type and argument -/
  | lctl (m ty arg : Nat)
  /-- a stitch marker leaves a link (R64) -/
  | marker (m : Nat) (mk : Marker)
  /-- an event record is sent to a subscriber (R415): endpoint, binding, and the record as a number -/
  | event (eid path rec : Nat)
  /-- an MCTP message or response leaves: endpoint, type, command, completion code, body -/
  | mctp (eid ty cmd cc : Nat) (body : List Byte)
  /-- the answer to a register read or write of a path: completion and value -/
  | csr (p : Path) (ok : Bool) (v : Word)
  /-- a control action at a port or link agent: 0 hot reset, 1 speed change to a rate, 2 reset of an LD, 3 acceptance notice of a posted
  write, 4 presence change at a vPPB, 5 AER report, 6 viral, 7 IDE refusal, 8 interrupt, 9 error message, 10 GPF phase -/
  | ctl (n act arg : Nat)
  /-- an answer on the I3C bus: the command's code and the value -/
  | i3c (code v : Nat)
deriving DecidableEq, Repr

/-! ### The state -/

/-- The state of the module. -/
structure State where
  regs : RegFile              -- every register: live words, and the staged copies of STG fields
  act : RegFile               -- the active copies of STG fields (R57)
  tim : TimeSt
  acs : AccessSt
  las : LastSt
  lanes : Tab LaneSt          -- by 16 × bank + lane
  banks : Tab BankSt
  ports : Tab PortSt
  links : Tab LinkSt
  routes : Tab RouteSt        -- by switch ID
  sole : SoleSt
  homes : Tab HomeSt          -- by slice
  lwt : List LostWrite        -- the lost-write table (R286)
  ins : InsSt
  mgt : MgtSt
  flt : FltSt
  bnd : BndSt
  cob : CobSt
  vmp : VampSt
  sec : SecSt
  cnt : CntSt
  pwr : PwrSt
  mdl : ModSt
  out : List Out              -- what has been sent, newest first
  freeCtr : Nat               -- uses of the free values (the model's own)
  pending : List Instr        -- commands waiting, first in first out (the model's own)
deriving DecidableEq, Repr

/-! ### Reset -/

def TimeSt.reset : TimeSt :=
  { num := 0, bnd := 0, running := false, cells := 0, cyc := 0, arm := none, marks := [], seen := [], delay := 0,
    okRun := 0, badRun := 0, dryRun := 0, backupRun := 0, actingRoot := false, jump := false, hold := none,
    pinSeen := false, pinBad := [], pinLost := false, pinLoaded := false, stitchOut := 0, epochs := [], epochEnds := [],
    short := [] }

def AccessSt.reset : AccessSt := { snaps := [], holds := [], missed := [], missedClr := [] }

def LastSt.reset : LastSt :=
  { load := none, committing := none, heldStg := [], heldArm := [], heldJobs := [], structDigests := [], direct := [], lastGroups := [],
    flashA := [], flashB := [], prefImage := 0, tries := 0, fallback := false, bootFailed := [], confirm := none,
    recovery := false, fwRunning := false }

def LaneSt.reset : LaneSt :=
  { timer := none, retry := none, relock := none, stable := none, matches_ := 0, mirrored := false, preset := 0, mcoef := 0, tapM3 := 0, tapM2 := 0, tapM1 := 0, tap0 := 0, tapP1 := 0,
    peak := 0, gain := 0, dfe := [], farDone := false, ownDone := false, stat := 0, scan := none, fenced := false }

def BankSt.reset : BankSt := { timer := none, relocking := false, stable := none, family := none }

def PortSt.reset : PortSt :=
  { np := [], attempt := none, aim := 0, everUp := false, recoveries := 0, loss := none, lossAt := none, wait := none,
    disc := none, est := none, estOnce := false, rekey := none, xrEnable := false, xrLopt := false, advertise128 := false,
    speedChange := none, xrBar := false, opened := [], stale := [], lastReq := 0 }

def LinkSt.reset : LinkSt :=
  { nextSeq := 0, acked := 1048575, unacked := [], expSeq := 0, rxAny := false, nakPend := false, lastNak := none,
    replaying := [], retried := none, timer := none, consumed := [], returned := [], freed := [], rot := 0, farSize := [],
    txq := [], vcPtr := 0, landed := [], lctl := [], rep := [], flits := 0, grace := none, attempt := none, trainSet := 0,
    deskewed := [], gcnt := 0, nonce := 0, seen := false, farRx := 0, chosen := 15, initRetry := none, cause := 0, pendSet := none,
    laceTag := 0, laceTo := none, laceTx := false, laceRx := false, unlacing := false, laceOwn := false, xt := [], inb := [],
    flushEnd := none, fenceHeld := false }

def RouteSt.reset : RouteSt := { onAlt := false, wait := none, early := none, fence := none, fenceVcs := 0, fenceId := 0 }

def SoleSt.reset : SoleSt :=
  { buf := [], waiting := [], slotWait := [], deferred := [], flight := [], grantPtr := [], acceptPtr := [], muxPtr := [],
    avg := [], marks := [], severe := [], queues := [], lru := [], fetching := [], lists := [], meters := [], meterDef := 0,
    behind := [], posted := [], crossing := [] }

def HomeSt.reset : HomeSt :=
  { tacks := [], dir := [], frames := [], presence := [], chain := [], setQ := [], resQ := [], holds := [],
    tick := 0, degraded := [], departed := [], walking := [], walkEnd := 0, gathered := [], walked := [], clearOk := [], dct := [],
    fenced := false }

def ChanSt.reset : ChanSt := { home := [], homeRd := [], homeDone := [], svc := [], reads := [], turns := [], scrub := 0 }

/-- The Insole as its domain's reset leaves it: nothing written, nothing in service. DESIGN CHOICE (log entry 6). -/
def InsSt.reset : InsSt :=
  { mem := [], bad := [], flip := [], chans := [], ready := false, tagQ := [], tagC := [], remap := [], remapUse := [],
    fills := [], disp := [], frames := [], freeing := [], oldReads := [], scanEnd := none, counting := 0, promo := [],
    demo := [], started := 0, migs := [], held := [], wakeProm := [], cleaning := [], again := [], sanTags := [] }

def CoreSt.reset : CoreSt :=
  { sb := [], loads := [], fence := none, trap := false, mtval := none, faults := 0, result := 0, dropped := [], expired := [], lateLoads := 0 }

/-- Buckets start full (R414): BURST 64 events of 1,024 tokens, in each of the eight classes. -/
def MgtSt.reset : MgtSt :=
  { events := [], evCount := 0, tokens := [65536, 65536, 65536, 65536, 65536, 65536, 65536, 65536], reasm := [], open_ := [],
    cores := [], poolReq := false, vdmSet := false, i3cPool := false, dbg := none, dbgRun := none, seq := 0, coreReqs := [], fmReqs := [], fwJobs := [], mbox := [], sram := [] }

def FltSt.reset : FltSt :=
  { occs := [], clears := [], fences := [], fenceQ := [], release := [], released := [], logCount := 0, alert := false,
    encAlert := false, restartTo := none, restartImg := 0, restartPrev := 0, restartSvn := 0, reverting := false, pdHold := false, pdStart := false, pdAbort := false,
    pdTimer := none, pdDisabled := [], pdPhase := 0, pdFail := false, pdWait := [], gpfReqs := [], gpfBack := [] }

def BndSt.reset : BndSt :=
  { binds := [], unbinds := [], lost := [], slCmds := [], lease := none, reports := [], reportsRx := [],
    partLds := [], wakeQ := [], pendWake := [], shelfTo := [], heldIn := [], dcdArm := false }

def CobSt.reset : CobSt :=
  { descs := [], tails := [], gateTails := [], cqHeads := [], cqTails := [], phase := [], rr := 511, seq := 0, san := [],
    sanRun := [] }

def VampSt.reset : VampSt :=
  { binds := [], tracks := [], npq := [], lines := [], locks := [], lockQ := [], inq := [], intx := [], tag := 0 }

def SecSt.reset : SecSt :=
  { violQ := [], tagWait := [], identity := true, ownerKey := false, owners := [], running := none, waiting := [], dbgPend := none,
    dbgEver := false, returning := none, digest := none, digBusy := false, digWait := [], conns := [], sessions := [], ideKeys := [] }

def CntSt.reset : CntSt := { acct := [], gens := [], bufs := [], slots := [] }

def PwrSt.reset : PwrSt :=
  { ctl := 0, feedA := false, feedB := false, orA := false, orB := false, insRun := false, insDone := false, pmEn := false,
    latch := false, cool := false, recCause := 0, recTrips := 0, recIns := 20, nvBusy := none, regsOn := false,
    urgentAt := none, sums := [0, 0, 0, 0, 0], samples := 0, frac := 0, therm := false, avsLim := false }

/-- The module beside its registers before any feed is in its window. PRESUMED for the I3C limits (log entry 41). -/
def ModSt.reset : ModSt :=
  { perst := false, aonHeld := false, pulse := false, mgmtLoad := false, cages := [], released := [], readyTo := none, tried := [], bootWake := false,
    dynAddr := none, ibi := false, mrl := 256, mwl := 256, hotJoin := false }


/-- The module before its feeds are present: every register and every store at its reset value, no command waiting. The registers that differ from
the tables: the insertion delay of the controller's record (R464), and the three entries the key store leaves the factory with (R389).
DESIGN CHOICE (log entry 5); DEDUCED (log entry 33). -/
def State.reset : State :=
  { regs := [(0x100008, 20), (0x1300104, 0x201), (0x1300104 + ent 1, 0x1001), (0x1300104 + ent 2, 0x101)], act := [], tim := TimeSt.reset, acs := AccessSt.reset, las := LastSt.reset, lanes := [], banks := [],
    ports := [], links := [], routes := [], sole := SoleSt.reset, homes := [], lwt := [], ins := InsSt.reset,
    mgt := MgtSt.reset, flt := FltSt.reset,
    bnd := BndSt.reset,
    cob := CobSt.reset,
    vmp := VampSt.reset,
    sec := SecSt.reset,
    cnt := CntSt.reset,
    pwr := PwrSt.reset,
    mdl := ModSt.reset,
    out := [], freeCtr := 0, pending := [] }

end Sys2Proof.Machine
end

