-- ==== Sys2Proof/Machine/Ops.lean ====
section
/-!
DEFINITION. The named operations over the state that every chapter's meanings use: registers and fields, units, timers,
the Insole's memory, events, fault occurrences with their log and fences, outputs and free values.
-/
namespace Sys2Proof.Machine
open Sys2Proof

/-! ### Registers and fields (spec/00 R12 to R15) -/

/-- The word of a register: its live value, or its staged copy where its fields are STG. -/
def State.reg (s : State) (k : Nat) : Word := s.regs.get k

/-- The state with a register's word replaced. -/
def State.setReg (s : State) (k : Nat) (w : Word) : State := { s with regs := s.regs.set k w }

/-- The state with the active copy of a register replaced. -/
def State.setAct (s : State) (k : Nat) (w : Word) : State := { s with act := s.act.set k w }

/-- A field as the hardware uses it: the active copy of an STG field, the live value of any other (R15, R57). -/
def State.get (s : State) (f : Fld) (d : Nat) : Nat :=
  f.of (if f.acc = Acc.stg then s.act.get (f.off + d) else s.regs.get (f.off + d))

/-- A one-bit field as the hardware uses it. -/
def State.on (s : State) (f : Fld) (d : Nat) : Bool := s.get f d != 0

/-- The staged copy of an STG field. -/
def State.staged (s : State) (f : Fld) (d : Nat) : Nat := f.of (s.regs.get (f.off + d))

/-- The state with a field's live or staged value replaced. -/
def State.put (s : State) (f : Fld) (d v : Nat) : State := s.setReg (f.off + d) (f.upd (s.regs.get (f.off + d)) v)

/-- The state with a field's active copy replaced. -/
def State.putAct (s : State) (f : Fld) (d v : Nat) : State := s.setAct (f.off + d) (f.upd (s.act.get (f.off + d)) v)

/-- A counter field increased by `n`, saturating. -/
def State.bump (s : State) (f : Fld) (d n : Nat) : State := s.put f d (min (2 ^ f.width - 1) (s.get f d + n))

/-- The value a path's copy of a banked selector holds (spec/20 R506). -/
def State.sel (s : State) (p : Path) (f : Fld) : Nat := f.of (s.regs.get (f.off + ent p.code))

/-- A fold of an operation over a list. -/
def State.each {α : Type} (s : State) (l : List α) (f : State → α → State) : State := l.foldl f s

/-! ### Units (spec/01 R23, R33) -/

def dBank (b : Nat) : Nat := b * 0x10000
def dLane (b l : Nat) : Nat := b * 0x10000 + l * 0x100
def dPort (n : Nat) : Nat := n * 0x4000
def dLink (m : Nat) : Nat := m * 0x10000
def dHome (h : Nat) : Nat := h * 0x40000
def dPmc (b : Nat) : Nat := b * 0x100

/-- The key of a lane. -/
def laneKey (b l : Nat) : Nat := 16 * b + l

def State.lane (s : State) (b l : Nat) : LaneSt := s.lanes.getD (laneKey b l) LaneSt.reset
def State.setLane (s : State) (b l : Nat) (f : LaneSt → LaneSt) : State :=
  { s with lanes := s.lanes.set (laneKey b l) (f (s.lane b l)) }
def State.bank (s : State) (b : Nat) : BankSt := s.banks.getD b BankSt.reset
def State.setBank (s : State) (b : Nat) (f : BankSt → BankSt) : State := { s with banks := s.banks.set b (f (s.bank b)) }
def State.port (s : State) (n : Nat) : PortSt := s.ports.getD n PortSt.reset
def State.setPort (s : State) (n : Nat) (f : PortSt → PortSt) : State := { s with ports := s.ports.set n (f (s.port n)) }
def State.link (s : State) (m : Nat) : LinkSt := s.links.getD m LinkSt.reset
def State.setLink (s : State) (m : Nat) (f : LinkSt → LinkSt) : State := { s with links := s.links.set m (f (s.link m)) }
def State.route (s : State) (w : Nat) : RouteSt := s.routes.getD w RouteSt.reset
def State.setRoute (s : State) (w : Nat) (f : RouteSt → RouteSt) : State := { s with routes := s.routes.set w (f (s.route w)) }
def State.home (s : State) (h : Nat) : HomeSt := s.homes.getD h HomeSt.reset
def State.setHome (s : State) (h : Nat) (f : HomeSt → HomeSt) : State := { s with homes := s.homes.set h (f (s.home h)) }
def State.chan (s : State) (c : Nat) : ChanSt := s.ins.chans.getD c ChanSt.reset
def State.setIns (s : State) (f : InsSt → InsSt) : State := { s with ins := f s.ins }
def State.setChan (s : State) (c : Nat) (f : ChanSt → ChanSt) : State :=
  s.setIns fun i => { i with chans := i.chans.set c (f (s.chan c)) }
def State.core (s : State) (c : Nat) : CoreSt := s.mgt.cores.getD c CoreSt.reset
def State.setMgt (s : State) (f : MgtSt → MgtSt) : State := { s with mgt := f s.mgt }
def State.setCore (s : State) (c : Nat) (f : CoreSt → CoreSt) : State :=
  s.setMgt fun g => { g with cores := g.cores.set c (f (s.core c)) }
def State.setTim (s : State) (f : TimeSt → TimeSt) : State := { s with tim := f s.tim }
def State.setAcs (s : State) (f : AccessSt → AccessSt) : State := { s with acs := f s.acs }
def State.setLas (s : State) (f : LastSt → LastSt) : State := { s with las := f s.las }
def State.setSole (s : State) (f : SoleSt → SoleSt) : State := { s with sole := f s.sole }
def State.setPwr (s : State) (f : PwrSt → PwrSt) : State := { s with pwr := f s.pwr }
def State.setMdl (s : State) (f : ModSt → ModSt) : State := { s with mdl := f s.mdl }
def State.setFlt (s : State) (f : FltSt → FltSt) : State := { s with flt := f s.flt }
def State.setBnd (s : State) (f : BndSt → BndSt) : State := { s with bnd := f s.bnd }
def State.setCob (s : State) (f : CobSt → CobSt) : State := { s with cob := f s.cob }
def State.setVmp (s : State) (f : VampSt → VampSt) : State := { s with vmp := f s.vmp }
def State.setSec (s : State) (f : SecSt → SecSt) : State := { s with sec := f s.sec }
def State.setCnt (s : State) (f : CntSt → CntSt) : State := { s with cnt := f s.cnt }
def State.setLwt (s : State) (f : List LostWrite → List LostWrite) : State := { s with lwt := f s.lwt }

/-- The bank of an edge port and of a Mornu link (spec/01 R23). -/
def bankOfPort (n : Nat) : Nat := n / 4
def bankOfLink (m : Nat) : Nat := 16 + m / 2

/-! ### Time (spec/02 R50, R51) -/

/-- The expiry of a timer started now with `t` stitches. DEDUCED (log entry 9). -/
def State.after (s : State) (t : Nat) : Nat := s.tim.bnd + t

/-- Whether a timer with the expiry is due: the boundary that ends its expiry stitch has occurred. DEDUCED (log entry 9). -/
def State.due (s : State) (e : Nat) : Bool := decide (e < s.tim.bnd)

/-- Whether an optional timer runs and is due. DEDUCED (log entry 9). -/
def State.dueO (s : State) (e : Option Nat) : Bool := match e with | some t => s.due t | none => false

/-- The alignment state (R67). -/
def State.astate (s : State) : Nat := s.get F.GLB_STITCH_STATUS_STATE 0

/-! ### Free values -/

/-- The next free value. DESIGN CHOICE (log entry 7). -/
def State.freeVal (s : State) : Nat := (Config.free s.freeCtr).toNat

/-- The state after a use of a free value. DESIGN CHOICE (log entry 7). -/
def State.usedFree (s : State) : State := { s with freeCtr := s.freeCtr + 1 }

/-! ### Outputs -/

/-- The state after sending. DESIGN CHOICE (log entry 45). -/
def State.send (s : State) (o : Out) : State := { s with out := o :: s.out }

/-- Viral is raised on a port where it is enabled; a port in a CXL 1.1 mode has none (spec/05 R131, R153, R155). DESIGN CHOICE (log entry 8). -/
def State.viral (s : State) (n : Nat) : State :=
  let md := s.get F.EP_PORT_CFG_MODE (dPort n)
  if Config.viralEnabled n && decide (n < 64) && md != 3 && md != 4 then (s.put F.EP_CXL_STATUS_VIRAL (dPort n) 1).send (.ctl n 6 0) else s

/-! ### The Insole's memory (spec/01 R37, spec/11 R293, R321) -/

/-- A number as bytes, lowest first. -/
def leBytes : Nat → Nat → List Byte
  | 0, _ => []
  | n + 1, v => BitVec.ofNat 8 v :: leBytes n (v / 256)

/-- Bytes as a number, lowest first. -/
def leNat : List Byte → Nat
  | [] => 0
  | b :: bs => b.toNat + 256 * leNat bs

/-- The channel of a DPA (R32). -/
def chanOf (a : Nat) : Nat := a / 256 % 4

def State.mem (s : State) (a : Nat) : Byte := s.ins.mem.get a
def State.memN (s : State) (a n : Nat) : Nat := leNat (s.ins.mem.gets a n)
def State.clearMem (s : State) (a n : Nat) : State := s.setIns fun i => { i with mem := i.mem.clear a n }
def State.setMem (s : State) (a : Nat) (bs : List Byte) : State := s.setIns fun i => { i with mem := i.mem.sets a bs }

/-- Whether the system area answers at an address: its channel is trained, and not fenced unless the area is mirrored
(R298, R300, R322). -/
def State.sysOk (s : State) (a : Nat) : Bool :=
  s.on F.INS_CH_STATUS_TRAINED (4 * chanOf a) &&
    (!s.on F.INS_CH_STATUS_FENCED (4 * chanOf a) || s.get F.INS_CARVE_MIRROR 0 == 2)

/-- A write of the module's own user to the system area; dropped where the area does not answer (R322, R438). -/
def State.sysWrite (s : State) (a : Nat) (bs : List Byte) : State := if s.sysOk a then s.setMem a bs else s

/-- A service-port access is queued at its channel. -/
def State.svcAdd (s : State) (rank dpa : Nat) : State :=
  s.setChan (chanOf dpa) fun c => { c with svc := c.svc ++ [⟨rank, dpa⟩] }

/-- A service-port access has been served or has returned: it leaves the queue. -/
def State.svcDone (s : State) (rank dpa : Nat) : State :=
  s.setChan (chanOf dpa) fun c => { c with svc := c.svc.erase ⟨rank, dpa⟩ }

/-! ### Events (spec/15 R410) -/

/-- An event is raised in the running stitch. -/
def State.event (s : State) (cls blk inst code data : Nat) : State :=
  s.setMgt fun g => { g with events := g.events ++ [⟨cls, blk, inst, code, data, false⟩] }

/-- Event classes (R410). -/
def clsLink : Nat := 2
def clsConfig : Nat := 3
def clsBind : Nat := 4
def clsTiming : Nat := 5
def clsSecurity : Nat := 6
def clsStatus : Nat := 7

/-! ### Faults (spec/16 R428 to R438) -/

/-- Whether a sticky bit reads 1. -/
def State.sticky (s : State) (n : Nat) : Bool := (s.reg (R.FLT_STICKY + 4 * (n / 32))).getLsbD (n % 32)

/-- The sticky bits of a register with one of them set or cleared, and the summary bit of that register (R444). -/
def State.setSticky (s : State) (n : Nat) (b : Bool) : State :=
  let k := R.FLT_STICKY + 4 * (n / 32)
  let m : Word := BitVec.ofNat 32 (2 ^ (n % 32))
  let w := if b then s.reg k ||| m else s.reg k &&& ~~~ m
  let j := n / 32
  let ks := R.FLT_SUM + 4 * (j / 32)
  let mj : Word := BitVec.ofNat 32 (2 ^ (j % 32))
  let s1 := s.setReg k w
  s1.setReg ks (if w = 0 then s1.reg ks &&& ~~~ mj else s1.reg ks ||| mj)

/-- The reaction in force for a source (R432). -/
def State.reaction (s : State) (n : Nat) : Nat :=
  ((s.act.get (R.FLT_REACT + 4 * (n / 8))).toNat >>> (4 * (n % 8))) % 4

/-- The ALERT bit in force for a source (R433). -/
def State.alertBit (s : State) (n : Nat) : Bool :=
  (s.act.get (R.FLT_REACT + 4 * (n / 8))).getLsbD (4 * (n % 8) + 2)

/-- The unit a source's fence takes out of service, where the source itself tells (R430, column Fence; R437). -/
def fenceUnit (n : Nat) : Option FUnit :=
  if 68 ≤ n && n ≤ 75 then some (.slice (n % 4))
  else if 88 ≤ n && n ≤ 99 then some (.chan (n % 4))
  else if 128 ≤ n && n ≤ 199 then some (.link (n % 8))
  else if 256 ≤ n && n ≤ 295 then some (.bank ((n - 256) % 20))
  else if 448 ≤ n && n ≤ 831 then some (.port (n % 64))
  else if 1152 ≤ n && n ≤ 1215 then some (.port (n - 1152))
  else if 1216 ≤ n && n ≤ 1223 then some (.link (n - 1216))
  else if 1280 ≤ n && n ≤ 2239 then some (.lane ((n - 1280) % 320 / 16) ((n - 1280) % 16))
  else none

/-- Whether FENCE is a reaction the source permits (R430, R434). -/
def fenceable (n : Nat) : Bool :=
  n == 13 || (fenceUnit n).isSome || (decide (960 ≤ n) && decide (n ≤ 1023)) || (decide (1088 ≤ n) && decide (n ≤ 1237))

/-- Whether the catalogue assigns the number (R429, R430). -/
def assigned (n : Nat) : Bool :=
  decide (n ≤ 28) || (decide (32 ≤ n) && decide (n ≤ 50)) || (decide (64 ≤ n) && decide (n ≤ 99)) ||
  (decide (128 ≤ n) && decide (n ≤ 199)) || (decide (256 ≤ n) && decide (n ≤ 295)) || (decide (320 ≤ n) && decide (n ≤ 1237)) ||
  (decide (1280 ≤ n) && decide (n ≤ 2239))

/-- The block code of a bank's registers (R411). -/
def blkBank (b : Nat) : Nat := if b < 16 then 2 else 3

/-- The block that raises a source, as bits [25:20] of its CSR base (R429, R504). -/
def faultBlk (n inst : Nat) : Nat :=
  if n = 0 then 0xF else if n ≤ 4 then 0 else if n = 5 then 0x11 else if n ≤ 7 then 6 else if n = 8 then 7
  else if n = 9 then 9 else if n ≤ 11 then 0xA else if n = 12 then 0xB else if n ≤ 14 then 0x12 else if n = 15 then 0xD
  else if n ≤ 18 then 0x13 else if n = 19 then 0xE else if n = 20 then 0x10 else if n ≤ 26 then 1 else if n ≤ 28 then 0xF
  else if n = 34 then blkBank inst
  else if n < 34 then n - 32
  else if n ≤ 38 then n - 31
  else if n ≤ 50 then n - 30
  else if n ≤ 67 then 0xE else if n ≤ 87 then 9 else if n ≤ 99 then 0xA else if n ≤ 199 then 5
  else if n ≤ 295 then blkBank ((n - 256) % 20) else if n ≤ 383 then 0xA else if n ≤ 447 then 0xB
  else if n ≤ 831 then 4 else if n ≤ 895 then 0xB else if n ≤ 1151 then 0xC else if n ≤ 1237 then 0xD
  else blkBank ((n - 1280) % 320 / 16)

/-- A fault log record as a number (R438). -/
def State.faultRec (s : State) (typ n path : Nat) : Nat :=
  s.get F.FLT_LOG_SEQ_NEXT 0 + s.tim.num * 2 ^ 32 + s.astate * 2 ^ 80 + typ * 2 ^ 83 + n * 2 ^ 86 + s.reaction n * 2 ^ 98
    + bit (s.alertBit n) * 2 ^ 100 + path % 64 * 2 ^ 101

/-- One record enters the fault log (R438). DEDUCED (log entry 39). -/
def State.faultLog (s : State) (typ n path : Nat) : State :=
  let q := s.get F.FLT_LOG_SEQ_NEXT 0
  let s1 := s.sysWrite (0x20000000 + 32 * (q % 4194304)) (leBytes 32 (s.faultRec typ n path))
  let s2 := s1.put F.FLT_LOG_SEQ_NEXT 0 (q + 1)
  s2.setFlt fun t => { t with logCount := t.logCount + 1 }

/-- Whether a unit is fenced by some bit. -/
def State.fencedBy (s : State) (u : FUnit) : Bool := s.flt.fences.any fun e => e.1 == u

/-- The fence of a unit under a bit (R436): the record FENCE, and the effect on the unit where it is not fenced already. -/
def State.fence (s : State) (u : FUnit) (n : Nat) : State :=
  (s.faultLog 3 n 0).setFlt fun t =>
    { t with
      fences := if t.fences.any (fun e => e.1 == u && e.2 == n) then t.fences else t.fences ++ [(u, n)]
      fenceQ := if s.fencedBy u then t.fenceQ else t.fenceQ ++ [u] }

/-- The sources with one bit per held port that fence a window (R431). -/
def perWindow (n : Nat) : Bool := (decide (960 ≤ n) && decide (n ≤ 1023)) || (decide (1088 ≤ n) && decide (n ≤ 1151))

/-- Whether a bit is set, or will read 1 from the coming boundary (R431). -/
def State.pendingBit (s : State) (n : Nat) : Bool := s.sticky n || s.flt.occs.contains n

/-- An occurrence of source `n` with instance `inst`, its fence unit where one is named (R431, R432). DEDUCED (log entry 39). -/
def State.occAt (s : State) (n inst : Nat) (u : Option FUnit) : State :=
  let f := decide (s.reaction n = 2) && (u.isSome)
  if s.pendingBit n then
    match u with
    | some w => if perWindow n && f && !s.fencedBy w then s.fence w n else s
    | none => s
  else
    let s1 := (s.faultLog 0 n 0).setFlt fun t => { t with occs := t.occs ++ [n] }
    let s2 :=
      if 1152 ≤ n ∧ n ≤ 1237 then s1
      else s1.setMgt fun g =>
        { g with events := g.events ++ [⟨0, faultBlk n inst, inst, n, bit f, decide (s.reaction n = 0)⟩] }
    match u with
    | some w => if f then s2.fence w n else s2
    | none => s2

/-- An occurrence of the source `base` for instance `i` (R429). -/
def State.occ (s : State) (base i : Nat) : State := s.occAt (base + i) i (fenceUnit (base + i))

/-- A configuration error of a block kind, numbered in the order of R430, raised by one of its units (R19). -/
def State.cfgErr (s : State) (kind inst : Nat) : State := s.occAt (32 + kind) inst none

/-- Block kinds of configuration errors, in the order of R430. -/
def kGLB : Nat := 0
def kPWR : Nat := 1
def kLB : Nat := 2
def kEP : Nat := 3
def kML : Nat := 4
def kSOLE : Nat := 5
def kSCHED : Nat := 6
def kHA : Nat := 7
def kINS : Nat := 8
def kBND : Nat := 9
def kVAMP : Nat := 10
def kEYE : Nat := 11
def kCLK : Nat := 12
def kFLT : Nat := 13
def kPMC : Nat := 14
def kLAST : Nat := 15
def kCOB : Nat := 16
def kSEC : Nat := 17
def kDBG : Nat := 18

end Sys2Proof.Machine
end

