-- ==== Sys2Proof/Machine/Count.lean ====
section
/-!
DEFINITION. Counting: the counter blocks and the accounting counters (spec/17 R445 to R449, R452).
-/
namespace Sys2Proof.Machine
open Sys2Proof

/-- The distance of counter `n` of block `b`. -/
def dCtr (b n : Nat) : Nat := dPmc b + 8 * n

/-- The distance of a selection register of block `b`. -/
def dSel (b n : Nat) : Nat := dPmc b + 4 * n

/-- The 48-bit value of a counter. -/
def State.ctr (s : State) (b n : Nat) : Nat :=
  s.get F.PMC_CTR_LO_CNT (dCtr b n) + s.get F.PMC_CTR_HI_CNT (dCtr b n) * 2 ^ 32

/-- The state with a counter's value replaced. -/
def State.setCtr (s : State) (b n v : Nat) : State :=
  (s.put F.PMC_CTR_LO_CNT (dCtr b n) v).put F.PMC_CTR_HI_CNT (dCtr b n) (v / 2 ^ 32)

/-- The state with a counter's overflow bit set. -/
def State.setOvf (s : State) (b n : Nat) : State :=
  s.put F.PMC_OVF_OVF (dPmc b) (Nat.lor (s.get F.PMC_OVF_OVF (dPmc b)) (2 ^ n))

/-- Whether counter `n`, if odd, counts the wraps of the one below it (R448). -/
def State.chained (s : State) (b n : Nat) : Bool := n % 2 == 1 && (s.get F.PMC_CBCTL_CHAIN (dPmc b)).testBit (n / 2)

/-- An addition to a counter, without its chain: the value wraps and sets OVF (R448). -/
def State.ctrAdd1 (s : State) (b n q : Nat) : State :=
  let v := s.ctr b n + q
  let s1 := s.setCtr b n (v % 2 ^ 48)
  if 2 ^ 48 ≤ v then s1.setOvf b n else s1

/-- An addition to a counter, with the carry into the counter chained to it (R448, R449). -/
def State.ctrAdd (s : State) (b n q : Nat) : State :=
  let w := (s.ctr b n + q) / 2 ^ 48
  let s1 := s.ctrAdd1 b n q
  if n % 2 == 0 && s.chained b (n + 1) && decide (0 < w) then s1.ctrAdd1 b (n + 1) w else s1

/-- Whether counter `n` of a block counts an event with its filters (R447). -/
def State.counts (s : State) (b n ev unit slice : Nat) : Bool :=
  s.on F.PMC_SEL_EN (dSel b n) && s.get F.PMC_SEL_EVENT (dSel b n) == ev && !s.chained b n &&
  (!s.on F.PMC_SEL_UNIT_EN (dSel b n) || s.get F.PMC_SEL_UNIT (dSel b n) == unit) &&
  (!s.on F.PMC_SEL_SLICE_EN (dSel b n) || s.get F.PMC_SEL_SLICE (dSel b n) == slice)

/-- An event of a counter block adds its quantity to every counter that selects it (R447, R450). DEDUCED (log entry 31). -/
def State.count (s : State) (b ev unit slice q : Nat) : State :=
  s.each (List.range 8) fun t n => if t.counts b n ev unit slice then t.ctrAdd b n q else t

/-- An accounting counter of a slice increases (R452). -/
def State.account (s : State) (slice c q : Nat) : State :=
  s.setCnt fun k => { k with acct := k.acct.set (8 * slice + c) ((k.acct.getD (8 * slice + c) 0 + q) % 2 ^ 64) }

/-- Counter blocks (R445). -/
def cbSole : Nat := 20
def cbSched : Nat := 21
def cbHome (h : Nat) : Nat := 22 + h
def cbChan (c : Nat) : Nat := 26 + c
def cbTier : Nat := 30
def cbVamp : Nat := 31
def cbCob : Nat := 32
def cbClk : Nat := 33

end Sys2Proof.Machine
end

