-- ==== Sys2Proof/Machine/Sole.lean ====
section
/-!
DEFINITION. The Sole up to the cell buffer: message kinds and roles, classes and queue indices, routing, step 7 of the ingress
examination, allocation of cells and of active queue slots, congestion measures, and the responses agents give (spec/07 R189 to R197,
R205 to R209; spec/08 R212 to R218, R226 to R231; spec/06 R167, R185, R186).
-/
namespace Sys2Proof.Machine
open Sys2Proof

/-! ### Messages -/

/-- The crossbar port of an agent (R24, R25). -/
def xportOf (a : Nat) : Nat :=
  if a < 64 then a / 4 else if a < 72 then 16 + (a - 64) / 2 else if a < 76 then a - 52 else if a < 80 then a - 52
  else if a = 80 then 28 else if a = 81 then 29 else if a = 83 then 31 else 30

/-- The switch ID of this module. -/
def State.ownSw (s : State) : Nat := s.get F.GLB_SWITCH_ID 0

/-- Whether an operation is a response, a completion or an acknowledgement. -/
def isResp (o : Op) : Bool :=
  match o with
  | .memData | .cmp | .biConflictAck | .biRspI | .biRspS | .cacheRspI | .cacheRspS | .cacheData | .go | .goErr | .goWritePull
  | .goWritePullDrop | .cplD | .cpl | .cplDLk | .cplLk => true
  | _ => false

/-- Whether an operation is a snoop. -/
def isSnoop (o : Op) : Bool :=
  match o with
  | .biSnpInv | .biSnpData | .snpInv | .snpData => true
  | _ => false

/-- Whether a message is one of MCTP or a route fence. -/
def isMgmt (m : Msg) : Bool := m.kind == .mctp || m.kind == .fence

/-- Whether a message is a request, which the meters colour (R205). -/
def isReq (m : Msg) : Bool := !isResp m.op && !isSnoop m.op && !isMgmt m

/-- The virtual channel that carries a message, which is also its kind for the class map (R167, R213). -/
def vcOf (m : Msg) : Nat :=
  match m.op with
  | .biSnpInv | .biSnpData | .snpInv | .snpData => 2
  | .biRspI | .biRspS | .cacheRspI | .cacheRspS => 3
  | .memData | .cmp | .biConflictAck | .cacheData | .go | .goErr | .goWritePull | .goWritePullDrop => 4
  | .mWr | .msg | .unlock | .mctp => 5
  | .mRd | .mRdLk | .cfgRd | .cfgWr | .atomicOp => 6
  | .cplD | .cpl | .cplDLk | .cplLk => 7
  | .fence => m.tag % 8
  | .memRd | .memRdData | .memSpecRd | .memInv | .memInvNT | .memClnEvct | .memWr | .memWrPtl | .biConflict =>
    if 76 ≤ m.dstAg && m.dstAg ≤ 79 then 1 else 0
  | .rdCurr | .rdOwn | .rdShared | .rdAny | .rdOwnNoData | .itoMWr | .wrCur | .wrInv | .wrInvPtl | .dirtyEvict | .cleanEvict
  | .cleanEvictNoData | .cacheOther => 1

/-- Whether a request expects a response (R178). -/
def expects (m : Msg) : Bool :=
  match m.op with
  | .mWr | .msg | .unlock | .mctp | .fence | .memSpecRd => false
  | o => !isResp o

/-- Bytes of the message body (R184). -/
def bodyBytes (m : Msg) : Nat := 16 * m.body

/-- Cells of a message (R189). -/
def cellsOf (m : Msg) : Nat := (bodyBytes m + 239) / 240

/-- Slots of a body that holds `n` bytes of data. -/
def slotsFor (n : Nat) : Nat := min 34 (1 + (n + 15) / 16)

/-- The class of a message (R213). -/
def State.classOf (s : State) (m : Msg) : Nat :=
  s.get { off := R.SCHED_CMAP, lsb := 4 * vcOf m, width := 4, acc := .stg, rst := 0 } (4 * m.slice)

/-- Counted length with an agent's overhead (R226). -/
def State.countedLen (s : State) (a : Nat) (m : Msg) : Nat :=
  let b := bodyBytes m
  b + s.get F.SCHED_EGR_OVH_OVH_FIX (0x20 * a) + b * s.get F.SCHED_EGR_OVH_OVH_SCALE (0x20 * a) / 256

/-! ### Queue indices (R212, R214) -/

def queueIdx (slice egress cls : Nat) : Nat := slice * 2048 + egress * 16 + cls
def queueEgress (q : Nat) : Nat := q / 16 % 128

/-- The queue a message is placed in: its own index where configured, the target of an alias, or the default queue. -/
def State.queueOf (s : State) (slice egress cls : Nat) : Nat :=
  let q := queueIdx slice egress cls
  if s.on F.SCHED_QALIAS_CONF (ent q) then q
  else if s.on F.SCHED_QALIAS_ALIASED (ent q) then s.get F.SCHED_QALIAS_TARGET (ent q)
  else s.get F.SCHED_EGR_DEFQ_DEF_Q (0x20 * egress)

/-! ### Routes (R185, R186) -/

def State.mlState (s : State) (m : Nat) : Nat := s.get F.ML_LINK_STATUS_STATE (dLink m)

/-- Whether the alternate of a route entry may be used: both links end at the same far module (R186). -/
def State.altOk (s : State) (w : Nat) : Bool :=
  let p := s.get F.SOLE_ROUTE_PRIMARY (4 * w)
  let a := s.get F.SOLE_ROUTE_ALT (4 * w)
  s.on F.SOLE_ROUTE_AVALID (4 * w) && s.on F.ML_PEER_VALID (dLink a) &&
    (!s.on F.ML_PEER_VALID (dLink p) || s.get F.ML_PEER_FAR_SWITCH (dLink a) == s.get F.ML_PEER_FAR_SWITCH (dLink p))

/-- The link that messages for a switch ID take (R186): the primary while traffic is on it and it is UP, RETRAIN or FLUSH, or while
a fence returns traffic to it; otherwise the alternate, once traffic moves there. Messages wait for their link where the route
waits (`linkHolds`). -/
def State.linkFor (s : State) (w : Nat) : Option Nat :=
  let p := s.get F.SOLE_ROUTE_PRIMARY (4 * w)
  let a := s.get F.SOLE_ROUTE_ALT (4 * w)
  let pv := s.on F.SOLE_ROUTE_PVALID (4 * w)
  let live (m : Nat) : Bool := decide (3 ≤ s.mlState m) && decide (s.mlState m ≤ 5)
  if (s.route w).fence.isSome && pv && live p then some p
  else if (s.route w).onAlt then (if s.altOk w && live a then some a else none)
  else if pv && live p then some p
  else if pv && s.altOk w && s.mlState a == 3 then some a
  else none

/-- Whether messages for a switch ID wait at their link: for FLUSHED before traffic moves to the alternate, or for FENCE_DONE before
it returns to the primary (R186). -/
def State.linkHolds (s : State) (w : Nat) : Bool := (s.route w).wait.isSome || (s.route w).fence.isSome

/-- Whether a switch ID has a usable route, or is this module. -/
def State.usable (s : State) (w : Nat) : Bool := w == s.ownSw || (s.linkFor w).isSome

/-- The egress agent of a message: a response returns through the agent of its request's path; a message for this module goes to
its agent; any other takes a route (R185). None is a routing fault. -/
def State.egressOf (s : State) (m : Msg) : Option Nat :=
  if isResp m.op then some m.via
  else if m.dstSw = s.ownSw then (if m.dstAg ≤ 63 ∨ (72 ≤ m.dstAg ∧ m.dstAg ≤ 83) then some m.dstAg else none)
  else if 15 ≤ m.hops then none
  else (s.linkFor m.dstSw).map (64 + ·)

/-! ### The cell buffer (R193 to R196) -/

/-- The reserve a message's role may use (R193, R194). -/
def roleOf (m : Msg) : Option Charge :=
  if isResp m.op then some .rsp else if isSnoop m.op then some .snp else if m.kind == .mctp then some .mgmt else none

/-- Cells of the buffer a predicate picks, those already read excepted. -/
def held (l : List Queued) (p : Queued → Bool) : Nat := l.foldl (fun n x => if p x then n + (x.cells - x.sent) else n) 0

/-- The size of the shared pool that a copy of the configuration leaves; negative where the reserved parts exceed the buffer
(R193). Landing pools count the staged sizes of every link. -/
def State.sharedSize (s : State) (g : Fld → Nat → Nat) : Int :=
  let land := (List.range 8).foldl (fun n m => (List.range 9).foldl (fun k p => k + s.staged F.ML_CRED_CFG_SIZE (dLink m + 4 * p)) n) 0
  let mins := (List.range 16).foldl (fun n c => n + g F.SOLE_CLASS_RES_MIN (4 * c)) 0
  196608 - (land : Int) - mins - g F.SOLE_RES_RSP_CELLS 0 - g F.SOLE_RES_SNP_CELLS 0 - g F.SOLE_RES_MGMT_CELLS 0

/-- Free cells of the shared pool, F of R194. -/
def State.sharedFree (s : State) : Nat := s.get F.SOLE_BUF_SHARED_SHARED_SIZE 0 - held s.sole.buf fun x => x.charge == .shared

/-- The occupancy registers kept with the buffer (R211). -/
def State.syncBuf (s : State) : State :=
  let s1 := s.each (List.range 16) fun t c =>
    t.put F.SOLE_CLASS_OCC_SHARED (4 * c) (held s.sole.buf fun x => x.charge == .shared && x.msg.cls == c)
  let s2 := s1.put F.SOLE_BUF_STATUS_SHARED_FREE 0 s.sharedFree
  s2.put F.SOLE_BUF_LAND_LANDED 0 (held (s.sole.waiting ++ s.sole.slotWait ++ s.sole.deferred) fun x => x.charge == .landing)

/-- The source that supplies the cells of a message, the first of R194 that can supply every one. DEDUCED (log entry 48). -/
def State.source (s : State) (m : Msg) : Option Charge :=
  let n := cellsOf m
  let c := m.cls
  let minUsed := held s.sole.buf fun x => x.charge == .min && x.msg.cls == c
  let sc := held s.sole.buf fun x => x.charge == .shared && x.msg.cls == c
  let f := s.sharedFree
  if minUsed + n ≤ s.get F.SOLE_CLASS_RES_MIN (4 * c) then some .min
  else if (sc + n) * 16 ≤ f * 2 ^ s.get F.SOLE_CLASS_RES_ALPHA (4 * c) ∧ n ≤ f then some .shared
  else
    match roleOf m with
    | none => none
    | some r =>
      let used := held s.sole.buf fun x => x.charge == r
      let size := match r with
        | .rsp => s.get F.SOLE_RES_RSP_CELLS 0
        | .snp => s.get F.SOLE_RES_SNP_CELLS 0
        | _ => s.get F.SOLE_RES_MGMT_CELLS 0
      if used + n ≤ size then some r else none

/-- The order in which waiting messages are served: oldest stamp, lowest ingress crossbar port, lowest agent (R196, R217). -/
def waitsBefore (x y : Queued) : Bool :=
  decide (x.msg.stamp < y.msg.stamp) ||
    (x.msg.stamp == y.msg.stamp && (decide (x.xin < y.xin) || (x.xin == y.xin && decide (x.src < y.src))))

/-- The waiting message served first. -/
def firstWaiting (l : List Queued) : Option Queued :=
  l.foldl (fun acc x => match acc with
    | none => some x
    | some y => if waitsBefore x y then some x else some y) none

/-! ### Congestion (R205 to R209) -/

/-- Q of a pair: cells queued for an agent in a class (R205). -/
def State.qOf (s : State) (a c : Nat) : Nat := held s.sole.buf fun x => x.egress == a && x.msg.cls == c

def pairKey (a c : Nat) : Nat := a * 16 + c

/-- A of a pair, in 1/65,536 cells. -/
def State.avgOf (s : State) (a c : Nat) : Nat := s.sole.avg.getD (pairKey a c) 0

/-- HARD of a class, in cells. -/
def State.hardOf (s : State) (c : Nat) : Nat := 16 * s.get F.SOLE_CLASS_PROF_HARD (4 * c)

/-- The probability of a profile, in 1/256 (R206). -/
def State.profP (s : State) (p avg : Nat) : Nat :=
  let mn := 4 * s.get F.SOLE_CPROF_TH_MIN_TH (4 * p) * 65536
  let mx := 4 * s.get F.SOLE_CPROF_TH_MAX_TH (4 * p) * 65536
  if avg < mn then 0
  else if mx ≤ mn ∨ mx ≤ avg then 256
  else s.get F.SOLE_CPROF_P_MAXP (4 * p) * (avg - mn) / (mx - mn)

/-- The profile a class names for a message's colour; what no meter colours is green (R205, R206). -/
def State.profOf (s : State) (m : Msg) : Nat :=
  match (if isReq m then m.colour else .green) with
  | .green => s.get F.SOLE_CLASS_PROF_G_PROF (4 * m.cls)
  | .yellow => s.get F.SOLE_CLASS_PROF_Y_PROF (4 * m.cls)
  | .red => s.get F.SOLE_CLASS_PROF_R_PROF (4 * m.cls)

/-- Whether a message is best-effort (R209). -/
def State.bestEffort (s : State) (m : Msg) : Bool := s.on F.SOLE_CLASS_RES_BE (4 * m.cls) && m.kind == .mctp && m.be

def sevKey (slice a : Nat) : Nat := slice * 128 + a

/-- A severe event of a pair (R207). -/
def State.severe (s : State) (slice a : Nat) : State :=
  s.setSole fun o => { o with severe := o.severe.set (sevKey slice a) s.tim.bnd }

/-- Whether a pair's severe flag is set (R207). -/
def State.isSevere (s : State) (slice a : Nat) : Bool :=
  match s.sole.severe.find (sevKey slice a) with
  | some b => decide (s.tim.bnd ≤ b + 1)
  | none => false

/-- The profile evaluation of a message at step 7, and whether it is hit (R206): responses, completions and snoops are not
evaluated for an effect (R205). DEDUCED (log entry 23). -/
def State.evaluate (s : State) (a : Nat) (m : Msg) : State × Bool :=
  let p := s.profP (s.profOf m) (s.avgOf a m.cls)
  let hit := decide (s.freeVal % 256 < p)
  let s1 := s.usedFree
  if !hit || isResp m.op || isSnoop m.op then (s1, false)
  else if s.bestEffort m then (s1, true)
  else
    let s2 := (s1.bump F.SOLE_MARK_CNT_HITS 0 1).count cbSole 9 m.cls m.slice 1
    if m.kind == .memM2S then
      (s2.setSole fun o => { o with marks := o.marks.set (sevKey m.slice a) (min 255 (o.marks.getD (sevKey m.slice a) 0 + 1)) }, true)
    else (s2, true)

/-! ### Active queue slots (R215 to R218) -/

def State.queue (s : State) (q : Nat) : QueueSt :=
  s.sole.queues.getD q ⟨0, 0, 0, 0, 0, false, false, false, false⟩
def State.setQueue (s : State) (q : Nat) (f : QueueSt → QueueSt) : State :=
  s.setSole fun o => { o with queues := o.queues.set q (f (s.queue q)) }

/-- ACTIVE and WAITING kept with the slots (R232). -/
def State.syncSlots (s : State) : State :=
  (s.put F.SCHED_ACT_STATUS_ACTIVE 0 s.sole.lru.length).put F.SCHED_ACT_STATUS_WAITING 0 (min 32767 s.sole.slotWait.length)

/-- Whether a queue may be evicted: no cell and no reserved cell (R217). -/
def State.evictable (s : State) (q : Nat) : Bool := !(s.sole.buf.any fun x => x.qidx == q) && !s.sole.fetching.contains q

/-- Slots an egress agent holds. -/
def State.slotsOf (s : State) (a : Nat) : Nat := (s.sole.lru.filter fun q => queueEgress q == a).length

/-- The DPA of the state of an index (R215, R300). -/
def queueAddr (q : Nat) : Nat := 0x10000000 + 32 * q

/-- The queue used last moves to the end of the order of use. -/
def State.touchQueue (s : State) (q : Nat) : State :=
  s.setSole fun o => { o with lru := o.lru.filter (· != q) ++ [q] }

/-- A claim of an active slot for a queue: already held, free, or by eviction of the least recently used queue that may be
evicted (R217). A queue that was idle starts the fetch of its state (R216). -/
def State.claimSlot (s : State) (q : Nat) : Option State :=
  if (s.queue q).slot then some (s.touchQueue q)
  else
    let start (t : State) : State :=
      let t1 := (t.setQueue q fun x => { x with slot := true, ready := false }).touchQueue q
      let t2 := (t1.setSole fun o => { o with fetching := o.fetching ++ [q] }).svcAdd 3 (queueAddr q)
      (t2.count cbSched 1 (queueEgress q) (q / 2048) 1).syncSlots
    if s.sole.lru.length < 65536 then some (start s)
    else
      let mn := s.get F.SCHED_ACT_CFG_ACT_MIN 0
      let any := decide (s.slotsOf (queueEgress q) < mn)
      match s.sole.lru.find? fun v => s.evictable v && (any || decide (mn ≤ s.slotsOf (queueEgress v))) with
      | none => none
      | some v =>
        some (start ((s.setQueue v fun x => { x with slot := false, ready := false }).setSole fun o =>
          { o with lru := o.lru.filter (· != v) }))

/-! ### Step 7 (R28, R191, R194, R208, R209, R216) -/

/-- A message that came over a link leaves its landing pool: a flit every message of which has passed step 7 returns its credit
(R169, R195). -/
def State.unland (s : State) (src id : Nat) : State :=
  if 64 ≤ src ∧ src < 72 then
    s.setLink (src - 64) fun l =>
      let ls := l.landed.map fun e => (e.1, e.2.filter (· != id))
      { l with landed := ls.filter fun e => !e.2.isEmpty
               freed := (ls.filter fun e => e.2.isEmpty).foldl (fun t e => t.set e.1 ((t.getD e.1 0 + 1) % 2 ^ 20)) l.freed }
  else s

/-- A dispatched request is complete: its response passes step 7 on its way back (R309). -/
def State.dispDone (s : State) (id : Nat) : State :=
  s.setIns fun i =>
    { i with disp := i.disp.filter (fun d => d.1 != id), oldReads := i.oldReads.filter (fun d => d.1 != id) }

/-- The message enters the buffer: its cells are charged to a source, its queue holds it, and the accounting counters of its
slice count it (R194, R452). -/
def State.takeIn (s : State) (x : Queued) (c : Charge) : State :=
  let s1 := s.setSole fun o => { o with buf := o.buf ++ [{ x with charge := c }] }
  let s2 := (s1.unland x.src x.msg.id).count cbSole 1 x.xin x.msg.slice x.cells
  let s3 := if isReq x.msg then (s2.account x.msg.slice 0 1).account x.msg.slice 1 (s.countedLen x.src x.msg) else s2
  let s4 := if isReq x.msg && decide (s.hardOf x.msg.cls ≤ s.qOf x.egress x.msg.cls) then s3.severe x.msg.slice x.egress else s3
  let s5 := if isResp x.msg.op then s4.dispDone x.msg.id else s4
  s5.syncBuf

/-- Whether a message of the same class that is older waits for cells (R196). -/
def State.olderWaits (s : State) (x : Queued) : Bool := s.sole.waiting.any fun y => y.msg.cls == x.msg.cls && !waitsBefore x y

/-- The slot and the cells of a message: enqueued, or waiting at step 7; a best-effort message that cannot allocate is
dropped (R209, R216, R217). A message without its cells claims no slot. -/
def State.place (s : State) (x : Queued) : State :=
  match s.claimSlot x.qidx with
  | none => (s.setSole fun o => { o with slotWait := o.slotWait ++ [x] }).syncSlots
  | some s1 =>
    match (if s.olderWaits x then none else s1.source x.msg) with
    | some c => s1.takeIn x c
    | none =>
      if s.bestEffort x.msg then
        ((s.bump F.SOLE_BE_DROP_CNT_DROPS 0 1).count cbSole 0xA 0 x.msg.slice 1).unland x.src x.msg.id
      else (s.setSole fun o => { o with waiting := o.waiting ++ [x] }).syncBuf

/-- A fence has passed step 7 in one virtual channel; when all eight have, FENCE_DONE is answered over the link it came by for 64
stitches (R174, R186). -/
def State.fenceSeen (s : State) (src : Nat) (m : Msg) : State :=
  let r := s.route m.srcSw
  let old := if r.fenceId = m.addr then r.fenceVcs else 0
  let vcs := if old.testBit (m.tag % 8) then old else old + 2 ^ (m.tag % 8)
  let s1 := (s.setRoute m.srcSw fun x => { x with fenceId := m.addr, fenceVcs := vcs }).unland src m.id
  if vcs = 255 ∧ 64 ≤ src ∧ src < 72 then
    s1.setLink (src - 64) fun l => { l with rep := l.rep.filter (fun e => e.1 != 0x0A) ++ [(0x0A, m.addr, s.tim.bnd + 64)] }
  else s1

/-- Step 7 of R28 for a message whose turn has come and whose egress agent is known: the profile, the hard threshold, then its
place. -/
def State.step7Now (s : State) (src egress : Nat) (m0 : Msg) : State :=
  if m0.op = .fence ∧ m0.dstSw = s.ownSw then s.fenceSeen src m0
  else
    let m := { m0 with cls := s.classOf m0 }
    let x : Queued := { msg := m, qidx := s.queueOf m.slice egress m.cls, src := src, xin := xportOf src, egress := egress,
                        cells := cellsOf m, sent := 0, reserved := 0, due := true,
                        charge := if 64 ≤ src ∧ src < 72 then .landing else .min }
    let (s1, hit) := s.evaluate egress m
    let full := decide (s.hardOf m.cls ≤ s.qOf egress m.cls)
    if s.bestEffort m && (hit || full) then
      ((s1.bump F.SOLE_BE_DROP_CNT_DROPS 0 1).count cbSole 0xA 0 m.slice 1).unland src m.id
    else if isReq m && m.colour == .red && full then
      (((s1.setSole fun o => { o with deferred := o.deferred ++ [x] }).bump F.SOLE_DEFER_CNT_DEFERRED 0 1).count cbSole 8 m.cls
        m.slice 1).severe m.slice egress |>.syncBuf
    else s1.place x

/-- The line of a request, response or snoop. -/
def lineOf (m : Msg) : Nat := m.addr / 64

/-- Whether a record of a lost write holds a message of its writer for its line toward its home (spec/10 R286). -/
def State.lwtHolds (s : State) (m : Msg) : Bool :=
  s.lwt.any fun r => r.msg.srcSw == m.srcSw && r.msg.srcAg == m.srcAg && r.msg.dstSw == m.dstSw && r.msg.sid == m.sid &&
    lineOf r.msg == lineOf m

/-- Whether a valid presented function names the port (spec/13 R357). -/
def State.vampHeld (s : State) (n : Nat) : Bool :=
  s.act.any fun e => e.1 % entStride == R.VAMP_FN_CFG && F.VAMP_FN_CFG_VALID.of e.2 == 1 && F.VAMP_FN_CFG_PORT.of e.2 == n

/-- Whether a message of the Vamp bridge waits behind one of its posted writes in the same direction (spec/13 R370). -/
def State.vampBlocked (s : State) (egress : Nat) : Bool :=
  let out := s.vampHeld egress
  (s.sole.waiting ++ s.sole.slotWait ++ s.sole.deferred).any (fun x => x.src == 80 && vcOf x.msg == 5 && s.vampHeld x.egress == out) ||
    s.sole.behind.any fun e => e.1 == 80 && s.vampHeld e.2.1 == out

/-- The link credit type that carries a message at an edge port: posted, non-posted and completions of CXL.io, and the channels of CXL.mem,
CXL.cache and back-invalidate with requests, requests with data, and responses told apart. PRESUMED: the CXL link layer's. DEDUCED (log entry 20). -/
def creditType (m : Msg) : Nat :=
  match m.kind with
  | .io => if isResp m.op then 2 else if expects m then 1 else 0
  | .mctp => 0
  | .memM2S => if m.data.isEmpty then 3 else 4
  | .memS2M => if m.data.isEmpty then 5 else 6
  | .cacheD2H => if isResp m.op then 8 else 7
  | .cacheH2D => 9
  | .bi => if isResp m.op then 11 else 10
  | .fence => 12

/-- Whether a message of an edge port waits behind a deferred request of its credit type there (R208). -/
def State.creditHeld (s : State) (src : Nat) (m : Msg) : Bool :=
  decide (src < 64) && s.sole.deferred.any fun x => x.src == src && creditType x.msg == creditType m

/-- Whether a message waits at step 7 behind an earlier one: of its VC on its link (R195), of a deferred request's credit type at its edge port (R208), of the Vamp bridge (spec/13 R370), or a lost
write (spec/10 R286). -/
def State.blocked7 (s : State) (src egress : Nat) (m : Msg) : Bool :=
  (src == 80 && s.vampBlocked egress) || s.creditHeld src m ||
  (decide (64 ≤ src) && decide (src < 72) &&
    ((s.sole.waiting ++ s.sole.slotWait ++ s.sole.deferred).any (fun x => x.src == src && vcOf x.msg == vcOf m) ||
     s.sole.behind.any fun e => e.1 == src && vcOf e.2.2 == vcOf m)) ||
  s.lwtHolds m || s.sole.behind.any fun e => e.2.2.srcSw == m.srcSw && e.2.2.srcAg == m.srcAg && lineOf e.2.2 == lineOf m && e.1 == src

/-- Step 7 of R28. -/
def State.step7 (s : State) (src egress : Nat) (m : Msg) : State :=
  if s.blocked7 src egress m then s.setSole fun o => { o with behind := o.behind ++ [(src, egress, m)] } else s.step7Now src egress m

/-- The messages waiting behind others try step 7 again, in their order. -/
def State.drainBehind (s : State) : State :=
  (s.setSole fun o => { o with behind := [] }).each s.sole.behind fun t e => t.step7 e.1 e.2.1 e.2.2

/-! ### Responses -/

/-- The kind of the response to a request. -/
def respKind (k : Kind) : Kind :=
  match k with
  | .memM2S => .memS2M
  | .cacheD2H => .cacheH2D
  | .cacheH2D => .cacheD2H
  | k => k

/-- The response to a request, from an agent of this module. -/
def State.response (s : State) (ag : Nat) (req : Msg) (op : Op) (st : Status) (data : List Byte) (poison : Bool) (dl : Nat) : Msg :=
  { req with
    kind := respKind req.kind, op := op, metaV := .none, srcSw := s.ownSw, srcAg := ag, dstSw := req.srcSw, dstAg := req.srcAg, colour := .green,
    body := slotsFor data.length, len := data.length, data := data, poison := poison, status := st, devload := dl }

/-- An agent answers a request: the response takes step 7 toward the agent through which the request came (R180, R185). DEDUCED (log entry 48). -/
def State.respond (s : State) (ag : Nat) (req : Msg) (op : Op) (st : Status) (data : List Byte) (poison : Bool) (dl : Nat) : State :=
  s.step7 ag req.via (s.response ag req op st data poison dl)

/-- A line of poison. -/
def poisonLine (n : Nat) : List Byte := List.replicate n 0

/-- Held traffic toward something lost is completed in error (R148, R179): reads with poison, writes with Cmp, non-posted requests
with completer abort, those of the module's own agents with LINK; the rest has no response. -/
def State.failBack (s : State) (ag : Nat) (m : Msg) : State :=
  let own := decide (72 ≤ m.via)
  let st : Status := if own then .link else .ok
  match m.op with
  | .memRd | .memRdData => s.respond ag m .memData st (poisonLine 64) true 0
  | .memWr | .memWrPtl | .memInv | .memInvNT | .memClnEvct => s.respond ag m .cmp st [] false 0
  | .mRd | .mRdLk | .cfgRd | .cfgWr | .atomicOp => s.respond ag m .cpl (if own then .link else .ca) [] false 0
  | .rdCurr | .rdOwn | .rdShared | .rdAny => s.respond ag m .cacheData st (poisonLine 64) true 0
  | .rdOwnNoData | .cacheOther => s.respond ag m .goErr st [] false 0
  | .itoMWr | .wrCur | .wrInv | .wrInvPtl | .dirtyEvict | .cleanEvict | .cleanEvictNoData => s.respond ag m .goWritePullDrop st [] false 0
  | _ => s

/-- A routing fault: a request is completed with the responses of R179, any other message is discarded (R185). -/
def State.routeFault (s : State) (src : Nat) (m : Msg) : State :=
  let s1 := s.occAt 7 0 none
  if isReq m then s1.failBack src m else s1.unland src m.id

/-- A message takes step 7 after routing (R185). DEDUCED (log entry 48). -/
def State.enqueue (s : State) (src : Nat) (m : Msg) : State :=
  match s.egressOf m with
  | some a => s.step7 src a m
  | none => s.routeFault src m

/-- A message an internal agent has taken from its crossbar port. -/
def State.uncross (s : State) (ag id : Nat) : State :=
  s.setSole fun o => { o with crossing := o.crossing.eraseP fun e => e.1 == ag && e.2.id == id }

/-- The oldest message delivered to an internal agent with an identifier. -/
def State.crossed? (s : State) (ag id : Nat) : Option Msg :=
  (s.sole.crossing.find? fun e => e.1 == ag && e.2.id == id).map (·.2)

/-- A posted write has been accepted at its target: a notice returns to the module it came from, over the link it came by
(spec/13 R369). One dispatched by a lookup is complete (spec/11 R309). -/
def State.accepted (s : State) (_ag : Nat) (m : Msg) : State :=
  if 64 ≤ m.via ∧ m.via < 72 then (s.dispDone m.id).send (.ctl m.via 3 m.id)
  else (s.dispDone m.id).setSole fun o => { o with posted := o.posted.filter fun p => p.1 != m.id }

/-! ### Waiting messages -/

/-- A waiting message of a class takes its cells, in the order of R196; without an active slot for its queue it waits for one instead (R217). -/
def State.allocWaiting (s : State) (c : Nat) : State :=
  match firstWaiting (s.sole.waiting.filter fun x => x.msg.cls == c) with
  | none => s
  | some x =>
    match s.source x.msg with
    | none => s
    | some ch =>
      let t := s.setSole fun o => { o with waiting := o.waiting.erase x }
      match t.claimSlot x.qidx with
      | none => (t.setSole fun o => { o with slotWait := o.slotWait ++ [x] }).syncSlots
      | some t1 => (t1.takeIn x ch).drainBehind

/-- A message waiting for an active slot claims one, in the order of R217, and goes on to its cells. -/
def State.claimWaiting (s : State) : State :=
  match firstWaiting s.sole.slotWait with
  | none => s
  | some x =>
    match s.claimSlot x.qidx with
    | none => s
    | some _ => ((s.setSole fun o => { o with slotWait := o.slotWait.erase x }).place x).syncSlots.drainBehind

/-- A deferred red request is enqueued once Q is below HARD (R208). -/
def State.releaseRed (s : State) (id : Nat) : State :=
  match s.sole.deferred.find? fun x => x.msg.id == id with
  | none => s
  | some x =>
    if s.hardOf x.msg.cls ≤ s.qOf x.egress x.msg.cls then s
    else ((s.setSole fun o => { o with deferred := o.deferred.erase x }).place x).syncBuf.drainBehind

/-- The averages move toward Q (R205). DEDUCED (log entry 23). -/
def State.updateAvg (s : State) : State :=
  let w := s.get F.SOLE_MARK_CFG_AVG_W 0
  let keys := s.sole.buf.foldl (fun l x => insKey l (pairKey x.egress x.msg.cls)) (s.sole.avg.map (·.1))
  s.setSole fun o => { o with
    avg := keys.foldl (fun t k =>
      let a : Int := t.getD k 0
      let q : Int := s.qOf (k / 16) (k % 16) * 65536
      t.set k (a + (q - a) / 2 ^ w).toNat) o.avg }
where
  insKey (l : List Nat) (k : Nat) : List Nat := if l.contains k then l else k :: l

/-- The state of a queue arrives from the Insole, read good, cured or lost (R216, R218). DEDUCED (log entry 24). -/
def State.queueFetched (s : State) (q out : Nat) : State :=
  if s.sole.fetching.contains q then
    let s1 := (s.setSole fun o => { o with fetching := o.fetching.filter (· != q) }).svcDone 3 (queueAddr q)
    let lost := decide (3 ≤ out) || !s.sysOk (queueAddr q)
    let s2 := if out = 2 && !lost then s1.bump F.SCHED_ERR_CNT_REREAD_OK 0 1
      else if lost then (s1.bump F.SCHED_ERR_CNT_STATE_RESET 0 1).occAt 8 0 none else s1
    let a := queueEgress q
    let v := s.get F.SCHED_EGR_VT_LO_V (0x20 * a) + s.get F.SCHED_EGR_VT_HI_V (0x20 * a) * 2 ^ 32
    s2.setQueue q fun x => if lost then { x with ready := true, deficit := 0, start := v, fLast := v, finish := v }
      else { x with ready := true }
  else s

/-! ### Shapers and meters (R227 to R231) -/

/-- The pair table entry of a slice and an agent. -/
def pairEnt (slice a : Nat) : Nat := ent (slice * 128 + a)

/-- The pair shaper of a slice and an egress agent, where one is assigned and enabled. -/
def State.pairShaper (s : State) (slice a : Nat) : Option Nat :=
  if s.on F.SCHED_PCFG_SHP_EN (pairEnt slice a) then
    let h := s.get F.SCHED_PCFG_SHP_ID (pairEnt slice a)
    if s.on F.SCHED_SRATE_EN (ent h) then some h else none
  else none

def State.pairTokens (s : State) (h : Nat) : Int := signed 25 (s.get F.SCHED_STOK_TOKENS (ent h))
def State.egrTokens (s : State) (a : Nat) : Int := signed 25 (s.get F.SCHED_EGR_STOK_TOKENS (0x20 * a))

/-- Whether the shapers of a pair permit service (R228). -/
def State.permitted (s : State) (slice a : Nat) : Bool :=
  (!s.on F.SCHED_EGR_SRATE_EN (0x20 * a) || decide (0 < s.egrTokens a)) &&
  (match s.pairShaper slice a with
   | none => true
   | some h => decide (0 < s.pairTokens h))

/-- The enabled shapers are charged a message's counted length (R228). -/
def State.chargeShapers (s : State) (slice a len : Nat) : State :=
  let s1 := if s.on F.SCHED_EGR_SRATE_EN (0x20 * a) then
      s.put F.SCHED_EGR_STOK_TOKENS (0x20 * a) (unsigned 25 (s.egrTokens a - len)) else s
  match s.pairShaper slice a with
  | none => s1
  | some h => s1.put F.SCHED_STOK_TOKENS (ent h) (unsigned 25 (s1.pairTokens h - len))

/-- One refill of every enabled shaper (R229). DEDUCED (log entry 24). -/
def State.refillShapers (s : State) : State :=
  let s1 := s.each (List.range 84) fun t a =>
    if t.on F.SCHED_EGR_SRATE_EN (0x20 * a) then
      t.put F.SCHED_EGR_STOK_TOKENS (0x20 * a)
        (unsigned 25 (min (t.get F.SCHED_EGR_SBURST_BURST (0x20 * a) : Int) (t.egrTokens a + t.get F.SCHED_EGR_SRATE_RATE (0x20 * a))))
    else t
  let hs := (s.act.filter fun e => e.1 % entStride == R.SCHED_SRATE).map fun e => e.1 / entStride
  s1.each hs fun t h =>
    if t.on F.SCHED_SRATE_EN (ent h) then
      t.put F.SCHED_STOK_TOKENS (ent h)
        (unsigned 25 (min (t.get F.SCHED_SBURST_BURST (ent h) : Int) (t.pairTokens h + t.get F.SCHED_SRATE_RATE (ent h))))
    else t

/-- The buckets of a meter: committed and peak. -/
def State.meter (s : State) (k : Nat) : Int × Int := s.sole.meters.getD k (s.sole.meterDef, s.sole.meterDef)

/-- The meters whose parameters or buckets may differ from those of an untouched meter. -/
def State.meterKeys (s : State) : List Nat :=
  let cfg := (s.act.filter fun e => decide (R.SCHED_MCIR ≤ e.1 % entStride) && decide (e.1 % entStride ≤ R.SCHED_MCFG)).map fun e =>
    e.1 / entStride
  (cfg ++ s.sole.meters.map (·.1)).foldl (fun l k => if l.contains k then l else l ++ [k]) []

/-- The credit of every meter at a boundary (R231). -/
def State.refillMeters (s : State) : State :=
  s.setSole fun o => { o with
    meterDef := min 1 (o.meterDef + 1)
    meters := s.meterKeys.foldl (fun t k =>
      let b := s.meter k
      t.set k (min (s.get F.SCHED_MCBS_SIZE (ent k) : Int) (b.1 + s.get F.SCHED_MCIR_RATE (ent k)),
               min (s.get F.SCHED_MPBS_SIZE (ent k) : Int) (b.2 + s.get F.SCHED_MPIR_RATE (ent k)))) o.meters }

/-- The commit of the boot load fills every meter (R231). -/
def State.fillMeters (s : State) : State :=
  s.setSole fun o => { o with
    meterDef := 1
    meters := s.meterKeys.foldl (fun t k => t.set k ((s.get F.SCHED_MCBS_SIZE (ent k) : Int), (s.get F.SCHED_MPBS_SIZE (ent k) : Int)))
      o.meters }

/-- The meter decision of a request (R230). -/
def meterDecide (aware : Bool) (pre : Colour) (tc tp : Int) (len : Nat) : Colour × Int × Int :=
  if (aware && pre == .red) || decide (tp < len) then (.red, tc, tp)
  else if (aware && pre == .yellow) || decide (tc < len) then (.yellow, tc, tp - len)
  else (.green, tc - len, tp - len)

/-- Step 4 of R28: the meter of the slice and the ingress agent colours the request (R230). -/
def State.meterStep (s : State) (ag : Nat) (m : Msg) : State × Msg :=
  let pre := if 64 ≤ ag ∧ ag < 72 then m.colour else .green
  if s.on F.SCHED_PCFG_MTR_EN (pairEnt m.slice ag) then
    let k := s.get F.SCHED_PCFG_MTR_ID (pairEnt m.slice ag)
    let b := s.meter k
    let r := meterDecide (s.on F.SCHED_MCFG_AWARE (ent k)) pre b.1 b.2 (s.countedLen ag m)
    let s1 := s.setSole fun o => { o with meters := o.meters.set k (r.2.1, r.2.2) }
    let ev := match r.1 with
      | .green => 4
      | .yellow => 5
      | .red => 6
    let s2 := s1.count cbSched ev ag m.slice 1
    (if r.1 == .red then s2.account m.slice 6 1 else s2, { m with colour := r.1 })
  else (s, { m with colour := pre })

/-- A stamp from another module is clamped into the local window (R69). -/
def State.clampStamp (s : State) (st : Nat) : Nat :=
  if s.tim.num < st then s.tim.num else if st + 65536 < s.tim.num then s.tim.num - 65536 else st

end Sys2Proof.Machine
end

