-- ==== Sys2Proof/Machine/Wake.lean ====
section
/-!
DEFINITION. The wake budget's queue and the shelves' states at the Clicker (spec/12 R349 to R351).
-/
namespace Sys2Proof.Machine
open Sys2Proof

/-! ### Firmware during a warm restart (spec/16 R439, R440) -/

def State.restartState (s : State) : Nat := s.get F.FLT_RESTART_STATUS_STATE 0

/-- Whether no firmware runs for the time of steps 3 and 4. -/
def State.restarting (s : State) : Bool := s.restartState == 2 && !s.las.fwRunning

/-- Work that only firmware does waits while none runs, with the shelf it is for. DEDUCED (log entry 39). -/
def State.firmware (s : State) (k : Nat) (i : Instr) (f : State → State) : State :=
  if s.restarting then s.setMgt fun g => { g with fwJobs := g.fwJobs ++ [(k, i)] } else f s

/-! ### The queue of the wake budget and the shelves' states -/

/-- QUEUED kept with the queue. -/
def State.syncWake (s : State) : State := s.put F.BND_WAKE_STATUS_QUEUED 0 (min 127 s.bnd.wakeQ.length)

/-- A wake request joins the queue with this stitch's stamp: ascending stamp, then banks by number, then shelves (R350). -/
def State.wakeAdd (s : State) (k : Nat) : State :=
  (s.setBnd fun b => { b with wakeQ := ins (s.tim.num, k) b.wakeQ }).syncWake
where
  ins (x : Nat × Nat) : List (Nat × Nat) → List (Nat × Nat)
    | [] => [x]
    | y :: ys => if x.1 < y.1 ∨ (x.1 = y.1 ∧ x.2 < y.2) then x :: y :: ys else y :: ins x ys

/-- A waiting wake request is withdrawn. -/
def State.wakeDrop (s : State) (k : Nat) : State :=
  (s.setBnd fun b => { b with wakeQ := b.wakeQ.filter fun e => e.2 != k }).syncWake

/-- The shelf's state at the Clicker (R351). -/
def State.bndShelf (s : State) (sh : Nat) : Nat := s.get F.BND_SHELF_STATUS_STATE (ent sh)

/-- A shelf's state changes, with its event (R351, R410). -/
def State.setBndShelf (s : State) (sh st : Nat) : State :=
  (s.put F.BND_SHELF_STATUS_STATE (ent sh) st).event clsBind 0xB sh 4 (st + s.get F.INS_SHELF_STATUS_DIRTY (ent sh) * 65536)

/-- The Insole asks for a shelf to be woken (R320, R351). -/
def State.wakeRequest (s : State) (sh : Nat) : State :=
  let st := s.bndShelf sh
  if st = 3 then (s.setBndShelf sh 4).wakeAdd (20 + sh)
  else if st = 1 ∨ st = 2 then s.setBnd fun b => { b with pendWake := insList b.pendWake sh }
  else s
where
  insList (l : List Nat) (x : Nat) : List Nat := if l.contains x then l else l ++ [x]

end Sys2Proof.Machine
end

