-- ==== Sys2Proof/Machine/Insole.lean ====
section
/-!
DEFINITION. The Insole: channels, poison and error handling, export objects and pool extents, colour tags, the remap table, heat,
migrations, the park cache and start-up (spec/11).
-/
namespace Sys2Proof.Machine
open Sys2Proof

/-! ### The carve-out (R298) -/

/-- Bytes of a 256 MiB unit. -/
def unit256 : Nat := 0x10000000

/-- Where the division of the remainder starts (R298). -/
def poolBase : Nat := 0x190000000

/-- The end of the pool-export part. -/
def State.poolEnd (s : State) : Nat := poolBase + s.get F.INS_CARVE_POOL_UNITS 0 * unit256

/-- The base of the tier/park cache. -/
def State.cacheBase (s : State) : Nat := s.poolEnd

/-- The frames of the tier/park cache (R307). -/
def State.frameCount (s : State) : Nat := 4096 * s.get F.INS_CARVE_CACHE_UNITS 0

/-- Mirror units of the mirroring code (R298). -/
def mirrorUnits (code : Nat) : Nat := if code = 1 then 8 else if code = 2 then 24 else 0

/-- Whether a DPA lies in the pool-export part. -/
def State.inPool (s : State) (a : Nat) : Bool := decide (poolBase ≤ a) && decide (a < s.poolEnd)

/-- Whether a DPA lies in a mirrored area (R298): the directory store, and with SYS_DIR the system area. -/
def State.mirrored (s : State) (a : Nat) : Bool :=
  let m := s.get F.INS_CARVE_MIRROR 0
  (decide (1 ≤ m) && decide (0x100000000 ≤ a) && decide (a < 0x180000000)) || (m == 2 && decide (a < 0x100000000))

/-- The mirror copy of a block (R299): its offset with bit 9 inverted, at the area's mirror base. -/
def mirrorOf (a : Nat) : Nat :=
  if a < 0x100000000 then 0x1e80000000 + Nat.xor a 0x200
  else 0x1f80000000 + Nat.xor (a - 0x100000000) 0x200

/-! ### Poison (R293, R322) -/

/-- Whether a 32 B word holds the poison code. -/
def State.wordPoison (s : State) (w : Nat) : Bool :=
  let a := 32 * w
  (s.ins.bad.contains (chanOf a) && !s.mirrored a) != s.ins.flip.contains w

/-- Rising insertion into a list of numbers, without repeats. -/
def insNat : List Nat → Nat → List Nat
  | [], x => [x]
  | y :: ys, x => if x < y then x :: y :: ys else if x = y then y :: ys else y :: insNat ys x

/-- The state with the poison code of one word set or replaced. -/
def State.setWordPoison (s : State) (w : Nat) (b : Bool) : State :=
  if s.wordPoison w == b then s
  else s.setIns fun i => { i with flip := if i.flip.contains w then i.flip.filter (· != w) else insNat i.flip w }

/-- The 32 B words of a range of bytes. -/
def wordsOf (a n : Nat) : List Nat := (List.range ((a % 32 + n + 31) / 32)).map (· + a / 32)

/-- Whether a channel is fenced (R322). -/
def State.chFenced (s : State) (a : Nat) : Bool := s.on F.INS_CH_STATUS_FENCED (4 * chanOf a)

/-- Whether the bytes answer: their channel is not fenced, or the area is mirrored (R322). -/
def State.answers (s : State) (a : Nat) : Bool := !s.chFenced a || s.mirrored a

/-- Whether a read of the range returns poison (R293, R322). -/
def State.rangePoison (s : State) (a n : Nat) : Bool :=
  (wordsOf a n).any fun w => s.wordPoison w || !s.answers (32 * w)

/-- A write of bytes, with or without poison: a full 32 B word replaces the poison code, a partial write keeps it (R293,
R249); on a fenced channel without mirroring the write is dropped (R322). -/
def State.insWrite (s : State) (a : Nat) (bs : List Byte) (poison : Bool) : State :=
  if s.answers a then
    let s1 := s.setMem a bs
    let full (w : Nat) : Bool := decide (a ≤ 32 * w) && decide (32 * w + 32 ≤ a + bs.length)
    s1.each (wordsOf a bs.length) fun t w => if poison then t.setWordPoison w true else if full w then t.setWordPoison w false else t
  else s

/-- A read served from the mirror of a fenced channel is counted (R322). -/
def State.mirrorRead (s : State) (a : Nat) : State :=
  if s.chFenced a && s.mirrored a then s.bump F.INS_MIRROR_CNT_FENCED_READS 0 1 else s

/-- The 256 B block written over with the poison code (R294). -/
def State.poisonBlock (s : State) (a : Nat) : State := s.each (wordsOf (a / 256 * 256) 256) fun t w => t.setWordPoison w true

/-- What a read of a channel meets (R294): 0 good, 1 corrected, 2 cured by the second read, 3 failed twice with a good
mirror copy, 4 failed twice with no good mirror copy. -/
def State.eccRead (s : State) (a out : Nat) : State × Bool :=
  let c := chanOf a
  if out = 0 then (s, true)
  else if out = 1 then ((s.bump F.INS_ECC_CNT_CORR (4 * c) 1).count (cbChan c) 3 0 0 1, true)
  else if out = 2 then ((s.bump F.INS_ECC_CNT_REREAD_OK (4 * c) 1).count (cbChan c) 4 0 0 1, true)
  else if out = 3 && s.mirrored a then (s.bump F.INS_MIRROR_CNT_REPAIRS 0 1, true)
  else
    let s1 := if s.mirrored a then s.occ 92 c else s
    let s2 := s1.occ 88 c
    let s3 := (s2.put F.INS_UE_LOG_LO_DPA 0 a).put F.INS_UE_LOG_HI_DPA 0 (a / 2 ^ 32)
    (((s3.put F.INS_UE_LOG_HI_VALID 0 1).poisonBlock a), false)

/-- The DevLoad of a channel's response (R297): the occupancy of its read queue, in 1/256, against the three thresholds. -/
def State.insDevLoad (s : State) (u : Nat) : Nat :=
  if s.get F.INS_LOAD_CFG_SEV 0 ≤ u then 3 else if s.get F.INS_LOAD_CFG_MOD 0 ≤ u then 2
  else if s.get F.INS_LOAD_CFG_OPT 0 ≤ u then 1 else 0

/-! ### Arbitration (R296) -/

/-- The weights of pool, home path and service port. -/
def State.insWeights (s : State) : List Nat := [s.get F.INS_ARB_W_POOL 0, s.get F.INS_ARB_W_HOME 0, s.get F.INS_ARB_W_SVC 0]

/-- The first client that has work and a turn left. -/
def pickTurn (work : List Bool) (turns : List Nat) : Option Nat :=
  (List.range 3).find? fun k => work.getD k false && decide (0 < turns.getD k 0)

/-- The client served next: by the turns left, or by a new round of turns when no client with work has one; a client of weight
zero is served only when no other has work. DEDUCED (log entry 26). -/
def State.insPick (s : State) (work : List Bool) (turns : List Nat) : Option (Nat × List Nat) :=
  let take (k : Nat) (t : List Nat) : Nat × List Nat := (k, t.set k (t.getD k 0 - 1))
  match pickTurn work turns with
  | some k => some (take k turns)
  | none =>
    match pickTurn work s.insWeights with
    | some k => some (take k s.insWeights)
    | none => ((List.range 3).find? fun k => work.getD k false).map fun k => (k, turns)

/-- The service-port access served first: the lowest rank of the strict order, the oldest of that rank. -/
def svcFirst (l : List Svc) : Option Svc :=
  l.foldl (fun acc x => match acc with
    | none => some x
    | some y => if x.rank < y.rank then some x else some y) none

/-- The reserved part of the system area: it reads as zero to the Clicker, and no other user reaches it (R300). DEDUCED (log entry 26). -/
def reservedArea (a : Nat) : Bool := decide (0x15100000 ≤ a) && decide (a < 0x18000000)

/-- The effect of a pool request at its channel that is not a read (R293, R300, R511, R322). -/
def State.poolServe (s : State) (m : Msg) : State :=
  let ag := 72 + chanOf m.addr
  let u := (s.chan (chanOf m.addr)).reads.length
  let dl := s.insDevLoad u
  let ue (t : State) : State := if t.answers m.addr then t else t.occ 88 (chanOf m.addr)
  let put : State := if reservedArea m.addr then s else s.insWrite m.addr m.data m.poison
  match m.op with
  | .memWr | .memWrPtl => (ue put).respond ag m .cmp .ok [] false dl
  | .mWr => (ue put).accepted ag m
  | .memInv | .memInvNT | .memClnEvct => s.respond ag m .cmp .ok [] false dl
  | .atomicOp => s.respond ag m .cpl .ur [] false 0
  | _ => s

/-- Whether a request reads data (R297). -/
def isRead (o : Op) : Bool :=
  match o with
  | .memRd | .memRdData | .mRd | .mRdLk => true
  | _ => false

/-- Whether a rank of the service port's order is one of writes: log records and spill writes. -/
def svcWrites (rank : Nat) : Bool := rank == 6 || rank == 7

/-- A quantity of bytes in units of 64 B. -/
def units64 (n : Nat) : Nat := (n + 63) / 64

/-- An access of the home path made for a request is charged to the request's slice (spec/17 R452). DEDUCED (log entry 25). -/
def State.homeCharge (s : State) (x : HomeAcc) : State :=
  match (s.home x.h).tacks.find? fun t => t.rgn == x.rgn && t.line == x.line && !t.eviction && !t.migration with
  | some t => s.account t.req.slice (if x.write then 5 else 4) 1
  | none => s

/-- A channel serves one access of the client the round gives the turn (R296). -/
def State.insServe (s : State) (ch : Nat) : State :=
  let c := s.chan ch
  let pool := s.sole.crossing.find? fun e => e.1 == 72 + ch
  match s.insPick [pool.isSome, !c.home.isEmpty, !c.svc.isEmpty] c.turns with
  | none => s
  | some (k, turns) =>
    let s0 := s.setChan ch fun c => { c with turns := turns }
    if k = 0 then
      match pool with
      | none => s
      | some (_, m) =>
        let s1 := s0.uncross (72 + ch) m.id
        if isRead m.op then
          ((s1.setChan ch fun c => { c with reads := c.reads ++ [m] }).count (cbChan ch) 1 0 0 (units64 m.len)).account m.slice 4 (units64 m.len)
        else if m.op = .memWr ∨ m.op = .memWrPtl ∨ m.op = .mWr then
          ((s1.poolServe m).count (cbChan ch) 2 0 0 (units64 m.data.length)).account m.slice 5 (units64 m.data.length)
        else s1.poolServe m
    else if k = 1 then
      match c.home with
      | [] => s
      | h :: rest =>
        let s1 := (s0.setChan ch fun c => { c with home := rest }).count (cbChan ch) (if h.write then 2 else 1) 1 0 1 |>.homeCharge h
        if h.write then
          let s2 := if s1.answers h.dpa then s1.insWrite h.dpa h.data h.poison else s1.occ 88 ch
          s2.setChan ch fun c => { c with homeDone := c.homeDone ++ [h] }
        else s1.setChan ch fun c => { c with homeRd := c.homeRd ++ [h] }
    else
      match svcFirst c.svc with
      | none => s
      | some x => (s0.svcDone x.rank x.dpa).count (cbChan ch) (if svcWrites x.rank then 2 else 1) 2 0 1

/-- The oldest pool read of a channel returns (R293, R294, R297). -/
def State.poolReadDone (s : State) (ch out : Nat) : State :=
  match (s.chan ch).reads with
  | [] => s
  | m :: rest =>
    let s1 := s.setChan ch fun c => { c with reads := rest }
    let r := if s1.answers m.addr then s1.eccRead m.addr out else (s1.occ 88 ch, false)
    let s2 := r.1.mirrorRead m.addr
    let p := !r.2 || s.rangePoison m.addr m.len
    s2.respond (72 + ch) m (if m.kind == .io then .cplD else .memData) .ok (s2.ins.mem.gets m.addr m.len) p
      (s2.insDevLoad rest.length)

/-- The oldest read of the home path returns: its data, with poison where it was lost (R294). -/
def State.homeReadDone (s : State) (ch out : Nat) : State :=
  match (s.chan ch).homeRd with
  | [] => s
  | h :: rest =>
    let r := if s.answers h.dpa then s.eccRead h.dpa out else (s.occ 88 ch, false)
    let s2 := r.1.mirrorRead h.dpa
    let p := !r.2 || s.rangePoison h.dpa 64
    s2.setChan ch fun c =>
      { c with homeRd := rest, homeDone := c.homeDone ++ [{ h with data := s2.ins.mem.gets h.dpa 64, poison := p }] }

/-- The DPA of the next block of the patrol of a channel (R295). -/
def State.scrubAddr (s : State) (ch : Nat) : Nat := (s.chan ch).scrub * 1024 + ch * 256

/-- The patrol of one stitch: RATE blocks on each channel in DPA order; a completed pass is counted (R295). DEDUCED (log entry 26). -/
def State.scrub (s : State) : State :=
  let r := s.get F.INS_SCRUB_CFG_RATE 0
  if s.ins.ready then
    s.each [0, 1, 2, 3] fun t ch =>
      let p := (t.chan ch).scrub + r
      let t1 := t.setChan ch fun c => { c with scrub := p % 134217728 }
      if 134217728 ≤ p then t1.bump F.INS_CH_STATUS_PASSES (4 * ch) 1 else t1
  else s

/-! ### Pool extents and export objects (R301 to R303) -/

/-- The extent list entries of an object as configured: first, and first plus count; none when it is not valid. -/
def objSpan (g : Fld → Nat → Nat) (o : Nat) : List Nat :=
  if g F.INS_OBJ_CFG_VALID (ent o) = 1 then
    (List.range (g F.INS_OBJ_CFG_COUNT (ent o))).map (· + g F.INS_OBJ_CFG_FIRST (ent o))
  else []

/-- The objects some register of which is listed in a register file, and so may be valid. -/
def listedEnts (r : RegFile) (off : Nat) : List Nat :=
  (r.filter fun e => e.1 % entStride == off).map fun e => e.1 / entStride

/-- The valid objects of a copy of the configuration. -/
def State.objs (_s : State) (r : RegFile) (g : Fld → Nat → Nat) : List Nat :=
  (listedEnts r R.INS_OBJ_CFG).filter fun o => g F.INS_OBJ_CFG_VALID (ent o) == 1

/-- The extents named by valid objects, each with its object. -/
def State.named (s : State) (r : RegFile) (g : Fld → Nat → Nat) : List (Nat × Nat) :=
  (s.objs r g).flatMap fun o => (objSpan g o).map fun e => (g F.INS_EXT_PEXT (ent e), o)

/-- Whether a list has no repeats. -/
def noRepeats : List Nat → Bool
  | [] => true
  | x :: xs => !xs.contains x && noRepeats xs

/-- The tiered range fields of a copy of the configuration: base, size, first entry, port and LD. -/
def rangeOf (g : Fld → Nat → Nat) (r : Nat) : Option (Nat × Nat × Nat × Nat × Nat) :=
  if g F.INS_TR_CFG_VALID (ent r) = 1 then
    some (g F.INS_TR_BASE_BASE_GIB (ent r), g F.INS_TR_SIZE_SIZE_GIB (ent r), g F.INS_TR_SIZE_RT_BASE (ent r) * 16384,
      g F.INS_TR_CFG_PORT (ent r), g F.INS_TR_CFG_LD (ent r))
  else none

/-! ### Remap entries (R307, R310) -/

/-- One step of the CRC-8 with polynomial 0x07 over one bit, the highest bit first. -/
def crcStep (c : Nat) (b : Bool) : Nat :=
  let c2 := (c * 2) % 256
  if (decide (128 ≤ c)) != b then Nat.xor c2 7 else c2

/-- The CRC-8 of the low `n` bits of a number, the highest bit first, initial value zero. DEDUCED (log entry 23). -/
def crc8 : Nat → Nat → Nat → Nat
  | 0, _, c => c
  | n + 1, v, c => crc8 n v (crcStep c (v.testBit n))

/-- The bits [47:0] of an entry. -/
def Remap.low (r : Remap) : Nat :=
  bit r.v + r.st % 8 * 2 + bit r.d * 16 + bit r.pin * 32 + r.frame % 2097152 * 64 + r.cnt0 % 64 * 2 ^ 28 + r.cnt1 % 64 * 2 ^ 34
    + r.heat % 256 * 2 ^ 40

/-- The entry as its 8 B. -/
def Remap.word (r : Remap) : Nat := r.low + crc8 48 r.low 0 * 2 ^ 48

/-- An entry in HOME with zero heat. -/
def Remap.home : Remap := ⟨false, 0, false, false, 0, 0, 0, 0⟩

/-- The entry of 8 B, where CHK holds; an entry whose V is zero is HOME with zero heat (R307). -/
def Remap.ofWord (w : Nat) : Option Remap :=
  if w % 2 = 0 then some Remap.home
  else if crc8 48 (w % 2 ^ 48) 0 = w / 2 ^ 48 % 256 then
    some ⟨true, w / 2 % 8, w.testBit 4, w.testBit 5, w / 64 % 2097152, w / 2 ^ 28 % 64, w / 2 ^ 34 % 64, w / 2 ^ 40 % 256⟩
  else none

/-- The DPA of a remap entry (R306). -/
def remapAddr (idx : Nat) : Nat := 0x180000000 + 8 * idx

/-- The entry index of a granule of a range (R306). -/
def State.remapIdx (s : State) (rng gran : Nat) : Nat := s.get F.INS_TR_SIZE_RT_BASE (ent rng) * 16384 + gran

/-- Whether a granule lies in a valid range (R317). -/
def State.granOk (s : State) (rng gran : Nat) : Bool :=
  s.on F.INS_TR_CFG_VALID (ent rng) && decide (gran < s.get F.INS_TR_SIZE_SIZE_GIB (ent rng) * 16384)

/-- The entry as the engine knows it: its copy in the remap cache, or the table's. -/
def State.remapAt (s : State) (idx : Nat) : Remap :=
  match s.ins.remap.find idx with
  | some r => r
  | none => (Remap.ofWord (s.memN (remapAddr idx) 8)).getD { Remap.home with v := true, st := 5 }

/-- Writes and reads dispatched for an entry and not complete (R309). -/
def State.outstanding (s : State) (idx : Nat) (write : Bool) : Nat :=
  (s.ins.disp.filter fun d => d.2.1 == idx && d.2.2 == write).length

/-- Whether a cached entry stays pinned in the remap cache (R309). -/
def State.remapPinned (s : State) (idx : Nat) : Bool :=
  (s.ins.disp.any fun d => d.2.1 == idx) || decide (1 < (s.remapAt idx).st)

/-- The state with an entry's value replaced where it lives. -/
def State.remapSet (s : State) (idx : Nat) (r : Remap) : State :=
  let r1 := { r with v := true }
  match s.ins.remap.find idx with
  | some _ => s.setIns fun i => { i with remap := i.remap.set idx r1 }
  | none => s.setMem (remapAddr idx) (leBytes 8 r1.word)

/-- The entry moved to the head of the order of use. -/
def State.remapTouch (s : State) (idx : Nat) : State :=
  s.setIns fun i => { i with remapUse := idx :: i.remapUse.filter (· != idx) }

/-- An entry enters the remap cache, of 65,536 entries in 16 ways; where its set is full, the entry used longest ago that is
not pinned is written back (R309). -/
def State.remapIn (s : State) (idx : Nat) (r : Remap) : State :=
  let sameSet := s.ins.remapUse.filter fun k => k % 4096 == idx % 4096
  let s1 :=
    if 16 ≤ sameSet.length then
      match sameSet.reverse.find? fun k => !s.remapPinned k with
      | some v =>
        let old := s.remapAt v
        let t := s.setMem (remapAddr v) (leBytes 8 old.word)
        t.setIns fun i => { i with remap := i.remap.del v, remapUse := i.remapUse.filter (· != v) }
      | none => s
    else s
  (s1.setIns fun i => { i with remap := i.remap.set idx r }).remapTouch idx

/-! ### Shelves and backings -/

def State.shelfState (s : State) (sh : Nat) : Nat := s.get F.INS_SHELF_STATUS_STATE (ent sh)
def State.setShelf (s : State) (sh v : Nat) : State := s.put F.INS_SHELF_STATUS_STATE (ent sh) v
def State.rngShelf (s : State) (rng : Nat) : Nat := s.get F.INS_TR_CFG_SHELF (ent rng)
def State.rngPort (s : State) (rng : Nat) : Nat := s.get F.INS_TR_CFG_PORT (ent rng)

/-- Whether the backing port of a range is in the hot-plug state BOUND (R150). -/
def State.backBound (s : State) (rng : Nat) : Bool := s.get F.EP_HP_STATUS_HP_STATE (dPort (s.rngPort rng)) == 4

/-- The valid tiered ranges. -/
def State.ranges (s : State) : List Nat := (List.range 64).filter fun r => s.on F.INS_TR_CFG_VALID (ent r)

/-- The entry indices that are not those of an untouched granule: cached, or written in the table. -/
def State.touched (s : State) : List Nat :=
  let a := s.ins.mem.filter fun e => decide (0x180000000 ≤ e.1) && decide (e.1 < 0x190000000)
  let b := a.foldl (fun l e => insNat l ((e.1 - 0x180000000) / 8)) []
  s.ins.remap.foldl (fun l e => insNat l e.1) b

/-- The range and granule of an entry index. -/
def State.granOf (s : State) (idx : Nat) : Option (Nat × Nat) :=
  (s.ranges.find? fun r =>
    let b := s.get F.INS_TR_SIZE_RT_BASE (ent r) * 16384
    decide (b ≤ idx) && decide (idx < b + s.get F.INS_TR_SIZE_SIZE_GIB (ent r) * 16384)).map fun r =>
    (r, idx - s.get F.INS_TR_SIZE_RT_BASE (ent r) * 16384)

/-- Granules with D set, of the ranges a predicate picks. -/
def State.dirtyIdx (s : State) (p : Nat → Bool) : List Nat :=
  s.touched.filter fun i => (s.remapAt i).d && match s.granOf i with | some (r, _) => p r | none => false

/-! ### Frames -/

/-- The lowest number from `n` that a rising list lacks. -/
def lowestFree : List Nat → Nat → Nat
  | [], n => n
  | x :: xs, n => if x = n then lowestFree xs (n + 1) else n

/-- FREE_FRAMES_K kept with the frames in use (R323). -/
def State.syncFrames (s : State) : State :=
  s.put F.INS_TIER_STATUS_FREE_FRAMES_K 0 ((s.frameCount - s.ins.frames.length) / 1024)

def State.frameFree? (s : State) : Option Nat :=
  let f := lowestFree s.ins.frames 0
  if f < s.frameCount then some f else none

def State.frameTake (s : State) (f : Nat) : State := (s.setIns fun i => { i with frames := insNat i.frames f }).syncFrames
def State.frameRelease (s : State) (f : Nat) : State :=
  (s.setIns fun i => { i with frames := i.frames.filter (· != f) }).syncFrames

/-- A frame whose granule has left is freed at once, or when the reads dispatched to it complete (R314, step 5). -/
def State.frameLeave (s : State) (idx f : Nat) : State :=
  let rd := (s.ins.disp.filter fun d => d.2.1 == idx && !d.2.2).map fun d => (d.1, f)
  if rd.isEmpty then s.frameRelease f
  else s.setIns fun i => { i with freeing := i.freeing ++ [f], oldReads := i.oldReads ++ rd }

/-- The DPA of a byte of a frame (R307). -/
def State.frameAddr (s : State) (f o : Nat) : Nat := s.cacheBase + f * 65536 + o

/-- A frame is freed once its outstanding reads are complete (R314). -/
def State.frameFreeDone (s : State) (f : Nat) : State :=
  if s.ins.freeing.contains f && !(s.ins.oldReads.any fun e => e.2 == f) then
    (s.setIns fun i => { i with freeing := i.freeing.filter (· != f) }).frameRelease f
  else s

/-! ### Lookups (R309, R311, R314, R320) -/

/-- What a lookup of a granule answers. -/
inductive Look where
  | miss                      -- the entry is being filled
  | frame (dpa : Nat)         -- the granule's data is in the cache
  | backing                   -- the granule's data is in the expander
  | wait                      -- a migration holds the write
  | asleep                    -- the shelf sleeps
  | lost                      -- the granule is LOST
deriving DecidableEq, Repr

/-- A lookup counts its access with probability 2^-SAMPLE (R311). -/
def State.countHeat (s : State) (idx : Nat) : State :=
  let hit := s.freeVal % 2 ^ s.get F.INS_TIER_CFG_SAMPLE 0 == 0
  let s1 := s.usedFree
  if hit then
    let r := s1.remapAt idx
    s1.remapSet idx (if s.ins.counting = 0 then { r with cnt0 := min 63 (r.cnt0 + 1) } else { r with cnt1 := min 63 (r.cnt1 + 1) })
  else s1

/-- A write is dispatched to a frame: D is set, and a shelf in CLEANING or CLEAN counts a granule dirtied after its pass
(R307, R319). -/
def State.dirty (s : State) (rng idx : Nat) : State :=
  let r := s.remapAt idx
  let sh := s.rngShelf rng
  let s1 := s.remapSet idx { r with d := true }
  if !r.d && (s.shelfState sh == 1 || s.shelfState sh == 2) then s1.bump F.INS_SHELF_STATUS_DIRTY (ent sh) 1 else s1

/-- The answer of a lookup, with no effect. -/
def State.look (s : State) (rng gran o : Nat) (write : Bool) : Look :=
  let idx := s.remapIdx rng gran
  match s.ins.remap.find idx with
  | none => .miss
  | some r =>
    let asleep := s.shelfState (s.rngShelf rng) == 3 || s.shelfState (s.rngShelf rng) == 4
    if r.st = 5 then .lost
    else if r.st = 1 then .frame (s.frameAddr r.frame o)
    else if r.st = 3 || r.st = 4 then (if write then .wait else .frame (s.frameAddr r.frame o))
    else if r.st = 2 then (if write then .wait else .backing)
    else if asleep then .asleep
    else .backing

/-- A lookup that resolves an access (R309, R311): heat counts, the entry is used, the request is dispatched. -/
def State.lookDone (s : State) (rng gran : Nat) (write : Bool) (id : Nat) (l : Look) : State :=
  let idx := s.remapIdx rng gran
  let s := s.count cbTier 1 rng 0 1
  match l with
  | .frame _ =>
    let s1 := (s.countHeat idx).remapTouch idx
    let s2 := if write then s1.dirty rng idx else s1
    s2.setIns fun i => { i with disp := i.disp ++ [(id, idx, write)] }
  | .backing => ((s.countHeat idx).remapTouch idx).setIns fun i => { i with disp := i.disp ++ [(id, idx, write)] }
  | .lost => s.remapTouch idx
  | _ => s

/-- A miss is held, and its fill asked of the service port (R309). -/
def State.lookMiss (s : State) (rng gran ag : Nat) (m : Msg) : State :=
  let a := remapAddr (s.remapIdx rng gran)
  let s1 := if s.ins.fills.any fun f => f.1 == rng && f.2.1 == gran then s else s.svcAdd 4 a
  (s1.setIns fun i => { i with fills := i.fills ++ [(rng, gran, ag, m)] }).count cbTier 2 rng 0 1

/-- A write to a granule in migration is held (R314). -/
def State.lookHold (s : State) (rng gran : Nat) (m : Msg) : State :=
  (s.setIns fun i =>
    { i with migs := i.migs.map fun g => if g.rng == rng && g.gran == gran then { g with held := g.held ++ [m] } else g }).count cbTier 5 rng 0 1

/-- A request to a HOME granule of a sleeping shelf is held; the first one raises a wake request (R320). -/
def State.lookAsleep (s : State) (rng gran : Nat) (m : Msg) : State :=
  let sh := s.rngShelf rng
  let s1 := s.setIns fun i =>
    { i with
      held := i.held.set sh (i.held.getD sh [] ++ [m])
      wakeProm := i.wakeProm.set sh ((i.wakeProm.getD sh []).filter (· != (rng, gran)) ++ [(rng, gran)]) }
  let s2 := (s1.bump F.INS_SHELF_STATUS_HELD (ent sh) 1).count cbTier 6 sh 0 1
  if s.shelfState sh == 3 then (s2.setShelf sh 4).wakeRequest sh else s2

/-- A remap entry arrives from the table: read good, cured or lost; a failed entry becomes LOST and keeps its frame (R310), as does
an entry on a fenced channel (R322). The lookups held for it are returned, in order. -/
def State.remapFill (s : State) (rng gran out : Nat) : State × List (Nat × Msg) :=
  let idx := s.remapIdx rng gran
  let a := remapAddr idx
  let hit (f : Nat × Nat × Nat × Msg) : Bool := f.1 == rng && f.2.1 == gran
  let held := (s.ins.fills.filter hit).map fun f => f.2.2
  if held.isEmpty then (s, []) else
  let s1 := (s.setIns fun i => { i with fills := i.fills.filter fun f => !hit f }).svcDone 4 a
  let r := if s1.answers a then s1.eccRead a out else (s1, false)
  let w := s1.memN a 8
  match (if r.2 then Remap.ofWord w else none) with
  | some e => (r.1.remapIn idx { e with v := true }, held)
  | none => ((r.1.remapIn idx ⟨true, 5, w.testBit 4, w.testBit 5, w / 64 % 2097152, 0, 0, 0⟩).occAt 10 0 none, held)

/-! ### Heat (R312, R313) -/

/-- A heat epoch ends: its counters close and a scan starts, or the end is skipped while a scan runs; a new budget begins (R314). -/
def State.heatEnd (s : State) : State :=
  let s0 := s.setIns fun i => { i with started := 0 }
  if s.on F.INS_TIER_STATUS_SCANNING 0 then s0.bump F.INS_TIER_STATUS_SKIPS 0 1
  else (s0.setIns fun i => { i with scanEnd := some i.counting, counting := 1 - i.counting }).put F.INS_TIER_STATUS_SCANNING 0 1

/-- The smoothed heat of an entry after a scan, its counter of the epoch cleared (R312). -/
def scanOne (p decay : Nat) (r : Remap) : Remap :=
  let c := if p = 0 then r.cnt0 else r.cnt1
  let h := min 255 (r.heat - r.heat >>> decay + c)
  if p = 0 then { r with heat := h, cnt0 := 0 } else { r with heat := h, cnt1 := 0 }

/-- Insertion by an order given as a test of the new candidate against one in the list. -/
def insertBy {α : Type} (before : α → α → Bool) (x : α) : List α → List α
  | [] => [x]
  | y :: ys => if before x y then x :: y :: ys else y :: insertBy before x ys

/-- Whether a granule may be promoted by heat (R312). -/
def State.canPromote (s : State) (rng gran : Nat) : Bool :=
  let r := s.remapAt (s.remapIdx rng gran)
  s.granOk rng gran && r.st == 0 && s.on F.INS_TR_CFG_PROMOTE (ent rng) && s.shelfState (s.rngShelf rng) == 0 &&
    decide (s.get F.INS_TIER_TH_PROMO_TH 0 ≤ r.heat)

/-- Whether a granule may be demoted by heat (R312, R316, R320). -/
def State.canDemote (s : State) (rng gran : Nat) : Bool :=
  let r := s.remapAt (s.remapIdx rng gran)
  s.granOk rng gran && r.st == 1 && !r.pin && decide (r.heat ≤ s.get F.INS_TIER_TH_DEMO_TH 0) &&
    (if r.d then s.shelfState (s.rngShelf rng) == 0 && s.backBound rng
     else s.shelfState (s.rngShelf rng) == 3 || s.shelfState (s.rngShelf rng) == 4 || s.backBound rng)

/-- The scan ends: every entry of every valid range has its new heat, and the candidate lists hold the hottest and the coldest
4,096 (R312). -/
def State.scanDone (s : State) : State :=
  match s.ins.scanEnd with
  | none => s
  | some p =>
    let dec := s.get F.INS_TIER_CFG_DECAY 0
    let ids := s.touched.filter fun i => (s.granOf i).isSome
    let s1 := s.each ids fun t i => t.remapSet i (scanOne p dec (t.remapAt i))
    let cand := ids.filterMap fun i => (s1.granOf i).map fun g => ((s1.remapAt i).heat, g.1, g.2)
    let hot := (cand.filter fun c => s1.canPromote c.2.1 c.2.2).foldl
      (fun l c => insertBy (fun x y => decide (y.1 < x.1)) c l) []
    let cold := (cand.filter fun c => s1.canDemote c.2.1 c.2.2).foldl
      (fun l c => insertBy (fun x y => decide (x.1 < y.1)) c l) []
    (s1.setIns fun i => { i with scanEnd := none, promo := hot.take 4096, demo := cold.take 4096 }).put
      F.INS_TIER_STATUS_SCANNING 0 0

/-! ### Migration (R314, R315, R317, R319) -/

def State.mig? (s : State) (rng gran : Nat) : Option Mig := s.ins.migs.find? fun g => g.rng == rng && g.gran == gran

/-- OPEN kept with the migrations running (R323). -/
def State.syncOpen (s : State) : State :=
  s.put F.INS_TIER_STATUS_OPEN 0 (s.ins.migs.filter fun g => g.kind != 2).length

def State.setMigs (s : State) (f : List Mig → List Mig) : State := (s.setIns fun i => { i with migs := f i.migs }).syncOpen

/-- The report of a granule command (R317). -/
def State.gcmdStatus (s : State) (st err rng gran : Nat) : State :=
  let g := if s.granOk rng gran then (s.remapAt (s.remapIdx rng gran)).st else 0
  ((s.put F.INS_GCMD_STATUS_STATE 0 st).put F.INS_GCMD_STATUS_ERR 0 err).put F.INS_GCMD_STATUS_GSTATE 0 g

/-- Step 1 of a migration: the entry's state, a reserved frame for a promotion, and writes held from now (R314). -/
def State.migStart (s : State) (rng gran kind frame : Nat) (viaCmd coh : Bool) : State :=
  let idx := s.remapIdx rng gran
  let r := s.remapAt idx
  let st := if kind = 0 then 2 else if kind = 1 then 3 else 4
  let s1 := if (s.ins.remap.find idx).isSome then s else s.remapIn idx { r with v := true }
  let s2 := s1.remapSet idx { r with st := st, frame := if kind = 0 then frame else r.frame }
  let s3 := if kind = 0 then s2.frameTake frame else s2
  s3.setMigs fun l => l ++ [⟨rng, gran, kind, if kind = 0 then frame else r.frame, false, r.st, viaCmd, coh, 0, [], []⟩]

/-- A demotion of a clean granule: HOME at once, its frame free when the old reads are complete (R314). -/
def State.demoteClean (s : State) (rng gran : Nat) : State :=
  let idx := s.remapIdx rng gran
  let r := s.remapAt idx
  let s1 := s.remapSet idx { r with st := 0, d := false }
  (s1.frameLeave idx r.frame).bump F.INS_TIER_CNT_DEMOTIONS 0 1

/-- A demotion, by the column its D gives (R314). -/
def State.demote (s : State) (rng gran : Nat) (viaCmd coh : Bool) : State :=
  if (s.remapAt (s.remapIdx rng gran)).d || coh then s.migStart rng gran 1 0 viaCmd coh
  else
    let s1 := s.demoteClean rng gran
    if viaCmd then s1.gcmdStatus 2 0 rng gran else s1

/-- The engine starts the next migration its lists, budget and open limit allow (R314). -/
def State.migNext (s : State) (coh : Nat → Nat → Bool) : State :=
  let open_ := (s.ins.migs.filter fun g => g.kind != 2).length
  if s.on F.INS_TIER_STATUS_SCANNING 0 || decide (s.get F.INS_TIER_CFG_MIG_BUDGET 0 ≤ s.ins.started) ||
      decide (s.get F.INS_TIER_CFG_MIG_OPEN 0 ≤ open_) then s
  else
    let begun (t : State) : State := t.setIns fun i => { i with started := i.started + 1 }
    let demoteFirst (t : State) (orElse : State → State) : State :=
      match t.ins.demo.find? fun c => t.canDemote c.2.1 c.2.2 with
      | some (_, r, g) =>
        let t1 := t.setIns fun i => { i with demo := (i.demo.dropWhile fun c => !(c.2.1 == r && c.2.2 == g)).drop 1 }
        begun (t1.demote r g false (coh r g))
      | none => orElse (t.setIns fun i => { i with demo := [] })
    match s.ins.promo.dropWhile fun c => !s.canPromote c.2.1 c.2.2 with
    | [] => demoteFirst (s.setIns fun i => { i with promo := [] }) id
    | (h, r, g) :: rest =>
      match s.frameFree? with
      | some f => begun ((s.setIns fun i => { i with promo := rest }).migStart r g 0 f false (coh r g))
      | none =>
        demoteFirst (s.setIns fun i => { i with promo := (h, r, g) :: rest })
          fun t => (t.setIns fun i => { i with promo := rest }).bump F.INS_TIER_CNT2_NOFRAME 0 1

/-- A migration ends: it leaves the list, a command's result is reported, and its held writes are returned in their order. -/
def State.migEnd (s : State) (g : Mig) : State × List Msg :=
  let s1 := s.setMigs fun l => l.filter fun x => !(x.rng == g.rng && x.gran == g.gran)
  (if g.viaCmd then s1.gcmdStatus 2 0 g.rng g.gran else s1, g.held)

/-- A migration is abandoned (R315): the entry's state as before step 1 with D unchanged, a reserved frame freed, counted and
flagged. -/
def State.migAbandon (s : State) (g : Mig) : State × List Msg :=
  let idx := s.remapIdx g.rng g.gran
  let s1 := s.remapSet idx { s.remapAt idx with st := g.before }
  let s2 := if g.kind = 0 then s1.frameRelease g.frame else s1
  ((s2.bump F.INS_TIER_CNT2_ABANDONED 0 1).occAt 11 0 none).migEnd g

/-- Step 4 of a migration: the entry switches to the new location (R314, R319). -/
def State.migSwitch (s : State) (g : Mig) : State × List Msg :=
  let idx := s.remapIdx g.rng g.gran
  let r := s.remapAt idx
  let s1 :=
    if g.kind = 0 then ((s.remapSet idx { r with st := 1, d := false }).bump F.INS_TIER_CNT_PROMOTIONS 0 1).count cbTier 3 g.rng 0 1
    else if g.kind = 1 then
      (((s.remapSet idx { r with st := 0, d := false }).frameLeave idx g.frame).bump F.INS_TIER_CNT_DEMOTIONS 0 1).count cbTier 4 g.rng 0 1
    else s.remapSet idx { r with st := 1, d := false }
  s1.migEnd g

/-- The source's outstanding writes are complete and the copy begins (R314, steps 2 and 3). -/
def State.migDrained (s : State) (rng gran : Nat) : State :=
  if s.outstanding (s.remapIdx rng gran) true = 0 then
    s.setIns fun i => { i with migs := i.migs.map fun g => if g.rng == rng && g.gran == gran then { g with copying := true } else g }
  else s

/-- The lines of a copied granule in the DPA of its backing (R306). -/
def State.backAddr (s : State) (rng gran : Nat) : Nat := s.get F.INS_TR_BASE_BASE_GIB (ent rng) * 2 ^ 30 + gran * 65536

/-! ### Granule commands (R317) -/

/-- A granule command: refused, or carried out and reported. DEDUCED (log entry 26). -/
def State.gcmd (s : State) (op rng gran : Nat) (bound coh : Bool) : State :=
  let idx := s.remapIdx rng gran
  let r := s.remapAt idx
  let sh := s.shelfState (s.rngShelf rng)
  if !s.granOk rng gran then s.gcmdStatus 3 4 rng gran
  else if 2 ≤ r.st && r.st ≤ 4 then s.gcmdStatus 3 1 rng gran
  else if op = 0 then
    if r.st != 0 then s.gcmdStatus 2 0 rng gran
    else if sh == 3 || sh == 4 then s.gcmdStatus 3 1 rng gran
    else
      match s.frameFree? with
      | some f => (s.migStart rng gran 0 f true coh).gcmdStatus 1 0 rng gran
      | none => s.gcmdStatus 3 2 rng gran
  else if op = 1 then
    if r.st != 1 then s.gcmdStatus 2 0 rng gran
    else if !s.backBound rng || (r.d && (sh == 3 || sh == 4)) then s.gcmdStatus 3 1 rng gran
    else if r.d || coh then (s.migStart rng gran 1 0 true coh).gcmdStatus 1 0 rng gran
    else s.demote rng gran true coh
  else if op = 2 then (s.remapSet idx { r with pin := true }).gcmdStatus 2 0 rng gran
  else if op = 3 then (s.remapSet idx { r with pin := false }).gcmdStatus 2 0 rng gran
  else if r.d && bound then s.gcmdStatus 3 3 rng gran
  else
    let s1 := s.remapSet idx { r with st := 0, d := false, heat := 0 }
    let s2 := if r.st = 1 || (r.st = 5 && s.ins.frames.contains r.frame && r.frame != 0) then s1.frameLeave idx r.frame else s1
    s2.gcmdStatus 2 0 rng gran

/-! ### Shelves (R318 to R320) -/

/-- A cleaning pass starts: every CACHED granule of the shelf with D set is written back (R319). -/
def State.shelfClean (s : State) (sh : Nat) : State :=
  if s.shelfState sh = 0 then
    let ids := (s.dirtyIdx fun r => s.rngShelf r == sh).filter fun i => (s.remapAt i).st == 1
    let s1 := ((s.setShelf sh 1).put F.INS_SHELF_STATUS_DIRTY (ent sh) 0).setIns fun i =>
      { i with cleaning := insNat i.cleaning sh }
    s1.each ids fun t i => match t.granOf i with
      | some (r, g) => t.migStart r g 2 0 false false
      | none => t
  else s.put F.INS_SHELF_STATUS_REFUSED (ent sh) 1

/-- CLEANING or CLEAN ends and the shelf is AWAKE again (R318, R323). -/
def State.shelfRelease (s : State) (sh : Nat) : State :=
  if s.shelfState sh = 1 || s.shelfState sh = 2 then
    (s.setShelf sh 0).setIns fun i => { i with cleaning := i.cleaning.filter (· != sh) }
  else s.put F.INS_SHELF_STATUS_REFUSED (ent sh) 1

/-- The shelf is reported parked (R318). -/
def State.shelfParked (s : State) (sh : Nat) : State :=
  let st := s.shelfState sh
  let s1 := (s.setShelf sh 3).setIns fun i => { i with cleaning := i.cleaning.filter (· != sh) }
  s1.put F.INS_SHELF_STATUS_UNCLEANED (ent sh) (bit (st == 0 || st == 1))

/-- Requests held for a wake, in the order of their release: the oldest stamp, then the lowest ingress crossbar port, then the
lowest agent (R320). -/
def wakeOrder (l : List Msg) : List Msg :=
  l.foldl (fun acc m => insertBy (fun x y =>
    decide (x.stamp < y.stamp) || (x.stamp == y.stamp && (decide (xportOf x.srcAg < xportOf y.srcAg) ||
      (xportOf x.srcAg == xportOf y.srcAg && decide (x.srcAg < y.srcAg))))) m acc) []

/-- The shelf is reported awake: its held requests are returned in the order of their release, and the granules that had one held
are promoted where the range asks for it and frames allow (R320). -/
def State.shelfAwake (s : State) (sh : Nat) (coh : Nat → Nat → Bool) : State × List Msg :=
  let held := wakeOrder (s.ins.held.getD sh [])
  let proms := s.ins.wakeProm.getD sh []
  let s1 := (s.setShelf sh 0).setIns fun i => { i with held := i.held.del sh, wakeProm := i.wakeProm.del sh }
  let s2 := (s1.put F.INS_SHELF_STATUS_HELD (ent sh) 0).put F.INS_SHELF_STATUS_UNCLEANED (ent sh) 0
  (s2.each proms fun t rg =>
    if t.on F.INS_TR_CFG_PROMOTE_ON_WAKE (ent rg.1) && (t.remapAt (t.remapIdx rg.1 rg.2)).st == 0 then
      match t.frameFree? with
      | some f => t.migStart rg.1 rg.2 0 f false (coh rg.1 rg.2)
      | none => t
    else t, held)

/-- The wake failed: the shelf stays PARKED and its held requests are returned, to be completed as for a lost link (R320). -/
def State.shelfWakeFailed (s : State) (sh : Nat) : State × List Msg :=
  let held := wakeOrder (s.ins.held.getD sh [])
  let s1 := (s.setShelf sh 3).setIns fun i => { i with held := i.held.del sh, wakeProm := i.wakeProm.del sh }
  let s2 := s1.put F.INS_SHELF_STATUS_HELD (ent sh) 0
  (if held.isEmpty then s2 else s2.occ 320 sh, held)

/-! ### Colour tags (R304, R305) -/

/-- The DPA of the byte that holds the tag of a 4 KiB granule. -/
def tagAddr (g : Nat) : Nat := 0x14000000 + g / 2

/-- The tag of a granule, where it is known. -/
def State.tagOf (s : State) (g : Nat) : Option Nat :=
  if s.rangePoison (tagAddr g) 1 then none
  else some (if g % 2 = 0 then (s.mem (tagAddr g)).toNat % 16 else (s.mem (tagAddr g)).toNat / 16)

/-- A tag is written into its nibble; a poisoned block keeps its poison (R305). -/
def State.setTag (s : State) (g t : Nat) : State :=
  let b := (s.mem (tagAddr g)).toNat
  let v := if g % 2 = 0 then b / 16 * 16 + t % 16 else b % 16 + t % 16 * 16
  s.sysWrite (tagAddr g) [BitVec.ofNat 8 v]

/-- The pool extent of a DPA. -/
def extentOf (a : Nat) : Nat := (a - poolBase) / 0x4000000

/-- The checks that wait for a line of tags keep the tags a boundary is about to change, as they stood when the request's header entered step 2
(R305, R381). DEDUCED (log entry 26). -/
def State.keepTags (s : State) (p : Nat → Bool) : State :=
  s.setSec fun x => { x with tagWait := x.tagWait.map fun w =>
    { w with old := w.old ++ ([w.dpa / 4096, w.dpa / 4096 + 1].filter fun g => p g && !(w.old.any fun e => e.1 == g)).filterMap fun g =>
      (s.tagOf g).map fun t => (g, t) } }

/-- The queued tag writes that the boundary applies, at most 4,096 in the order they completed (R305). -/
def State.applyTags (s : State) : State :=
  let now := s.ins.tagQ.take 4096
  ((s.keepTags fun g => now.any fun e => e.1 == g).setIns fun i => { i with tagQ := i.tagQ.drop 4096 }).each now fun t e => t.setTag e.1 e.2

/-- The line of the tag cache that holds a granule's tag (R305). -/
def tagLine (g : Nat) : Nat := g / 128

/-- A line of tags enters the tag cache of 16,384 lines. -/
def State.tagIn (s : State) (l : Nat) : State :=
  s.setIns fun i => { i with tagC := (l :: i.tagC.filter (· != l)).take 16384 }

/-- The tags of sanitised extents become zero and the extents CLEAN (R303). -/
def State.applySanitised (s : State) : State :=
  let now := s.ins.sanTags
  ((s.keepTags fun g => decide (poolBase ≤ 4096 * g) && now.contains (extentOf (4096 * g))).setIns fun i => { i with sanTags := [] }).each now fun t e =>
    let g0 := (poolBase + e * 0x4000000) / 4096
    let t1 := t.clearMem (tagAddr g0) 8192
    let t2 := t1.each (wordsOf (tagAddr g0) 8192) fun u w => u.setWordPoison w false
    (t2.put F.INS_PEXT_STATE (ent e) 0).put F.INS_PEXT_OBJ (ent e) 0

/-! ### Swaps of group INS (R303, R308) -/

/-- Whether every touched granule of a range is in HOME. -/
def State.allHome (s : State) (rng : Nat) : Bool :=
  s.touched.all fun i => match s.granOf i with
    | some (r, _) => if r = rng then (s.remapAt i).st == 0 else true
    | none => true

/-- Whether the staged tiered ranges may apply (R308). -/
def State.rangesOk (s : State) : Bool :=
  let rs := List.range 64
  let kept := rs.filterMap fun r => rangeOf s.staged r
  (rs.all fun r => match rangeOf s.get r with
    | none => true
    | some (b, z, t, p, l) => match rangeOf s.staged r with
      | some (b', z', t', p', l') => (b == b' && decide (z ≤ z') && t == t' && p == p' && l == l') || s.allHome r
      | none => s.allHome r) &&
  (kept.all fun (_, z, t, _, _) => decide (t + z * 16384 ≤ 33554432)) &&
  (kept.foldl (fun (acc : Bool × List (Nat × Nat)) k =>
    let lo := k.2.2.1
    let hi := k.2.2.1 + k.2.1 * 16384
    (acc.1 && acc.2.all fun x => decide (hi ≤ x.1) || decide (x.2 ≤ lo), (lo, hi) :: acc.2)) (true, [])).1

/-- The checks of a swap of group INS on the values being applied (R303, R308). -/
def State.insSwapOk (s : State) : Bool :=
  let os := s.objs s.regs s.staged
  let nm := s.named s.regs s.staged
  let spans := os.flatMap fun o => objSpan s.staged o
  noRepeats (nm.map (·.1)) && noRepeats spans &&
  (os.all fun o => decide (s.staged F.INS_OBJ_CFG_FIRST (ent o) + s.staged F.INS_OBJ_CFG_COUNT (ent o) ≤ 2048)) &&
  (nm.all fun (e, o) =>
    let st := s.get F.INS_PEXT_STATE (ent e)
    decide (e < 4 * s.get F.INS_CARVE_POOL_UNITS 0) && (st == 0 || (st == 1 && s.get F.INS_PEXT_OBJ (ent e) == o))) &&
  s.rangesOk

/-- The pool extents after a swap of group INS, from the objects now active: released ones UNCLEAN, named ones ALLOC. The
extents made UNCLEAN are returned (R303). -/
def State.insExtents (s : State) : State × List Nat :=
  let nm := s.named s.act s.get
  let held := (listedEnts s.regs R.INS_PEXT).filter fun e => s.get F.INS_PEXT_STATE (ent e) == 1
  let gone := held.filter fun e => !nm.any fun x => x.1 == e
  let s1 := s.each gone fun t e => (t.put F.INS_PEXT_STATE (ent e) 2).put F.INS_PEXT_OBJ (ent e) 0
  (s1.each nm fun t x => (t.put F.INS_PEXT_STATE (ent x.1) 1).put F.INS_PEXT_OBJ (ent x.1) x.2, gone)

/-! ### A fenced channel (R322, R437) -/

/-- A channel is fenced: clean granules whose frame has blocks on it are HOME at once; every 64 KiB frame has (R322). -/
def State.chanFence (s : State) (c : Nat) : State :=
  let s1 := s.put F.INS_CH_STATUS_FENCED (4 * c) 1
  s1.each (s1.touched.filter fun i => (s1.remapAt i).st == 1 && !(s1.remapAt i).d) fun t i =>
    let r := t.remapAt i
    (t.remapSet i { r with st := 0 }).frameLeave i r.frame

/-- While a channel is fenced, dirty granules are demoted as soon as their shelf is AWAKE and their backing BOUND (R322). -/
def State.fencedDemote (s : State) (coh : Nat → Nat → Bool) : State :=
  if [0, 1, 2, 3].any fun c => s.on F.INS_CH_STATUS_FENCED (4 * c) then
    s.each (s.touched.filter fun i => (s.remapAt i).st == 1 && (s.remapAt i).d) fun t i =>
      match t.granOf i with
      | some (r, g) =>
        if t.shelfState (t.rngShelf r) == 0 && t.backBound r && (t.mig? r g).isNone then t.migStart r g 1 0 false (coh r g) else t
      | none => t
  else s

/-- The channel is released: retrained, its blocks written with the poison code but for mirrored areas (R437). -/
def State.chanRelease (s : State) (c : Nat) : State :=
  (s.put F.INS_CH_STATUS_FENCED (4 * c) 0).setIns fun i =>
    { i with bad := insNat i.bad c, flip := i.flip.filter fun w => chanOf (32 * w) != c }

/-! ### Start-up (R321, R301) -/

/-- The zero fill: memory, tags, remap entries and mirror area zero, no poison, every frame free (R321, step 3). DESIGN CHOICE (log entry 6). -/
def State.zeroFill (s : State) : State :=
  (s.setIns fun i =>
    { i with mem := [], bad := [], flip := [], tagQ := [], tagC := [], remap := [], remapUse := [], frames := [], freeing := [],
             oldReads := [], migs := [], promo := [], demo := [] }).syncFrames

end Sys2Proof.Machine
end

