-- ==== Sys2Proof/Machine/RegWrite.lean ====
section
/-!
DEFINITION. What a completed write of one word does to a register: the access codes of its fields (spec/00 R13), the lock
of RWL fields (spec/03 R95), and the values that a field's chapter rejects (R19).
-/
namespace Sys2Proof.Machine
open Sys2Proof

/-- A rejection of R19: the register's offset in its first unit, the fields that keep their previous values together, and
the test on the state, the distance of the unit and the word with the new values. -/
structure Check where
  off : Nat
  flds : List Fld
  bad : State → Nat → Word → Bool

/-- A field that may not be zero. -/
def chkNz (f : Fld) : Check := ⟨f.off, [f], fun _ _ w => f.of w == 0⟩

/-- A field that may not exceed a value. -/
def chkMax (f : Fld) (n : Nat) : Check := ⟨f.off, [f], fun _ _ w => decide (n < f.of w)⟩

/-- A field that lies between two values. -/
def chkIn (f : Fld) (a b : Nat) : Check := ⟨f.off, [f], fun _ _ w => decide (f.of w < a) || decide (b < f.of w)⟩

/-- A list of fields that rises. -/
def chkRise (l : List Fld) (strict : Bool) (off : Nat) : Check :=
  ⟨off, l, fun _ _ w => (List.zip l l.tail).any fun p => if strict then decide (p.2.of w ≤ p.1.of w) else decide (p.2.of w < p.1.of w)⟩

/-- Whether the offset lies in a Mornu bank (R23). -/
def mornuDist (d : Nat) : Bool := decide (0x100000 ≤ d)

/-- The starting taps of MCOEF: c−3, c−2, c−1, c+1 (R112). -/
def mcoefOf (w : Word) : Int × Int × Int × Int :=
  (signed 4 (F.LB_LANE_TXEQ_MC_M3.of w), signed 4 (F.LB_LANE_TXEQ_MC_M2.of w), signed 6 (F.LB_LANE_TXEQ_MC_M1.of w),
    signed 6 (F.LB_LANE_TXEQ_MC_P1.of w))

/-- Whether taps obey the limits of R112, c0 taking what the others leave of 64. -/
def tapsOk (m3 m2 m1 p1 : Int) : Bool :=
  decide (m3.natAbs ≤ 6) && decide (m2.natAbs ≤ 6) && decide (m1.natAbs ≤ 16) && decide (p1.natAbs ≤ 16) &&
    decide (m3.natAbs + m2.natAbs + m1.natAbs + p1.natAbs ≤ 40)

/-- Whether an event code belongs to the kind of a counter block, with a unit and with a slice (R450). -/
def pmcEvent (kind ev : Nat) : Bool × Bool × Bool :=
  match kind with
  | 0 => (decide (ev ≤ 8), decide (1 ≤ ev), ev == 1 || ev == 2)
  | 1 => (decide (ev ≤ 12), (decide (1 ≤ ev) && decide (ev ≤ 9)) || ev == 12,
          ev == 1 || ev == 2 || (decide (7 ≤ ev) && decide (ev ≤ 9)) || ev == 11 || ev == 12)
  | 2 => (decide (ev ≤ 7), decide (1 ≤ ev) && ev != 2, decide (1 ≤ ev) && ev != 2)
  | 3 => (decide (ev ≤ 11), false, (decide (1 ≤ ev) && decide (ev ≤ 4)) || ev == 9)
  | 4 => (decide (ev ≤ 5), ev == 1 || ev == 2, false)
  | 5 => (decide (ev ≤ 6), decide (1 ≤ ev), false)
  | 6 => (decide (ev ≤ 4), decide (1 ≤ ev), ev == 1)
  | 7 => (decide (ev ≤ 3), false, decide (1 ≤ ev))
  | 8 => (decide (ev ≤ 6), decide (1 ≤ ev) && decide (ev ≤ 3), false)
  | _ => (false, false, false)

/-- Guaranteed slots that a word of the Shank slot map gives. -/
def shankCount (w : Word) : Nat := ((List.range 16).filter fun j => (w.toNat >>> (2 * j)) % 4 != 0).length

/-- The rejections of the edge port, lane and link blocks. -/
def checksA : List Check := [
  ⟨F.LB_BANK_CFG_MFAM.off, [F.LB_BANK_CFG_MFAM], fun _ d w => mornuDist d && F.LB_BANK_CFG_MFAM.of w == 0⟩,
  ⟨F.LB_BANK_CFG_BOOT_EN.off, [F.LB_BANK_CFG_BOOT_EN],
    fun _ _ w => F.LB_BANK_CFG_BOOT_EN.of w == 1 && F.LB_BANK_CFG_EN.of w == 0⟩,
  ⟨F.LB_BANK_CFG_BIFUR.off, [F.LB_BANK_CFG_BIFUR], fun _ _ w => decide (4 < F.LB_BANK_CFG_BIFUR.of w)⟩,
  ⟨F.LB_BANK_CTL_FAMILY.off, [F.LB_BANK_CTL_FAMILY],
    fun s d w => mornuDist d && !(s.get F.LB_BANK_CFG_MFAM d).testBit (F.LB_BANK_CTL_FAMILY.of w)⟩,
  ⟨F.LB_LANE_TXEQ_MC_M1.off, [F.LB_LANE_TXEQ_MC_M1, F.LB_LANE_TXEQ_MC_P1, F.LB_LANE_TXEQ_MC_M2, F.LB_LANE_TXEQ_MC_M3],
    fun _ _ w => let t := mcoefOf w; !tapsOk t.1 t.2.1 t.2.2.1 t.2.2.2⟩,
  chkIn F.LB_LANE_MARGIN_CTL_DWELL 16 30,
  chkIn F.LB_LANE_MARGIN_CTL_BER_EXP 3 12,
  chkMax F.EP_PORT_CFG_MODE 9,
  chkMax F.EP_PORT_CFG_MAXRATE 6,
  ⟨F.EP_LINK_CTL_TGT_RATE.off, [F.EP_LINK_CTL_TGT_RATE],
    fun s d w => decide (s.get F.EP_PORT_CFG_MAXRATE d < F.EP_LINK_CTL_TGT_RATE.of w)⟩,
  chkMax F.EP_LINK_CTL_FLIT_PREF 2,
  chkNz F.EP_DS_CFG_TRAIN_LIMIT,
  chkNz F.EP_CPL_TO_LIMIT,
  chkMax F.EP_HP_CFG_POLICY 2,
  chkNz F.EP_HP_WAIT_WAIT,
  chkMax F.EP_IDE_CFG_LINK_POLICY 2,
  chkMax F.EP_IDE_CFG_SEL_MAX 8,
  chkNz F.ML_LINK_CFG_RATES,
  chkMax F.ML_LINK_CTL_GRACE 97657,
  chkNz F.ML_REPLAY_CFG_TO,
  chkMax F.ML_LACE_CTL_CMD 2,
  chkMax F.ML_LACE_CTL_TGT_LSET 14,
  ⟨F.ML_CRED_CFG_SIZE.off, [F.ML_CRED_CFG_SIZE], fun _ d w => decide (d % 0x10000 < 32) && F.ML_CRED_CFG_SIZE.of w == 0⟩]

/-- The rejections of the Sole, the schedulers, the home agents and the Insole. -/
def checksB : List Check := [
  chkNz F.SOLE_RES_RSP_CELLS, chkNz F.SOLE_RES_SNP_CELLS, chkNz F.SOLE_RES_MGMT_CELLS, chkNz F.SOLE_CLASS_PROF_HARD,
  ⟨F.SCHED_QCFG_WEIGHT.off, [F.SCHED_QCFG_WEIGHT],
    fun s d w => let e := queueEgressOf d
      F.SCHED_QCFG_WEIGHT.of w == 0 || (s.get F.SCHED_EGR_CFG_MODE (0x20 * e) == 0 && decide (255 < F.SCHED_QCFG_WEIGHT.of w))⟩,
  chkMax F.SCHED_QCFG_PRIO 4,
  ⟨F.SCHED_QALIAS_CONF.off, [F.SCHED_QALIAS_TARGET, F.SCHED_QALIAS_CONF, F.SCHED_QALIAS_ALIASED],
    fun _ _ w => F.SCHED_QALIAS_CONF.of w == 1 && F.SCHED_QALIAS_ALIASED.of w == 1⟩,
  ⟨F.SCHED_SRATE_RATE.off, [F.SCHED_SRATE_RATE, F.SCHED_SRATE_EN], fun s d w =>
    F.SCHED_SRATE_EN.of w == 1 && (F.SCHED_SRATE_RATE.of w == 0 || decide (s.staged F.SCHED_SBURST_BURST d < F.SCHED_SRATE_RATE.of w))⟩,
  ⟨F.SCHED_SBURST_BURST.off, [F.SCHED_SBURST_BURST],
    fun s d w => decide (F.SCHED_SBURST_BURST.of w < s.staged F.SCHED_SRATE_RATE d)⟩,
  ⟨F.SCHED_EGR_SRATE_RATE.off, [F.SCHED_EGR_SRATE_RATE, F.SCHED_EGR_SRATE_EN], fun s d w =>
    F.SCHED_EGR_SRATE_EN.of w == 1 &&
      (F.SCHED_EGR_SRATE_RATE.of w == 0 || decide (s.staged F.SCHED_EGR_SBURST_BURST d < F.SCHED_EGR_SRATE_RATE.of w))⟩,
  ⟨F.SCHED_EGR_SBURST_BURST.off, [F.SCHED_EGR_SBURST_BURST],
    fun s d w => decide (F.SCHED_EGR_SBURST_BURST.of w < s.staged F.SCHED_EGR_SRATE_RATE d)⟩,
  chkMax F.HA_HOLD_WINDOW 8000,
  chkNz F.HA_TACK_TO_LIMIT,
  chkRise [F.HA_LOAD_CFG_OPT, F.HA_LOAD_CFG_MOD, F.HA_LOAD_CFG_SEV] false F.HA_LOAD_CFG_OPT.off,
  ⟨F.HA_RGN_CFG_VALID.off, [F.HA_RGN_CFG_VALID],
    fun s d w => F.HA_RGN_CFG_VALID.of w == 1 && s.get F.HA_RGN_SIZE_SIZE d == 0⟩,
  ⟨F.HA_RGN_SIZE_SIZE.off, [F.HA_RGN_SIZE_SIZE], fun s d w => F.HA_RGN_SIZE_SIZE.of w == 0 && s.on F.HA_RGN_CFG_VALID d⟩,
  ⟨F.INS_CARVE_MIRROR.off, [F.INS_CARVE_MIRROR], fun _ _ w => F.INS_CARVE_MIRROR.of w == 3⟩,
  ⟨F.INS_ARB_W_POOL.off, [F.INS_ARB_W_POOL, F.INS_ARB_W_HOME, F.INS_ARB_W_SVC],
    fun _ _ w => F.INS_ARB_W_POOL.of w + F.INS_ARB_W_HOME.of w + F.INS_ARB_W_SVC.of w != 16⟩,
  chkMax F.INS_SCRUB_CFG_RATE 64,
  chkRise [F.INS_LOAD_CFG_OPT, F.INS_LOAD_CFG_MOD, F.INS_LOAD_CFG_SEV] false F.INS_LOAD_CFG_OPT.off,
  ⟨F.INS_TR_CFG_VALID.off, [F.INS_TR_CFG_VALID],
    fun s d w => F.INS_TR_CFG_VALID.of w == 1 && s.staged F.INS_TR_SIZE_SIZE_GIB d == 0⟩,
  ⟨F.INS_TR_SIZE_SIZE_GIB.off, [F.INS_TR_SIZE_SIZE_GIB],
    fun s d w => (F.INS_TR_SIZE_SIZE_GIB.of w == 0 && s.staged F.INS_TR_CFG_VALID d == 1) || decide (2048 < F.INS_TR_SIZE_SIZE_GIB.of w)⟩,
  chkNz F.INS_TIER_CFG_DECAY,
  chkIn F.INS_TIER_CFG_MIG_OPEN 1 16,
  ⟨F.INS_TIER_TH_DEMO_TH.off, [F.INS_TIER_TH_PROMO_TH, F.INS_TIER_TH_DEMO_TH],
    fun _ _ w => decide (F.INS_TIER_TH_PROMO_TH.of w ≤ F.INS_TIER_TH_DEMO_TH.of w)⟩]
where
  queueEgressOf (d : Nat) : Nat := d / entStride / 16 % 128

/-- The rejections of the other blocks. -/
def checksC : List Check := [
  chkNz F.BND_CFG_DISC_LIMIT, chkNz F.BND_SL_CFG_DRAIN, chkNz F.BND_WAKE_CFG_CAP, chkNz F.BND_SHELF_TIME_WAKE_LIMIT,
  chkMax F.BND_BCMD_UMODE 2,
  chkIn F.COB_CFG_MAX_OPEN 1 64, chkNz F.COB_TO_LIMIT, chkNz F.COB_QP_CFG_DEPTH,
  chkIn F.COB_QP_CFG_SQ_LOG2 4 16, chkIn F.COB_QP_CFG_CQ_LOG2 4 16,
  chkNz F.VAMP_NP_TO_LIMIT, chkNz F.VAMP_LOCK_TO_LIMIT, chkNz F.VAMP_PF_CFG_AGE,
  chkMax F.VAMP_WIN_CFG_PF_LEN 64, chkIn F.VAMP_WIN_CFG_SZ_LOG2 12 48, chkMax F.VAMP_WIN_CFG_BAR 5, chkMax F.VAMP_WIN_TGT_TKIND 2,
  chkMax F.EYE_WIN_ATTR_SPACE 4,
  chkNz F.SEC_IDE_CFG_REKEY,
  chkNz F.CLK_STO_LIMIT,
  ⟨F.CLK_RAT_BASE_ADDR.off, [F.CLK_RAT_BASE_ADDR],
    fun s d w => s.staged F.CLK_RAT_ATTR_VALID d == 1 && decide (s.staged F.CLK_RAT_LIM_ADDR d < F.CLK_RAT_BASE_ADDR.of w)⟩,
  ⟨F.CLK_RAT_LIM_ADDR.off, [F.CLK_RAT_LIM_ADDR], fun s d w => decide (F.CLK_RAT_LIM_ADDR.of w < s.staged F.CLK_RAT_BASE_ADDR d)⟩,
  ⟨R.CLK_SHANK_MAP, [⟨R.CLK_SHANK_MAP, 0, 32, .rwl, 0⟩], fun s d w =>
    decide (153 < shankCount w + (((List.range 20).filter (fun i => 4 * i != d)).map fun i => shankCount (s.reg (R.CLK_SHANK_MAP + 4 * i))).sum)⟩,
  chkNz F.FLT_GPF_CFG_P1_MS, chkNz F.FLT_GPF_CFG_P2_MS, chkNz F.FLT_PWRDN_CFG_DRAIN_LIMIT, chkNz F.FLT_PWRDN_CFG_CLEAN_LIMIT,
  ⟨F.PMC_SEL_EVENT.off,
    [F.PMC_SEL_EVENT, F.PMC_SEL_UNIT, F.PMC_SEL_UNIT_EN, F.PMC_SEL_SLICE, F.PMC_SEL_SLICE_EN, F.PMC_SEL_EN],
    fun _ d w => let e := pmcEvent (pmcKind (d / 0x100)) (F.PMC_SEL_EVENT.of w)
      !e.1 || (F.PMC_SEL_UNIT_EN.of w == 1 && !e.2.1) || (F.PMC_SEL_SLICE_EN.of w == 1 && !e.2.2)⟩,
  chkIn F.PMC_ACCT_CFG_FRAMES 1 2044,
  chkIn F.PWR_CFG_INS_DELAY 5 100,
  chkMax F.PWR_THERM_CFG_ALARM 125,
  ⟨F.PWR_AVS_CFG_VMIN.off, [F.PWR_AVS_CFG_VMIN, F.PWR_AVS_CFG_VMAX], fun _ _ w =>
    let a := F.PWR_AVS_CFG_VMIN.of w; let b := F.PWR_AVS_CFG_VMAX.of w
    decide (b < a) || decide (a < 130) || decide (170 < a) || decide (b < 130) || decide (170 < b)⟩,
  chkRise [F.PWR_AVS_MARGIN_M_CRIT, F.PWR_AVS_MARGIN_M_LOW, F.PWR_AVS_MARGIN_M_HIGH] true F.PWR_AVS_MARGIN_M_CRIT.off,
  chkNz F.GLB_START_CFG_READY_LIMIT,
  chkNz F.DBG_CFG_IDLE_LIMIT,
  chkMax F.GLB_EPOCH_CFG_HEAT_EXP 20, chkMax F.GLB_EPOCH_CFG_ACCT_EXP 20, chkMax F.GLB_EPOCH_CFG_TEL_EXP 20, chkMax F.GLB_EPOCH_CFG_FW_EXP 20,
  chkMax F.LAST_LOAD_CTL_SRC 2]

/-- The rejections that concern a register. A reserved FENCE (3), or FENCE on a source without a fence unit, is rejected
per source (R434). -/
def checksOf (d : RegDef) : List Check :=
  if d.off = R.FLT_REACT then
    (List.range 8).map fun j =>
      let f : Fld := ⟨R.FLT_REACT, 4 * j, 2, .stg, 0⟩
      ⟨R.FLT_REACT, [f], fun _ dist w => f.of w == 3 || (f.of w == 2 && !fenceable (2 * dist + j))⟩
  else (checksA ++ checksB ++ checksC).filter fun c => c.off == d.off

/-- The block kind of a configuration error, and the instance, of a register's offset (R19, R430, R504). -/
def cfgKindOf (o : Nat) : Option (Nat × Nat) :=
  match o / 0x100000 with
  | 0 => some (kGLB, 0) | 1 => some (kPWR, 0)
  | 2 | 3 => some (kLB, (o - 0x200000) / 0x10000)
  | 4 => some (kEP, (o - 0x400000) / 0x4000)
  | 5 => some (kML, (o - 0x500000) / 0x10000)
  | 6 => some (kSOLE, 0) | 7 | 8 => some (kSCHED, 0)
  | 9 => some (kHA, (o - 0x900000) / 0x40000)
  | 10 => some (kINS, 0) | 11 => some (kBND, 0) | 12 => some (kVAMP, 0) | 13 => some (kEYE, 0) | 14 => some (kCLK, 0)
  | 15 => some (kFLT, 0) | 16 => some (kPMC, 0) | 17 => some (kLAST, 0) | 18 => some (kCOB, 0) | 19 => some (kSEC, 0)
  | 20 => some (kDBG, 0)
  | _ => none

/-- The configuration error of the block whose register was written (R19). -/
def State.cfgErrAt (s : State) (o : Nat) : State :=
  match cfgKindOf o with
  | some (k, i) => s.cfgErr k i
  | none => s

/-- The bits of a list of fields. -/
def maskOfList (l : List Fld) : Word := l.foldl (fun m f => m ||| f.mask) 0

/-- Whether the Last has set the lock (R95). -/
def State.locked (s : State) : Bool := s.on F.LAST_LOCK_LOCKED 0

/-- Bits that are RSV in this unit of a register: the edge-bank fields in a Mornu bank, the Mornu fields in an edge bank (R100, R126). -/
def rsvIn (d : RegDef) (dist : Nat) : Word :=
  if d.off = R.LB_BANK_CFG then
    (if mornuDist dist then maskOfList [F.LB_BANK_CFG_BIFUR, F.LB_BANK_CFG_CLKMODE, F.LB_BANK_CFG_SSC_EN] else F.LB_BANK_CFG_MFAM.mask)
  else if d.off = R.LB_BANK_CTL then (if mornuDist dist then 0 else F.LB_BANK_CTL_FAMILY.mask)
  else if d.off = R.LB_LANE_TXEQ then (if mornuDist dist then 0 else F.LB_LANE_TXEQ_PRECODE.mask)
  else 0

/-- The word that the RW, STG and unlocked RWL fields of a write would leave (R13). -/
def RegDef.merge (d : RegDef) (locked : Bool) (old v : Word) : Word :=
  let m := d.maskOf fun a => a = .rw || a = .stg || (a = .rwl && !locked)
  (old &&& ~~~ m) ||| (v &&& m)

/-- A completed write of one word to the register at a key: RW, STG and unlocked RWL fields take their new values but those R19
rejects, W1C bits written 1 clear (bit 0 of BAD_HDR clears
the count, R126), a write that would change a locked field sets FLT_LOCKED_WR, and RO and RSV bits ignore
it. The command bits of W1S fields are the rows of their own (R13). -/
def State.storeWord (s : State) (d : RegDef) (k : Nat) (v : Word) : State :=
  let old := s.reg k
  let rsv := rsvIn d (k % entStride - d.off)
  let merged := (d.merge s.locked old v &&& ~~~ rsv) ||| (old &&& rsv)
  let bad := (checksOf d).filter fun c => c.bad s (k - d.off) merged
  let keep := bad.foldl (fun m c => m ||| maskOfList c.flds) 0
  let w1c := d.maskOf (· = .w1c)
  let clr := if d.off = R.LB_LANE_ERR then (if v.getLsbD 0 then F.LB_LANE_ERR_BAD_HDR.mask else 0) else v &&& w1c
  let w := ((merged &&& ~~~ keep) ||| (old &&& keep)) &&& ~~~ clr
  let s1 := s.setReg k w
  let s2 := if bad.isEmpty then s1 else s1.cfgErrAt (k % entStride)
  if s.locked && ((v ^^^ old) &&& d.maskOf (· = .rwl)) != 0 then s2.occ 0 0 else s2

/-- A write of one word at a known plain register, as the rows of its commands make it before their effect. -/
def State.storeAt (s : State) (k : Nat) (v : Word) : State :=
  match regAt (k % entStride) with
  | some d => s.storeWord d k v
  | none => s

end Sys2Proof.Machine
end

