-- ==== Sys2Proof/Machine/Lanes.lean ====
section
/-!
DEFINITION. Lanes and lane banks (spec/04): which port or link a lane belongs to, the lane states and their transitions, the Mornu
training block, coefficients and their snapshot, margin scans, and the power states of a bank.
-/
namespace Sys2Proof.Machine
open Sys2Proof

/-! ### Assignment (R99, R100) -/

/-- The port, counted from EP4n, that holds a quarter of an edge bank's lanes. -/
def bifurPort (code q : Nat) : Nat :=
  match code with
  | 0 => 0
  | 1 => if q < 2 then 0 else 2
  | 2 => if q < 2 then 0 else q
  | 3 => if q < 2 then q else 2
  | _ => q

/-- The edge port of a lane of an edge bank. -/
def State.portOfLane (s : State) (b l : Nat) : Nat := 4 * b + bifurPort (s.get F.LB_BANK_CFG_BIFUR (dBank b)) (l / 4)

/-- The bank lanes of an edge port. -/
def State.lanesOfPort (s : State) (n : Nat) : List Nat := (List.range 16).filter fun l => s.portOfLane (n / 4) l == n

/-- The bank lanes of a Mornu link. -/
def lanesOfLink (m : Nat) : List Nat := (List.range 8).map (· + 8 * (m % 2))

/-- The Mornu link of a lane of a Mornu bank. -/
def linkOfLane (b l : Nat) : Nat := 2 * (b - 16) + l / 8

/-- Whether a bank carries Mornu links. -/
def isMornu (b : Nat) : Bool := decide (16 ≤ b)

def State.bankState (s : State) (b : Nat) : Nat := s.get F.LB_BANK_STATUS_STATE (dBank b)
def State.bankEn (s : State) (b : Nat) : Bool := s.on F.LB_BANK_CFG_EN (dBank b)

/-- Whether an edge port has lanes of an enabled bank (R99, R121). -/
def State.portPresent (s : State) (n : Nat) : Bool := s.bankEn (n / 4) && !(s.lanesOfPort n).isEmpty

/-- The lane's number within its port or link (R99, R100). -/
def State.laneNo (s : State) (b l : Nat) : Nat :=
  if isMornu b then l % 8 else ((s.lanesOfPort (s.portOfLane b l)).findIdx? (· == l)).getD 0

/-- The ports of a bank's lanes follow a new bifurcation: LANES and PRESENT of R155. -/
def State.syncPortIds (s : State) (b : Nat) : State :=
  if isMornu b then s
  else s.each (List.range 4) fun t i =>
    let k := (t.lanesOfPort (4 * b + i)).length
    (t.put F.EP_PORT_ID_LANES (dPort (4 * b + i)) k).put F.EP_PORT_ID_PRESENT (dPort (4 * b + i)) (bit (decide (0 < k)))

/-! ### Lane states (R105) -/

def lsOff : Nat := 0
def lsIdle : Nat := 1
def lsDetect : Nat := 2
def lsCdr : Nat := 3
def lsAdapt : Nat := 4
def lsOrient : Nat := 5
def lsAlign : Nat := 6
def lsTune : Nat := 7
def lsData : Nat := 8

def State.laneState (s : State) (b l : Nat) : Nat := s.get F.LB_LANE_STATUS_STATE (dLane b l)

/-- The end of a running margin scan with an error code (R119, R120). -/
def State.scanError (s : State) (b l err : Nat) : State :=
  ((s.put F.LB_LANE_MARGIN_STATUS_STATE (dLane b l) 3).put F.LB_LANE_MARGIN_STATUS_ERR (dLane b l) err).setLane b l
    fun x => { x with scan := none }

/-- A lane enters a state. A lane that leaves DATA ends a scan with RETRAIN (R119). -/
def State.laneTo (s : State) (b l st : Nat) : State :=
  let s1 := s.put F.LB_LANE_STATUS_STATE (dLane b l) st
  if st != lsData && (s.lane b l).scan.isSome then s1.scanError b l 1 else s1

/-- A lane returns to IDLE or OFF: nothing of its training remains. -/
def State.laneDown (s : State) (b l st : Nat) : State :=
  let s1 := s.laneTo b l st
  let s2 := (s1.put F.LB_LANE_STATUS_CDR_LOCK (dLane b l) 0).put F.LB_LANE_STATUS_BLOCK_LOCK (dLane b l) 0
  s2.setLane b l fun x =>
    { x with timer := none, retry := none, relock := none, stable := none, matches_ := 0, farDone := false, ownDone := false, stat := 0 }

/-- A port or link is disabled, or its layer abandons training: its lanes that are not OFF go to IDLE (R105). -/
def State.lanesIdle (s : State) (b : Nat) (ls : List Nat) : State :=
  s.each ls fun t l => if t.laneState b l = lsOff then t else t.laneDown b l lsIdle

/-- A value within a range, from a free value. -/
def State.freeIn (s : State) (lo : Int) (n : Nat) : Int := lo + ((s.freeVal % n : Nat) : Int)

/-- Entry to DETECT: the staged values in force are consumed, freeze bits are loaded, and the tap values start from the
preset of an edge lane, whose values the specification leaves to PCIe, or from MCOEF (R112, R114, R116). -/
def State.laneDetect (s : State) (b l : Nat) : State :=
  let d := dLane b l
  let m := mcoefOf (s.act.get (R.LB_LANE_TXEQ + d))
  let s1 := (s.laneDown b l lsDetect).put F.LB_LANE_FAR_VALID d 0
  let fr := s.get F.LB_LANE_ADAPT_DEF_FREEZE_DEF d
  let s2 := ((s1.put F.LB_LANE_ADAPT_FREEZE_CTLE d fr).put F.LB_LANE_ADAPT_FREEZE_DFE d (fr / 2)).put F.LB_LANE_ADAPT_FREEZE_TX d (fr / 4)
  let f1 := s2.freeIn (-16) 33
  let s3 := s2.usedFree
  let f2 := s3.freeIn (-16) 33
  let s4 := s3.usedFree
  let t := if isMornu b then m else (0, 0, f1, f2)
  s4.setLane b l fun x =>
    { x with
      timer := some (s.after 12), preset := s.get F.LB_LANE_TXEQ_PRESET d,
      mcoef := ((s.act.get (R.LB_LANE_TXEQ + d)).toNat >>> 5) % 2 ^ 20,
      tapM3 := t.1, tapM2 := t.2.1, tapM1 := t.2.2.1, tapP1 := t.2.2.2,
      tap0 := 64 - (t.1.natAbs + t.2.1.natAbs + t.2.2.1.natAbs + t.2.2.2.natAbs : Nat) }

/-- The layer of a port or link starts training: its lanes in IDLE enter DETECT (R105), while no relock of the bank's PLL runs
(R103, R123). -/
def State.lanesTrain (s : State) (b : Nat) (ls : List Nat) : State :=
  if s.bankState b != 3 || (s.bank b).relocking || (s.bank b).family.isSome then s
  else s.each ls fun t l => if t.laneState b l = lsIdle ∧ !(t.lane b l).fenced then t.laneDetect b l else t

/-- Detection of the far termination (R105). -/
def State.laneDetected (s : State) (b l : Nat) : State :=
  if s.laneState b l = lsDetect then
    ((s.laneTo b l lsCdr).put F.LB_LANE_STATUS_DETECTED (dLane b l) 1).setLane b l fun x => { x with timer := none }
  else s

/-- No termination after 12 stitches (R105). -/
def State.laneUndetected (s : State) (b l : Nat) : State :=
  if s.laneState b l = lsDetect ∧ s.dueO (s.lane b l).timer then
    (s.laneDown b l lsIdle).put F.LB_LANE_STATUS_DETECTED (dLane b l) 0
  else s

/-- The range of frequency offsets the CDR tracks, in 0.1 ppm (R117). -/
def State.cdrRange (s : State) (b : Nat) : Int × Int :=
  if isMornu b then (-2000, 2000) else if s.on F.LB_BANK_CFG_CLKMODE (dBank b) then (-56000, 6000) else (-6000, 6000)

/-- Entry to ADAPT: no snapshot exists, and the coefficient registers read zero (R115). -/
def State.laneAdapt (s : State) (b l : Nat) : State :=
  let d := dLane b l
  let s1 := ((s.laneTo b l lsAdapt).put F.LB_LANE_ADAPT_SNAP_VALID d 0).put F.LB_LANE_ADAPT_AT_LIMIT d 0
  let s2 := ((s1.setReg (R.LB_LANE_TXCOEF + d) 0).setReg (R.LB_LANE_CTLE + d) 0)
  (s2.each (List.range 4) fun t i => t.setReg (R.LB_LANE_DFE + d + 4 * i) 0).setLane b l fun x =>
    { x with timer := some (s.after 500) }

/-- Clock recovery locks at an offset its range admits: the lane adapts, and a relocking lane starts its 1,024 stitches
(R105, R117). -/
def State.laneCdrLocked (s : State) (b l : Nat) (ofs : Int) : State :=
  let r := s.cdrRange b
  if s.laneState b l = lsCdr ∧ r.1 ≤ ofs ∧ ofs ≤ r.2 then
    let fits := decide (-32768 ≤ ofs) && decide (ofs ≤ 32767)
    let s1 := (s.laneAdapt b l).put F.LB_LANE_STATUS_CDR_LOCK (dLane b l) 1
    let s2 := if fits then s1.put F.LB_LANE_CDR_FREQ_OFS (dLane b l) (unsigned 16 ofs)
              else (s1.put F.LB_LANE_CDR_FREQ_OFS (dLane b l) s1.freeVal).usedFree
    match (s.lane b l).relock with
    | some _ => s2.setLane b l fun x => { x with relock := none, stable := some (.cdr, s.after 1024) }
    | none => s2
  else s

/-- The convergence metric has settled, or 500 stitches have elapsed (R105). -/
def State.laneAdapted (s : State) (b l : Nat) (settled : Bool) : State :=
  if s.laneState b l = lsAdapt ∧ (settled ∨ s.dueO (s.lane b l).timer) then
    (s.laneTo b l lsOrient).setLane b l fun x => { x with timer := none, matches_ := 0 }
  else s

/-! ### The Mornu training block (R106, R107, R112) -/

/-- A bit range of a training block. -/
def blkField (blk lo n : Nat) : Nat := (blk >>> lo) % 2 ^ n

/-- Whether the CHK of a block holds. -/
def blkOk (blk : Nat) : Bool := crc8 54 (blkField blk 2 54) 0 == blkField blk 56 8

/-- Whether a block shows the correlator's pattern: TYPE and PAT. -/
def blkMatch (blk : Nat) : Bool := blkField blk 2 8 == 0xD2 && blkField blk 32 24 == 0x3CA569

/-- The order that the reading of a lane shows: straight, reversed or none. -/
def laneOrder (far i : Nat) : Option Bool := if far = i then some false else if far + i = 7 then some true else none

/-- The lanes of a link whose reading departs from that of its lowest lane read (R107), as bank lanes; and whether the readings
make a map fault. DEDUCED (log entry 19). -/
def State.mapFault (s : State) (m : Nat) : List Nat × Bool :=
  let b := bankOfLink m
  let vs := (lanesOfLink m).filter fun l => s.on F.LB_LANE_FAR_VALID (dLane b l) && decide (lsOrient ≤ s.laneState b l)
  match vs with
  | [] => ([], false)
  | r :: _ =>
    let d := dLane b r
    let o := laneOrder (s.get F.LB_LANE_FAR_FAR_LANE d) (r % 8)
    let bad := vs.filter fun l =>
      l != r && (s.get F.LB_LANE_FAR_FAR_SWITCH (dLane b l) != s.get F.LB_LANE_FAR_FAR_SWITCH d ||
        s.get F.LB_LANE_FAR_FAR_ML (dLane b l) != s.get F.LB_LANE_FAR_FAR_ML d ||
        laneOrder (s.get F.LB_LANE_FAR_FAR_LANE (dLane b l)) (l % 8) != o || o.isNone)
    (bad, o.isNone || !bad.isEmpty)

/-- The lanes of a link return to IDLE after a map fault, to be retried after 1,024 stitches (R105, R107). -/
def State.mapFail (s : State) (m : Nat) (bad : List Nat) : State :=
  let b := bankOfLink m
  let s1 := s.each bad fun t l => t.occ 1920 (16 * b + l)
  s1.each (lanesOfLink m) fun t l =>
    if t.laneState b l = lsOff then t
    else (t.laneDown b l lsIdle).setLane b l fun x => { x with retry := some (s.after 1024) }

/-- Sixteen consecutive matches: polarity and far number are recorded, the candidate phase is known, and the lane goes to ALIGN
unless the link's readings make a map fault (R107). -/
def State.laneOriented (s : State) (b l blk : Nat) (mir : Bool) : State :=
  let d := dLane b l
  let s1 := (s.put F.LB_LANE_STATUS_RX_INV d (bit mir)).put F.LB_LANE_STATUS_PRECODE d (blkField blk 30 1)
  let s2 := ((s1.put F.LB_LANE_FAR_FAR_SWITCH d (blkField blk 16 6)).put F.LB_LANE_FAR_FAR_ML d (blkField blk 13 3)).put
    F.LB_LANE_FAR_FAR_LANE d (blkField blk 10 3)
  let s3 := s2.put F.LB_LANE_FAR_VALID d 1
  let f := s3.mapFault (linkOfLane b l)
  if f.2 then s3.mapFail (linkOfLane b l) f.1
  else
    let i := l % 8
    let log := match laneOrder (blkField blk 10 3) i with
      | some true => 7 - i
      | _ => i
    (s3.put F.LB_LANE_STATUS_LOGICAL d log).laneTo b l lsAlign

/-- A far request changes the addressed tap by one unit, or returns every tap to MCOEF (R112): the lane's taps, and the answer. c0
takes what the others leave, so a request that addresses it changes nothing. -/
def ffeRequest (x : LaneSt) (tap req : Nat) : LaneSt :=
  let set (a b c e : Int) : LaneSt :=
    if tapsOk a b c e then
      { x with tapM3 := a, tapM2 := b, tapM1 := c, tapP1 := e, stat := 1,
               tap0 := 64 - (a.natAbs + b.natAbs + c.natAbs + e.natAbs : Nat) }
    else { x with stat := 2 }
  let δ : Int := if req = 1 then 1 else -1
  if req = 3 then
    set (signed 4 (x.mcoef / 2 ^ 16)) (signed 4 (x.mcoef / 2 ^ 12)) (signed 6 x.mcoef) (signed 6 (x.mcoef / 2 ^ 6))
  else match tap with
    | 0 => set (x.tapM3 + δ) x.tapM2 x.tapM1 x.tapP1
    | 1 => set x.tapM3 (x.tapM2 + δ) x.tapM1 x.tapP1
    | 2 => set x.tapM3 x.tapM2 (x.tapM1 + δ) x.tapP1
    | 3 => { x with stat := 2 }
    | 4 => set x.tapM3 x.tapM2 x.tapM1 (x.tapP1 + δ)
    | _ => x

/-- The tuning fields of a block received in TUNE: a request is answered once, until HOLD (R106, R112). -/
def tuneFields (x : LaneSt) (blk : Nat) (own : Bool) : LaneSt :=
  let req := blkField blk 25 2
  let x1 := { x with farDone := blkField blk 29 1 == 1, ownDone := x.ownDone || own }
  if req = 0 then { x1 with stat := 0 } else if x1.stat = 0 then ffeRequest x1 (blkField blk 22 3) req else x1

/-- A training block (R106, R107, R112). -/
def State.trainingBlock (s : State) (b l blk : Nat) (mir own : Bool) : State :=
  if !isMornu b || !blkOk blk then s
  else if s.laneState b l = lsOrient then
    let x := s.lane b l
    let n := if blkMatch blk then (if x.mirrored = mir then x.matches_ + 1 else 1) else 0
    let s1 := s.setLane b l fun y => { y with matches_ := n, mirrored := mir }
    if n = 16 then s1.laneOriented b l blk mir else s1
  else if s.laneState b l = lsTune then
    let s1 := (s.setLane b l fun x => tuneFields x blk own).put F.LB_LANE_STATUS_PRECODE (dLane b l) (blkField blk 30 1)
    let x := s1.lane b l
    if x.farDone && (x.ownDone || s.on F.LB_LANE_ADAPT_FREEZE_TX (dLane b l)) then s1.laneTo b l lsData else s1
  else s

/-- A lane that had a map fault trains again (R105). -/
def State.laneRetry (s : State) (b l : Nat) : State :=
  if s.laneState b l = lsIdle ∧ s.dueO (s.lane b l).retry then s.lanesTrain b [l] else s

/-! ### Alignment and losses (R109, R110, R117) -/

/-- A lane relocks after a loss of block lock: it delivers again, and its 1,024 stitches run (R110). -/
def State.laneBlockRelocked (s : State) (b l : Nat) : State :=
  ((s.laneTo b l lsData).put F.LB_LANE_STATUS_BLOCK_LOCK (dLane b l) 1).setLane b l fun x =>
    { x with relock := none, stable := some (.block, s.after 1024) }

/-- Alignment locks (R105, R108, R109): a relocking lane returns to DATA, a Mornu lane goes to TUNE, an edge lane to TUNE where
its rate is equalised. -/
def State.laneBlockLock (s : State) (b l : Nat) : State :=
  let st := s.laneState b l
  if st = lsAlign ∨ (st = lsOrient ∧ !isMornu b) then
    match (s.lane b l).relock with
    | some (.block, _) => s.laneBlockRelocked b l
    | _ =>
      let eq := isMornu b || decide (2 ≤ (s.port (s.portOfLane b l)).aim)
      (s.laneTo b l (if eq then lsTune else lsData)).put F.LB_LANE_STATUS_BLOCK_LOCK (dLane b l) 1
  else s

/-- A lasting loss of a lane: its bit, by kind (R110, R117). -/
def State.laneLasting (s : State) (b l : Nat) (k : Relock) : State :=
  (s.setLane b l fun x => { x with relock := none, stable := none }).occ (if k = .block then 1600 else 1280) (16 * b + l)

/-- A loss: lasting where it falls within 1,024 stitches of a relock, otherwise retried (R110, R117). A loss of the same kind that is being retried
goes on. -/
def State.laneLoss (s : State) (b l : Nat) (k : Relock) : State :=
  match (s.lane b l).stable with
  | some (_, e) => if s.due e then start else s.laneLasting b l k
  | none => if (s.lane b l).relock.any fun r => r.1 == k then s else start
where
  start : State := s.setLane b l fun x => { x with relock := some (k, s.after 16), stable := none }

/-- The sixteenth invalid header of the window: the lane enters ALIGN and hunts (R109, R110). -/
def State.laneBlockLoss (s : State) (b l : Nat) : State :=
  if isMornu b && s.laneState b l == lsData then
    let s1 := ((s.laneTo b l lsAlign).put F.LB_LANE_STATUS_BLOCK_LOCK (dLane b l) 0).bump F.LB_LANE_ERR_BAD_HDR (dLane b l) 16
    (s1.count b 8 l 0 16).laneLoss b l .block
  else s

/-- The CDR declares loss, in any state from CDR on (R105, R117). -/
def State.laneCdrLoss (s : State) (b l : Nat) : State :=
  if lsCdr ≤ s.laneState b l then
    let s1 := ((s.laneTo b l lsCdr).put F.LB_LANE_STATUS_CDR_LOCK (dLane b l) 0).put F.LB_LANE_STATUS_BLOCK_LOCK (dLane b l) 0
    (s1.setLane b l fun x => { x with timer := none }).laneLoss b l .cdr
  else s

/-- A lane relocks within its 16 stitches (R110, R117). -/
def State.laneRelock (s : State) (b l : Nat) : State :=
  match (s.lane b l).relock with
  | some (.block, e) => if s.due e ∨ s.laneState b l ≠ lsAlign then s else s.laneBlockRelocked b l
  | some (.cdr, e) =>
    if s.due e then s
    else
      let r := s.cdrRange b
      s.usedFree.laneCdrLocked b l (s.freeIn r.1 (r.2 - r.1 + 1).toNat)
  | none => s

/-- No relock within 16 stitches (R110, R117). -/
def State.laneRelockTimeout (s : State) (b l : Nat) : State :=
  match (s.lane b l).relock with
  | some (k, e) => if s.due e then s.laneLasting b l k else s
  | none => s

/-- A relock has held for 1,024 stitches: the loss was transient (R110, R117). DEDUCED (log entry 19). -/
def State.laneRelockStable (s : State) (b l : Nat) : State :=
  match (s.lane b l).stable with
  | some (_, e) =>
    if s.due e then (s.bump F.LB_LANE_ERR_RELOCKS (dLane b l) 1).setLane b l fun x => { x with stable := none } else s
  | none => s

/-! ### Adaptation and snapshots (R113 to R115) -/

/-- DFE taps of a lane at its rate (R101). -/
def State.dfeTaps (s : State) (b l : Nat) : Nat :=
  if isMornu b then (if s.get F.ML_LINK_STATUS_RATE (dLink (linkOfLane b l)) = 2 then 6 else 12)
  else match s.get F.EP_LINK_STATUS_RATE (dPort (s.portOfLane b l)) with
    | 0 | 1 => 0
    | 2 => 1
    | 3 => 3
    | 4 | 5 => 6
    | _ => 12

/-- A list of free bytes. DESIGN CHOICE (log entry 7). -/
def State.freeBytes (s : State) : Nat → State × List Nat
  | 0 => (s, [])
  | n + 1 =>
    let r := s.usedFree.freeBytes n
    (r.1, s.freeVal % 256 :: r.2)

/-- One update instant: the values not frozen move, to values the specification leaves to the loops (R113, R114). -/
def State.adaptUpdate (s : State) (b l : Nat) : State :=
  let d := dLane b l
  if s.laneState b l < lsAdapt then s
  else
    let pk := s.freeVal % 16
    let s1 := s.usedFree
    let gn := s1.freeVal % 256
    let r := s1.usedFree.freeBytes (s.dfeTaps b l)
    r.1.setLane b l fun x =>
      { x with
        peak := if s.on F.LB_LANE_ADAPT_FREEZE_CTLE d then x.peak else pk
        gain := if s.on F.LB_LANE_ADAPT_FREEZE_CTLE d then x.gain else gn
        dfe := if s.on F.LB_LANE_ADAPT_FREEZE_DFE d then x.dfe else r.2 }

/-- A snapshot of every coefficient of the lane (R115); whether a DFE tap is at its limit is not derivable from the taps, since
the limit is not stated. -/
def State.coefSnap (s : State) (b l : Nat) : State :=
  let d := dLane b l
  if s.laneState b l < lsAdapt then s
  else
    let x := s.lane b l
    let s1 := ((s.put F.LB_LANE_TXCOEF_C_M3 d (unsigned 4 x.tapM3)).put F.LB_LANE_TXCOEF_C_M2 d (unsigned 4 x.tapM2)).put
      F.LB_LANE_TXCOEF_C_M1 d (unsigned 6 x.tapM1)
    let s2 := (s1.put F.LB_LANE_TXCOEF_C_0 d (unsigned 7 x.tap0)).put F.LB_LANE_TXCOEF_C_P1 d (unsigned 6 x.tapP1)
    let s3 := (s2.put F.LB_LANE_CTLE_PEAK d x.peak).put F.LB_LANE_CTLE_GAIN d x.gain
    let s4 := s3.each (List.range 4) fun t i =>
      ((t.put F.LB_LANE_DFE_TAP_A (d + 4 * i) (x.dfe.getD (3 * i) 0)).put F.LB_LANE_DFE_TAP_B (d + 4 * i) (x.dfe.getD (3 * i + 1) 0)).put
        F.LB_LANE_DFE_TAP_C (d + 4 * i) (x.dfe.getD (3 * i + 2) 0)
    ((s4.put F.LB_LANE_ADAPT_SNAP_VALID d 1).put F.LB_LANE_ADAPT_AT_LIMIT d (if x.dfe.isEmpty then 0 else s4.freeVal % 2)).usedFree

/-- A write of LB_LANE_ADAPT: the freeze bits act at once, and SNAP takes a snapshot (R114, R115). -/
def State.laneAdaptWrite (s : State) (b l : Nat) (v : Word) : State :=
  let s1 := s.storeAt (R.LB_LANE_ADAPT + dLane b l) v
  if F.LB_LANE_ADAPT_SNAP.of v = 1 then s1.coefSnap b l else s1

/-! ### Margin scans (R118 to R120) -/

/-- The limit of a direction: 0 left, 1 right, 2 up, 3 down. -/
def marginLimit (dir : Nat) : Nat := if dir < 2 then 32 else 125

/-- The result field of a direction. -/
def marginFld (dir : Nat) : Fld :=
  match dir with
  | 0 => F.LB_LANE_MARGIN_RES_LEFT | 1 => F.LB_LANE_MARGIN_RES_RIGHT | 2 => F.LB_LANE_MARGIN_RES_UP | _ => F.LB_LANE_MARGIN_RES_DOWN

/-- The next direction of MODE from a number on. -/
def nextDir (mode d : Nat) : Option Nat := (List.range 4).find? fun k => decide (d ≤ k) && mode.testBit k

/-- A write of LB_LANE_MARGIN_CTL: START begins a scan, or is refused (R119, R120). -/
def State.marginWrite (s : State) (b l : Nat) (v : Word) : State :=
  let d := dLane b l
  let s1 := s.storeAt (R.LB_LANE_MARGIN_CTL + d) v
  if F.LB_LANE_MARGIN_CTL_START.of v = 0 then s1
  else if (s1.lane b l).scan.isSome || s1.on F.LB_LANE_MARGIN_STATUS_HOST d then s1.put F.LB_LANE_MARGIN_STATUS_ERR d 3
  else match nextDir (s1.get F.LB_LANE_MARGIN_CTL_MODE d) 0 with
    | none => s1
    | some k =>
      if s1.laneState b l ≠ lsData then (s1.put F.LB_LANE_MARGIN_STATUS_STATE d 3).put F.LB_LANE_MARGIN_STATUS_ERR d 2
      else
        let mode := s1.get F.LB_LANE_MARGIN_CTL_MODE d
        let s2 := s1.each ((List.range 4).filter fun j => mode.testBit j) fun t j => t.put (marginFld j) d 0
        ((s2.put F.LB_LANE_MARGIN_STATUS_STATE d 1).put F.LB_LANE_MARGIN_STATUS_ERR d 0).setLane b l fun x => { x with scan := some (k, 1) }

/-- The dwell of a point ends: outward after a pass, the direction ends at the first failing point or at the limit (R119). -/
def State.marginPoint (s : State) (b l : Nat) (pass : Bool) : State :=
  let d := dLane b l
  match (s.lane b l).scan with
  | none => s
  | some (k, n) =>
    let s1 := s.put (marginFld k) d (if pass then n else n - 1)
    if pass && decide (n < marginLimit k) then s1.setLane b l fun x => { x with scan := some (k, n + 1) }
    else match nextDir (s.get F.LB_LANE_MARGIN_CTL_MODE d) (k + 1) with
      | some j => s1.setLane b l fun x => { x with scan := some (j, 1) }
      | none => (s1.put F.LB_LANE_MARGIN_STATUS_STATE d 2).setLane b l fun x => { x with scan := none }

/-- A PCIe margining command takes or leaves the monitor; a local scan ends with PREEMPT and its partial results are discarded
(R120). -/
def State.hostMargin (s : State) (b l : Nat) (start : Bool) : State :=
  let d := dLane b l
  let s1 := s.put F.LB_LANE_MARGIN_STATUS_HOST d (bit start)
  if start && (s.lane b l).scan.isSome then (s1.scanError b l 4).setReg (R.LB_LANE_MARGIN_RES + d) 0 else s1

/-! ### Bank power (R121 to R123) -/

/-- Whether a boundary `t` stitches after a start has been reached. DEDUCED (log entry 9). -/
def State.reached (s : State) (e : Nat) : Bool := decide (e ≤ s.tim.bnd)

def State.reachedO (s : State) (e : Option Nat) : Bool := match e with | some t => s.reached t | none => false

/-- A bank enters a state. The reset output of an edge bank's cage is released 100 ms after READY is reached, and asserted again when the bank
leaves READY (spec/19 R488). -/
def State.setBankState (s : State) (b st : Nat) : State :=
  let s1 := s.put F.LB_BANK_STATUS_STATE (dBank b) st
  if 16 ≤ b then s1
  else if st = 3 then s1.setMdl fun m => { m with cages := m.cages.set b (s.after 97657) }
  else s1.setMdl fun m => { m with cages := m.cages.del b, released := m.released.filter (· != b) }

/-- WAKE of an enabled bank that is OFF joins the queue of the wake budget; elsewhere it is ignored (R121, R122, R350). -/
def State.bankWake (s : State) (b : Nat) : State :=
  if s.bankEn b && s.bankState b == 0 then (s.setBankState b 1).wakeAdd b else s

/-- Whether an edge port is disabled: absent, OFF by mode, or by DISABLE. -/
def State.portDisabled (s : State) (n : Nat) : Bool :=
  !s.portPresent n || s.get F.EP_PORT_CFG_MODE (dPort n) == 0 || s.on F.EP_LINK_CMD_DISABLE (dPort n)

/-- Whether every port or link of a bank is disabled and every lane in IDLE or OFF (R122). -/
def State.bankIdle (s : State) (b : Nat) : Bool :=
  ((List.range 16).all fun l => decide (s.laneState b l ≤ lsIdle)) &&
    (if isMornu b then [2 * (b - 16), 2 * (b - 16) + 1].all fun m => s.on F.ML_LINK_CMD_DISABLE (dLink m)
     else (List.range 4).all fun i => s.portDisabled (4 * b + i))

/-- PARK: accepted on an idle bank, a withdrawal while WAITING, otherwise refused (R122). DEDUCED (log entry 19). -/
def State.bankPark (s : State) (b : Nat) : State :=
  match s.bankState b with
  | 1 => (s.wakeDrop b).setBankState b 0
  | 2 | 4 => s.put F.LB_BANK_STATUS_REFUSE (dBank b) 2
  | 3 =>
    if s.bankIdle b then (s.setBankState b 4).setBank b fun x => { x with timer := some (s.after 10), stable := none }
    else s.put F.LB_BANK_STATUS_REFUSE (dBank b) 1
  | _ => s

/-- Every lane of a bank is switched off (R105). -/
def State.lanesOff (s : State) (b : Nat) : State := s.each (List.range 16) fun t l => t.laneDown b l lsOff

/-- The park has ended (R122). -/
def State.bankParked (s : State) (b : Nat) : State :=
  if s.bankState b = 4 then ((s.lanesOff b).setBankState b 0).setBank b fun x => { x with timer := none } else s

/-- The grant of a bank's wake request (R121, R350): the power-up sequence runs from this boundary. -/
def State.bankGrant (s : State) (b : Nat) : State :=
  (((s.setBankState b 2).put F.LB_BANK_STATUS_PLL_LOCK_A (dBank b) 0).put F.LB_BANK_STATUS_PLL_LOCK_B (dBank b) 0).setBank b
    fun x => { x with timer := some (s.after 301) }

/-- The family a Mornu bank starts in (R103). -/
def State.startFamily (s : State) (b : Nat) : State :=
  if isMornu b then s.put F.LB_BANK_CTL_FAMILY (dBank b) (if (s.get F.LB_BANK_CFG_MFAM (dBank b)).testBit 0 then 0 else 1) else s

/-- PLL lock bits of a bank. -/
def State.pllLock (s : State) (b v : Nat) : State :=
  let s1 := s.put F.LB_BANK_STATUS_PLL_LOCK_A (dBank b) v
  if isMornu b then s1 else s1.put F.LB_BANK_STATUS_PLL_LOCK_B (dBank b) v

/-- A bank enters FAULT (R123). -/
def State.bankFault (s : State) (b base : Nat) : State :=
  (((s.lanesOff b).setBankState b 5).setBank b fun x => { x with timer := none, relocking := false, stable := none, family := none }).occ
    base b

/-- The power-up has ended: the bank is READY and its lanes that are not fenced are in IDLE; what it missed is applied by the caller
(R121). DEDUCED (log entry 19). -/
def State.bankUp (s : State) (b : Nat) : State :=
  let s1 := (((s.startFamily b).pllLock b 1).setBankState b 3).setBank b fun x => { x with timer := none }
  s1.each (List.range 16) fun t l => if (t.lane b l).fenced then t else t.laneTo b l lsIdle

/-- Every lane of a bank enters IDLE (R123). -/
def State.bankLanesIdle (s : State) (b : Nat) : State := s.lanesIdle b (List.range 16)

/-- The PLL of a READY bank loses lock: retried once, lasting within 1,024 stitches of a relock (R123). DEDUCED (log entry 19). -/
def State.pllLost (s : State) (b : Nat) : State :=
  let s1 := (s.bankLanesIdle b).pllLock b 0
  match (s.bank b).stable with
  | some e => if s.due e then retry s1 else s1.bankFault b 256
  | none => retry s1
where
  retry (t : State) : State := t.setBank b fun x => { x with relocking := true, timer := some (s.after 250), stable := none }

/-- The retry of R123 ends. -/
def State.pllRelock (s : State) (b : Nat) (locked : Bool) : State :=
  if !(s.bank b).relocking then s
  else if !locked then s.bankFault b 256
  else if s.reachedO (s.bank b).timer then
    ((s.pllLock b 1).bump F.LB_BANK_STATUS_PLL_RELOCKS (dBank b) 1).setBank b fun x =>
      { x with relocking := false, timer := none, stable := some (s.after 1024) }
  else s

/-- A bank leaves FAULT for OFF when its bit is cleared (R123). -/
def State.bankCleared (s : State) (b : Nat) : State := if s.bankState b = 5 then s.setBankState b 0 else s

/-- A fenced lane is OFF (R105, R110). -/
def State.laneFence (s : State) (b l : Nat) : State := (s.laneDown b l lsOff).setLane b l fun x => { x with fenced := true }

/-- A released lane waits in IDLE for the next training of its port or link (R110). -/
def State.laneRelease (s : State) (b l : Nat) : State :=
  let s1 := s.setLane b l fun x => { x with fenced := false }
  if s.bankState b = 3 then s1.laneTo b l lsIdle else s1

end Sys2Proof.Machine
end

