-- ==== Sys2Proof/Machine/Ports.lean ====
section
/-!
DEFINITION. Edge ports (spec/05): training attempts and downshift, the extended rate, hot-plug states, the table of non-posted
requests and what leaves a port, link loss, and the states of IDE streams.
-/
namespace Sys2Proof.Machine
open Sys2Proof

/-! ### Modes and states -/

def State.portMode (s : State) (n : Nat) : Nat := s.get F.EP_PORT_CFG_MODE (dPort n)

/-- Upstream modes, and the restricted device mode that faces a host (R127). -/
def upMode (md : Nat) : Bool := md == 1 || md == 4 || md == 5 || md == 7

/-- CXL modes other than AUTO_DN. -/
def cxlMode (md : Nat) : Bool := decide (3 ≤ md) && decide (md ≤ 8)

def State.ltssm (s : State) (n : Nat) : Nat := s.get F.EP_LINK_STATUS_LTSSM (dPort n)
def State.setLtssm (s : State) (n st : Nat) : State := s.put F.EP_LINK_STATUS_LTSSM (dPort n) st

/-- The link delivers: L0, L0p or L1. -/
def State.portUp (s : State) (n : Nat) : Bool := decide (4 ≤ s.ltssm n) && decide (s.ltssm n ≤ 6)

def hpEmpty : Nat := 0
def hpTraining : Nat := 1
def hpWait : Nat := 2
def hpDiscover : Nat := 3
def hpBound : Nat := 4
def hpUnbound : Nat := 5
def hpLost : Nat := 6
def hpDisabled : Nat := 7

def State.hp (s : State) (n : Nat) : Nat := s.get F.EP_HP_STATUS_HP_STATE (dPort n)

/-- A hot-plug state change with its event (R150, R410). -/
def State.hpTo (s : State) (n st : Nat) : State :=
  let s1 := s.put F.EP_HP_STATUS_HP_STATE (dPort n) st
  s1.event clsLink 4 n 1 (st + s.get F.EP_LINK_STATUS_RATE (dPort n) * 256 + s.get F.EP_LINK_STATUS_WIDTH (dPort n) * 65536)

/-- Whether a partner has been trained and not declared lost. -/
def hpLive (h : Nat) : Bool := decide (hpWait ≤ h) && decide (h ≤ hpUnbound)

/-! ### IDE streams (R152, R153) -/

/-- Whether the policy blocks a port without a secure link stream: REQUIRED, or a stream has been established on the port. -/
def State.ideBlocks (s : State) (n : Nat) : Bool :=
  s.on F.EP_LINK_STATUS_DL_UP (dPort n) && s.get F.EP_IDE_STATUS_LINK_STATE (dPort n) != 1 &&
    (s.get F.EP_IDE_CFG_LINK_POLICY (dPort n) == 2 || (s.port n).estOnce)

/-- BLOCKED kept with the stream's state and the policy. -/
def State.syncBlocked (s : State) (n : Nat) : State := s.put F.EP_IDE_STATUS_BLOCKED (dPort n) (bit (s.ideBlocks n))

/-- Data-link active starts the establishment limit of a REQUIRED port (R152). -/
def State.ideLinkUp (s : State) (n : Nat) : State :=
  let lim := s.get F.EP_IDE_CFG_EST_LIMIT (dPort n)
  (s.setPort n fun p => { p with est := if s.get F.EP_IDE_CFG_LINK_POLICY (dPort n) = 2 ∧ lim ≠ 0 then some (s.after lim) else none }).syncBlocked n

/-- A stream becomes secure; a secure one switches its key set (R152 to R154). Stream 0 is the link stream, stream i + 1 the
selective stream i. -/
def State.ideSecure (s : State) (n stream : Nat) : State :=
  let d := dPort n
  if stream = 0 then
    if s.get F.EP_IDE_STATUS_LINK_STATE d = 1 then
      (s.put F.EP_IDE_STATUS_KEYSET d (1 - s.get F.EP_IDE_STATUS_KEYSET d)).bump F.EP_IDE_ERR_REKEYS d 1
    else
      ((s.put F.EP_IDE_STATUS_LINK_STATE d 1).setPort n fun p => { p with est := none, estOnce := true }).syncBlocked n
  else
    let a := s.get F.EP_IDE_STATUS_SEL_ACTIVE d
    if a.testBit (stream - 1) then s.bump F.EP_IDE_ERR_REKEYS d 1
    else s.put F.EP_IDE_STATUS_SEL_ACTIVE d (a + 2 ^ (stream - 1))

/-- No secure stream at the establishment limit (R152). -/
def State.ideLimit (s : State) (n : Nat) : State :=
  if s.dueO (s.port n).est ∧ s.get F.EP_IDE_STATUS_LINK_STATE (dPort n) ≠ 1 then
    (s.setPort n fun p => { p with est := none }).occ 768 n
  else s

/-- An integrity failure (R153): the link stream becomes insecure and the port blocked; in skid mode viral is raised where it is
enabled. A selective stream is no longer secure. -/
def State.ideMacFail (s : State) (n stream : Nat) : State :=
  let d := dPort n
  if stream = 0 then
    let s1 := ((s.put F.EP_IDE_STATUS_LINK_STATE d 2).bump F.EP_IDE_ERR_MAC_FAIL d 1).syncBlocked n
    let s2 := if !s.on F.EP_IDE_CFG_CXL_CONTAIN d then s1.viral n else s1
    s2.occ 768 n
  else
    let a := s.get F.EP_IDE_STATUS_SEL_ACTIVE d
    (s.put F.EP_IDE_STATUS_SEL_ACTIVE d (if a.testBit (stream - 1) then a - 2 ^ (stream - 1) else a)).bump F.EP_IDE_ERR_MAC_FAIL d 1

/-! ### Training attempts (R138 to R141) -/

/-- The rate cap is restored, with ATTEMPTS and DS_REASON cleared, as RETRAIN and an insertion do (R141). -/
def State.capRestore (s : State) (n : Nat) : State :=
  let d := dPort n
  (((s.put F.EP_LINK_STATUS_CAP_RATE d (s.get F.EP_LINK_CTL_TGT_RATE d)).put F.EP_LINK_STATUS_ATTEMPTS d 0).put
    F.EP_LINK_STATUS_DS_REASON d 0).setPort n fun p => { p with xrBar := false }

/-- Whether the port may train: present, not OFF by mode, not held in Disabled, its bank READY, and for a downstream port the reset output of its
cage released (spec/19 R488). -/
def State.portTrains (s : State) (n : Nat) : Bool :=
  !s.portDisabled n && s.bankState (n / 4) == 3 && s.ltssm n != 7 && (upMode (s.portMode n) || s.mdl.released.contains (n / 4))

/-- Receiver detection runs on the lanes of a port. -/
def State.portDetect (s : State) (n : Nat) : State :=
  if s.portTrains n then s.lanesTrain (n / 4) (s.lanesOfPort n) else s

/-- The rate an attempt aims for: the cap, no more than the target rate in force, and in CXL 3.1 modes at most 64.0 GT/s (R136, R138, R141). -/
def State.aimOf (s : State) (n : Nat) : Nat :=
  let c := min (s.get F.EP_LINK_STATUS_CAP_RATE (dPort n)) (s.get F.EP_LINK_CTL_TGT_RATE (dPort n))
  if s.portMode n = 7 ∨ s.portMode n = 8 then min c 5 else c

/-- The floor of the rate cap: MIN_RATE, and 8.0 GT/s in CXL modes, an AUTO_DN port that runs as one of them included (R139). -/
def State.capFloor (s : State) (n : Nat) : Nat :=
  max (s.get F.EP_DS_CFG_MIN_RATE (dPort n)) (if cxlMode (s.portMode n) || s.get F.EP_CXL_STATUS_VER (dPort n) != 0 then 2 else 0)

/-- Training has failed under R139: the port is Disabled. A link that was up is declared lost at the next boundary (R147). -/
def State.trainFail (s : State) (n : Nat) : State :=
  let s1 := ((s.setLtssm n 7).put F.EP_LINK_STATUS_DL_UP (dPort n) 0).setPort n fun p => { p with attempt := none, speedChange := none }
  let s2 := s1.lanesIdle (n / 4) (s1.lanesOfPort n)
  let s3 := if hpLive (s.hp n) then s2.setPort n fun p => { p with lossAt := some s.tim.bnd } else s2.hpTo n hpDisabled
  s3.occ 512 n

/-- The link leaves L0 for Recovery (R139, R147): counted, and the loss timer starts. On an upstream port 128.0 GT/s is advertised
from here on where XR_ENABLE is set (R136). -/
def State.portRecovery (s : State) (n : Nat) : State :=
  if s.portUp n then
    let lim := s.get F.EP_HP_LOSS_LIMIT (dPort n)
    let s1 := (s.setLtssm n 3).setPort n fun p =>
      { p with recoveries := p.recoveries + 1, loss := if lim = 0 then none else some (s.after lim),
               advertise128 := p.xrEnable && s.on F.EP_LINK_CTL_XR_POLICY (dPort n) }
    s1.count (n / 4) 3 (n % 4) 0 1
  else s

/-- One step down of the rate cap, or the end of training below the floor (R139). -/
def State.downshift (s : State) (n reason : Nat) : State :=
  let d := dPort n
  let c := s.get F.EP_LINK_STATUS_CAP_RATE d
  if c = 0 ∨ c - 1 < s.capFloor n then s.trainFail n
  else
    let s1 := (s.put F.EP_LINK_STATUS_CAP_RATE d (c - 1)).put F.EP_LINK_STATUS_DS_REASON d reason
    (if reason = 2 then s1.portRecovery n else s1).occ 448 n

/-- A failed attempt (R138, R139): the port downshifts at FAIL_LIMIT, and detection starts again. -/
def State.attemptFail (s : State) (n : Nat) : State :=
  let d := dPort n
  let s1 := ((s.bump F.EP_LINK_STATUS_ATTEMPTS d 1).setLtssm n 0).setPort n fun p => { p with attempt := none }
  let s2 := s1.lanesIdle (n / 4) (s1.lanesOfPort n)
  let lim := s.get F.EP_DS_CFG_FAIL_LIMIT d
  let s3 := if lim ≠ 0 ∧ lim ≤ s2.get F.EP_LINK_STATUS_ATTEMPTS d then s2.downshift n 1 else s2
  s3.portDetect n

/-- The LTSSM leaves Detect: an attempt begins with its limit; from EMPTY this is an insertion (R138, R141, R150). A port whose
width may not be reduced fails when one of its lanes is fenced (R139). -/
def State.attemptStart (s : State) (n : Nat) : State :=
  if (s.port n).attempt.isSome || !s.portTrains n || !(s.hp n == hpEmpty || s.hp n == hpTraining) then s
  else
    let s1 := if s.hp n = hpEmpty then (s.capRestore n).hpTo n hpTraining else s
    let s2 := (s1.setLtssm n 1).setPort n fun p =>
      { p with attempt := some (s.after (s.get F.EP_DS_CFG_TRAIN_LIMIT (dPort n) * 256)), aim := s1.aimOf n }
    if !s.on F.EP_DS_CFG_WIDTH_EN (dPort n) && (s.lanesOfPort n).any (fun l => (s.lane (n / 4) l).fenced) then s2.attemptFail n else s2

/-- A training limit has run out (R138). -/
def State.attemptTimeout (s : State) (n : Nat) : State :=
  if s.dueO (s.port n).attempt ∧ s.hp n = hpTraining then s.attemptFail n else s

/-- The LTSSM enters Detect (R138, R147): before L0 the attempt fails, after it the link will be declared lost. -/
def State.ltssmDetect (s : State) (n : Nat) : State :=
  if s.hp n = hpTraining ∧ (s.port n).attempt.isSome then s.attemptFail n
  else if hpLive (s.hp n) then
    ((s.setLtssm n 0).put F.EP_LINK_STATUS_DL_UP (dPort n) 0).setPort n fun p =>
      { p with lossAt := some (p.lossAt.getD s.tim.bnd), loss := none }
  else s

/-- The window of 1,024 stitches ends at a boundary whose number is a multiple of 1,024 (R139). -/
def State.recoveryWindow (s : State) (n : Nat) : State :=
  if s.tim.num % 1024 = 0 then
    let lim := s.get F.EP_DS_CFG_RCV_LIMIT (dPort n)
    let many := decide (lim ≠ 0) && decide (lim < (s.port n).recoveries)
    let s1 := s.setPort n fun p => { p with recoveries := 0 }
    if many && hpLive (s.hp n) then s1.downshift n 2 else s1
  else s

/-! ### Link up (R136 to R140, R150) -/

/-- What a link-up reports: rate, width, flit mode, the CXL version, the protocols as bits IO, CACHE and MEM, flit format, LDs of an
MLD partner, and whether back-invalidate is enabled. -/
structure LinkUp where
  rate : Nat
  width : Nat
  flit : Bool
  ver : Nat
  protos : Nat
  fmt : Nat
  lds : Nat
  bi : Bool

/-- The status registers of a link that is up (R155). Latency-optimised flits go on at 128.0 GT/s only with XR_LOPT_EN (R136). -/
def State.linkUpRegs (s : State) (n : Nat) (u : LinkUp) : State :=
  let d := dPort n
  let s1 := ((((s.setLtssm n 4).put F.EP_LINK_STATUS_RATE d u.rate).put F.EP_LINK_STATUS_WIDTH d u.width).put
    F.EP_LINK_STATUS_DL_UP d 1).put F.EP_LINK_STATUS_FLIT d (bit u.flit)
  let s2 := ((((s1.put F.EP_CXL_STATUS_VER d u.ver).put F.EP_CXL_STATUS_IO d u.protos).put F.EP_CXL_STATUS_CACHE d (u.protos / 2)).put
    F.EP_CXL_STATUS_MEM d (u.protos / 4)).put F.EP_CXL_STATUS_FLITFMT d (if u.rate = 6 ∧ u.ver ≠ 0 ∧ u.fmt = 2 ∧ (s.port n).xrLopt = false then 1 else u.fmt)
  ((s2.put F.EP_CXL_STATUS_MLD d (bit (decide (0 < u.lds)))).put F.EP_CXL_STATUS_LDS d u.lds).put F.EP_CXL_STATUS_BI d (bit u.bi)

/-- Whether the port may run CXL at 128.0 GT/s (R135, R136). -/
def State.xrOk (s : State) (n : Nat) : Bool :=
  s.on F.EP_LINK_CTL_XR_POLICY (dPort n) && s.on F.EP_PORT_CFG_XR_ALLOW (dPort n) && s.get F.EP_PORT_CFG_MAXRATE (dPort n) == 6

/-- Whether a link-up agrees with the port: the rate within the cap, CXL at 128.0 GT/s only by the extended rate, the width one
that the lanes of the port allow (R136, R139). -/
def State.linkUpOk (s : State) (n : Nat) (u : LinkUp) : Bool :=
  decide (u.rate ≤ s.get F.EP_LINK_STATUS_CAP_RATE (dPort n)) &&
    (u.rate != 6 || u.ver == 0 || (s.xrOk n && s.on F.EP_XR_STATUS_LOCAL_EN (dPort n) && !(s.port n).xrBar)) &&
    [1, 2, 4, 8, 16].contains u.width && decide (u.width ≤ (s.lanesOfPort n).length)

/-- The link reaches L0 at its target rate (R138, R150). -/
def State.linkUp (s : State) (n : Nat) (u : LinkUp) : State :=
  let d := dPort n
  if !s.linkUpOk n u || !(s.hp n == hpTraining || hpLive (s.hp n)) || (s.port n).lossAt.isSome then s
  else if !s.on F.EP_DS_CFG_WIDTH_EN d && u.width != (s.lanesOfPort n).length && s.hp n == hpTraining then s.attemptFail n
  else
    let s1 := (s.linkUpRegs n u).each (s.lanesOfPort n) fun t l =>
      if t.laneState (n / 4) l = lsTune ∨ t.laneState (n / 4) l = lsAlign then t.laneTo (n / 4) l lsData else t
    let s2 := (s1.put F.EP_LINK_STATUS_ATTEMPTS d 0).put F.EP_XR_STATUS_ACTIVE d (bit (u.rate == 6 && u.ver == 3))
    let s3 := s2.setPort n fun p => { p with attempt := none, aim := u.rate, everUp := true, loss := none, speedChange := none }
    if s.hp n = hpTraining then
      let s4 := ((s3.put F.EP_HP_STATUS_PRESENT d 1).bump F.EP_HP_STATUS_INSERTS d 1).put F.EP_XR_STATUS_FAILS d 0
      ((s4.setPort n fun p => { p with wait := some (s.after (s.get F.EP_HP_WAIT_WAIT d)), xrBar := false }).hpTo n hpWait).ideLinkUp n
    else s3.syncBlocked n

/-- DISCOVER begins (R150, R325). -/
def State.hpDiscoverStart (s : State) (n : Nat) : State :=
  (s.setPort n fun p => { p with wait := none, disc := some (s.after (s.get F.BND_CFG_DISC_LIMIT 0)) }).hpTo n hpDiscover

/-- The readiness wait ends by its time or by a DRS message (R150). -/
def State.hpWaitEnd (s : State) (n : Nat) (drs : Bool) : State :=
  if s.hp n = hpWait ∧ (if drs then s.on F.EP_HP_CFG_DRS_EN (dPort n) else s.dueO (s.port n).wait) then s.hpDiscoverStart n else s

/-! ### Extended rate (R136, R137) -/

/-- XR_ENABLE and XR_LOPT_EN are written: by the host on an upstream port, by the Clicker toward a partner on a downstream one,
which then starts a speed change (R136). -/
def State.xrWrite (s : State) (n : Nat) (en lopt : Bool) : State :=
  let d := dPort n
  let s1 := (s.put F.EP_XR_STATUS_LOCAL_EN d (bit en)).setPort n fun p => { p with xrEnable := en, xrLopt := lopt }
  if upMode (s.portMode n) then (if en then s1 else s1.setPort n fun p => { p with advertise128 := false })
  else if !s.on F.EP_LINK_CTL_XR_POLICY d then s
  else if en then
    if s.xrOk n && s.on F.EP_XR_STATUS_PARTNER_CAP d && !(s.port n).xrBar then
      ((s1.put F.EP_XR_STATUS_PARTNER_EN d 1).setPort n fun p =>
        { p with advertise128 := true, speedChange := some 6, attempt := some (s.after (s.get F.EP_DS_CFG_TRAIN_LIMIT d * 256)) }).send (.ctl n 1 6)
    else s
  else
    let s2 := (s1.put F.EP_XR_STATUS_PARTNER_EN d 0).setPort n fun p => { p with advertise128 := false }
    if s.get F.EP_LINK_STATUS_RATE d = 6 then (s2.setPort n fun p => { p with speedChange := some 5 }).send (.ctl n 1 5) else s2

/-- An attempt at 128.0 GT/s fails (R137). -/
def State.xrFail (s : State) (n : Nat) : State :=
  let d := dPort n
  if s.on F.EP_XR_STATUS_LOCAL_EN d && hpLive (s.hp n) && !(s.port n).xrBar && s.on F.EP_LINK_CTL_XR_POLICY d then
    let s1 := (((s.put F.EP_LINK_STATUS_RATE d 5).put F.EP_XR_STATUS_FAILED d 1).bump F.EP_XR_STATUS_FAILS d 1).put F.EP_LINK_STATUS_DS_REASON d 3
    (s1.put F.EP_XR_STATUS_ACTIVE d 0).setPort n fun p => { p with speedChange := none, attempt := none, xrBar := true }
  else s

/-! ### The table of non-posted requests (R142 to R144) -/

/-- Whether a request was originated by one of this module's own agents. -/
def State.ownReq (s : State) (m : Msg) : Bool := m.srcSw == s.ownSw && decide (72 ≤ m.srcAg)

/-- Whether EP_CPL_TO times a request: those of the Insole controllers, the Clicker and the tiering engine (R143). -/
def cplTimed (m : Msg) : Bool := (decide (72 ≤ m.srcAg) && decide (m.srcAg ≤ 75)) || m.srcAg == 82 || m.srcAg == 83

/-- OUTSTANDING and FULL kept with the table. -/
def State.syncNp (s : State) (n : Nat) : State :=
  let l := (s.port n).np
  (s.put F.EP_NP_STATUS_OUTSTANDING (dPort n) l.length).put F.EP_NP_STATUS_FULL (dPort n) (bit (decide (512 ≤ (l.filter (·.own)).length)))

/-- The table without its oldest pass-through entry. -/
def dropOldest : List NpEntry → List NpEntry
  | [] => []
  | e :: es => if e.own then e :: dropOldest es else es

/-- A request enters the table (R142). -/
def State.npAdd (s : State) (n : Nat) (m : Msg) : State :=
  let own := s.ownReq m
  let t : NpEntry := { msg := m, own := own, timer := if own && cplTimed m then some (s.after (s.get F.EP_CPL_TO_LIMIT (dPort n))) else none }
  (s.setPort n fun p =>
    let l1 := if own then p.np else p.np.filter fun e => e.own || !(e.msg.srcSw == m.srcSw && e.msg.srcAg == m.srcAg && e.msg.tag == m.tag)
    let l2 := if !own && decide (1536 ≤ (l1.filter fun e => !e.own).length) then dropOldest l1 else l1
    { p with np := l2 ++ [t] }).syncNp n

/-- An entry leaves the table. -/
def State.npDrop (s : State) (n id : Nat) : State :=
  (s.setPort n fun p => { p with np := p.np.filter fun e => e.msg.id != id }).syncNp n

/-- A timed-out entry completes to its agent with TIMEOUT (R143), unless a loss is declared at the same boundary (R144). -/
def State.cplTimeout (s : State) (n id : Nat) : State :=
  match (s.port n).np.find? fun e => e.msg.id == id with
  | none => s
  | some e =>
    if s.dueO e.timer && (s.port n).lossAt.isNone then
      let s1 := ((s.npDrop n id).bump F.EP_NP_STATUS_TO_COUNT (dPort n) 1).occ 576 n
      s1.respond n e.msg (match e.msg.op with | .memRd | .memRdData => .memData | .memWr | .memWrPtl => .cmp | _ => .cpl) .timeout [] false 0
    else s

/-- A completion arrives from the partner (R142 to R144): it routes by its identifier to the requester of its entry, or by its own
header where the entry is gone; one that follows a timeout of R143 is discarded. -/
def State.npArrive (s : State) (n : Nat) (c : Msg) : State :=
  match (s.port n).np.find? fun e => e.msg.id == c.id with
  | some e =>
    if s.dueO e.timer then (s.cplTimeout n c.id).bump F.EP_NP_STATUS_LATE_COUNT (dPort n) 1
    else
      let s1 := s.npDrop n c.id
      s1.step7 n e.msg.via
        { e.msg with kind := respKind e.msg.kind, op := c.op, srcSw := s.ownSw, srcAg := n, dstSw := e.msg.srcSw, dstAg := e.msg.srcAg,
                     colour := .green, body := slotsFor c.data.length, len := c.data.length, data := c.data, poison := c.poison,
                     status := c.status, devload := c.devload, metaV := c.metaV, via := e.msg.via }
  | none =>
    if c.dstSw = s.ownSw ∧ cplTimed { c with srcAg := c.dstAg } then s.bump F.EP_NP_STATUS_LATE_COUNT (dPort n) 1
    else if c.dstSw = s.ownSw then s.step7 n c.dstAg { c with via := c.dstAg }
    else match s.linkFor c.dstSw with
      | some m => s.step7 n (64 + m) { c with via := 64 + m }
      | none => s.routeFault n c

/-! ### What leaves a port (R146, R148, R152) -/

/-- A posted write dropped toward a port (R146, R148). -/
def State.postedDrop (s : State) (n : Nat) (m : Msg) : State :=
  ((s.bump F.EP_DROP_CNT_POSTED_DROP (dPort n) 1).occ 640 n).accepted n m

/-- A completion discarded at a port (R146, R148). -/
def State.cplDiscard (s : State) (n : Nat) : State := s.bump F.EP_DROP_CNT_CPL_DISCARD (dPort n) 1

/-- A lost CXL.mem write is told to the host of the edge port it came by: AER, and viral where enabled (R148). -/
def State.memLostNotice (s : State) (n id : Nat) : State := if n < 64 then (s.send (.ctl n 5 id)).viral n else s

/-- A message toward a port that is lost, or that answers as one (R148). -/
def State.lostAnswer (s : State) (n : Nat) (m : Msg) : State :=
  if isResp m.op then s.cplDiscard n
  else match m.op with
    | .mWr => s.postedDrop n m
    | .memWr | .memWrPtl => if 72 ≤ m.via then s.failBack n m else ((s.failBack n m).occ 704 n).memLostNotice m.via m.id
    | _ => s.failBack n m

/-- Whether a blocked port still carries a message: configuration requests, DOE and training messages, and what answers them
(R152). -/
def blockedPass (m : Msg) : Bool :=
  match m.op with
  | .cfgRd | .cfgWr | .msg | .cpl | .cplD | .cplDLk | .cplLk => true
  | _ => false

/-- Whether the port answers at once as a lost link: no partner is trained. -/
def State.portGone (s : State) (n : Nat) : Bool := !hpLive (s.hp n)

/-- Whether a request takes a place in the table: CXL.io non-posted requests and CXL.mem requests that expect a response (R142). -/
def tabled (m : Msg) : Bool := expects m && (m.kind == .io || m.kind == .memM2S)

/-- Room of a port's egress for a message (R142, R199). -/
def State.portRoom (s : State) (n : Nat) (m : Msg) : Bool :=
  s.portGone n ||
    (s.portUp n && !(s.ownReq m && tabled m && decide (512 ≤ ((s.port n).np.filter (·.own)).length)))

/-- The completion of a request accepted from a port has reached the port's egress. -/
def State.portClosed (s : State) (n id : Nat) : State :=
  s.setPort n fun p => { p with opened := p.opened.filter (· != id), stale := p.stale.filter (· != id) }

/-- The requests accepted from a port that is reset: their completions are discarded at its egress (R146). -/
def State.portStale (s : State) (n : Nat) : State := s.setPort n fun p => { p with stale := p.stale ++ p.opened, opened := [] }

/-- A message whose last cell has reached the port leaves it (R142, R146, R148, R152). -/
def State.portDeliver (s0 : State) (n : Nat) (m : Msg) : State :=
  let old := isResp m.op && (s0.port n).stale.contains m.id
  let s := if isResp m.op then s0.portClosed n m.id else s0.setPort n fun p => { p with lastReq := s0.tim.bnd }
  if old then s.cplDiscard n
  else if s.portGone n then s.lostAnswer n m
  else if s.on F.EP_IDE_STATUS_BLOCKED (dPort n) && !blockedPass m then s.lostAnswer n m
  else
    let s1 := (s.send (.port n m)).count (n / 4) 2 (n % 4) m.slice ((bodyBytes m + 63) / 64)
    if tabled m then s1.npAdd n m else if m.op = .mWr then s1.accepted n m else s1

/-! ### Link loss and resets (R145 to R150) -/

/-- The loss timer has run out: the loss is declared at this boundary (R147). -/
def State.lossTimeout (s : State) (n : Nat) : State :=
  if s.dueO (s.port n).loss ∧ hpLive (s.hp n) ∧ (s.port n).lossAt.isNone then
    s.setPort n fun p => { p with loss := none, lossAt := some (s.tim.bnd - 1) }
  else s

/-- Whether a loss awaits its declaration and a boundary has passed since its cause (R147). -/
def State.lossReady (s : State) (n : Nat) : Bool :=
  match (s.port n).lossAt with
  | some b => decide (b < s.tim.bnd) && hpLive (s.hp n)
  | none => false

/-- Every queued message toward an agent leaves the buffer. -/
def State.unqueue (s : State) (p : Queued → Bool) : State :=
  (s.setSole fun o => { o with buf := o.buf.filter (fun x => !p x), waiting := o.waiting.filter (fun x => !p x),
                               slotWait := o.slotWait.filter (fun x => !p x), deferred := o.deferred.filter (fun x => !p x) }).syncBuf.syncSlots

/-- The messages queued toward an egress agent. -/
def State.queuedTo (s : State) (a : Nat) : List Queued :=
  (s.sole.buf ++ s.sole.waiting ++ s.sole.slotWait ++ s.sole.deferred).filter fun x => x.egress == a

/-- The registers of a link that is gone. -/
def State.linkDownRegs (s : State) (n : Nat) : State :=
  let d := dPort n
  let s1 := ((s.put F.EP_LINK_STATUS_DL_UP d 0).put F.EP_HP_STATUS_PRESENT d 0).setReg (R.EP_CXL_STATUS + d) 0
  let s2 := (s1.put F.EP_IDE_STATUS_LINK_STATE d 0).put F.EP_IDE_STATUS_SEL_ACTIVE d 0
  let s3 := ((s2.put F.EP_XR_STATUS_LOCAL_EN d 0).put F.EP_XR_STATUS_PARTNER_CAP d 0).put F.EP_XR_STATUS_PARTNER_EN d 0
  (s3.put F.EP_XR_STATUS_ACTIVE d 0).syncBlocked n

/-- The declaration of a link loss at a port (R147, R148): LOST, every table entry and every queued message toward it completed. -/
def State.lossDeclare (s : State) (n : Nat) : State :=
  let nps := (s.port n).np
  let qs := s.queuedTo n
  let s1 := (s.portStale n).linkDownRegs n |>.hpTo n hpLost
  let s2 := (if s1.ltssm n = 7 then s1 else s1.setLtssm n 0).lanesIdle (n / 4) (s1.lanesOfPort n)
  let s3 := (s2.setPort n fun p =>
    { p with np := [], attempt := none, everUp := false, recoveries := 0, loss := none, lossAt := none, wait := none, disc := none,
             est := none, rekey := none, xrEnable := false, xrLopt := false, advertise128 := false, speedChange := none }).syncNp n
  let s4 := s3.unqueue fun x => x.egress == n
  let s5 := s4.each nps fun t e => t.lostAnswer n e.msg
  s5.each qs fun t x => t.lostAnswer n x.msg

/-- Every entry is completed: the port is EMPTY and detection resumes; a port held in Disabled is DISABLED (R148, R150). -/
def State.lossComplete (s : State) (n : Nat) : State :=
  if s.hp n = hpLost ∧ (s.port n).np = [] ∧ (s.queuedTo n) = [] then
    let s1 := (s.bump F.EP_HP_STATUS_REMOVALS (dPort n) 1).hpTo n hpEmpty
    if s.ltssm n = 7 then s1.hpTo n hpDisabled else s1.portDetect n
  else s

/-- The link is disabled by command (R145, R146). -/
def State.portDisable (s : State) (n : Nat) : State :=
  let s1 := ((s.setLtssm n 7).put F.EP_LINK_STATUS_DL_UP (dPort n) 0).setPort n fun p => { p with attempt := none, loss := none, speedChange := none }
  let s2 := s1.lanesIdle (n / 4) (s1.lanesOfPort n)
  if hpLive (s.hp n) then s2.setPort n fun p => { p with lossAt := some (p.lossAt.getD s.tim.bnd) }
  else if s.hp n = hpLost then s2 else s2.hpTo n hpDisabled

/-- DISABLED is left for EMPTY (R150), but not by a fenced port (spec/16 R437). -/
def State.portEnable (s : State) (n : Nat) : State :=
  if s.fencedBy (.port n) then s
  else if s.hp n = hpDisabled then ((s.setLtssm n 0).hpTo n hpEmpty).portDetect n
  else if s.ltssm n = 7 then s.setLtssm n 0 else s

/-- RETRAIN (R141, R150). -/
def State.portRetrain (s : State) (n : Nat) : State :=
  let s1 := s.capRestore n
  if s.hp n = hpDisabled then (if s.on F.EP_LINK_CMD_DISABLE (dPort n) then s1 else s1.portEnable n) else s1.portRecovery n

/-- HOT_RESET: sent to the partner in downstream modes, refused in upstream modes (R145). -/
def State.portHotReset (s : State) (n : Nat) : State :=
  if upMode (s.portMode n) then s.put F.EP_LINK_STATUS_CMD_REFUSED (dPort n) 1
  else if s.portUp n then s.send (.ctl n 0 0) else s

/-- A write of EP_LINK_CMD (R141, R145, R150). -/
def State.portCmdWrite (s : State) (n : Nat) (v : Word) : State :=
  let d := dPort n
  let was := s.on F.EP_LINK_CMD_DISABLE d
  let s1 := s.storeAt (R.EP_LINK_CMD + d) v
  let now := s1.on F.EP_LINK_CMD_DISABLE d
  let s2 := if !was && now then s1.portDisable n else if was && !now then s1.portEnable n else s1
  let s3 := if F.EP_LINK_CMD_RETRAIN.of v = 1 then s2.portRetrain n else s2
  if F.EP_LINK_CMD_HOT_RESET.of v = 1 then s3.portHotReset n else s3

end Sys2Proof.Machine
end

