-- ==== Sys2Proof/Machine/Mornu.lean ====
section
/-!
DEFINITION. Mornu links (spec/06): lane sets and deskew, link states, flits with sequence, acknowledgement, replay and spill, credits and
the transmit queue, the INIT handshake, grace and flush, lace and unlace, and the failover of routes. The completion of coherent
traffic by a flushing link is that of spec/10 R285 to R288.
-/
namespace Sys2Proof.Machine
open Sys2Proof

/-! ### Lane sets (R157) -/

/-- The link lanes of a lane set. -/
def setLanes (v : Nat) : List Nat :=
  if v = 0 then List.range 8
  else if v = 1 then [0, 1, 2, 3]
  else if v = 2 then [4, 5, 6, 7]
  else if v ≤ 6 then [2 * (v - 3), 2 * (v - 3) + 1]
  else if v ≤ 14 then [v - 7]
  else []

/-- Whether a set lies within a mask of link lanes and has at least a width. -/
def setWithin (v mask minW : Nat) : Bool :=
  decide (minW ≤ (setLanes v).length) && decide (v ≤ 14) && (setLanes v).all fun l => mask.testBit l

/-- The widest aligned set within a mask that is at least a width, the lowest code on a tie. -/
def widestSet (mask minW : Nat) : Option Nat := (List.range 15).find? fun v => setWithin v mask minW

/-- The bank lane of a link lane. -/
def bankLane (m l : Nat) : Nat := 8 * (m % 2) + l

/-- The smallest width a link accepts. -/
def State.minWidth (s : State) (m : Nat) : Nat := 2 ^ s.get F.ML_LINK_CFG_MIN_WIDTH (dLink m)

def State.mlaneState (s : State) (m l : Nat) : Nat := s.laneState (bankOfLink m) (bankLane m l)

/-- Whether the lanes of a link read the reversed order (R107). -/
def State.reversed (s : State) (m : Nat) : Bool :=
  (List.range 8).any fun l =>
    let d := dLane (bankOfLink m) (bankLane m l)
    s.get F.LB_LANE_STATUS_LOGICAL d + l == 7 && (decide (l < 7) || s.on F.LB_LANE_FAR_VALID d)

/-- The own number of the lane that the link layer numbers `l`, and the reverse: the number after reversal (R107). -/
def State.linkLane (s : State) (m l : Nat) : Nat := if s.reversed m then 7 - l else l

/-- The bank lanes of a list of link-layer numbers. -/
def State.lanesAt (s : State) (m : Nat) (ls : List Nat) : List Nat := ls.map fun l => bankLane m (s.linkLane m l)

/-- The receive lanes in DATA and deskewed, as a mask by lane number after reversal (R107, R174). -/
def State.rxok (s : State) (m : Nat) : Nat :=
  ((List.range 8).filter fun l => s.mlaneState m l == lsData && (s.link m).deskewed.contains l).foldl
    (fun a l => Nat.lor a (2 ^ s.get F.LB_LANE_STATUS_LOGICAL (dLane (bankOfLink m) (bankLane m l)))) 0

/-- RXOK kept with the lanes. -/
def State.syncRx (s : State) (m : Nat) : State := s.put F.ML_LACE_STATUS_RXOK (dLink m) (s.rxok m)

def State.lset (s : State) (m : Nat) : Nat := s.get F.ML_LINK_STATUS_LSET (dLink m)
def State.session (s : State) (m : Nat) : Nat := s.get F.ML_LINK_STATUS_SESSION (dLink m)

/-! ### States (R172) -/

def mlDisabled : Nat := 0
def mlTrain : Nat := 1
def mlInit : Nat := 2
def mlUpSt : Nat := 3
def mlRetrainSt : Nat := 4
def mlFlushSt : Nat := 5
def mlFenced : Nat := 6

/-- A link enters a state on a set, with its event (R172, R410). -/
def State.mlTo (s : State) (m st set : Nat) : State :=
  ((s.put F.ML_LINK_STATUS_STATE (dLink m) st).put F.ML_LINK_STATUS_LSET (dLink m) set).event clsLink 5 m 2 (st + 16 * set)

/-- The control message is repeated for a number of stitches (R174). -/
def State.repeatCtl (s : State) (m ty arg n : Nat) : State :=
  s.setLink m fun l => { l with rep := l.rep.filter (fun e => e.1 != ty) ++ [(ty, arg, s.tim.bnd + n)] }

/-- A training attempt on a lane set (R173). -/
def State.mlTrainOn (s : State) (m set : Nat) : State :=
  let b := bankOfLink m
  let s1 := (s.mlTo m mlTrain 15).lanesIdle b ((List.range 8).map (bankLane m))
  let s2 := s1.setLink m fun l => { l with attempt := some (s.after 4096), trainSet := set, deskewed := [] }
  (s2.lanesTrain b (s2.lanesAt m (setLanes set))).syncRx m

/-- A link leaves DISABLED, FLUSH or FENCED: TRAIN where DISABLE is clear and the bank READY, DISABLED otherwise (R172). -/
def State.mlStart (s : State) (m : Nat) : State :=
  if !s.on F.ML_LINK_CMD_DISABLE (dLink m) && s.bankState (bankOfLink m) == 3 then s.mlTrainOn m 0
  else
    let s1 := s.mlTo m mlDisabled 15
    (s1.lanesIdle (bankOfLink m) ((List.range 8).map (bankLane m))).setLink m fun l => { l with attempt := none }

/-- A fresh INIT: a new nonce, nothing seen, sequence numbers and credit totals at zero (R175). -/
def State.mlFreshInit (s : State) (m : Nat) : State :=
  let s1 := (s.mlTo m mlInit 15).setLink m fun l =>
    { l with nonce := s.freeVal % 65536, seen := false, farRx := 0, chosen := 15, initRetry := none, attempt := none, nextSeq := 0,
             acked := 1048575, unacked := [], expSeq := 0, rxAny := false, nakPend := false, lastNak := none, replaying := [],
             retried := none, timer := none, consumed := [], returned := [], freed := [], rot := 0, farSize := [] }
  s1.usedFree

/-- The lanes of an attempt are in DATA and deskewed: TRAIN ends in INIT (R172). -/
def State.mlTryInit (s : State) (m : Nat) : State :=
  if s.mlState m = mlTrain ∧
      (setLanes (s.link m).trainSet).all (fun l => s.mlaneState m (s.linkLane m l) == lsData && (s.link m).deskewed.contains (s.linkLane m l)) then s.mlFreshInit m
  else s

/-- An attempt has not ended in INIT after 4,096 stitches (R173); the first such end counts for the start-up (spec/19 R495). -/
def State.mlTrainTimeout (s : State) (m : Nat) : State :=
  if s.mlState m = mlTrain ∧ s.dueO (s.link m).attempt then
    let mask := ((List.range 8).filter fun l => s.mlaneState m (s.linkLane m l) == lsData).foldl (fun a l => a + 2 ^ l) 0
    (s.mlTrainOn m ((widestSet mask (s.minWidth m)).getD 0)).setMdl fun x => { x with tried := insNat x.tried m }
  else s

/-! ### Lace results (R183) -/

/-- The end of a lace or unlace: STATE, ERR and the event. -/
def State.laceEnd (s : State) (m st err : Nat) : State :=
  let s1 := (s.put F.ML_LACE_STATUS_STATE (dLink m) st).put F.ML_LACE_STATUS_ERR (dLink m) err
  let s2 := s1.setLink m fun l => { l with pendSet := none, laceTo := none, laceTx := false, laceRx := false, unlacing := false, laceOwn := false }
  s2.event clsLink 5 m 3 (st + 16 * err)

/-- The lanes a pending lace adds. -/
def State.addedLanes (s : State) (m : Nat) : List Nat :=
  match (s.link m).pendSet with
  | some v => if (s.link m).unlacing then [] else (setLanes v).filter fun l => !(setLanes (s.lset m)).contains l
  | none => []

/-- A running lace or unlace fails: the added lanes return to IDLE (R181, R183). -/
def State.laceFail (s : State) (m err : Nat) : State :=
  (s.lanesIdle (bankOfLink m) (s.lanesAt m (s.addedLanes m))).laceEnd m 3 err

/-! ### Loss of a link (R177, R179, R285 to R288) -/

/-- Whether a message is for a home agent slice of another module. -/
def State.toRemoteHome (s : State) (m : Msg) : Bool := m.dstSw != s.ownSw && decide (76 ≤ m.dstAg) && decide (m.dstAg ≤ 79)

/-- RECORDS kept with the table of lost writes. -/
def State.syncLwt (s : State) : State := s.put F.HA_LWT_STATUS_RECORDS 0 s.lwt.length

/-- A lost coherent write is recorded (R286); one that finds the table full is dropped. -/
def State.lwtAdd (s : State) (m : Msg) : State :=
  if s.lwt.length < 8192 then
    let r : LostWrite := { fpid := m.srcSw * 64 + m.srcAg, msg := m, resent := false }
    (s.setLwt fun l => l ++ [r]).syncLwt
  else
    (s.occAt 9 0 none).viral m.srcAg

/-- A discarded write completion of a slice of this module is recorded (R287). -/
def State.dctAdd (s : State) (m : Msg) : State :=
  if m.srcSw = s.ownSw ∧ 76 ≤ m.srcAg ∧ m.srcAg ≤ 79 then
    let h := m.srcAg - 76
    let e := (m.dstSw * 64 + m.dstAg, m.sid, lineOf m)
    let full := decide (1024 ≤ (s.home h).dct.length)
    let s1 := s.setHome h fun x => { x with dct := (if full then x.dct.drop 1 else x.dct) ++ [e] }
    let s2 := s1.put F.HA_DCT_STATUS_USED (dHome h) (s1.home h).dct.length
    if full then (s2.bump F.HA_DCT_STATUS_OVERFLOWS (dHome h) 1).occ 84 h else s2
  else s

/-- Whether the response completes a coherent write. -/
def isWriteCmp (m : Msg) : Bool := m.op == .cmp || m.op == .go || m.op == .goWritePull || m.op == .goWritePullDrop

/-- A response discarded at a link (R179, R180, R287). -/
def State.rspDiscard (s : State) (m : Nat) (r : Msg) : State :=
  let s1 := s.bump F.ML_RSP_CNT_RSP_DISCARD (dLink m) 1
  if isWriteCmp r then s1.dctAdd r else s1

/-- Whether a message is a coherent request toward a home of another module. -/
def State.remoteCoherent (s : State) (x : Msg) : Bool := s.toRemoteHome x && (x.kind == .memM2S || x.kind == .cacheD2H)

/-- The response to a coherent request toward a remote home that a link has lost (R285). -/
def State.coherentBack (s : State) (ag : Nat) (x : Msg) : State :=
  if x.kind = .cacheD2H then s.respond ag x .goErr .ok [] false 0
  else match x.op with
    | .memRd | .memRdData => s.step7 ag x.via { s.response ag x .memData .ok (poisonLine 64) true 0 with metaV := .inv }
    | .memInv | .memInvNT => s.step7 ag x.via { s.response ag x .cmp .ok [] false 0 with metaV := .inv }
    | .memWr | .memWrPtl | .memClnEvct => s.respond ag x .cmp .ok [] false 0
    | .biConflict => s.respond ag x .biConflictAck .ok [] false 0
    | _ => s

/-- One item held by a flushing link is completed (R179, R285). DEDUCED (log entry 21). -/
def State.flushAnswer (s : State) (m : Nat) (x : Msg) : State :=
  let ag := 64 + m
  if isResp x.op then s.rspDiscard m x
  else if isSnoop x.op || x.op == .fence then s
  else if s.remoteCoherent x then
    let s1 := s.coherentBack ag x
    if x.data.isEmpty then s1 else s1.lwtAdd x
  else match x.op with
    | .mWr | .msg | .unlock | .mctp => ((s.bump F.ML_FLUSH_CNT_POSTED_DROP (dLink m) 1).occ 176 m).accepted ag x
    | .memWr | .memWrPtl => if 72 ≤ x.via then s.failBack ag x else ((s.failBack ag x).occ 168 m).memLostNotice x.via x.id
    | _ => s.failBack ag x

/-- Messages without repeats of an identifier. -/
def dedupMsgs (l : List Msg) : List Msg := l.foldl (fun a m => if a.any (fun x => x.id == m.id && x.op == m.op) then a else a ++ [m]) []

/-- Outstanding snoops of the home agents toward switch IDs whose route names the link are marked for re-issue (R288). -/
def State.flushReport (s : State) (m : Nat) : State :=
  s.each (List.range 4) fun t h =>
    t.setHome h fun x =>
      { x with tacks := x.tacks.map fun k =>
          let hit := k.toSnoop.filter fun f =>
            let w := f / 64
            w != s.ownSw && ((s.on F.SOLE_ROUTE_PVALID (4 * w) && s.get F.SOLE_ROUTE_PRIMARY (4 * w) == m) ||
              (s.on F.SOLE_ROUTE_AVALID (4 * w) && s.get F.SOLE_ROUTE_ALT (4 * w) == m))
          { k with reissue := k.reissue ++ hit.filter fun f => !k.reissue.contains f } }

/-- OUTSTANDING, UNACKED and SPILLED kept with the link. -/
def State.syncLink (s : State) (m : Nat) : State :=
  let l := s.link m
  let s1 := (s.put F.ML_XT_STATUS_OUTSTANDING (dLink m) l.xt.length).put F.ML_REPLAY_STATUS_UNACKED (dLink m) l.unacked.length
  s1.put F.ML_SPILL_STATUS_SPILLED (dLink m) (l.unacked.filter fun f => f.kept != .die).length

/-- Entry to FLUSH (R172, R179): held traffic is completed in sequence order. DEDUCED (log entry 21). -/
def State.mlFlush (s : State) (m : Nat) : State :=
  let l := s.link m
  let held := (dedupMsgs (l.unacked.flatMap (·.msgs) ++ l.xt.map (·.req) ++ l.txq.map (·.msg))).filter fun x =>
    !(l.xt.any fun e => e.dead && e.req.id == x.id)
  let late := held.filter fun x => !(expects x && !(l.xt.any fun e => e.req.id == x.id) && !(l.txq.any fun e => e.msg.id == x.id))
  let s1 := (s.mlTo m mlFlushSt 15).bump F.ML_FLUSH_CNT_FLUSHES (dLink m) 1
  let s2 := (s1.setLink m fun x =>
    { x with unacked := [], xt := [], txq := [], replaying := [], retried := none, timer := none, grace := none, inb := [], lctl := [],
             nakPend := false, flushEnd := some (s.after 512) }).syncLink m
  (s2.each late fun t x => t.flushAnswer m x).flushReport m

/-- Entry to RETRAIN (R172, R177): DATA stops, the grace timer runs, LINKDOWN is sent; a GRACE of zero flushes at once. -/
def State.mlRetrain (s : State) (m cause : Nat) : State :=
  if s.mlState m = mlUpSt then
    let s1 := if (s.link m).pendSet.isSome then s.laceFail m 4 else s
    let g := s.get F.ML_LINK_CTL_GRACE (dLink m)
    let s2 := (s1.mlTo m mlRetrainSt 15).setLink m fun l =>
      { l with seen := false, farRx := 0, chosen := 15, timer := none, cause := cause, grace := some (s.after g) }
    let s3 := s2.lanesTrain (bankOfLink m) ((List.range 8).map (bankLane m))
    if g = 0 then s3.mlFlush m else s3
  else s

/-- A fault of the link that takes it to RETRAIN: its bit and its reaction (R162, R164, R166). -/
def State.mlFault (s : State) (m base : Nat) : State := (s.occ base m).mlRetrain m (base + m)

/-- A loss that is neither a sticky bit of the link nor a written RETRAIN: RETRAIN, with a CAUSE that R174 does not state. DEDUCED (log entry 21). -/
def State.mlDown (s : State) (m : Nat) : State :=
  if s.mlState m = mlUpSt then s.usedFree.mlRetrain m (s.freeVal % 256) else s

/-- A lane of a link has left DATA (R172). -/
def State.mlLaneLost (s : State) (m l : Nat) : State :=
  let s1 := (s.setLink m fun x => { x with deskewed := x.deskewed.filter (· != l) }).syncRx m
  if (setLanes (s.lset m)).contains (s.linkLane m l) then s1.mlDown m else s1

/-- Every lane of a link is lost: UP retrains, an attempt starts again when the bank allows (R103, R123). -/
def State.mlLanesLost (s : State) (m : Nat) : State :=
  let s1 := (s.setLink m fun x => { x with deskewed := [] }).syncRx m
  if s.mlState m = mlUpSt then s1.mlDown m
  else if s.mlState m = mlTrain ∨ s.mlState m = mlInit then s1.mlTrainOn m 0 else s1

/-- The grace period has ended in RETRAIN (R177). -/
def State.graceExpiry (s : State) (m : Nat) : State :=
  if s.mlState m = mlRetrainSt ∧ s.dueO (s.link m).grace then s.mlFlush m else s

/-! ### Routes (R186) -/

/-- Switch IDs whose route has a link as primary. -/
def State.primaryOf (s : State) (m : Nat) : List Nat :=
  (List.range 64).filter fun w => w != s.ownSw && s.on F.SOLE_ROUTE_PVALID (4 * w) && s.get F.SOLE_ROUTE_PRIMARY (4 * w) == m

/-- Switch IDs whose route has a link as alternate. -/
def State.altOf (s : State) (m : Nat) : List Nat :=
  (List.range 64).filter fun w => w != s.ownSw && s.on F.SOLE_ROUTE_AVALID (4 * w) && s.get F.SOLE_ROUTE_ALT (4 * w) == m

/-- The primary of a route has left FLUSH: traffic moves to the alternate, where it is UP or once it is, when FLUSHED has arrived there. -/
def State.routeLeft (s : State) (m w : Nat) : State :=
  if s.on F.SOLE_ROUTE_AVALID (4 * w) && !(s.route w).onAlt then
    s.setRoute w fun r =>
      if r.early = some (s.session m) then { r with onAlt := true, early := none }
      else { r with onAlt := true, wait := some (s.after (2 * s.get F.ML_LINK_CTL_GRACE (dLink m) + 512)) }
  else s

/-- FLUSHED for the session of a route's primary arrives over the alternate. -/
def State.flushedRx (s : State) (w session : Nat) : State :=
  let r := s.route w
  let p := s.get F.SOLE_ROUTE_PRIMARY (4 * w)
  if session ≠ s.session p then s
  else if r.wait.isSome then s.setRoute w fun x => { x with wait := none }
  else if !r.onAlt && (s.mlState p == mlRetrainSt || s.mlState p == mlFlushSt) then s.setRoute w fun x => { x with early := some session }
  else s

/-- FLUSHED has not arrived in time: traffic moves anyway. DEDUCED (log entry 21). -/
def State.routeTimeout (s : State) (w : Nat) : State :=
  if s.dueO (s.route w).wait && s.mlState (s.get F.SOLE_ROUTE_ALT (4 * w)) == mlUpSt then
    (s.setRoute w fun r => { r with wait := none }).occ 192 (s.get F.SOLE_ROUTE_PRIMARY (4 * w))
  else s

/-- The alternate of a route is UP: it carries the traffic of a primary that carries none. DEDUCED (log entry 21). -/
def State.altUp (s : State) (w : Nat) : State :=
  let p := s.mlState (s.get F.SOLE_ROUTE_PRIMARY (4 * w))
  (if s.altOk w && !(decide (mlUpSt ≤ p) && decide (p ≤ mlFlushSt)) then s.setRoute w fun r => { r with onAlt := true } else s).routeTimeout w

/-- A fence message of a virtual channel. -/
def fenceMsg (own w vc fid : Nat) : Msg :=
  { id := 0, via := 82, kind := .fence, op := .fence, metaV := .none, srcSw := own, srcAg := 82, dstSw := w, dstAg := 82, slice := 0, cls := 0,
    colour := .green, stamp := 0, body := 1, hops := 0, space := .bus, sid := 0, addr := fid, len := 0, pasid := none, tag := vc,
    data := [], poison := false, status := .ok, devload := 0, be := false }

/-- Fences with a new FENCE_ID are sent in each virtual channel of the alternate (R186). -/
def State.fenceSend (s : State) (w : Nat) : State :=
  let a := s.get F.SOLE_ROUTE_ALT (4 * w)
  let fid := ((s.route w).fence.map (fun f => (f.1 + 1) % 65536)).getD 0
  let s1 := s.setRoute w fun r => { r with fence := some (fid, s.after 256) }
  if s.mlState a = mlUpSt then
    s1.setLink a fun l => { l with txq := l.txq ++ (List.range 8).map fun v => ⟨v, fenceMsg s.ownSw w v fid, 2⟩ }
  else s1

/-- The primary of a route is UP again: traffic returns by a fence over the alternate, or at once where the alternate carries nothing. -/
def State.routeBack (s : State) (w : Nat) : State :=
  let a := s.get F.SOLE_ROUTE_ALT (4 * w)
  if !(s.route w).onAlt then s
  else if s.mlState a = mlUpSt ∨ s.mlState a = mlRetrainSt ∨ s.mlState a = mlFlushSt then
    (s.setRoute w fun r => { r with wait := none }).fenceSend w
  else s.setRoute w fun r => { r with onAlt := false, wait := none, fence := none }

/-- A fence is complete: traffic moves to the primary, unless that has been lost meanwhile. DEDUCED (log entry 21). -/
def State.fenceDone (s : State) (w fid : Nat) : State :=
  match (s.route w).fence with
  | some (f, _) =>
    let p := s.mlState (s.get F.SOLE_ROUTE_PRIMARY (4 * w))
    if f = fid then s.setRoute w fun r => { r with onAlt := !(decide (mlUpSt ≤ p) && decide (p ≤ mlFlushSt)), fence := none } else s
  | none => s

/-- FENCE_DONE has not arrived within 256 stitches. -/
def State.fenceRetry (s : State) (w : Nat) : State :=
  match (s.route w).fence with
  | some (_, e) => if s.due e ∧ s.mlState (s.get F.SOLE_ROUTE_ALT (4 * w)) = mlUpSt then s.fenceSend w else s
  | none => s

/-- An alternate has left FLUSH: a fence outstanding over it is complete. -/
def State.altLeft (s : State) (w : Nat) : State :=
  match (s.route w).fence with
  | some (f, _) => s.fenceDone w f
  | none => s

/-- A route whose alternate ends at another module than its primary is not used (R186). -/
def State.routeMismatch (s : State) (m : Nat) : State :=
  s.each (s.primaryOf m ++ s.altOf m) fun t w =>
    if t.on F.SOLE_ROUTE_AVALID (4 * w) && t.on F.ML_PEER_VALID (dLink (t.get F.SOLE_ROUTE_ALT (4 * w))) && !t.altOk w then
      t.occ 184 (t.get F.SOLE_ROUTE_ALT (4 * w))
    else t

/-- The completions have ended and the landing buffers are empty: FLUSH is left, FLUSHED is sent to the same far module, and routes
move (R172, R179, R186). -/
def State.mlFlushDone (s : State) (m : Nat) : State :=
  if s.mlState m = mlFlushSt ∧ (s.link m).landed = [] then
    let far := s.get F.ML_PEER_FAR_SWITCH (dLink m)
    let s1 := if (s.link m).fenceHeld then s.mlTo m mlFenced 15 else s.mlStart m
    let s2 := (s1.setLink m fun l => { l with flushEnd := none, rep := [] }).each (List.range 8) fun t k =>
      if k != m && t.mlState k == mlUpSt && t.on F.ML_PEER_VALID (dLink k) && t.get F.ML_PEER_FAR_SWITCH (dLink k) == far then
        t.repeatCtl k 0x0B (m + s.session m * 65536) 64
      else t
    let s3 := s2.each (s2.primaryOf m) fun t w => t.routeLeft m w
    s3.each (s3.altOf m) fun t w => t.altLeft w
  else s

/-! ### Acknowledgement and replay (R164 to R166, R171) -/

def seqMod : Nat := 1048576

/-- The Sole clock, from the boundaries and cell times that have passed. DEDUCED (log entry 9). -/
def State.soleClk (s : State) : Nat := s.tim.cyc + 2 * s.tim.cells

/-- The replay timer restarts, or stops with nothing unacknowledged (R166). -/
def State.replayTimer (s : State) (m : Nat) : State :=
  s.setLink m fun l => { l with timer := if l.unacked.isEmpty then none else some (s.soleClk + s.get F.ML_REPLAY_CFG_TO (dLink m)) }

/-- An ACK is taken, or is none of those sent (R164). -/
def State.ackTake (s : State) (m a : Nat) : Option State :=
  let l := s.link m
  let d := (a + seqMod - l.acked % seqMod) % seqMod
  if d ≤ l.unacked.length then
    if d = 0 then some s
    else
      let gone := l.unacked.take d
      let passed := match l.retried with
        | some n => gone.any fun f => f.seq == n
        | none => false
      let s1 := s.setLink m fun x =>
        { x with acked := a, unacked := x.unacked.drop d, replaying := x.replaying.filter fun q => !(gone.any fun f => f.seq == q),
                 retried := if passed then none else x.retried }
      let s2 := if passed then s1.bump F.ML_ERR_CNT1_REPLAYS (dLink m) 1 else s1
      some ((s2.replayTimer m).syncLink m)
  else none

/-- A replay of every unacknowledged flit starts: the hardware retry of its first flit, lasting at the second (R165, R166). -/
def State.replayStart (s : State) (m : Nat) : State :=
  match (s.link m).unacked with
  | [] => s
  | f :: fs =>
    if (s.link m).retried = some f.seq then s.mlFault m 144
    else
      let s1 := (s.setLink m fun l => { l with retried := some f.seq, replaying := (f :: fs).map (·.seq) }).replayTimer m
      s1.count (bankOfLink m) 4 (m % 2) 0 1

/-- A NAK is acted on (R165). -/
def State.nakTake (s : State) (m a : Nat) : State :=
  let fresh := match (s.link m).lastNak with
    | some (a', c) => !(a' == a && decide (s.soleClk < c + s.get F.ML_REPLAY_CFG_TO (dLink m)))
    | none => true
  if fresh then (s.setLink m fun l => { l with lastNak := some (a, s.soleClk) }).replayStart m else s

/-- The replay timer expires (R166). -/
def State.replayExpiry (s : State) (m : Nat) : State :=
  match (s.link m).timer with
  | some e =>
    if e ≤ s.soleClk ∧ (s.link m).unacked ≠ [] ∧ s.mlState m = mlUpSt then
      (s.bump F.ML_ERR_CNT1_TIMER_REPLAYS (dLink m) 1).replayStart m
    else s
  | none => s

/-- The DPA of a spilled flit (R170, R300). -/
def spillAddr (m seq : Nat) : Nat := 0x08000000 + m * 0x1000000 + 256 * (seq % 65536)

/-- The read of a spilled flit returns (R171). -/
def State.spillBack (s : State) (m seq : Nat) (ok : Bool) : State :=
  if !(s.link m).unacked.any (fun f => f.seq == seq && f.kept == .spilled) then s
  else if ok && s.sysOk (spillAddr m seq) then
    s.setLink m fun l => { l with unacked := l.unacked.map fun f => if f.seq == seq then { f with kept := .readBack } else f }
  else if (s.link m).replaying.contains seq then (s.occ 152 m).mlFlush m
  else s

/-! ### Credits (R169) -/

/-- Available credit of a pool of the far side. -/
def State.credit (s : State) (m p : Nat) : Nat :=
  let l := s.link m
  l.farSize.getD p 0 - (l.consumed.getD p 0 + seqMod - l.returned.getD p 0 % seqMod) % seqMod

/-- AVAIL kept with the credits. -/
def State.syncCred (s : State) (m : Nat) : State :=
  s.each (List.range 9) fun t p => t.put F.ML_CRED_STATUS_AVAIL (dLink m + 4 * p) (t.credit m p)

/-- A CRED message delivers the size of a pool at a fresh INIT. -/
def State.credRx (s : State) (m pool size : Nat) : State :=
  if s.mlState m = mlInit ∧ pool ≤ 8 then (s.setLink m fun l => { l with farSize := l.farSize.set pool size }).syncCred m else s

/-! ### Receiving a flit (R162 to R165, R169) -/

/-- The receiver becomes NAK-pending. -/
def State.nakPending (s : State) (m : Nat) : State :=
  if (s.link m).nakPend then s else (s.setLink m fun l => { l with nakPend := true }).bump F.ML_ERR_CNT0_NAKS (dLink m) 1

/-- A message that has landed, as it enters this module: over this link, its stamp clamped (R69); the path of a response is that of its
crossing entry (R180). -/
def State.landedMsg (s : State) (m : Nat) (x : Msg) : Msg :=
  if isResp x.op then
    match (s.link m).xt.find? fun e => e.req.id == x.id with
    | some e => { x with via := e.via }
    | none => { x with via := 64 + m }
  else { x with via := 64 + m, stamp := s.clampStamp x.stamp }

/-- A DATA flit is handled by its number: the state, and the messages that became complete with it. -/
def State.dataRx (s : State) (m : Nat) (h : FlitHdr) (ids : List Nat) (msgs : List Msg) : State × List Msg :=
  let l := s.link m
  let d := (h.seq + seqMod - l.expSeq % seqMod) % seqMod
  if d = 0 then
    let pool := if h.shcr then 8 else h.vc % 8
    let s1 := s.setLink m fun x =>
      { x with expSeq := (x.expSeq + 1) % seqMod, rxAny := true, nakPend := false,
               landed := if ids.isEmpty then x.landed else x.landed ++ [(pool, ids)],
               freed := if ids.isEmpty then x.freed.set pool ((x.freed.getD pool 0 + 1) % seqMod) else x.freed }
    let live (x : Msg) : Bool := l.xt.any fun e => e.req.id == x.id && !e.dead
    let known := msgs.filter fun x => !isResp x.op || live x
    let lost := msgs.filter fun x => isResp x.op && !live x
    let arr := known.map (s.landedMsg m)
    let s2 := s1.each lost fun t x => (t.bump F.ML_RSP_CNT_RSP_DISCARD (dLink m) 1).unland (64 + m) x.id
    let s3 := (s2.setLink m fun x =>
      { x with xt := x.xt.filter fun e => !(msgs.any fun r => isResp r.op && r.id == e.req.id)
               inb := x.inb ++ (known.filter expects).map (·.id) }).syncLink m
    (s3.each known fun t x => t.count (bankOfLink m) 1 (m % 2) x.slice ((bodyBytes x + 63) / 64), arr)
  else if 524288 ≤ d then (s.bump F.ML_ERR_CNT2_DUPS (dLink m) 1, [])
  else (s.nakPending m, [])

/-- A flit received by a link that is UP (R162 to R165, R169): the state, and the messages that arrived with it. -/
def State.flitRx (s : State) (m : Nat) (ok : Bool) (corr unc : Nat) (h : FlitHdr) (ids : List Nat) (msgs : List Msg) : State × List Msg :=
  let s0 := ((s.bump F.ML_FEC_CNT_CORR (dLink m) corr).bump F.ML_ERR_CNT2_FEC_UNCORR (dLink m) unc).count (bankOfLink m) 6 (m % 2) 0 corr
  if s.mlState m ≠ mlUpSt then (s0, [])
  else if !ok || decide (0 < unc) then
    (((s0.bump F.ML_ERR_CNT0_CRC_FAIL (dLink m) 1).count (bankOfLink m) 5 (m % 2) 0 1).nakPending m, [])
  else if 2 < h.ftype ∨ (9 ≤ h.crpool ∧ h.crpool ≤ 14) then (s0.mlFault m 136, [])
  else
    match (if h.ackv then s0.ackTake m h.ack else some s0) with
    | none => (s0.mlFault m 136, [])
    | some s1 =>
      let s2 := if h.nak then s1.nakTake m h.ack else s1
      let s3 := if h.crpool ≤ 8 then (s2.setLink m fun l => { l with returned := l.returned.set h.crpool h.crtot }).syncCred m else s2
      if s3.mlState m ≠ mlUpSt then (s3, [])
      else if h.ftype = 1 then s3.dataRx m h ids msgs
      else (s3, [])

/-! ### Sending a flit (R161, R165, R168 to R170, R203, R204) -/

/-- The largest number of unacknowledged flits (R163). -/
def State.window (s : State) (m : Nat) : Nat := if s.on F.ML_LINK_CFG_SPILL_EN (dLink m) then 67584 else 2048

/-- Whether the spill area accepts the write that a new flit would cause (R170). -/
def State.spillOk (s : State) (m : Nat) : Bool :=
  let on := (s.link m).unacked.filter (·.kept == .die)
  decide (on.length < 2048) || s.sysOk (spillAddr m ((on.head?.map (·.seq)).getD 0))

/-- The credit pool a flit of a VC takes, if any (R169). -/
def State.poolFor (s : State) (m v : Nat) : Option Nat :=
  if 0 < s.credit m v then some v else if 0 < s.credit m 8 then some 8 else none

/-- Entries of a list before the first of a VC. -/
def beforeVc (v : Nat) : List TxMsg → List TxMsg
  | [] => []
  | e :: es => if e.vc = v then [] else e :: beforeVc v es

/-- Whether the VC may send a new DATA flit: a message waits, a credit is there, a message that begins finds a place in the
crossing table, and no earlier posted message of IOP waits for credit before IONP and IOC (R168, R169, R178). -/
def State.vcReady (s : State) (m v : Nat) : Bool :=
  match (s.link m).txq.find? fun e => e.vc == v with
  | none => false
  | some e =>
    (s.poolFor m v).isSome && !(expects e.msg && e.left == 1 + e.msg.body && decide (65536 ≤ (s.link m).xt.length)) &&
      !((v == 6 || v == 7) && (s.poolFor m 5).isNone && (beforeVc v (s.link m).txq).any fun x => x.vc == 5)

/-- The choice of an arbiter under the seniority rule (R203): candidates as (number, stamp), from the pointer on; the choice and
whether it was by pointer. -/
def arbChoose (now thr : Nat) (en : Bool) (ptr n : Nat) (c : List (Nat × Nat)) : Option (Nat × Bool) :=
  let order := c.foldl (fun l x => insertBy (fun p q => decide ((p.1 + n - ptr % n) % n < (q.1 + n - ptr % n) % n)) x l) []
  let sen := if en then order.filter fun x => decide (thr < now - x.2) else []
  match sen with
  | x :: xs => some ((xs.foldl (fun b y => if y.2 < b.2 then y else b) x).1, false)
  | [] => order.head?.map fun x => (x.1, true)

/-- The VC of the next new DATA flit (R204). -/
def State.vcChoice (s : State) (m : Nat) : Option (Nat × Bool) :=
  let c := ((List.range 8).filter (s.vcReady m)).map fun v =>
    (v, (((s.link m).txq.filter fun e => e.vc == v).map (·.msg.stamp)).foldl min s.tim.num)
  arbChoose s.tim.num (s.get F.SOLE_SEN_VC_THR (4 * m)) (s.on F.SOLE_SEN_VC_EN (4 * m) && s.on F.SOLE_MATCH_CTL_SEN_EN 0)
    (s.link m).vcPtr 8 c

/-- Up to `n` slots of a VC taken from the queue: the queue left, and the messages with bytes in the flit, with whether each
begins in it (R161). -/
def takeSlots (v : Nat) : Nat → List TxMsg → List TxMsg × List (Msg × Bool)
  | _, [] => ([], [])
  | n, e :: es =>
    if e.vc ≠ v ∨ n = 0 then
      let r := takeSlots v n es
      (e :: r.1, r.2)
    else if e.left ≤ n then
      let r := takeSlots v (n - e.left) es
      (r.1, (e.msg, e.left == 1 + e.msg.body) :: r.2)
    else
      let r := takeSlots v 0 es
      ({ e with left := e.left - n } :: r.1, (e.msg, e.left == 1 + e.msg.body) :: r.2)

/-- The fields every flit carries: ACK, NAK and a credit report, rotating over the pools (R164, R165, R169). -/
def State.flitHead (s : State) (m ty : Nat) : FlitHdr :=
  let l := s.link m
  { ftype := ty, ackv := l.rxAny, nak := l.nakPend, rpl := false, shcr := false, seq := l.nextSeq,
    ack := (l.expSeq + seqMod - 1) % seqMod, vc := 0, plen := 0, crpool := l.rot, crtot := l.freed.getD l.rot 0 }

/-- A flit has been sent: the report rotates and the flits are counted. -/
def State.flitSent (s : State) (m : Nat) (h : FlitHdr) (ms : List Msg) : State :=
  (s.send (.flit m h ms)).setLink m fun l => { l with rot := (l.rot + 1) % 9, flits := (l.flits + 1) % 64 }

/-- The on-die buffer holds the newest 2,048 flits: the oldest there is spilled (R170). DEDUCED (log entry 21). -/
def State.spill (s : State) (m : Nat) : State :=
  let on := (s.link m).unacked.filter (·.kept == .die)
  if on.length ≤ 2048 then s
  else match on with
    | f :: _ =>
      (s.setLink m fun l => { l with unacked := l.unacked.map fun x => if x.seq == f.seq then { x with kept := .spilled } else x }).svcAdd 7
        (spillAddr m f.seq)
    | [] => s

/-- A new DATA flit of a VC (R161, R163, R169, R170, R178). -/
def State.dataTx (s : State) (m v : Nat) (byPtr : Bool) : State :=
  let pool := (s.poolFor m v).getD 8
  let r := takeSlots v 15 (s.link m).txq
  let used := (((s.link m).txq.map (·.left)).sum) - ((r.1.map (·.left)).sum)
  let h := { s.flitHead m 1 with shcr := pool == 8, vc := v, plen := used }
  let begun := (r.2.filter fun e => e.2 && expects e.1).map fun e => e.1
  let s1 := s.flitSent m h (r.2.map (·.1))
  let s2 := s1.setLink m fun l =>
    { l with txq := r.1, nextSeq := (l.nextSeq + 1) % seqMod, unacked := l.unacked ++ [⟨h.seq, v, h.shcr, r.2.map (·.1), .die⟩],
             consumed := l.consumed.set pool ((l.consumed.getD pool 0 + 1) % seqMod),
             xt := l.xt ++ begun.map (fun x => ⟨x, x.via, false⟩),
             vcPtr := if byPtr then (v + 1) % 8 else l.vcPtr }
  let s3 := if (s.link m).unacked.isEmpty then s2.replayTimer m else s2
  let s4 := s3.each (r.2.filter (·.2)) fun t e => t.count (bankOfLink m) 2 (m % 2) e.1.slice ((bodyBytes e.1 + 63) / 64)
  ((s4.spill m).syncLink m).syncCred m

/-- The control messages due at this flit boundary (R174): those queued once, those repeated, and in INIT and RETRAIN the INIT
message with its CRED messages. DEDUCED (log entry 21). -/
def State.ctlDue (s : State) (m : Nat) : List (Nat × Nat) :=
  let l := s.link m
  let per64 := l.flits == 0
  let lace := match l.pendSet with
    | some v => (if l.laceOwn && !l.unlacing && !l.laceTx && per64 then [(5, v * 256 + l.laceTag * 4096)] else []) ++
        (if l.laceTx && per64 then [(6, v * 256 + l.laceTag * 4096)] else []) ++
        (if l.laceOwn && l.unlacing && per64 then [(7, v * 256 + l.laceTag * 4096)] else [])
    | none => []
  let rep := l.rep.filter fun e => decide (s.tim.bnd < e.2.2) && (e.1 == 0x0A || per64)
  l.lctl ++ lace ++ rep.map (fun e => (e.1, e.2.1))

/-- The INIT message of a link (R174). -/
def State.initMsg (s : State) (m : Nat) : InitMsg :=
  let l := s.link m
  { fabric := s.get F.GLB_FABRIC_ID_ID 0, sw := s.ownSw, ml := m, resume := s.mlState m != mlInit, seen := l.seen, rxok := s.rxok m,
    lset := l.chosen, nonce := l.nonce, session := s.session m, e := l.expSeq }

/-- An LCTL flit. -/
def State.lctlTx (s : State) (m : Nat) (due : List (Nat × Nat)) : State :=
  let s1 := (s.flitSent m (s.flitHead m 2) []).setLink m fun l => { l with lctl := l.lctl.drop (min 15 l.lctl.length) }
  let s2 := s1.each (due.take 15) fun t e => t.send (.lctl m e.1 e.2)
  if s.mlState m = mlInit ∨ s.mlState m = mlRetrainSt then
    let s3 := s2.send (.init m (s.initMsg m))
    if s.mlState m = mlInit then
      s3.each (List.range 9) fun t p => t.send (.lctl m 3 (p + 16 * t.get F.ML_CRED_CFG_SIZE (dLink m + 4 * p)))
    else s3
  else s2

/-- The next flit of a replay: a flit kept in the spill area waits for its read (R165, R170). -/
def State.replayTx (s : State) (m : Nat) (f : TxFlit) : State :=
  let h := { s.flitHead m 1 with rpl := true, seq := f.seq, vc := f.vc, shcr := f.shared }
  (s.flitSent m h f.msgs).setLink m fun l => { l with replaying := l.replaying.filter (· != f.seq) }

/-- A flit boundary: a replay due, a control flit due, a new DATA flit, or IDLE (R163, R204). -/
def State.flitTx (s : State) (m : Nat) : State :=
  let st := s.mlState m
  if st < mlInit ∨ mlRetrainSt < st then s
  else
    let next := (s.link m).unacked.find? fun f => (s.link m).replaying.contains f.seq
    let due := s.ctlDue m
    let other : State :=
      if !due.isEmpty || st != mlUpSt then s.lctlTx m due
      else if next.isNone && decide ((s.link m).unacked.length < s.window m) && s.spillOk m then
        match s.vcChoice m with
        | some (v, p) => s.dataTx m v p
        | none => s.flitSent m (s.flitHead m 0) []
      else s.flitSent m (s.flitHead m 0) []
    match next with
    | some f =>
      if st = mlUpSt ∧ f.kept ≠ .spilled then s.replayTx m f
      else if st = mlUpSt ∧ f.kept = .spilled then other.svcAdd 1 (spillAddr m f.seq)
      else other
    | none => other

/-! ### What reaches a link's egress (R177 to R180) -/

/-- Room of a link's egress for a message: none in RETRAIN, nor while its route waits; the transmit queue holds 32 cells. -/
def State.linkRoom (s : State) (m : Nat) (x : Msg) : Bool :=
  let st := s.mlState m
  if st = mlUpSt then
    (isResp x.op || !s.linkHolds x.dstSw) && decide (((s.link m).txq.map fun e => cellsOf e.msg).sum + cellsOf x ≤ 32)
  else st != mlRetrainSt

/-- A message whose last cell has reached the link: queued for sending, or completed as in a flush. A response whose request's session
has ended is discarded (R180). -/
def State.linkDeliver (s : State) (m : Nat) (x : Msg) : State :=
  let st := s.mlState m
  if isResp x.op && !(s.link m).inb.contains x.id then s.rspDiscard m x
  else if st = mlUpSt ∨ st = mlRetrainSt then
    s.setLink m fun l =>
      { l with txq := l.txq ++ [⟨vcOf x, { x with hops := x.hops + (if isResp x.op then 0 else 1) }, 1 + x.body⟩]
               inb := if isResp x.op then l.inb.erase x.id else l.inb }
  else s.flushAnswer m x

/-! ### The handshake (R175) -/

/-- Whether the INIT shows a wrong peer (R175). -/
def State.peerMismatch (s : State) (m : Nat) (i : InitMsg) : Bool :=
  i.fabric != s.get F.GLB_FABRIC_ID_ID 0 || i.sw == s.ownSw ||
    (List.range 8).any fun k => k != m && s.on F.ML_PEER_VALID (dLink k) && s.get F.ML_PEER_FAR_SWITCH (dLink k) == i.sw &&
      s.get F.ML_PEER_FAR_ML (dLink k) == i.ml

/-- Entry to UP on a set (R172, R175): a fresh INIT opens the leader's session, a resume replays from the far side's E. -/
def State.mlEnterUp (s : State) (m set : Nat) (i : InitMsg) : State :=
  let lead := decide (s.ownSw < i.sw)
  let s1 := ((s.put F.ML_PEER_FAR_SWITCH (dLink m) i.sw).put F.ML_PEER_FAR_ML (dLink m) i.ml).put F.ML_PEER_VALID (dLink m) 1
  let s2 :=
    if s.mlState m = mlInit then
      s1.put F.ML_LINK_STATUS_SESSION (dLink m) (if lead then (s.link m).nonce else i.nonce)
    else
      (s1.bump F.ML_FLUSH_CNT_RESUMES (dLink m) 1).setLink m fun l =>
        { l with grace := none, replaying := l.unacked.map (·.seq), retried := none }
  let s3 := ((s2.mlTo m mlUpSt set).setLink m fun l => { l with lctl := [], attempt := none, initRetry := none }).replayTimer m
  let s4 := if lead then s3 else s3.send (.init m { s.initMsg m with seen := true, lset := set })
  ((((s4.syncCred m).routeMismatch m).each (s4.altOf m) fun t w => t.altUp w).each (s4.primaryOf m) fun t w => t.routeBack w)

/-- The two sides' roles in an INIT that agrees with this side (R175). -/
def State.handshake (s : State) (m : Nat) (i : InitMsg) : State :=
  let lead := decide (s.ownSw < i.sw)
  let own := s.rxok m
  let s1 := (s.put F.ML_LINK_STATUS_LEADER (dLink m) (bit lead)).setLink m fun l => { l with seen := true, farRx := i.rxok }
  if lead then
    let pick := (widestSet (Nat.land own i.rxok) (s.minWidth m)).getD 15
    let s2 := s1.setLink m fun l => { l with chosen := pick }
    if i.seen && pick != 15 && i.lset == pick then s2.mlEnterUp m pick i else s2
  else
    let s2 := s1.setLink m fun l => { l with chosen := i.lset }
    if i.seen && setWithin i.lset own (s.minWidth m) then s2.mlEnterUp m i.lset i else s2

/-- An INIT message arrives (R172, R175, R177). -/
def State.initRx (s : State) (m : Nat) (i : InitMsg) : State :=
  let st := s.mlState m
  if st = mlInit then
    if (s.link m).initRetry.isSome || i.resume then s
    else if s.peerMismatch m i then (s.setLink m fun l => { l with initRetry := some (s.after 1024) }).occ 160 m
    else s.handshake m i
  else if st = mlRetrainSt then
    if s.dueO (s.link m).grace then s
    else if !i.resume || i.session != s.session m then s.mlFlush m
    else match s.ackTake m ((i.e + seqMod - 1) % seqMod) with
      | some s1 => s1.handshake m i
      | none => s.occ 136 m
  else if st = mlUpSt then
    if s.ownSw < i.sw then s else s.send (.init m { s.initMsg m with seen := true, lset := s.lset m })
  else s

/-- The retry after a peer mismatch (R172). -/
def State.initRetryEnd (s : State) (m : Nat) : State :=
  if s.mlState m = mlInit ∧ s.dueO (s.link m).initRetry then s.mlFreshInit m else s

/-- LINKDOWN arrives (R172). -/
def State.linkdownRx (s : State) (m : Nat) : State := s.mlDown m

/-! ### Lane markers (R159) -/

/-- A lane marker arrives on a lane in DATA, `skew` ns after the first of its count: the lane is deskewed, or the skew is beyond 16 ns. -/
def State.laneMarker (s : State) (m l gcnt skew : Nat) : State :=
  if s.mlaneState m l ≠ lsData then s
  else if 16 < skew then
    let s1 := (s.setLink m fun x => { x with deskewed := x.deskewed.filter (· != l), gcnt := gcnt }).syncRx m
    (s1.occ 128 m).mlRetrain m (128 + m)
  else
    let s1 := (s.setLink m fun x => { x with deskewed := if x.deskewed.contains l then x.deskewed else x.deskewed ++ [l], gcnt := gcnt }).syncRx m
    s1.mlTryInit m

/-! ### Lace and unlace (R181 to R183) -/

/-- Why a target set is refused, zero for none (R183). -/
def State.laceCheck (s : State) (m v : Nat) (un : Bool) : Nat :=
  let cur := setLanes (s.lset m)
  let tgt := setLanes v
  let sup := cur.all (fun l => tgt.contains l) && decide (cur.length < tgt.length)
  let sub := tgt.all (fun l => cur.contains l) && decide (tgt.length < cur.length) && decide (0 < tgt.length)
  if s.mlState m ≠ mlUpSt then 4
  else if !(if un then sub else sup) then 1
  else if tgt.length < s.minWidth m then 2
  else if (s.lanesAt m tgt).any fun l => (s.lane (bankOfLink m) l).fenced then 3
  else 0

/-- A lace or unlace begins on this side. -/
def State.laceBegin (s : State) (m v tag : Nat) (un own : Bool) : State :=
  let s1 := ((s.put F.ML_LACE_STATUS_STATE (dLink m) 1).put F.ML_LACE_STATUS_ERR (dLink m) 0).put F.ML_LACE_STATUS_TAG (dLink m) tag
  let s2 := s1.setLink m fun l =>
    { l with pendSet := some v, laceTag := tag, laceTo := if un then none else some (s.after 4096), laceTx := false, laceRx := false,
             unlacing := un, laceOwn := own, flits := 0 }
  if un then s2 else s2.lanesTrain (bankOfLink m) (s2.lanesAt m (s2.addedLanes m))

/-- The link takes its new set; dropped lanes go to IDLE (R181, R182). -/
def State.laceSwitch (s : State) (m v : Nat) : State :=
  let drop := (setLanes (s.lset m)).filter fun l => !(setLanes v).contains l
  let s1 := (s.put F.ML_LINK_STATUS_LSET (dLink m) v).setLink m fun l => { l with deskewed := l.deskewed.filter fun x => !drop.contains (s.linkLane m x) }
  ((s1.lanesIdle (bankOfLink m) (s.lanesAt m drop)).syncRx m).laceEnd m 2 0

/-- The receiver holds every added lane: LACE_READY is due, and the switch once it has been sent and received (R181). -/
def State.laceStep (s : State) (m : Nat) : State :=
  match (s.link m).pendSet with
  | none => s
  | some v =>
    if (s.link m).unlacing then s
    else
      let mine := (s.addedLanes m).all fun l => (s.rxok m).testBit l
      let s1 := if mine && !(s.link m).laceTx then s.setLink m fun l => { l with laceTx := true, flits := 0 } else s
      if mine && (s.link m).laceRx then (s1.send (.lctl m 6 (v * 256 + (s.link m).laceTag * 4096))).laceSwitch m v else s1

/-- A write of ML_LACE_CTL with GO starts CMD toward TGT_LSET, or is refused (R181 to R183). -/
def State.laceWrite (s : State) (m : Nat) (v : Word) : State :=
  let d := dLink m
  let s1 := s.storeAt (R.ML_LACE_CTL + d) v
  let cmd := s1.get F.ML_LACE_CTL_CMD d
  if F.ML_LACE_CTL_GO.of v = 0 ∨ cmd = 0 then s1
  else
    let tgt := s1.get F.ML_LACE_CTL_TGT_LSET d
    let un := cmd == 2
    if (s1.link m).pendSet.isSome then (s1.put F.ML_LACE_STATUS_ERR d 5).event clsLink 5 m 3 (s1.get F.ML_LACE_STATUS_STATE d + 80)
    else
      let e := s1.laceCheck m tgt un
      if e ≠ 0 then s1.laceEnd m 3 e else s1.laceBegin m tgt ((s1.link m).laceTag + 1 - 16 * (((s1.link m).laceTag + 1) / 16)) un true

/-- LSET, TAG and REASON of a control message (R174). -/
def ctlSet (a : Nat) : Nat := a / 256 % 16
def ctlTag (a : Nat) : Nat := a / 4096 % 16
def ctlReason (a : Nat) : Nat := a / 2 ^ 20 % 16

/-- LACE_REQ arrives (R181, R183). -/
def State.laceReq (s : State) (m arg : Nat) : State :=
  let v := ctlSet arg
  let tag := ctlTag arg
  let lead := s.on F.ML_LINK_STATUS_LEADER (dLink m)
  let refuse (t : State) (r : Nat) : State := t.repeatCtl m 9 (tag * 4096 + r * 2 ^ 20) 16
  if (s.link m).pendSet = some v ∧ (s.link m).laceTag = tag ∧ !(s.link m).unlacing ∧ !(s.link m).laceOwn then s
  else if (s.link m).pendSet = some v ∧ (s.link m).laceTag = tag ∧ !(s.link m).unlacing ∧ lead then s
  else if (s.link m).pendSet.isSome then
    if (s.link m).laceOwn && !lead then
      let s1 := s.laceFail m 6
      let e := s1.laceCheck m v false
      if e = 0 then s1.laceBegin m v tag false false else refuse s1 e
    else refuse s (if (s.link m).laceOwn then 6 else 5)
  else
    let e := s.laceCheck m v false
    if e = 0 then s.laceBegin m v tag false false else refuse s e

/-- LACE_READY arrives. -/
def State.laceReady (s : State) (m arg : Nat) : State :=
  if (s.link m).pendSet = some (ctlSet arg) ∧ (s.link m).laceTag = ctlTag arg ∧ !(s.link m).unlacing then
    (s.setLink m fun l => { l with laceRx := true }).laceStep m
  else s

/-- The lace has not switched within 4,096 stitches: the initiator aborts (R181). -/
def State.laceTimeout (s : State) (m : Nat) : State :=
  if s.dueO (s.link m).laceTo ∧ (s.link m).laceOwn then (s.laceFail m 7).repeatCtl m 9 ((s.link m).laceTag * 4096 + 7 * 2 ^ 20) 16 else s

/-- LACE_ABORT arrives. -/
def State.laceAbort (s : State) (m arg : Nat) : State :=
  if (s.link m).pendSet.isSome ∧ (s.link m).laceTag = ctlTag arg then s.laceFail m (ctlReason arg) else s

/-- UNLACE_REQ arrives: answered once per copy, and followed at the next group (R182, R183). -/
def State.unlaceReq (s : State) (m arg : Nat) : State :=
  let v := ctlSet arg
  let tag := ctlTag arg
  let lead := s.on F.ML_LINK_STATUS_LEADER (dLink m)
  let answer (t : State) (r : Nat) : State :=
    t.setLink m fun l => { l with lctl := l.lctl ++ [(8, v * 256 + tag * 4096 + (if r = 0 then 0 else 65536) + r * 2 ^ 20)] }
  if s.mlState m = mlUpSt ∧ s.lset m = v ∧ s.get F.ML_LACE_STATUS_TAG (dLink m) = tag then answer s 0
  else if (s.link m).pendSet.isSome && !((s.link m).laceOwn && !lead) then answer s (if (s.link m).laceOwn then 6 else 5)
  else
    let s1 := if (s.link m).pendSet.isSome then s.laceFail m 6 else s
    let e := s1.laceCheck m v true
    if e ≠ 0 then answer s1 e else ((answer s1 0).laceBegin m v tag true false).laceSwitch m v

/-- UNLACE_ACK arrives (R182, R183). -/
def State.unlaceAck (s : State) (m arg : Nat) : State :=
  if (s.link m).unlacing ∧ (s.link m).laceOwn ∧ (s.link m).laceTag = ctlTag arg then
    if arg / 65536 % 2 = 1 then s.laceEnd m 3 (ctlReason arg) else s.laceSwitch m (ctlSet arg)
  else s

/-- AUTO_LACE at a boundary: an UP link whose further lanes are back in DATA, not fenced and without a sticky bit, widens (R176, R188).
DEDUCED (log entry 21). -/
def State.autoLace (s : State) (m : Nat) : State :=
  if s.mlState m = mlUpSt ∧ s.on F.ML_LINK_CTL_AUTO_LACE (dLink m) ∧ (s.link m).pendSet = none then
    let b := bankOfLink m
    let fit (v : Nat) : Bool :=
      s.laceCheck m v false == 0 && (setLanes v).all fun l =>
        let i := 16 * b + bankLane m (s.linkLane m l)
        (setLanes (s.lset m)).contains l ||
          (s.mlaneState m (s.linkLane m l) == lsData && !s.sticky (1280 + i) && !s.sticky (1600 + i) && !s.sticky (1920 + i))
    match (List.range 15).find? fit with
    | some v => s.laceBegin m v (((s.link m).laceTag + 1) % 16) false true
    | none => s
  else s

/-! ### Commands of the link (R188) and fences (R172, R437) -/

/-- A write of ML_LINK_CMD: RETRAIN of an UP link, and DISABLE (R172). -/
def State.mlCmdWrite (s : State) (m : Nat) (v : Word) : State :=
  let d := dLink m
  let was := s.on F.ML_LINK_CMD_DISABLE d
  let s1 := s.storeAt (R.ML_LINK_CMD + d) v
  let now := s1.on F.ML_LINK_CMD_DISABLE d
  let s2 := if F.ML_LINK_CMD_RETRAIN.of v = 1 then s1.mlRetrain m 0xFF else s1
  if !was && now then
    let s3 := s2.mlDown m
    let st := s3.mlState m
    if st = mlRetrainSt then s3.mlFlush m
    else if st = mlTrain ∨ st = mlInit then s3.mlStart m
    else s3
  else if was && !now && s2.mlState m == mlDisabled then s2.mlStart m
  else s2

/-- The bank of a link is READY (R172). -/
def State.mlBankReady (s : State) (m : Nat) : State :=
  if s.mlState m = mlDisabled ∧ !s.on F.ML_LINK_CMD_DISABLE (dLink m) then s.mlStart m else s

/-- A fence reaction on a link: FLUSH, then FENCED (R172). -/
def State.mlFence (s : State) (m : Nat) : State :=
  let s1 := s.setLink m fun l => { l with fenceHeld := true }
  let s2 := if (s1.link m).pendSet.isSome then s1.laceFail m 4 else s1
  if s.mlState m = mlFlushSt ∨ s.mlState m = mlFenced then s2 else s2.mlFlush m

/-- The release of a fenced link (R172). -/
def State.mlRelease (s : State) (m : Nat) : State :=
  let s1 := s.setLink m fun l => { l with fenceHeld := false }
  if s.mlState m = mlFenced then s1.mlStart m else s1

/-- A family change takes both links of the bank down and retunes the PLL for 150 stitches (R103). -/
def State.familyWrite (s : State) (b : Nat) (v : Word) : State :=
  let was := s.get F.LB_BANK_CTL_FAMILY (dBank b)
  let s1 := s.storeAt (R.LB_BANK_CTL + dBank b) v
  if isMornu b && s1.get F.LB_BANK_CTL_FAMILY (dBank b) != was && s.bankState b == 3 then
    let s2 := (s1.put F.LB_BANK_STATUS_PLL_LOCK_A (dBank b) 0).setBank b fun x => { x with family := some (s.after 150) }
    let s3 := s2.bankLanesIdle b
    let rate := if s1.get F.LB_BANK_CTL_FAMILY (dBank b) = 0 then 0 else 1
    s3.each [2 * (b - 16), 2 * (b - 16) + 1] fun t m => (t.put F.ML_LINK_STATUS_RATE (dLink m) rate).mlLanesLost m
  else s1

/-- The retuned PLL locks: both links train again (R103). -/
def State.familyDone (s : State) (b : Nat) : State :=
  if s.reachedO (s.bank b).family then
    let s1 := (s.put F.LB_BANK_STATUS_PLL_LOCK_A (dBank b) 1).setBank b fun x => { x with family := none }
    s1.each [2 * (b - 16), 2 * (b - 16) + 1] fun t m =>
      if t.mlState m = mlTrain then t.mlTrainOn m 0
      else if t.mlState m = mlRetrainSt then t.lanesTrain b ((List.range 8).map (bankLane m))
      else t
  else s

end Sys2Proof.Machine
end

