-- ==== Sys2Proof/Machine/Crossbar.lean ====
section
/-!
DEFINITION. One cell time of the Sole: the schedulers' candidate sets and charges (spec/08 R219 to R229), the four matchings in flight
(spec/07 R198 to R203), the transfer of cells, their errors (R197), the DevLoad of leaving responses (R207), and the forwarding of
complete messages (R190).
-/
namespace Sys2Proof.Machine
open Sys2Proof

/-- A list without repeats, the first of each kept. -/
def dedupNat (l : List Nat) : List Nat := l.foldl (fun a x => if a.contains x then a else a ++ [x]) []

/-! ### Candidate sets (R219 to R223) -/

/-- Whether a message still has cells to cross. -/
def Queued.open? (x : Queued) : Bool := decide (x.sent < x.cells)

/-- The queues of an egress agent that hold cells, by index. -/
def State.busyQueues (s : State) (a : Nat) : List Nat :=
  (s.sole.buf.filter fun x => x.egress == a && x.open?).foldl (fun l x => insNat l x.qidx) []

/-- The oldest message of a queue. -/
def State.headOf (s : State) (q : Nat) : Option Queued := s.sole.buf.find? fun x => x.qidx == q && x.open?

/-- Whether a queue is shaper-permitted: the pair is that of the message's own slice (R214, R228). -/
def State.qPermitted (s : State) (q : Nat) : Bool :=
  match s.headOf q with
  | some x => s.permitted x.msg.slice x.egress
  | none => false

def State.qPrio (s : State) (q : Nat) : Nat := s.get F.SCHED_QCFG_PRIO (ent q)
def State.qWeight (s : State) (q : Nat) : Nat := s.get F.SCHED_QCFG_WEIGHT (ent q)
def State.egrModeF (s : State) (a : Nat) : Bool := s.on F.SCHED_EGR_CFG_MODE (0x20 * a)

/-- The turn of a queue that reaches one of the first four positions begins (R220). -/
def State.beginTurn (s : State) (q : Nat) : State :=
  if (s.queue q).inTurn then s
  else s.setQueue q fun x => { x with inTurn := true, deficit := x.deficit + (s.qWeight q * 1024 : Nat) }

/-- The service list of an egress in Mode S, brought up to date (R220). DEDUCED (log entry 24). -/
def State.refreshS (s : State) (a : Nat) : State :=
  let ok := (s.busyQueues a).filter fun q => s.qPermitted q && s.qPrio q == 4
  let old := s.sole.lists.getD a []
  let kept := old.filter ok.contains
  let spent := kept.filter fun q => (s.queue q).inTurn && decide ((s.queue q).deficit ≤ 0)
  let fresh := ok.filter fun q => !old.contains q
  let list := (kept.filter fun q => !spent.contains q) ++ spent ++ fresh
  let s1 := s.each (old.filter (fun q => !ok.contains q) ++ fresh) fun t q => t.setQueue q fun x => { x with deficit := 0, inTurn := false }
  let s2 := s1.each spent fun t q => t.setQueue q fun x => { x with inTurn := false }
  (s2.setSole fun o => { o with lists := o.lists.set a list }).each (list.take 4) fun t q => t.beginTurn q

/-- The window of the comparisons of Mode F (R222). -/
def mod48 : Nat := 2 ^ 48

/-- The later of two times modulo 2^48. DEDUCED (log entry 24). -/
def later48 (a b : Nat) : Nat := if (a + mod48 - b % mod48) % mod48 < 2 ^ 47 then a else b

/-- The distance of a time from another, signed, modulo 2^48. -/
def dist48 (a b : Nat) : Int := signed 48 ((a + mod48 - b % mod48) % mod48)

/-- The virtual time of an egress. -/
def State.vtime (s : State) (a : Nat) : Nat :=
  s.get F.SCHED_EGR_VT_LO_V (0x20 * a) + s.get F.SCHED_EGR_VT_HI_V (0x20 * a) * 2 ^ 32

def State.setVtime (s : State) (a v : Nat) : State :=
  (s.put F.SCHED_EGR_VT_LO_V (0x20 * a) v).put F.SCHED_EGR_VT_HI_V (0x20 * a) (v / 2 ^ 32)

/-- The service time of a counted length under a weight, rounded up. -/
def serviceTime (len w : Nat) : Nat := (len * 65536 + (w - 1)) / w

/-- The finish time of a queue that starts its head message at `st`. -/
def State.finishOf (s : State) (q st : Nat) : Nat :=
  match s.headOf q with
  | some x => (st + serviceTime (s.countedLen x.egress x.msg) (s.qWeight q)) % mod48
  | none => st

/-- The start and finish times of the queues of an egress in Mode F, and its virtual time, brought up to date (R222). DEDUCED (log entry 24). -/
def State.refreshF (s : State) (a : Nat) : State :=
  let busy := s.busyQueues a
  let v := s.vtime a
  let gone := (s.sole.queues.filter fun e => queueEgress e.1 == a && e.2.inTurn && !busy.contains e.1).map (·.1)
  let s1 := s.each gone fun t q => t.setQueue q fun x => { x with inTurn := false, blocked := false, idleSince := s.tim.num }
  let s2 := s1.each busy fun t q =>
    let x := t.queue q
    if x.inTurn then
      if t.qPermitted q then (if x.blocked then t.setQueue q fun x => { x with blocked := false, start := later48 v x.start } else t)
      else t.setQueue q fun x => { x with blocked := true }
    else
      let st := if 1024 < s.tim.num - x.idleSince then v else later48 v x.fLast
      let fin := t.finishOf q st
      t.setQueue q fun x => { x with inTurn := true, blocked := !t.qPermitted q, start := st, finish := fin }
  match (busy.filter s2.qPermitted).map fun q => (s2.queue q).start with
  | [] => s2
  | x :: xs =>
    let mn := xs.foldl (fun m y => if later48 m y = m then y else m) x
    s2.setVtime a (later48 v mn)

/-- The candidate set of an egress (R221, R223). -/
def State.candidates (s : State) (a : Nat) : List Nat :=
  let ok := (s.busyQueues a).filter s.qPermitted
  if s.egrModeF a then
    let v := s.vtime a
    let ripe := ok.filter fun q => decide (dist48 (s.queue q).start v ≤ 0)
    let before (p q : Nat) : Bool := decide (dist48 (s.queue p).finish v < dist48 (s.queue q).finish v) ||
      (decide (dist48 (s.queue p).finish v = dist48 (s.queue q).finish v) && decide (p < q))
    (ripe.foldl (fun l q => insertBy before q l) []).take 8
  else
    match (List.range 4).find? fun l => ok.any fun q => s.qPrio q == l with
    | some l => ok.filter fun q => s.qPrio q == l
    | none => (s.sole.lists.getD a []).take 4

/-- Every scheduler recomputes its candidate set (R219); queues blocked only by a shaper are counted. -/
def State.refreshAll (s : State) : State :=
  let agents := (s.sole.buf.map (·.egress) ++ s.sole.lists.map (·.1) ++ (s.sole.queues.map fun e => queueEgress e.1)).foldl (fun l a => insNat l a) []
  let s1 := s.each agents fun t a => if t.egrModeF a then t.refreshF a else t.refreshS a
  s1.each (agents.flatMap s1.busyQueues) fun t q =>
    if s1.qPermitted q then t else t.count cbSched 3 (queueEgress q) (q / 2048) 1

/-- The rank of a queue among those with reserved cells at an ingress: level, then place in the list, or finish time. A queue that has
left the set comes last (R219, R221, R223). -/
def State.schedRank (s : State) (a q : Nat) : Nat :=
  if s.egrModeF a then (dist48 (s.queue q).finish (s.vtime a) + (2 ^ 47 : Nat)).toNat
  else if s.qPrio q < 4 then s.qPrio q
  else
    let l := s.sole.lists.getD a []
    4 + (if l.contains q then l.idxOf q else l.length)

/-- The charge of a message when its first cell is chosen (R219, R220, R222, R228, R452). DEDUCED (log entry 48). -/
def State.chargeQueue (s : State) (x : Queued) : State :=
  let a := x.egress
  let q := x.qidx
  let len := s.countedLen a x.msg
  let s1 := (((s.chargeShapers x.msg.slice a len).count cbSched 7 a x.msg.slice (units64 len)).account x.msg.slice 2 1).account x.msg.slice 3 len
  if s.egrModeF a then
    let wb := ((s.busyQueues a).map s.qWeight).sum
    let s2 := s1.setVtime a ((s.vtime a + serviceTime len wb) % mod48)
    let next := s.sole.buf.find? fun y => y.qidx == q && y.sent == 0 && y.msg.id != x.msg.id
    s2.setQueue q fun k =>
      match next with
      | some y => { k with fLast := k.finish, start := k.finish,
                           finish := (k.finish + serviceTime (s.countedLen a y.msg) (s.qWeight q)) % mod48 }
      | none => { k with fLast := k.finish }
  else if s.qPrio q < 4 then s1
  else s1.setQueue q fun k => { k with deficit := k.deficit - (len : Nat) }

/-! ### Requests (R199) -/

/-- A message of the buffer with a change. -/
def State.updBuf (s : State) (p : Queued → Bool) (f : Queued → Queued) : State :=
  s.setSole fun o => { o with buf := o.buf.map fun x => if p x then f x else x }

/-- Whether an entry of the buffer is the one a request names. -/
def MReq.names (r : MReq) (x : Queued) : Bool := x.msg.id == r.msgId && x.egress == r.agent && x.xin == r.i

/-- Room of an egress agent for one cell more than those reserved to it (R34, R199); a slice whose waiting places are all in use has none
for requests (R257), a held port whose inbound message queue is full none for posted writes (spec/13 R369). DEDUCED (log entry 22). -/
def State.egressRoom (s : State) (x : Queued) : Bool :=
  let a := x.egress
  let res := (s.sole.buf.filter fun y => y.egress == a).foldl (fun n y => n + y.reserved) 0
  if a < 64 then s.portRoom a x.msg
  else if a < 72 then s.linkRoom (a - 64) x.msg
  else if 76 ≤ a && a ≤ 79 && isReq x.msg && s.on F.HA_WAIT_STATUS_FULL (dHome (a - 76)) then false
  else if a = 80 ∧ x.msg.op = .mWr ∧ 1024 ≤ x.msg.sid ∧ 256 ≤ (s.vmp.inq.filter fun e => e.port + 1024 == x.msg.sid).length then false
  else decide (((s.sole.crossing.filter fun e => e.1 == a).map fun e => cellsOf e.2).sum + res < 16)

/-- Whether a cell of a message is eligible: its queue's state on the die, no earlier message of its ingress list waiting unreserved, and
the message begun or its queue a candidate that the shapers permit (R191, R199, R216, R219). DEDUCED (log entry 22). -/
def State.eligible (s : State) (x : Queued) : Bool :=
  (s.queue x.qidx).ready && decide (x.sent + x.reserved < x.cells) &&
    (match s.sole.buf.find? fun y => y.qidx == x.qidx && y.xin == x.xin && decide (y.sent + y.reserved < y.cells) with
     | some y => y.msg.id == x.msg.id
     | none => false) &&
    (decide (0 < x.sent) || ((s.candidates x.egress).contains x.qidx && s.permitted x.msg.slice x.egress)) && s.egressRoom x

/-- The cell an ingress port requests an egress port for: the oldest stamp, the lowest agent on a tie. -/
def State.reqPick (s : State) (i j : Nat) : Option Queued :=
  (s.sole.buf.filter fun x => x.xin == i && xportOf x.egress == j && s.eligible x).foldl (fun acc x => match acc with
    | none => some x
    | some y => if x.msg.stamp < y.msg.stamp ∨ (x.msg.stamp = y.msg.stamp ∧ x.egress < y.egress) then some x else some y) none

/-- Stage 1 of a new matching: requests, each reserving one cell (R198, R199). -/
def State.startMatching (s : State) : State :=
  let pairs := dedupNat (s.sole.buf.map fun x => 32 * x.xin + xportOf x.egress)
  let r := pairs.foldl (fun (acc : State × List MReq) p =>
    match acc.1.reqPick (p / 32) (p % 32) with
    | none => acc
    | some x =>
      let q : MReq := { i := p / 32, j := p % 32, msgId := x.msg.id, agent := x.egress, stamp := x.msg.stamp }
      (acc.1.updBuf q.names fun y => { y with reserved := y.reserved + 1 }, acc.2 ++ [q])) (s, [])
  r.1.setSole fun o => { o with flight := o.flight ++ [⟨0, r.2, []⟩] }

/-! ### Rounds (R200, R201, R203) -/

/-- A choice of a crossbar arbiter of port `j` (R203). DEDUCED (log entry 22). -/
def State.xbChoose (s : State) (j ptr : Nat) (c : List (Nat × Nat)) : Option (Nat × Bool) :=
  arbChoose s.tim.num (s.get F.SOLE_SEN_XB_THR (4 * j)) (s.on F.SOLE_SEN_XB_EN (4 * j) && s.on F.SOLE_MATCH_CTL_SEN_EN 0) ptr 32 c

/-- One round of grants and accepts of a matching; the pointers move in round 1 only. -/
def State.matchRound (s : State) (k : Nat) (g : Matching) : State × Matching :=
  let free := g.reqs.filter fun r => !(g.done.any fun d => d.i == r.i || d.j == r.j)
  let grants : List (Nat × Nat × Bool) := (dedupNat (free.map (·.j))).filterMap fun j =>
    (s.xbChoose j (s.sole.grantPtr.getD j 0) ((free.filter fun r => r.j == j).map fun r => (r.i, r.stamp))).map fun c => (c.1, j, c.2)
  let accepts : List (Nat × Nat × Bool) := (dedupNat (grants.map (·.1))).filterMap fun i =>
    (s.xbChoose i (s.sole.acceptPtr.getD i 0) ((grants.filter fun t => t.1 == i).filterMap fun t =>
      (free.find? fun r => r.i == i && r.j == t.2.1).map fun r => (t.2.1, r.stamp))).map fun c => (i, c.1, c.2)
  let senior := (grants.filter fun t => !t.2.2) ++ accepts.filter fun t => !t.2.2
  let s1 := s.each senior fun t c => t.count cbSole 6 c.2.1 0 1
  let s2 := s1.each accepts fun t c => t.count cbSole (2 + k) c.2.1 0 1
  let s3 := if k = 1 then
      s2.each accepts fun t c => t.setSole fun o =>
        { o with
          grantPtr := if grants.contains (c.1, c.2.1, true) then o.grantPtr.set c.2.1 ((c.1 + 1) % 32) else o.grantPtr
          acceptPtr := if c.2.2 then o.acceptPtr.set c.1 ((c.2.1 + 1) % 32) else o.acceptPtr }
    else s2
  let won := accepts.filterMap fun c => free.find? fun r => r.i == c.1 && r.j == c.2.1
  (s3, { g with done := g.done ++ won })

/-- A request of a matching is released. -/
def State.unreserve (s : State) (r : MReq) : State := s.updBuf r.names fun y => { y with reserved := y.reserved - 1 }

/-- A matching after its round of this cell time; after round 3 the requests not matched are released. -/
def State.advance (s : State) (g : Matching) : State × Matching :=
  if g.age = 0 ∨ 3 < g.age then (s, g)
  else
    let r := s.matchRound g.age g
    if g.age = 3 then
      (r.1.each (r.2.reqs.filter fun q => !r.2.done.contains q) fun t q => t.unreserve q, { r.2 with reqs := r.2.done })
    else r

/-- The rounds of the matchings in flight. -/
def State.rounds (s : State) : State :=
  let r := s.sole.flight.foldl (fun (acc : State × List Matching) g =>
    let a := acc.1.advance { g with age := g.age + 1 }
    (a.1, acc.2 ++ [a.2])) (s, [])
  r.1.setSole fun o => { o with flight := r.2 }

/-! ### Transfer (R190, R192, R197, R202, R207) -/

/-- DevLoad of a CXL.mem response that leaves the Sole (R207). -/
def State.markDevload (s : State) (src : Nat) (m : Msg) : State × Msg :=
  if m.kind != .memS2M then (s, m)
  else if s.isSevere m.slice src then (s.count cbSole 0xB 0 m.slice 1, { m with devload := 3 })
  else
    let k := sevKey m.slice src
    let n := s.sole.marks.getD k 0
    if n = 0 then (s, m) else (s.setSole fun o => { o with marks := o.marks.set k (n - 1) }, { m with devload := max m.devload 2 })

/-- An egress agent forwards a complete message (R190): a port or link sends it, an internal agent finds it at its crossbar port.
DEDUCED (log entry 22). -/
def State.forward (s : State) (a : Nat) (m : Msg) : State :=
  if a < 64 then s.portDeliver a m
  else if a < 72 then s.linkDeliver (a - 64) m
  else s.setSole fun o => { o with crossing := o.crossing ++ [(a, m)] }

/-- The first agent of a lane bank's crossbar port, and of any other port its agent. -/
def bankAgent (j : Nat) : Nat := if j < 16 then 4 * j else 64 + 2 * (j - 16)

/-- The agent a matched ingress port serves (R202): on a lane bank port by the bank multiplexer's egress direction. DEDUCED (log entry 22). -/
def State.muxChoice (s : State) (i j : Nat) : Option (State × Nat) :=
  let held := s.sole.buf.filter fun x => x.xin == i && xportOf x.egress == j && decide (0 < x.reserved)
  if j < 20 then
    let c := (dedupNat (held.map (·.egress))).map fun a =>
      (a - bankAgent j, ((held.filter fun x => x.egress == a).map (·.msg.stamp)).foldl min s.tim.num)
    match arbChoose s.tim.num (s.get F.SOLE_SEN_MUX_THR (4 * j)) (s.on F.SOLE_SEN_MUX_EN (4 * j) && s.on F.SOLE_MATCH_CTL_SEN_EN 0)
        (s.sole.muxPtr.getD j 0) 4 c with
    | none => none
    | some (k, true) => some (s.setSole fun o => { o with muxPtr := o.muxPtr.set j ((k + 1) % 4) }, bankAgent j + k)
    | some (k, false) => some (s.count cbSole 6 j 0 1, bankAgent j + k)
  else held.head?.map fun x => (s, x.egress)

/-- The message whose next cell crosses from an ingress port to an agent: the one in progress, or the scheduler's choice (R192, R202). -/
def State.cellChoice (s : State) (i a : Nat) : Option Queued :=
  match s.sole.buf.find? fun x => x.xin == i && x.egress == a && decide (0 < x.sent) && x.open? with
  | some x => some x
  | none =>
    (s.sole.buf.filter fun x => x.xin == i && x.egress == a && decide (0 < x.reserved)).foldl (fun acc x => match acc with
      | none => some x
      | some y => if s.schedRank a x.qidx < s.schedRank a y.qidx then some x else some y) none

/-- A reservation for `want` is spent on a cell of `x`: where another matching had reserved that cell, it now holds the one of `want`. -/
def State.spend (s : State) (want : MReq) (x : Queued) : State :=
  if want.names x then s.unreserve want
  else if x.reserved = 0 then s.unreserve want
  else
    let r : MReq := { want with msgId := x.msg.id, agent := x.egress }
    let s1 := s.unreserve r
    let swap (q : MReq) : MReq := if q.i == r.i && q.j == r.j && q.msgId == r.msgId && q.agent == r.agent then { q with msgId := want.msgId, agent := want.agent } else q
    s1.setSole fun o => { o with flight := o.flight.map fun g => { g with reqs := g.reqs.map swap, done := g.done.map swap } }

/-- A lasting error of a header cell: the whole message is discarded, a request that expects a response completed (R197). -/
def State.cellLost (s : State) (x : Queued) : State :=
  let s1 := (s.setSole fun o => { o with buf := o.buf.filter fun y => !(y.msg.id == x.msg.id && y.egress == x.egress && y.xin == x.xin) }).syncBuf
  let s2 := s1.occAt 6 0 none
  if isReq x.msg && expects x.msg then s2.failBack x.egress x.msg else s2

/-- What reading a cell meets (R197): 0 good, 1 corrected, 2 cured by the second read, 3 a body cell lost, 4 a header cell lost. The
message as read. -/
def State.cellRead (s : State) (x : Queued) (out : Nat) : State × Queued :=
  if out = 1 then (s.bump F.SOLE_ECC_CNT_CORR 0 1, x)
  else if out = 2 then (s.bump F.SOLE_ECC_CNT_REREAD_OK 0 1, x)
  else if out = 3 then (s.occAt 6 0 none, { x with msg := { x.msg with poison := true } })
  else (s, x)

/-- One matched ingress port reads one cell and sends it to its egress port (R202). DEDUCED (log entry 22). -/
def State.transfer (s : State) (want : MReq) (out : Nat) : State :=
  match s.muxChoice want.i want.j with
  | none => s
  | some (s0, a) =>
    match s0.cellChoice want.i a with
    | none => s0
    | some x =>
      let s1 := s0.spend want x
      let s2 := if x.sent = 0 then s1.chargeQueue x else s1
      let s3 := s2.count cbSole 2 want.j x.msg.slice 1
      if out = 4 then s3.cellLost x
      else
        let r := s3.cellRead x out
        let this (y : Queued) : Bool := y.msg.id == x.msg.id && y.egress == x.egress && y.xin == x.xin && y.qidx == x.qidx
        let y : Queued := { r.2 with sent := x.sent + 1 }
        if y.sent < y.cells then (r.1.updBuf this fun z => { z with sent := y.sent, msg := y.msg }).syncBuf
        else
          let s4 := (r.1.setSole fun o => { o with buf := o.buf.eraseP this }).syncBuf
          let d := s4.markDevload x.src y.msg
          d.1.forward a d.2

/-- The transfer slot of the matching that is final: a cell of each match, in order, with what its read meets. -/
def State.transfers (s : State) (ecc : List Nat) : State :=
  match s.sole.flight.find? fun g => g.age == 4 with
  | none => s
  | some g =>
    let s1 := s.setSole fun o => { o with flight := o.flight.filter fun x => x.age != 4 }
    s1.each (g.done.zip (ecc ++ List.replicate g.done.length 0)) fun t d => t.transfer d.1 d.2

/-- One cell time (R198): the Sole clock advances, of which 2,560 make a stitch before RUN as well (R45), matched cells cross, three rounds run, the candidate sets are recomputed, and a new
matching starts. -/
def State.cellTime (s : State) (ecc : List Nat) : State :=
  let s1 := s.setTim fun t =>
    if s.on F.GLB_STITCH_CTL_RUN 0 || decide (t.cells < 1279) then { t with cells := min 1279 (t.cells + 1) } else { t with cells := 0, cyc := t.cyc + 2560 }
  let s2 := (s1.rounds).transfers ecc
  let s3 := s2.refreshAll
  let s4 := s3.each s3.sole.waiting fun t x => t.count cbSole 7 x.msg.cls x.msg.slice 1
  (s4.count cbSched 2 0 0 s4.sole.slotWait.length).startMatching

/-- The averages are updated every 64 cell times (R205). DEDUCED (log entry 23). -/
def State.avgTick (s : State) : State := if s.tim.cells % 64 = 0 then s.updateAvg else s

end Sys2Proof.Machine
end

