-- ==== Sys2Proof/Machine/HomeAgent.lean ====
section
/-!
DEFINITION. Home agent slices (spec/09, spec/10): coherent regions and lines, the directory and its cache, admission and conflict queues,
the flows of the eight operations, snoops, closing, hold windows, evictions, departures and their walk, timeouts, degraded and
fenced handling, resent writes, and migration reads.
-/
namespace Sys2Proof.Machine
open Sys2Proof

/-! ### Lines (R235, R236, R251) -/

/-- LINE of a byte offset from the region base. -/
def lineNo (o : Nat) : Nat := o / 64 / 256 * 64 + o / 64 % 64

/-- The byte offset of a line of a slice. -/
def lineOfs (h line : Nat) : Nat := (line / 64 * 256 + h * 64 + line % 64) * 64

/-- The directory set of a line, within its slice. -/
def setIdx (rgn line : Nat) : Nat :=
  Nat.xor (Nat.xor (line % 2097152) (line / 2097152 * 1024)) (rgn * 2048) % 2097152

/-- The DPA of a directory set. -/
def setAddr (h idx : Nat) : Nat := 0x100000000 + (h * 2097152 + idx) * 256

/-- The FPID of a requester, where it is an edge port (R239). -/
def fpidOf (m : Msg) : Option Nat := if m.srcAg < 64 then some (m.srcSw * 64 + m.srcAg) else none

/-- Home clocks (R26, R43): 2,048 per stitch, four for five of the Sole. DEDUCED (log entry 9). -/
def State.homeClk (s : State) : Nat := s.soleClk * 4 / 5

def State.rgnBase (s : State) (r : Nat) : Nat :=
  (s.get F.HA_RGN_BASE_LO_BASE (ent r) + s.get F.HA_RGN_BASE_HI_BASE (ent r) * 2 ^ 32) * 16384

/-- Whether the region is homed in an expander. -/
def State.rgnExp (s : State) (r : Nat) : Bool := s.on F.HA_RGN_CFG_HOME (ent r)

/-- The members of a region's domain, in member order (R237, R238). -/
def State.members (s : State) (r : Nat) : List Nat :=
  if s.get F.HA_RGN_CFG_FMT (ent r) = 0 then (List.range 64).map (· + 64 * s.ownSw)
  else
    let dom := s.get F.HA_RGN_CFG_DOM (ent r)
    (List.range 64).filterMap fun i =>
      let e := ent (dom + 256 * i)
      if s.on F.HA_DMEM_VALID e then some (s.get F.HA_DMEM_FPID e) else none

/-- Members whose presence bit is set at a slice (R246). -/
def State.presentMembers (s : State) (h r : Nat) : List Nat := (s.members r).filter fun f => (s.home h).presence.contains f

/-! ### The slice's tables -/

def State.tack? (s : State) (h rgn line : Nat) : Option Tack := (s.home h).tacks.find? fun t => t.rgn == rgn && t.line == line

def State.updTack (s : State) (h rgn line : Nat) (f : Tack → Tack) : State :=
  s.setHome h fun x => { x with tacks := x.tacks.map fun t => if t.rgn == rgn && t.line == line then f t else t }

def State.dropTack (s : State) (h rgn line : Nat) : State :=
  s.setHome h fun x => { x with tacks := x.tacks.filter fun t => !(t.rgn == rgn && t.line == line) }

def State.entry? (s : State) (h rgn line : Nat) : Option DirEntry := (s.home h).dir.find? fun e => e.rgn == rgn && e.line == line

/-- The owner an entry lists. -/
def DirEntry.owner? (e : DirEntry) : Option Nat := if e.own then e.sharers.head? else none

/-- Whether the line's set is in degraded handling (R263, R265). -/
def State.degradedSet (s : State) (h idx : Nat) : Bool :=
  s.on F.HA_STATUS_DEGRADED_ALL (dHome h) || (s.home h).degraded.contains idx

/-- Request tacks open on a set. -/
def State.setTacks (s : State) (h idx : Nat) : Nat :=
  ((s.home h).tacks.filter fun t => !t.eviction && setIdx t.rgn t.line == idx).length

def State.reqTacks (s : State) (h : Nat) : Nat := ((s.home h).tacks.filter fun t => !t.eviction).length
def State.evtTacks (s : State) (h : Nat) : Nat := ((s.home h).tacks.filter fun t => t.eviction).length

/-- Whether a hold window runs on a line (R272). -/
def State.held? (s : State) (h rgn line : Nat) : Bool := (s.home h).holds.any fun e => e.1 == rgn && e.2.1 == line

/-- Whether a cached set is pinned: an open tack, an eviction or a hold window on one of its lines (R254). -/
def State.pinned (s : State) (h idx : Nat) : Bool :=
  (s.home h).tacks.any (fun t => setIdx t.rgn t.line == idx) || (s.home h).holds.any fun e => setIdx e.1 e.2.1 == idx

def State.cached (s : State) (h idx : Nat) : Bool := (s.home h).frames.any fun f => f.1 == idx

/-- Whether a set is being fetched. -/
def State.fetching (s : State) (h idx : Nat) : Bool :=
  (s.home h).tacks.any fun t => t.st == .dirf && setIdx t.rgn t.line == idx

/-- Whether a set is cached or its cache group has an unpinned frame (R254, R256). -/
def State.frameOk (s : State) (h idx : Nat) : Bool :=
  s.cached h idx ||
    (let g := (s.home h).frames.filter fun f => f.1 % 4096 == idx % 4096
     decide (g.length < 8) || g.any fun f => !s.pinned h f.1)

/-- The status registers kept with the slice (R266, R292). -/
def State.syncHome (s : State) (h : Nat) : State :=
  let d := dHome h
  let x := s.home h
  let waits := x.chain ++ x.setQ ++ x.resQ
  let lines := dedupNat (x.chain.map fun w => w.msg.sid * 2 ^ 32 + lineNo w.msg.addr)
  let s1 := (s.put F.HA_TACK_STATUS_REQ_USED d (s.reqTacks h)).put F.HA_TACK_STATUS_EVT_USED d (s.evtTacks h)
  let s2 := (s1.put F.HA_WAIT_STATUS_WAITING d waits.length).put F.HA_WAIT_STATUS_FULL d (bit (decide (8192 ≤ waits.length)))
  let s3 := (s2.put F.HA_DIRC_STATUS_PINNED d (x.frames.filter fun f => s.pinned h f.1).length).put F.HA_DEGR_STATUS_COUNT d x.degraded.length
  let s4 := (s3.put F.HA_CQ_LINE_WAITING d x.chain.length).put F.HA_CQ_LINE_LINES d lines.length
  let s5 := (s4.put F.HA_CQ_SET_SET_WAIT d x.setQ.length).put F.HA_CQ_SET_RES_WAIT d x.resQ.length
  let s6 := (s5.put F.HA_HOLD_STATUS_ACTIVE d x.holds.length).put F.HA_DEPART_STATUS_WALKING d (bit (!x.walking.isEmpty))
  let s7 := (s6.put F.HA_DEPART_STATUS_PENDING d (bit (!x.gathered.isEmpty))).put F.HA_DEPART_STATUS_DEPARTED d x.departed.length
  let s8 := (s7.put F.HA_DCT_STATUS_USED d x.dct.length).put F.HA_MIG_STATUS_MIG_TACKS d (x.tacks.filter (·.migration)).length
  s8.each (List.range 64) fun t i =>
    (t.put F.HA_DGSET_SET (d + ent i) (x.degraded.getD i 0)).put F.HA_DGSET_VALID (d + ent i) (bit (decide (i < x.degraded.length)))

/-! ### Memory of a line (R234, R249, R284, R306, R309) -/

/-- The tiered range, granule and offset of a byte of an expander, where one covers it. -/
def State.rangeAt (s : State) (port ld dpa : Nat) : Option (Nat × Nat × Nat) :=
  (s.ranges.find? fun r =>
    s.rngPort r == port && s.get F.INS_TR_CFG_LD (ent r) == ld &&
      decide (s.get F.INS_TR_BASE_BASE_GIB (ent r) * 2 ^ 30 ≤ dpa) &&
      decide (dpa < (s.get F.INS_TR_BASE_BASE_GIB (ent r) + s.get F.INS_TR_SIZE_SIZE_GIB (ent r)) * 2 ^ 30)).map fun r =>
    let o := dpa - s.get F.INS_TR_BASE_BASE_GIB (ent r) * 2 ^ 30
    (r, o / 65536, o % 65536)

/-- Whether a granule of a tiered range belongs to a coherent region (R235, R309). -/
def State.coherentGran (s : State) (rng gran : Nat) : Bool :=
  let a := s.backAddr rng gran
  (List.range 1024).any fun r =>
    s.on F.HA_RGN_CFG_VALID (ent r) && s.rgnExp r && s.get F.HA_RGN_CFG_EXP_PORT (ent r) == s.rngPort rng &&
      s.get F.HA_RGN_CFG_EXP_LD (ent r) == s.get F.INS_TR_CFG_LD (ent rng) && decide (s.rgnBase r < a + 65536) &&
      decide (a < s.rgnBase r + s.get F.HA_RGN_SIZE_SIZE (ent r) * 16384)

/-- The expander's port and LD of a region. -/
def State.rgnPort (s : State) (r : Nat) : Nat := s.get F.HA_RGN_CFG_EXP_PORT (ent r)
def State.rgnLd (s : State) (r : Nat) : Nat := s.get F.HA_RGN_CFG_EXP_LD (ent r)

/-- A slice's CXL.mem access of a line at its expander: `addr` is the expander's DPA, `pasid` carries the LD number, `tag` the line. -/
def State.homeMsg (s : State) (h rgn line : Nat) (write : Bool) (data : List Byte) (poison : Bool) (t : Option Tack) : Msg :=
  { id := 2 ^ 100 + ((h * 1024 + rgn) * 2 ^ 32 + line) * 2 + bit write, via := 76 + h, kind := .memM2S,
    op := if write then .memWr else .memRd, metaV := .none, srcSw := s.ownSw, srcAg := 76 + h, dstSw := s.ownSw, dstAg := s.rgnPort rgn,
    slice := (t.map fun x => x.req.slice).getD 0, cls := 0, colour := .green, stamp := (t.map fun x => x.req.stamp).getD s.tim.num,
    body := if write then 5 else 1, hops := 0, space := .dpa, sid := rgn, addr := s.rgnBase rgn + lineOfs h line, len := 64,
    pasid := some (s.rgnLd rgn), tag := line, data := data, poison := poison, status := .ok, devload := 0, be := false }

/-- An access of the home path at an Insole DPA (R27). -/
def State.homePath (s : State) (h rgn line dpa : Nat) (write : Bool) (data : List Byte) (poison : Bool) : State :=
  s.setChan (chanOf dpa) fun c => { c with home := c.home ++ [⟨h, rgn, line, dpa, write, data, poison⟩] }

/-- A memory response the slice gives itself: a LOST granule reads as poison (R310). -/
def State.homeSelf (s : State) (h rgn line : Nat) (write : Bool) : State :=
  s.setChan 0 fun c => { c with homeDone := c.homeDone ++ [⟨h, rgn, line, 0, write, poisonLine 64, true⟩] }

/-- A slice's access of an expander-homed line goes where the line's granule lies (R309, R291); a write of a granule that is being cleaned is held
(R307, R319). -/
def State.homeIssue (s : State) (h : Nat) (m : Msg) : State :=
  let write := m.op == .memWr
  match s.rangeAt m.dstAg (m.pasid.getD 0) m.addr with
  | none => s.step7 (76 + h) m.dstAg m
  | some (rng, gran, o) =>
    let l := match s.look rng gran o write with
      | .wait =>
        let r := s.remapAt (s.remapIdx rng gran)
        if r.st = 2 then Look.backing else if r.st = 4 then Look.wait else Look.frame (s.frameAddr r.frame o)
      | l => l
    match l with
    | .wait => s.lookHold rng gran m
    | .miss => s.lookMiss rng gran (76 + h) m
    | .asleep => s.lookAsleep rng gran m
    | .frame dpa => (s.lookDone rng gran write m.id l).homePath h m.sid m.tag dpa write m.data m.poison
    | .lost => (s.lookDone rng gran write m.id l).homeSelf h m.sid m.tag write
    | _ => (s.lookDone rng gran write m.id l).step7 (76 + h) m.dstAg m

/-- A memory access of a tack's line; the tack's timer starts with its first one (R248). -/
def State.homeMem (s : State) (h rgn line : Nat) (write : Bool) (data : List Byte) (poison : Bool) : State :=
  let t := s.tack? h rgn line
  let lim := s.get F.HA_TACK_TO_LIMIT (dHome h)
  let s1 := s.updTack h rgn line fun t =>
    { t with memRd := t.memRd || !write, memWr := t.memWr + bit write, timer := some (t.timer.getD (s.after lim)) }
  if s.rgnExp rgn then s1.homeIssue h (s.homeMsg h rgn line write data poison t)
  else s1.homePath h rgn line (s.rgnBase rgn + lineOfs h line) write data poison

/-- Viral on each virtual switch that has a present member of the region's domain, where enabled (R264, R284). -/
def State.rgnViral (s : State) (h rgn : Nat) : State :=
  s.each ((s.presentMembers h rgn).filter fun f => f / 64 == s.ownSw) fun t f => t.viral (f % 64)

/-! ### Operations (R240 to R242, R244, R277) -/

/-- Whether a message writes a full line. -/
def fullLine (m : Msg) : Bool := m.data.length == 64 && m.addr % 64 == 0

/-- The operation of a request, given whether its requester is the owner the entry lists and whether it is a caching agent (R241). -/
def cohOp (m : Msg) (owner caching : Bool) : Option CohOp :=
  match m.op with
  | .memRd | .memRdData =>
    if !caching then some .rdC
    else match m.metaV with
      | .shr => some .rdS
      | .any => some .rdO
      | _ => some .rdC
  | .memInv | .memInvNT => if caching && m.metaV == .any then some .rdON else none
  | .memWr => if owner then some .wb else if fullLine m then some .wrInv else some .wrPtl
  | .memWrPtl => if owner then some .wb else some .wrPtl
  | .memClnEvct | .cleanEvict | .cleanEvictNoData => some .ce
  | .rdShared => some .rdS
  | .rdOwn | .rdAny => some .rdO
  | .rdOwnNoData => some .rdON
  | .itoMWr => if m.data.isEmpty then some .rdON else if fullLine m then some .wrInv else some .wrPtl
  | .rdCurr => some .rdC
  | .dirtyEvict => if owner then some .wb else if fullLine m then some .wrInv else some .wrPtl
  | .wrInv | .wrInvPtl => if fullLine m then some .wrInv else some .wrPtl
  | .wrCur => some .wrPtl
  | .mRd => some .rdC
  | .mWr => if fullLine m then some .wrInv else some .wrPtl
  | _ => none

def isReadOp (o : CohOp) : Bool := o == .rdS || o == .rdO || o == .rdC
def isWriteOp (o : CohOp) : Bool := o == .wb || o == .wrInv || o == .wrPtl

/-- The bytes of a line that a read asked for. -/
def lineSlice (m : Msg) (line : List Byte) : List Byte :=
  if m.len = 0 ∨ 64 ≤ m.len then line else (line.drop (m.addr % 64)).take m.len

/-- The response of a slice (R241, R244): the kind of response a requester of its protocol receives, with the state granted. -/
def State.homeAnswer (s : State) (h : Nat) (m : Msg) (o : CohOp) (grant : Meta) (data : List Byte) (poison : Bool) (dl : Nat) : State :=
  let go (op : Op) (d : List Byte) : State :=
    s.step7 (76 + h) m.via { s.response (76 + h) m op .ok d poison dl with metaV := grant }
  match m.kind with
  | .cacheD2H =>
    if isReadOp o then go .cacheData data else if isWriteOp o then go .goWritePull [] else go .go []
  | .io => if isReadOp o then go .cplD (lineSlice m data) else s.accepted (76 + h) m
  | _ => if isReadOp o then go .memData (lineSlice m data) else go .cmp []

/-- The DevLoad of a slice's response (R258). -/
def State.homeLoad (s : State) (h : Nat) : Nat :=
  let d := dHome h
  let u := s.reqTacks h * 256 / 15872
  if s.get F.HA_LOAD_CFG_SEV d ≤ u ∨ s.on F.HA_WAIT_STATUS_FULL d then 3
  else if s.get F.HA_LOAD_CFG_MOD d ≤ u then 2 else if s.get F.HA_LOAD_CFG_OPT d ≤ u then 1 else 0

/-- What a flow needs: the agents snooped, whether the snoops invalidate, and whether memory is read (R244, R245, R263). -/
structure Plan where
  targets : List Nat
  inv : Bool
  read : Bool

/-- The flow of an operation for the line's entry. -/
def State.plan (s : State) (h rgn line : Nat) (o : CohOp) (f : Option Nat) (m : Msg) : Plan :=
  let notReq (l : List Nat) : List Nat := l.filter fun g => some g != f
  let part := isWriteOp o && !fullLine m
  if s.degradedSet h (setIdx rgn line) then
    let all := notReq (s.presentMembers h rgn)
    if isReadOp o then ⟨all, false, true⟩ else if o == .rdON then ⟨[], true, false⟩ else ⟨all, true, part⟩
  else
    match s.entry? h rgn line with
    | none => ⟨[], true, isReadOp o || (part && isWriteOp o)⟩
    | some e =>
      let others := notReq (if e.ovf then s.presentMembers h rgn else e.sharers)
      let self := e.own && e.owner? == f
      match o with
      | .rdS => if e.own && !self then ⟨others, false, true⟩ else ⟨[], false, true⟩
      | .rdC => if e.own && !self then ⟨others, false, true⟩ else ⟨[], false, true⟩
      | .rdO => if self then ⟨[], true, true⟩ else ⟨others, true, true⟩
      | .rdON => if self then ⟨[], true, false⟩ else ⟨others, true, false⟩
      | .wb => ⟨[], true, part⟩
      | .ce => ⟨[], true, false⟩
      | .wrInv => ⟨others, true, false⟩
      | .wrPtl => ⟨others, true, true⟩

/-- Agents that are snooped: present and not departed; remote ones first (R246, R280). -/
def State.live (s : State) (h : Nat) (l : List Nat) : List Nat :=
  let x := s.home h
  let k := l.filter fun f => x.presence.contains f && !x.departed.contains f
  k.filter (fun f => f / 64 != s.ownSw) ++ k.filter fun f => f / 64 == s.ownSw

/-- The operation a request has at its slice: a read of a departed or non-member agent is a current read, its entry's owner writes back. -/
def State.opAt (s : State) (h : Nat) (m : Msg) : Option CohOp :=
  let rgn := m.sid
  let f := fpidOf m
  let owner := match s.entry? h rgn (lineNo m.addr), f with
    | some e, some g => e.owner? == some g
    | _, _ => false
  (cohOp m owner f.isSome).map fun o =>
    match f with
    | none => if o == .rdS || o == .rdO then .rdC else o
    | some g =>
      if (o == .rdS || o == .rdO) && ((s.home h).departed.contains g || !(s.members rgn).contains g) then .rdC else o

/-- Whether an ownership request without data is refused: its agent may hold no copy (R240, R263, R280). -/
def State.denied (s : State) (h : Nat) (m : Msg) : Bool :=
  match fpidOf m with
  | none => true
  | some g => (s.home h).departed.contains g || !(s.members m.sid).contains g || s.degradedSet h (setIdx m.sid (lineNo m.addr))

/-- Whether a request's flow would send a snoop (R272). -/
def State.wouldSnoop (s : State) (h : Nat) (m : Msg) : Bool :=
  match s.opAt h m with
  | none => false
  | some o => !(s.live h (s.plan h m.sid (lineNo m.addr) o (fpidOf m) m).targets).isEmpty

/-! ### Snoops (R243, R246, R248, R276, R288) -/

/-- The snoop of a line to an agent: toward a host by back-invalidation, toward a CXL.cache device on this module by CXL.cache.
DEDUCED (log entry 25). -/
def State.snoopMsg (s : State) (h : Nat) (t : Tack) (f : Nat) : Msg :=
  let dev := f / 64 == s.ownSw && !upMode (s.portMode (f % 64))
  { id := 2 ^ 60 + ((h * 1024 + t.rgn) * 2 ^ 32 + t.line) * 4096 + f, via := 76 + h, kind := if dev then .cacheH2D else .bi,
    op := if dev then (if t.inv then .snpInv else .snpData) else (if t.inv then .biSnpInv else .biSnpData), metaV := .none,
    srcSw := s.ownSw, srcAg := 76 + h, dstSw := f / 64, dstAg := f % 64, slice := t.req.slice, cls := 0, colour := .green,
    stamp := t.req.stamp, body := 1, hops := 0, space := .rgn, sid := t.rgn, addr := lineOfs h t.line, len := 0, pasid := none, tag := 0,
    data := [], poison := false, status := .ok, devload := 0, be := false }

/-- Whether a response of the line to a CXL.cache device has not yet left the device's port (R276). -/
def State.goPending (s : State) (h : Nat) (t : Tack) (f : Nat) : Bool :=
  f / 64 == s.ownSw && !upMode (s.portMode (f % 64)) &&
    (s.sole.buf ++ s.sole.waiting ++ s.sole.slotWait).any fun x =>
      x.egress == f % 64 && x.msg.kind == .cacheH2D && isResp x.msg.op && x.src == 76 + h && x.msg.sid == t.rgn && lineNo x.msg.addr == t.line

/-- Whether a snoop can be sent to an agent now: on this module, or by a route that is UP (R288). -/
def State.canSnoop (s : State) (h : Nat) (t : Tack) (f : Nat) : Bool :=
  if f / 64 = s.ownSw then !s.goPending h t f
  else match s.linkFor (f / 64) with
    | some m => s.mlState m == mlUpSt
    | none => false

/-- One snoop leaves the slice; one that must wait is kept to be issued later. -/
def State.snoopOne (s : State) (h rgn line f : Nat) : State :=
  match s.tack? h rgn line with
  | none => s
  | some t =>
    if f / 64 = s.ownSw ∧ s.goPending h t f then
      s.updTack h rgn line fun t => { t with reissue := if t.reissue.contains f then t.reissue else t.reissue ++ [f] }
    else (s.enqueue (76 + h) (s.snoopMsg h t f)).count (cbHome h) 7 0 0 1

/-- A slice issues the snoops of a tack; the timer starts with the first (R248). -/
def State.snoopAll (s : State) (h rgn line : Nat) (l : List Nat) : State :=
  if l.isEmpty then s
  else
    let lim := s.get F.HA_TACK_TO_LIMIT (dHome h)
    let s1 := s.updTack h rgn line fun t => { t with toSnoop := l, st := .snoop, timer := some (t.timer.getD (s.after lim)) }
    s1.each l fun t f => t.snoopOne h rgn line f

/-- Snoops flushed with a link are re-issued once a route is UP (R288). -/
def State.snoopReissue (s : State) (h : Nat) : State :=
  s.each (s.home h).tacks fun u t =>
    u.each (t.reissue.filter fun f => t.toSnoop.contains f && u.canSnoop h t f) fun v f =>
      (v.updTack h t.rgn t.line fun t => { t with reissue := t.reissue.filter (· != f) }).snoopOne h t.rgn t.line f

/-! ### Directory entries (R253) -/

/-- The entry without some agents, and freed where none remains. -/
def State.entryDrop (s : State) (h rgn line f : Nat) : State :=
  s.setHome h fun x =>
    { x with dir := x.dir.filterMap fun e =>
        if e.rgn == rgn && e.line == line then
          if e.ovf then some e
          else
            let l := e.sharers.filter (· != f)
            if l.isEmpty then none else some { e with sharers := l }
        else some e }

/-- The line's entry is freed. -/
def State.entryFree (s : State) (h rgn line : Nat) : State :=
  s.setHome h fun x => { x with dir := x.dir.filter fun e => !(e.rgn == rgn && e.line == line) }

/-- The line's entry is written: SHR with sharers, or OWN; with PTR4 a fifth sharer overflows (R253). -/
def State.entryPut (s : State) (h rgn line : Nat) (own : Bool) (l : List Nat) : State :=
  let l := dedupNat (l.filter fun f => !(s.home h).departed.contains f)
  let was := ((s.entry? h rgn line).map (·.ovf)).getD false
  let ptr := s.get F.HA_RGN_CFG_FMT (ent rgn) == 2
  let ovf := ptr && !own && (was || decide (4 < l.length))
  if l.isEmpty && !ovf then s.entryFree h rgn line
  else
    let s1 := s.entryFree h rgn line
    s1.setHome h fun x =>
      { x with dir := x.dir ++ [⟨rgn, line, own, if ptr then l.take 4 else l, ovf, x.tick⟩], tick := x.tick + 1
               presence := l.foldl (fun p f => if p.contains f then p else p ++ [f]) x.presence
               frames := x.frames.map fun f => if f.1 == setIdx rgn line then (f.1, true, x.tick) else f }

/-- A way of a cached set is modified. -/
def State.touchSet (s : State) (h idx : Nat) (modified : Bool) : State :=
  s.setHome h fun x => { x with frames := x.frames.map (fun f => if f.1 == idx then (f.1, f.2.1 || modified, x.tick) else f), tick := x.tick + 1 }

/-! ### Closing a tack (R247, R249, R253, R272) -/

/-- A hold window starts or is extended (R272, R273). -/
def State.holdStart (s : State) (h rgn line : Nat) : State :=
  let w := s.get F.HA_HOLD_WINDOW (dHome h)
  if w = 0 then s
  else
    let e := s.homeClk + w
    let old := (s.home h).holds
    let full := decide (16384 ≤ old.length) && !s.held? h rgn line
    let soonest := old.foldl (fun a x => match a with
      | none => some x
      | some y => if x.2.2 < y.2.2 then some x else some y) none
    let kept := match full, soonest with
      | true, some x => old.erase x
      | _, _ => old
    let prev := ((kept.find? fun x => x.1 == rgn && x.2.1 == line).map (·.2.2)).getD 0
    let s1 := s.setHome h fun x =>
      { x with holds := kept.filter (fun x => !(x.1 == rgn && x.2.1 == line)) ++ [(rgn, line, max e prev)] }
    if full then s1.bump F.HA_HOLD_STATUS_CUT (dHome h) 1 else s1

/-- The bytes of a partial write laid over a line. -/
def splice (line : List Byte) (o : Nat) (d : List Byte) : List Byte := (line.take o ++ d ++ line.drop (o + d.length)).take 64

/-- The state a response grants, and the entry that closing leaves (R244). -/
def State.grantOf (s : State) (h : Nat) (t : Tack) : Meta × (State → State) :=
  let rgn := t.rgn
  let line := t.line
  let e := s.entry? h rgn line
  let f := t.fpid.getD 0
  let keep (u : State) : State := u
  if t.degraded then (.inv, keep)
  else match t.op with
    | .rdS =>
      match e with
      | none => if s.on F.HA_CFG_EXCL_ON_INV (dHome h) then (.any, fun u => u.entryPut h rgn line true [f]) else (.shr, fun u => u.entryPut h rgn line false [f])
      | some x =>
        if x.owner? == some f then
          if s.on F.HA_CFG_EXCL_ON_INV (dHome h) then (.any, fun u => u.entryPut h rgn line true [f]) else (.shr, fun u => u.entryPut h rgn line false [f])
        else (.shr, fun u => u.entryPut h rgn line false (x.sharers ++ [f]))
    | .rdO => (.any, fun u => u.entryPut h rgn line true [f])
    | .rdON => if s.denied h t.req then (.inv, keep) else (.any, fun u => u.entryPut h rgn line true [f])
    | .rdC =>
      match e with
      | some x => if x.own && x.owner? != t.fpid then (.inv, fun u => u.entryPut h rgn line false x.sharers) else (.inv, keep)
      | none => (.inv, keep)
    | .wb | .wrInv | .wrPtl => (.inv, fun u => u.entryFree h rgn line)
    | .ce =>
      match e with
      | some x =>
        if x.own then (if x.owner? == t.fpid then (.inv, fun u => u.entryFree h rgn line) else (.inv, keep))
        else (.inv, fun u => u.entryDrop h rgn line f)
      | none => (.inv, keep)

/-- Whether a line needs a way: an operation that grants a copy of a line without an entry (R259). -/
def State.needsWay (s : State) (h : Nat) (t : Tack) : Bool :=
  !t.degraded && !t.eviction && (t.op == .rdS || t.op == .rdO || (t.op == .rdON && !s.denied h t.req)) && (s.entry? h t.rgn t.line).isNone

/-- Ways of a set in use or promised to open tacks. -/
def State.waysUsed (s : State) (h idx : Nat) : Nat :=
  ((s.home h).dir.filter fun e => setIdx e.rgn e.line == idx).length +
    ((s.home h).tacks.filter fun t => setIdx t.rgn t.line == idx && (t.st == .snoop || t.st == .mem) && s.needsWay h t).length

/-- A 64-bit count of evictions increases. -/
def State.bumpEvict (s : State) (h : Nat) : State :=
  let d := dHome h
  let v := s.get F.HA_EVICT_CNT_LO_EVICTS d + s.get F.HA_EVICT_CNT_HI_EVICTS d * 2 ^ 32 + 1
  (s.put F.HA_EVICT_CNT_LO_EVICTS d v).put F.HA_EVICT_CNT_HI_EVICTS d (v / 2 ^ 32)

/-- BIConflicts answered behind the tack's response (R276). -/
def State.sendAcks (s : State) (h : Nat) (t : Tack) : State :=
  s.each t.acks fun u m => (u.respond (76 + h) m .biConflictAck .ok [] false 0).bump F.HA_XCNT_BICONFLICT (dHome h) 1

/-! ### Migration reads (R290, R291) -/

/-- Lines of a granule by slice: line `i` of 1,024 as its region, slice and offset. -/
def State.migLine (s : State) (rng gran i : Nat) : Option (Nat × Nat) :=
  let a := s.backAddr rng gran + 64 * i
  ((List.range 1024).find? fun r =>
    s.on F.HA_RGN_CFG_VALID (ent r) && s.rgnExp r && s.get F.HA_RGN_CFG_EXP_PORT (ent r) == s.rngPort rng &&
      s.get F.HA_RGN_CFG_EXP_LD (ent r) == s.get F.INS_TR_CFG_LD (ent rng) && decide (s.rgnBase r ≤ a) &&
      decide (a < s.rgnBase r + s.get F.HA_RGN_SIZE_SIZE (ent r) * 16384)).map fun r => (r, a - s.rgnBase r)

/-- A migration read of a line (R290). -/
def State.migRead (s : State) (rng gran rgn o : Nat) : Msg :=
  { id := 2 ^ 110 + rgn * 2 ^ 40 + o / 64, via := 83, kind := .memM2S, op := .memRd, metaV := .none, srcSw := s.ownSw, srcAg := 83,
    dstSw := s.ownSw, dstAg := 76 + o / 4096 % 4, slice := 0, cls := 0, colour := .green, stamp := s.tim.num, body := 1, hops := 0,
    space := .rgn, sid := rgn, addr := o, len := 64, pasid := none, tag := rng * 2 ^ 32 + gran, data := [], poison := false, status := .ok,
    devload := 0, be := false }

/-- Migration reads open at a slice. -/
def State.migOpenAt (s : State) (h : Nat) : Nat := (s.ins.migs.map fun g => g.left.getD h 0).sum

/-- A migration with another value in its place. -/
def State.updMig (s : State) (rng gran : Nat) (f : Mig → Mig) : State :=
  s.setMigs fun l => l.map fun x => if x.rng == rng && x.gran == gran then f x else x

/-- One line after another gets its migration read, while its slice has fewer than 64 open; lines outside any region are not read. -/
def State.migIssueGo (rng gran : Nat) : Nat → State → State
  | 0, s => s
  | n + 1, s => match s.mig? rng gran with
    | none => s
    | some g =>
      if !g.coh || 1024 ≤ g.next then s
      else match s.migLine rng gran g.next with
        | none => State.migIssueGo rng gran n (s.updMig rng gran fun x => { x with next := x.next + 1 })
        | some l =>
          let h := l.2 / 4096 % 4
          if 64 ≤ s.migOpenAt h then s
          else
            let s1 := s.updMig rng gran fun x => { x with next := x.next + 1, left := x.left.set h (x.left.getD h 0 + 1) }
            State.migIssueGo rng gran n (s1.step7 83 (76 + h) (s1.migRead rng gran l.1 l.2))

/-- The engine issues migration reads of a coherent granule. DEDUCED (log entry 25). -/
def State.migIssue (s : State) (rng gran : Nat) : State := State.migIssueGo rng gran 1024 s

/-- The new location of a line in migration: a frame's DPA, or the expander (R290). -/
def State.migTarget (s : State) (rng gran o : Nat) : Option Nat :=
  match s.mig? rng gran with
  | some g => if g.kind = 0 then some (s.frameAddr g.frame o) else none
  | none => none

/-- The range and granule a migration read carries. -/
def migOf (m : Msg) : Nat × Nat := (m.tag / 2 ^ 32, m.tag % 2 ^ 32)

/-- The write of a migrated line to its new location. -/
def State.migWrite (s : State) (h : Nat) (t : Tack) : State :=
  let (rng, gran) := migOf t.req
  let o := (s.rgnBase t.rgn + lineOfs h t.line) % 65536
  let s1 := s.updTack h t.rgn t.line fun t => { t with memWr := t.memWr + 1, wrote := true, st := .mem }
  match s.migTarget rng gran o with
  | some dpa => s1.homePath h t.rgn t.line dpa true t.data t.poison
  | none => s1.step7 (76 + h) (s.rgnPort t.rgn) (s.homeMsg h t.rgn t.line true t.data t.poison (some t))

/-- Requests released from a hold are examined again from step 6 by the same command. -/
def releaseHeld (r : State × List Msg) : State :=
  r.1.setIns fun i => { i with again := i.again ++ r.2.map fun m => (m.via, m) }

/-- A migration read has closed: the granule's entry switches after the last one (R291), or the migration is abandoned. -/
def State.migClosed (s : State) (h : Nat) (t : Tack) (ok : Bool) : State :=
  let (rng, gran) := migOf t.req
  let s1 := if ok then s.bump F.HA_MIG_STATUS_LINES (dHome h) 1 else s
  match s1.mig? rng gran with
  | none => s1
  | some g =>
    if !ok then releaseHeld (s1.migAbandon g)
    else
      let s2 := s1.updMig rng gran fun x => { x with left := x.left.set h (x.left.getD h 0 - 1) }
      let s3 := s2.each s2.ins.migs fun t x => t.migIssue x.rng x.gran
      match s3.mig? rng gran with
      | some g' => if (g'.left.all fun e => e.2 == 0) ∧ 1024 ≤ g'.next then releaseHeld (s3.migSwitch g') else s3
      | none => s3

end Sys2Proof.Machine
end

