-- ==== Sys2Proof/Machine/HomeFlow.lean ====
section
/-!
DEFINITION. The life of a request at a home agent slice (spec/09 R254 to R265, spec/10 R267 to R291): arrival, queues, admission, the
directory fetch, the run of a flow, memory and snoop responses, closing, evictions, departures, timeouts, fencing.
-/
namespace Sys2Proof.Machine
open Sys2Proof

/-! ### Completion (R247, R275, R290) -/

/-- The completions of absorbed writes that memory has accepted (R275). -/
def State.absorbDone (s : State) (h : Nat) (t : Tack) : State :=
  s.each t.absorbed fun u m => u.homeAnswer h m .wb .inv [] false (u.homeLoad h)

/-- A tack closes: the response with the state granted, the entry, the hold window, the acknowledgements held back (R247, R272, R276).
An eviction ends with its entry freed (R260), a migration read with its line copied and an owner left with a shared copy (R290). -/
def State.homeClose (s : State) (h : Nat) (t : Tack) : State :=
  let rgn := t.rgn
  let line := t.line
  let s0 := s.absorbDone h t
  if t.eviction then (((s0.entryFree h rgn line).touchSet h (setIdx rgn line) true).dropTack h rgn line).bumpEvict h
  else if t.migration then (((s0.grantOf h t).2 s0).dropTack h rgn line).migClosed h t true
  else
    let (grant, upd) := s0.grantOf h t
    let s1 := (upd s0).touchSet h (setIdx rgn line) (grant != .inv || isWriteOp t.op || t.op == .ce)
    let data := if t.req.kind == .io then (t.data.drop (t.req.addr % 64)).take t.req.len else t.data
    let s2 := s1.homeAnswer h t.req t.op grant data t.poison (max (s1.homeLoad h) t.dl)
    let s3 := if grant = .shr ∨ grant = .any then s2.holdStart h rgn line else s2
    (s3.dropTack h rgn line).sendAcks h t

/-- The line's data as the tack holds it. -/
def Tack.lineData (t : Tack) : List Byte := if t.data.isEmpty then poisonLine 64 else t.data

/-- The data and poison of the write an operation ends with. -/
def Tack.finalData (t : Tack) : List Byte × Bool :=
  if fullLine t.req then (t.req.data, t.req.poison)
  else (splice t.lineData (t.req.addr % 64) t.req.data, t.poison || t.req.poison)

/-- A tack goes on once nothing it waits for is outstanding: absorbed partial writes merge, a write operation or a migrated line is written,
and the tack closes. -/
def State.homeAdvance (s : State) (h rgn line : Nat) : State :=
  match s.tack? h rgn line with
  | none => s
  | some t =>
    if t.st == .lookup || t.st == .dirf || t.st == .evict then s
    else if t.memRd then s
    else if !t.part.isEmpty then
      let d := t.part.foldl (fun l m => splice l (m.addr % 64) m.data) t.lineData
      let p := t.poison || t.part.any (·.poison)
      (s.updTack h rgn line fun t => { t with part := [], data := d, poison := p, haveDirty := true }).homeMem h rgn line true d p
    else if !t.toSnoop.isEmpty then s
    else if t.memWr ≠ 0 then s.updTack h rgn line fun t => { t with st := .mem }
    else if t.migration && !t.wrote then s.migWrite h t
    else if isWriteOp t.op && !t.wrote && !t.eviction then
      (s.updTack h rgn line fun t => { t with wrote := true, st := .mem }).homeMem h rgn line true t.finalData.1 t.finalData.2
    else s.homeClose h t

/-! ### The run of a flow (R244, R260, R263, R280) -/

/-- A departed owner's line is written with poison, which the tack's data then is (R280). -/
def State.ownerGone (s : State) (h rgn line : Nat) : State :=
  let s1 := s.updTack h rgn line fun t => { t with data := poisonLine 64, poison := true, haveDirty := true }
  (s1.homeMem h rgn line true (poisonLine 64) true).bump F.HA_DEPART_CNT_POISONED (dHome h) 1

/-- Whether the line's listed owner has departed and is none of the tack's own. -/
def State.ownerDeparted (s : State) (h rgn line : Nat) (f : Option Nat) : Bool :=
  match s.entry? h rgn line with
  | some e => match e.owner? with
    | some o => some o != f && (s.home h).departed.contains o
    | none => false
  | none => false

/-- The flow of an admitted request whose entry is known and which has its way (R244). -/
def State.homeRun (s : State) (h rgn line : Nat) : State :=
  match s.tack? h rgn line with
  | none => s
  | some t =>
    let o : CohOp := if t.migration then .rdC else (s.opAt h t.req).getD t.op
    if o == .rdON && s.denied h t.req then
      (s.updTack h rgn line fun t => { t with op := o, st := .mem, wrote := true }).homeAdvance h rgn line
    else
      let p := s.plan h rgn line o t.fpid t.req
      let s0 := match t.fpid, cohOp t.req false true with
        | some f, some b =>
          if o == CohOp.rdC && (b == CohOp.rdS || b == CohOp.rdO) && !(s.members rgn).contains f then s.bump F.HA_LATE_CNT_DOMAIN_DENY (dHome h) 1 else s
        | _, _ => s
      let nonowner := t.fpid.isSome && (o == .wrInv) && (t.req.op == .memWr || t.req.op == .dirtyEvict) &&
        (s.members rgn).contains (t.fpid.getD 0)
      let s1 := if nonowner then s0.bump F.HA_XCNT2_NONOWNER_WB (dHome h) 1 else s0
      let s2 := s1.updTack h rgn line fun t => { t with op := o, inv := p.inv, st := .mem }
      let s3 := if p.read then s2.homeMem h rgn line false [] false else s2
      let s4 := if !p.targets.isEmpty && s3.ownerDeparted h rgn line t.fpid then s3.ownerGone h rgn line else s3
      (s4.snoopAll h rgn line (s4.live h p.targets)).homeAdvance h rgn line

/-- An admitted request whose directory set is known: degraded handling, a way of its set, or EVICT (R259, R263). -/
def State.homeStart (s : State) (h rgn line : Nat) : State :=
  let idx := setIdx rgn line
  let s1 := s.updTack h rgn line fun t => { t with degraded := s.degradedSet h idx }
  match s1.tack? h rgn line with
  | none => s
  | some t =>
    if s1.needsWay h t && decide (16 ≤ s1.waysUsed h idx) then s1.updTack h rgn line fun t => { t with st := .evict }
    else s1.homeRun h rgn line

/-! ### Evictions (R259, R260) -/

/-- The class of a victim: SHR without overflow, SHR with it, OWN. -/
def victimClass (e : DirEntry) : Nat := if e.own then 2 else if e.ovf then 1 else 0

/-- Whether a way is evicted before another. -/
def victimBefore (a b : DirEntry) : Bool :=
  let ka := victimClass a
  let kb := victimClass b
  let na := if ka = 0 then a.sharers.length else 0
  let nb := if kb = 0 then b.sharers.length else 0
  decide (ka < kb) || (ka == kb && (decide (na < nb) || (na == nb && decide (a.used < b.used))))

/-- The victim of a set: no tack on its line, and no hold window. -/
def State.victim (s : State) (h idx : Nat) : Option DirEntry :=
  ((s.home h).dir.filter fun e =>
    setIdx e.rgn e.line == idx && (s.tack? h e.rgn e.line).isNone && !s.held? h e.rgn e.line).foldl (fun acc e => match acc with
      | none => some e
      | some b => if victimBefore e b then some e else some b) none

/-- The tacks in EVICT, oldest stamp first. -/
def State.evictWaiting (s : State) (h : Nat) : List Tack :=
  ((s.home h).tacks.filter fun t => t.st == .evict).foldl (fun l t => insertBy (fun a b => decide (a.req.stamp < b.req.stamp)) t l) []

/-- An eviction of the victim of a set starts for a waiting tack. -/
def State.evictOne (s : State) (h : Nat) (w : Tack) : State :=
  let idx := setIdx w.rgn w.line
  let running := (s.home h).tacks.any fun t => t.eviction && setIdx t.rgn t.line == idx
  if running || decide (512 ≤ s.evtTacks h) || decide (s.waysUsed h idx < 16) then s
  else match s.victim h idx with
    | none => s
    | some e =>
      let k : Tack := { rgn := e.rgn, line := e.line, op := .rdON, req := w.req, fpid := none, st := .snoop, toSnoop := [], reissue := [], inv := true,
                        memRd := false, memWr := 0, data := [], haveDirty := false, poison := false, wrote := true, timer := none, dl := 0,
                        degraded := false, eviction := true, migration := false, absorbed := [], part := [], acks := [] }
      let s1 := (s.setHome h fun x => { x with tacks := x.tacks ++ [k] }).count (cbHome h) 8 0 0 1
      let s2 := if s1.ownerDeparted h e.rgn e.line none then s1.ownerGone h e.rgn e.line else s1
      (s2.snoopAll h e.rgn e.line (s2.live h (if e.ovf then s2.presentMembers h e.rgn else e.sharers))).homeAdvance h e.rgn e.line

/-- Requests in EVICT receive eviction tacks, oldest stamp first; those whose set has a free way go on; the registers follow. -/
def State.homeSettle (s : State) (h : Nat) : State :=
  let s1 := s.each (s.evictWaiting h) fun t w => t.evictOne h w
  let s2 := s1.each (s1.evictWaiting h) fun t w =>
    if t.waysUsed h (setIdx w.rgn w.line) < 16 then t.homeRun h w.rgn w.line else t
  s2.syncHome h

/-! ### Admission (R254 to R256, R269 to R271) -/

/-- A frame of the directory cache for a set: the least recently used unpinned one is replaced, clean ahead of modified (R254). -/
def State.frameFor (s : State) (h idx : Nat) : State :=
  if s.cached h idx then s
  else
    let grp := (s.home h).frames.filter fun f => f.1 % 4096 == idx % 4096
    let best (l : List (Nat × Bool × Nat)) := l.foldl (fun acc f => match acc with
      | none => some f
      | some g => if f.2.2 < g.2.2 then some f else some g) (none : Option (Nat × Bool × Nat))
    let free := grp.filter fun f => !s.pinned h f.1
    let out := if grp.length < 8 then none else match best (free.filter fun f => !f.2.1) with
      | some f => some f
      | none => best free
    let s1 := match out with
      | some f => (s.setHome h fun x => { x with frames := x.frames.erase f })
      | none => s
    let s2 := match out with
      | some f => if f.2.1 then s1.svcAdd 2 (setAddr h f.1) else s1
      | none => s1
    s2.setHome h fun x => { x with frames := x.frames ++ [(idx, false, x.tick)], tick := x.tick + 1 }

/-- A set that cannot be read: HA_DIR_UE, and the degraded-set table of 64 (R262, R263). -/
def State.setLost (s : State) (h idx : Nat) : State :=
  let s1 := s.occ 68 h
  if s.degradedSet h idx then s1
  else if (s.home h).degraded.length < 64 then s1.setHome h fun x => { x with degraded := x.degraded ++ [idx] }
  else s1.occ 72 h

/-- What a lookup of a cached set meets: 0 good, 1 a corrected word, 2 an error cured by reading again, 3 a lasting one (R261, R262). -/
def State.dirEcc (s : State) (h idx ecc : Nat) : State :=
  if ecc = 0 then s
  else if ecc = 1 then s.bump F.HA_ERR_CNT_CORR (dHome h) 1
  else if ecc = 2 && !((s.home h).frames.any fun f => f.1 == idx && f.2.1) then s.bump F.HA_ERR_CNT_REREAD_OK (dHome h) 1
  else s.setLost h idx

/-- The tack of an admitted request. -/
def State.newTack (s : State) (h : Nat) (m : Msg) (st : TackState) : Tack :=
  { rgn := m.sid, line := lineNo m.addr, op := (s.opAt h m).getD .rdC, req := m, fpid := fpidOf m, st := st, toSnoop := [], reissue := [],
    inv := false, memRd := false, memWr := 0, data := [], haveDirty := false, poison := false, wrote := false, timer := none, dl := 0,
    degraded := false, eviction := false, migration := m.srcAg == 83 && m.srcSw == s.ownSw && m.op == .memRd, absorbed := [], part := [],
    acks := [] }

/-- A request is admitted and takes a request tack (R256). -/
def State.homeAdmit (s : State) (h : Nat) (m : Msg) (ecc : Nat) : State :=
  let rgn := m.sid
  let line := lineNo m.addr
  let idx := setIdx rgn line
  let s0 := s.count (cbHome h) 1 0 m.slice 1
  let add (u : State) (st : TackState) : State := u.setHome h fun x => { x with tacks := x.tacks ++ [s.newTack h m st] }
  if s.cached h idx && !s.fetching h idx then
    (((add s0 .lookup).count (cbHome h) 5 0 0 1).dirEcc h idx ecc).homeStart h rgn line
  else
    let s1 := if s.fetching h idx then s0 else (s0.frameFor h idx).svcAdd 2 (setAddr h idx)
    (add s1 .dirf).count (cbHome h) 6 0 0 1

/-- Whether the resource queue is a request's obstacle: request tacks, a frame of the group, or earlier requests there. -/
def State.resBlocked (s : State) (h idx : Nat) : Bool := decide (15872 ≤ s.reqTacks h) || !s.frameOk h idx

def Wait.onLine (w : Wait) (rgn line : Nat) : Bool := w.msg.sid == rgn && lineNo w.msg.addr == line
def Wait.set (w : Wait) : Nat := setIdx w.msg.sid (lineNo w.msg.addr)

/-- The rank of requests of one line that arrive in one Home clock (R268). -/
def State.ranksBefore (s : State) (h : Nat) (a b : Msg) : Bool :=
  let first (m : Msg) : Nat := if s.opAt h m == some .wb || (s.opAt h m == some .ce && fpidOf m == ((s.entry? h m.sid (lineNo m.addr)).bind (·.owner?))) then 0 else 1
  let fp (m : Msg) : Nat := (fpidOf m).getD 4096
  decide (first a < first b) || (first a == first b && (decide (a.stamp < b.stamp) || (a.stamp == b.stamp &&
    (decide (fp a < fp b) || (fp a == fp b && decide (a.srcAg < b.srcAg))))))

/-- A request joins a queue at its arrival position. -/
def joinQueue (w : Wait) (l : List Wait) : List Wait := insertBy (fun a b => decide (a.seq < b.seq)) w l

/-- A request passes the conditions of R256 after its line's, or enters the queue of the first that fails. -/
def State.passSet (s : State) (h : Nat) (w : Wait) : State :=
  let idx := w.set
  let x := s.home h
  if 12 ≤ s.setTacks h idx ∨ x.setQ.any (fun v => v.set == idx) then
    (s.setHome h fun x => { x with setQ := joinQueue w x.setQ }).count (cbHome h) 3 0 w.msg.slice 1
  else if s.resBlocked h idx || !x.resQ.isEmpty then
    (s.setHome h fun x => { x with resQ := joinQueue w x.resQ }).count (cbHome h) 4 0 w.msg.slice 1
  else s.homeAdmit h w.msg 0

/-- Whether a line's chain holds a request back: a tack, a hold window it would break, or an earlier request of the line (R269, R272). -/
def State.lineBlocked (s : State) (h : Nat) (m : Msg) (others : List Wait) : Bool :=
  let rgn := m.sid
  let line := lineNo m.addr
  (s.tack? h rgn line).isSome || (s.held? h rgn line && s.wouldSnoop h m) || others.any fun w => w.onLine rgn line

/-- A request enters its line's chain (R268, R269). -/
def State.joinChain (s : State) (h : Nat) (m : Msg) : State :=
  let x := s.home h
  let w : Wait := ⟨s.homeClk, x.tick, m⟩
  let hold := s.held? h m.sid (lineNo m.addr) && (s.tack? h m.sid (lineNo m.addr)).isNone
  let s1 := s.setHome h fun x =>
    { x with tick := x.tick + 1
             chain := insertBy (fun a b => a.clk == b.clk && a.onLine b.msg.sid (lineNo b.msg.addr) && s.ranksBefore h a.msg b.msg) w x.chain }
  let s2 := s1.count (cbHome h) 2 0 m.slice 1
  if hold then s2.count (cbHome h) 9 0 m.slice 1 else s2

/-- A request that no tack absorbs is admitted, or waits in the queue of the first condition it fails (R256, R269). -/
def State.homeEnter (s : State) (h : Nat) (m : Msg) (ecc : Nat) : State :=
  let x := s.home h
  let idx := setIdx m.sid (lineNo m.addr)
  if s.lineBlocked h m (x.chain ++ x.setQ ++ x.resQ) then s.joinChain h m
  else if 12 ≤ s.setTacks h idx ∨ x.setQ.any (fun v => v.set == idx) ∨ s.resBlocked h idx ∨ !x.resQ.isEmpty then
    (s.setHome h fun x => { x with tick := x.tick + 1 }).passSet h ⟨s.homeClk, x.tick, m⟩
  else s.homeAdmit h m ecc

/-- The choice of a queue's arbiter: the oldest stamp among senior requests, else the earliest arrival (R203, R270). -/
def State.queueChoice (s : State) (h : Nat) (l : List Wait) : Option Wait :=
  let d := dHome h
  let sen := if s.on F.HA_SEN_EN d && s.on F.SOLE_MATCH_CTL_SEN_EN 0 then
      l.filter fun w => decide (s.get F.HA_SEN_THR d < s.tim.num - w.msg.stamp) else []
  match sen with
  | x :: xs => some (xs.foldl (fun b w => if w.msg.stamp < b.msg.stamp then w else b) x)
  | [] => l.head?

/-- The line chains' next request that is free to pass on, in the order of the chains' first arrivals. -/
def State.chainNext (s : State) (h : Nat) : Option Wait :=
  let x := s.home h
  (dedupNat (x.chain.map fun w => w.msg.sid * 2 ^ 32 + lineNo w.msg.addr)).findSome? fun k =>
    match s.queueChoice h (x.chain.filter fun w => w.onLine (k / 2 ^ 32) (k % 2 ^ 32)) with
    | some w => if s.lineBlocked h w.msg (x.setQ ++ x.resQ) then none else some w
    | none => none

/-- The set queues' next request whose set has fewer than 12 tacks. -/
def State.setNext (s : State) (h : Nat) : Option Wait :=
  let x := s.home h
  (dedupNat (x.setQ.map Wait.set)).findSome? fun k =>
    if 12 ≤ s.setTacks h k then none else s.queueChoice h (x.setQ.filter fun w => w.set == k)

/-- The resource queue's next request, where a tack and a frame of its group are free. -/
def State.resNext (s : State) (h : Nat) : Option Wait :=
  if 15872 ≤ s.reqTacks h then none else s.queueChoice h ((s.home h).resQ.filter fun w => s.frameOk h w.set && decide (s.setTacks h w.set < 12))

/-- One request of a queue whose obstacle has cleared passes on (R270): from the resource queue, a set queue, or a line chain. -/
def State.queueAdmit (s : State) (h : Nat) : State :=
  match s.resNext h with
  | some w => (s.setHome h fun x => { x with resQ := x.resQ.erase w }).homeAdmit h w.msg 0
  | none =>
    match s.setNext h with
    | some w =>
      let s1 := s.setHome h fun x => { x with setQ := x.setQ.erase w }
      if s1.resBlocked h w.set || !(s1.home h).resQ.isEmpty then
        (s1.setHome h fun x => { x with resQ := joinQueue w x.resQ }).count (cbHome h) 4 0 w.msg.slice 1
      else s1.homeAdmit h w.msg 0
    | none =>
      match s.chainNext h with
      | some w => (s.setHome h fun x => { x with chain := x.chain.erase w }).passSet h w
      | none => s

/-! ### Arrival (R242, R264, R275, R276, R280, R287) -/

/-- The answer of a fenced slice (R264). -/
def State.fencedAnswer (s : State) (h : Nat) (m : Msg) : State :=
  if m.op = .biConflict then s.respond (76 + h) m .biConflictAck .ok [] false 0
  else match cohOp m false (fpidOf m).isSome with
    | some o =>
      let s1 := s.homeAnswer h m o .inv (poisonLine 64) (isReadOp o) 0
      if isWriteOp o then s1.occ 76 h else s1
    | none => s

/-- A BIConflict: answered behind the response of its host's open tack, or at once (R276). -/
def State.biConflict (s : State) (h : Nat) (m : Msg) : State :=
  match s.tack? h m.sid (lineNo m.addr) with
  | some t =>
    if !t.eviction && t.fpid.isSome && t.fpid == fpidOf m then s.updTack h t.rgn t.line fun t => { t with acks := t.acks ++ [m] }
    else (s.respond (76 + h) m .biConflictAck .ok [] false 0).bump F.HA_XCNT_BICONFLICT (dHome h) 1
  | none => (s.respond (76 + h) m .biConflictAck .ok [] false 0).bump F.HA_XCNT_BICONFLICT (dHome h) 1

/-- Whether an open tack snoops an agent, or will snoop it (R275). -/
def State.tackSnoops (s : State) (h : Nat) (t : Tack) (f : Nat) : Bool :=
  t.toSnoop.contains f ||
    ((t.st == .lookup || t.st == .dirf || t.st == .evict) &&
      (s.live h (s.plan h t.rgn t.line ((s.opAt h t.req).getD t.op) t.fpid t.req).targets).contains f)

/-- A write or clean eviction of a snooped agent is absorbed by the line's tack (R275). -/
def State.homeAbsorb (s : State) (h : Nat) (t : Tack) (m : Msg) (o : CohOp) : State :=
  let s1 := (s.bump F.HA_XCNT_ABSORBED (dHome h) 1).count (cbHome h) 0xA 0 0 1
  if o == .ce then s1.homeAnswer h m .ce .inv [] false (s1.homeLoad h)
  else
    let s2 := if m.op = .dirtyEvict then s1.homeAnswer h m .wb .inv [] false (s1.homeLoad h)
      else s1.updTack h t.rgn t.line fun t => { t with absorbed := t.absorbed ++ [m] }
    if fullLine m then
      (s2.updTack h t.rgn t.line fun t => { t with data := m.data, poison := m.poison, haveDirty := true }).homeMem h t.rgn t.line true m.data m.poison
    else
      let s3 := s2.updTack h t.rgn t.line fun t => { t with part := t.part ++ [m] }
      if t.data.isEmpty && !t.memRd then s3.homeMem h t.rgn t.line false [] false else s3.homeAdvance h t.rgn t.line

/-- An opcode the slice does not serve (R242): GO-Err of CXL.cache, completion or unsupported request otherwise. -/
def State.homeUnlisted (s : State) (h : Nat) (m : Msg) : State :=
  match m.kind with
  | .cacheD2H => s.respond (76 + h) m .goErr .ok [] false 0
  | .io => if expects m then s.respond (76 + h) m .cpl .ur [] false 0 else s
  | _ => if expects m then s.step7 (76 + h) m.via { s.response (76 + h) m .cmp .ok [] false 0 with metaV := .inv } else s

/-- A coherent request reaches its slice. -/
def State.homeArrive (s : State) (h : Nat) (m : Msg) (ecc : Nat) : State :=
  let rgn := m.sid
  let line := lineNo m.addr
  let f := fpidOf m
  if (s.home h).fenced then s.fencedAnswer h m
  else if m.op = .biConflict then s.biConflict h m
  else if m.op = .memSpecRd then s
  else match cohOp m false f.isSome with
    | none => s.homeUnlisted h m
    | some o =>
      let g := f.getD 4096
      if isWriteOp o && f.isSome && (s.home h).dct.contains (g, rgn, m.addr / 64) then
        let s1 := s.setHome h fun x => { x with dct := x.dct.erase (g, rgn, m.addr / 64) }
        (s1.bump F.HA_XCNT2_DCT_MATCH (dHome h) 1).homeAnswer h m o .inv [] false (s.homeLoad h)
      else if isWriteOp o && f.isSome && (s.home h).departed.contains g then
        (s.bump F.HA_DEPART_CNT_DROPPED (dHome h) 1).homeAnswer h m o .inv [] false (s.homeLoad h)
      else match s.tack? h rgn line with
        | some t =>
          if (isWriteOp o || o == .ce) && f.isSome && s.tackSnoops h t g then s.homeAbsorb h t m o else s.homeEnter h m ecc
        | none => s.homeEnter h m ecc

/-! ### Directory fetch, memory and snoop responses -/

/-- A fetched directory set is placed and every tack waiting for it goes on (R254, R262). -/
def State.dirFetched (s : State) (h rgn line out : Nat) : State :=
  let idx := setIdx rgn line
  if !s.fetching h idx then s
  else
    let a := setAddr h idx
    let r := if s.answers a then s.eccRead a out else (s.occ 88 (chanOf a), false)
    let s1 := r.1.svcDone 2 a
    let s2 := if r.2 then (if 2 ≤ out then s1.bump F.HA_ERR_CNT_REREAD_OK (dHome h) 1 else s1) else s1.setLost h idx
    let ts := (s2.home h).tacks.filter fun t => t.st == .dirf && setIdx t.rgn t.line == idx
    let s3 := s2.each ts fun u t => u.updTack h t.rgn t.line fun t => { t with st := .lookup }
    s3.each ts fun u t => u.homeStart h t.rgn t.line

/-- A write of a line that an expander did not accept (R284). -/
def State.memLost (s : State) (h rgn line : Nat) : State :=
  let s1 := if s.rgnExp rgn then s.homeIssue h (s.homeMsg h rgn line true (poisonLine 64) true (s.tack? h rgn line)) else s
  (s1.occ 76 h).rgnViral h rgn

/-- A memory access of a tack's line has ended (R247 to R249, R284). -/
def State.homeMemDone (s : State) (h rgn line : Nat) (write : Bool) (data : List Byte) (poison ok : Bool) (dl : Nat) : State :=
  match s.tack? h rgn line with
  | none => s.bump F.HA_LATE_CNT_LATE (dHome h) 1
  | some t =>
    if write then
      if t.memWr = 0 then s.bump F.HA_LATE_CNT_LATE (dHome h) 1
      else if t.migration && !ok then (s.dropTack h rgn line).migClosed h t false
      else
        let s1 := if ok then s else s.memLost h rgn line
        let s2 := if t.memWr = 1 then (s1.absorbDone h t).updTack h rgn line fun t => { t with absorbed := [] } else s1
        (s2.updTack h rgn line fun t => { t with memWr := t.memWr - 1, dl := max t.dl dl }).homeAdvance h rgn line
    else if !t.memRd then s.bump F.HA_LATE_CNT_LATE (dHome h) 1
    else
      (s.updTack h rgn line fun t =>
        if t.haveDirty then { t with memRd := false, dl := max t.dl dl }
        else { t with memRd := false, data := data, poison := poison || !ok, dl := max t.dl dl }).homeAdvance h rgn line

/-- The oldest memory response of a line that has reached its slice: over the home path, or through the crossbar. A migration write into a frame
on a fenced channel is not accepted (R291, R322). -/
def State.homeMemRsp (s : State) (h rgn line : Nat) : State :=
  match (List.range 4).find? fun c => (s.chan c).homeDone.any fun a => a.h == h && a.rgn == rgn && a.line == line with
  | some c =>
    match (s.chan c).homeDone.find? fun a => a.h == h && a.rgn == rgn && a.line == line with
    | some a =>
      let s1 := (s.setChan c fun k => { k with homeDone := k.homeDone.erase a }).dispDone (s.homeMsg h rgn line a.write [] false none).id
      let copy := ((s.tack? h rgn line).map (·.migration)).getD false
      s1.homeMemDone h rgn line a.write a.data a.poison (!(a.write && copy && !s.answers a.dpa)) 0
    | none => s
  | none =>
    match s.sole.crossing.find? fun e => e.1 == 76 + h && e.2.kind == .memS2M && e.2.sid == rgn && e.2.tag == line with
    | some (_, m) => (s.uncross (76 + h) m.id).homeMemDone h rgn line (m.op == .cmp) m.data m.poison (m.status == .ok) m.devload
    | none => s

/-- A snoop response reaches its tack's reserved place (R248, R264, R275, R288). -/
def State.snoopRsp (s : State) (h : Nat) (m : Msg) : State :=
  let rgn := m.sid
  let line := lineNo m.addr
  let f := m.srcSw * 64 + m.srcAg
  match s.tack? h rgn line with
  | none => s.bump F.HA_LATE_CNT_LATE (dHome h) 1
  | some t =>
    if (s.home h).fenced || !t.toSnoop.contains f || s.dueO t.timer then s.bump F.HA_LATE_CNT_LATE (dHome h) 1
    else
      let s1 := s.updTack h rgn line fun t => { t with toSnoop := t.toSnoop.filter (· != f), reissue := t.reissue.filter (· != f) }
      let keeps := !m.data.isEmpty && !(t.op == .wrInv && !t.eviction)
      let s2 := if keeps then s1.updTack h rgn line fun t => { t with data := m.data, poison := m.poison, haveDirty := true } else s1
      let s3 := if keeps && !(t.op == .wrPtl && !t.eviction) then s2.homeMem h rgn line true m.data m.poison else s2
      s3.homeAdvance h rgn line

/-! ### Departures (R279 to R282) -/

/-- A departed agent returns to normal handling once its walk has ended and it has a reason to (R282). -/
def State.departReturn (s : State) (h : Nat) : State :=
  s.setHome h fun x =>
    let back := x.departed.filter fun f => x.walked.contains f && x.clearOk.contains f
    let drop (l : List Nat) : List Nat := l.filter fun f => !back.contains f
    { x with departed := drop x.departed, walked := drop x.walked, clearOk := drop x.clearOk, presence := drop x.presence }

/-- The outstanding snoops of a departed agent count as answered with no copy and no data (R280). -/
def State.departTacks (s : State) (h f : Nat) (skip : Option (Nat × Nat)) : State :=
  s.each ((s.home h).tacks.filter fun t => t.toSnoop.contains f && some (t.rgn, t.line) != skip) fun u t =>
    let owner := match u.entry? h t.rgn t.line with
      | some e => e.owner? == some f
      | none => false
    let u1 := u.updTack h t.rgn t.line fun t => { t with toSnoop := t.toSnoop.filter (· != f), reissue := t.reissue.filter (· != f) }
    (if owner then u1.ownerGone h t.rgn t.line else u1).homeAdvance h t.rgn t.line

/-- The waiting writes of a departed agent are completed and dropped (R280). DEDUCED (log entry 25). -/
def State.departWaits (s : State) (h f : Nat) : State :=
  let x := s.home h
  let mine (w : Wait) : Bool := fpidOf w.msg == some f && ((cohOp w.msg false true).map isWriteOp).getD false
  let s1 := s.setHome h fun y => { y with chain := y.chain.filter (!mine ·), setQ := y.setQ.filter (!mine ·), resQ := y.resQ.filter (!mine ·) }
  s1.each ((x.chain ++ x.setQ ++ x.resQ).filter mine) fun t w =>
    (t.bump F.HA_DEPART_CNT_DROPPED (dHome h) 1).homeAnswer h w.msg .wrInv .inv [] false (t.homeLoad h)

/-- An agent departs at a slice (R279); `gone` where its port has declared link loss, which lets it return after its walk. -/
def State.departAt (s : State) (h f : Nat) (gone : Bool) (skip : Option (Nat × Nat)) : State :=
  let add (l : List Nat) : List Nat := if l.contains f then l else l ++ [f]
  let s1 := if gone then s.setHome h fun x => { x with clearOk := add x.clearOk } else s
  if (s1.home h).departed.contains f then (s1.departReturn h).syncHome h
  else
    let s2 := s1.setHome h fun x =>
      if x.walking.isEmpty then { x with departed := add x.departed, walking := [f], walkEnd := s.after 16384 }
      else { x with departed := add x.departed, gathered := add x.gathered }
    ((s2.departTacks h f skip).departWaits h f).homeSettle h

/-- An agent departs at every slice of this module. -/
def State.depart (s : State) (f : Nat) (gone : Bool) : State := s.each (List.range 4) fun t h => t.departAt h f gone none

/-- A reason for a departed agent to return: its virtual switch has received a hot reset (R282). -/
def State.departClear (s : State) (f : Nat) : State :=
  s.each (List.range 4) fun t h =>
    ((t.setHome h fun x => { x with clearOk := if x.departed.contains f && !x.clearOk.contains f then x.clearOk ++ [f] else x.clearOk }).departReturn
      h).syncHome h

/-- A write of HA_DEPART_CLR (R282). -/
def State.departClrWrite (s : State) (h : Nat) (v : Word) : State :=
  let s1 := s.storeAt (R.HA_DEPART_CLR + dHome h) v
  let f := s1.get F.HA_DEPART_CLR_FPID (dHome h)
  let x := s1.home h
  if F.HA_DEPART_CLR_GO.of v = 0 then s1
  else if x.departed.contains f && !x.walked.contains f then s1.put F.HA_STATUS_CMD_REFUSED (dHome h) 1
  else if x.departed.contains f then ((s1.setHome h fun x => { x with clearOk := x.clearOk ++ [f] }).departReturn h).syncHome h
  else s1

/-- The line of an entry of a departed owner is written with poison and the entry freed (R281). -/
def State.walkPoison (s : State) (h : Nat) (e : DirEntry) : State :=
  let s1 := (s.entryFree h e.rgn e.line).bump F.HA_DEPART_CNT_POISONED (dHome h) 1
  if s.rgnExp e.rgn then s1.homeIssue h (s.homeMsg h e.rgn e.line true (poisonLine 64) true none)
  else s1.homePath h e.rgn e.line (s.rgnBase e.rgn + lineOfs h e.line) true (poisonLine 64) true

/-- The departure walk of a slice ends: its entries no longer list the walked agents, and the gathered ones are walked next (R281).
DEDUCED (log entry 25). -/
def State.walkDone (s : State) (h : Nat) : State :=
  let x := s.home h
  if x.walking.isEmpty || !s.reached x.walkEnd then s
  else
    let es := x.dir.filter fun e => !e.ovf && (s.tack? h e.rgn e.line).isNone && e.sharers.any x.walking.contains
    let s1 := s.each es fun t e =>
      if e.own then t.walkPoison h e else t.each x.walking fun u f => u.entryDrop h e.rgn e.line f
    let s2 := s1.setHome h fun y =>
      { y with walked := y.walked ++ y.walking, walking := y.gathered.take 64, gathered := y.gathered.drop 64, walkEnd := s.after 16384 }
    (s2.departReturn h).homeSettle h

/-! ### Timeouts (R283, R284) -/

/-- A tack's timer has expired: unanswered agents depart, outstanding reads are poison, outstanding writes lost, the response is sent. -/
def State.tackTimeout (s : State) (h rgn line : Nat) : State :=
  match s.tack? h rgn line with
  | none => s
  | some t =>
    if !s.dueO t.timer then s
    else
      let d := dHome h
      let s1 := (s.bump F.HA_TO_STATUS_TIMEOUTS d 1).occ 80 h
      let s2 := s1.each t.toSnoop fun u f =>
        let u1 := (u.put F.HA_TO_STATUS_LAST_FPID d f).put F.HA_TO_STATUS_LAST_VALID d 1
        let u2 := u1.each (List.range 4) fun v k => v.departAt k f false (if k = h then some (rgn, line) else none)
        match u2.entry? h rgn line with
        | some e => if e.owner? == some f then u2.ownerGone h rgn line else u2
        | none => u2
      let s3 := if t.memWr = 0 then s2 else s2.memLost h rgn line
      let t1 := (s3.tack? h rgn line).getD t
      let t2 : Tack := { t1 with toSnoop := [], reissue := [], memRd := false, memWr := 0, timer := none,
                                 poison := t1.poison || (t1.memRd && !t1.haveDirty),
                                 data := if t1.memRd && !t1.haveDirty then poisonLine 64 else t1.lineData }
      let s4 := s3.updTack h rgn line fun _ => t2
      if t.migration && t.wrote then ((s4.dropTack h rgn line).migClosed h t2 false).homeSettle h
      else if t.migration then (s4.migWrite h t2).homeSettle h
      else
        let s5 := if isWriteOp t2.op && !t2.wrote && !t2.eviction then s4.homeMem h rgn line true t2.finalData.1 t2.finalData.2 else s4
        (s5.homeClose h t2).homeSettle h

/-! ### Hold windows, resent writes, commands, fencing -/

/-- A hold window ends (R272). -/
def State.holdEnd (s : State) (h rgn line : Nat) : State :=
  (s.setHome h fun x => { x with holds := x.holds.filter fun e => !(e.1 == rgn && e.2.1 == line && decide (e.2.2 ≤ s.homeClk)) }).homeSettle h

/-- A lost write is sent again by HA0, unchanged, over a route that is UP (R286). -/
def State.lwtResend (s : State) (id : Nat) : State :=
  match s.lwt.find? fun r => r.msg.id == id && !r.resent with
  | none => s
  | some r =>
    match s.linkFor r.msg.dstSw with
    | none => s
    | some m =>
      if s.mlState m = mlUpSt then
        let s1 := s.setLwt fun l => l.map fun x => if x == r then { x with resent := true } else x
        s1.step7Now 76 (64 + m) { r.msg with via := 76 }
      else s

/-- The completion of a resent write returns: its record is freed and the held messages go on (R286). -/
def State.lwtDone (s : State) (id : Nat) : State :=
  match s.lwt.find? fun r => r.msg.id == id && r.resent, s.crossed? 76 id with
  | some r, some m =>
    if isResp m.op then
      let s1 := (s.uncross 76 id).setLwt fun l => l.erase r
      (s1.syncLwt.bump F.HA_LWT_STATUS_RESENT 0 1).drainBehind
    else s
  | _, _ => s

/-- A write of HA_CTL: RESUME_CLEAN ends degraded handling, or is refused while a tack is open (R265). DEDUCED (log entry 25). -/
def State.homeCtlWrite (s : State) (h : Nat) (v : Word) : State :=
  let s1 := s.storeAt (R.HA_CTL + dHome h) v
  if F.HA_CTL_RESUME_CLEAN.of v = 0 then s1
  else if (s1.home h).tacks.isEmpty then
    ((s1.put F.HA_STATUS_DEGRADED_ALL (dHome h) 0).setHome h fun x => { x with degraded := [] }).syncHome h
  else s1.put F.HA_STATUS_CMD_REFUSED (dHome h) 1

/-- A slice is fenced: every tack and waiting request is failed back, migrations of its lines are abandoned, viral is raised (R264, R291). -/
def State.homeFence (s : State) (h : Nat) : State :=
  let x := s.home h
  let ts := x.tacks.filter fun t => !t.eviction && !t.migration
  let ws := x.chain ++ x.setQ ++ x.resQ
  let s1 := s.setHome h fun y => { y with tacks := [], chain := [], setQ := [], resQ := [], holds := [], fenced := true }
  let s2 := s1.each ts fun t k => (t.fencedAnswer h k.req).each (k.absorbed ++ k.acks) fun u m => u.fencedAnswer h m
  let s3 := s2.each ws fun t w => if w.msg.srcAg == 83 then t else t.fencedAnswer h w.msg
  let s4 := s3.each (x.tacks.filter (·.migration)) fun t k => t.migClosed h k false
  let s5 := s4.each ((List.range 1024).filter fun r => s.on F.HA_RGN_CFG_VALID (ent r)) fun t r => t.rgnViral h r
  s5.syncHome h

/-- A fenced slice is released: every line in degraded handling, its directory cache empty (R265). -/
def State.homeRelease (s : State) (h : Nat) : State :=
  ((s.setHome h fun x => { x with fenced := false, frames := [] }).put F.HA_STATUS_DEGRADED_ALL (dHome h) 1).syncHome h

end Sys2Proof.Machine
end

