-- ==== Sys2Proof/Machine/Binding.lean ====
section
/-!
DEFINITION. Partners, virtual switches and bindings, the wake budget and the shelves, ownership and the reports to other modules
(spec/12 R324 to R331, R349 to R354; spec/13 R357, R358).
-/
namespace Sys2Proof.Machine
open Sys2Proof

/-! ### Virtual switches and bindings in force (R326, R327) -/

/-- The virtual switch a vPPB belongs to. -/
def State.vsOf (s : State) (v : Nat) : Option Nat :=
  (List.range 64).find? fun k =>
    s.on F.BND_VSW_VALID (4 * k) && decide (s.get F.BND_VSW_FIRST (4 * k) ≤ v) &&
      decide (v < s.get F.BND_VSW_FIRST (4 * k) + s.get F.BND_VSW_COUNT (4 * k))

/-- The upstream port of a vPPB's virtual switch. -/
def State.upOf (s : State) (v : Nat) : Option Nat := (s.vsOf v).map fun k => s.get F.BND_VSW_UPORT (4 * k)

/-- The virtual switch of an upstream port. -/
def State.vsAt (s : State) (n : Nat) : Option Nat :=
  (List.range 64).find? fun k => s.on F.BND_VSW_VALID (4 * k) && s.get F.BND_VSW_UPORT (4 * k) == n

/-- A binding: target kind, port or switch ID, LD or object or function, slice. -/
structure Bound where
  kind : Nat
  port : Nat
  obj : Nat
  slice : Nat
deriving DecidableEq, Repr

/-- The layout of a target (BND_VPPB_POL, bits [26:0]). -/
def Bound.word (b : Bound) : Nat := b.kind % 8 + b.port % 64 * 8 + b.obj % 512 * 512 + b.slice % 512 * 262144

def Bound.ofNat (w : Nat) : Bound := ⟨w % 8, w / 8 % 64, w / 512 % 512, w / 262144 % 512⟩

/-- The binding of a vPPB. -/
def State.bound? (s : State) (v : Nat) : Option Bound :=
  if s.on F.BND_VPPB_BIND_BOUND (ent v) then some (Bound.ofNat (s.get F.BND_VPPB_BIND_TARGET (ent v))) else none

/-- The bound vPPBs, rising. -/
def State.boundList (s : State) : List (Nat × Bound) :=
  (listedEnts s.regs R.BND_VPPB_BIND).filterMap fun v => (s.bound? v).map fun b => (v, b)

/-- The policy target of a vPPB. -/
def State.policyOf (s : State) (v : Nat) : Bound :=
  ⟨s.get F.BND_VPPB_POL_KIND (ent v), s.get F.BND_VPPB_POL_PORT (ent v), s.get F.BND_VPPB_POL_LD_OBJ (ent v), s.get F.BND_VPPB_POL_SLICE (ent v)⟩

/-- The vPPBs with a policy target. -/
def State.policies (s : State) : List (Nat × Bound) :=
  ((listedEnts s.act R.BND_VPPB_POL).map fun v => (v, s.policyOf v)).filter fun e => e.2.kind != 0

/-- The state of a slice (R334). -/
def State.slState (s : State) (sl : Nat) : Nat := s.get F.BND_SL_STATUS_STATE (ent sl)

/-! ### The checks of a bind (R328) -/

/-- Bindings, in force or checked for the coming boundary, that name a target. -/
def State.targetUses (s : State) (p : Nat → Nat → Nat → Bool) : Nat :=
  (s.boundList.filter fun e => p e.2.kind e.2.port e.2.obj).length + (s.bnd.binds.filter fun c => p c.kind c.port c.obj).length

/-- Whether the target exists: its port UNBOUND or BOUND with the LD, a valid object or function, a reachable module (R328, reason 2). -/
def State.targetOk (s : State) (b : Bound) : Bool :=
  let ready := s.hp b.port == hpBound || s.hp b.port == hpUnbound
  match b.kind with
  | 1 => ready && s.portMode b.port != 3 && !upMode (s.portMode b.port)
  | 2 => ready && s.get F.BND_PARTNER_KIND (ent b.port) == 3 && decide (b.obj < s.get F.BND_PARTNER_LDS (ent b.port))
  | 3 => if b.port = s.ownSw then s.on F.INS_OBJ_CFG_VALID (ent b.obj) else s.usable b.port
  | 4 => s.on F.VAMP_FN_CFG_VALID (ent b.obj)
  | 5 => true
  | _ => false

/-- Whether the target is bound to its limit of vPPBs (R327, R357, R358; reason 3). -/
def State.targetInUse (s : State) (b : Bound) : Bool :=
  match b.kind with
  | 1 => s.vampHeld b.port || decide (0 < s.targetUses fun k p _ => (k == 1 || k == 2) && p == b.port)
  | 2 => decide (0 < s.targetUses fun k p o => p == b.port && (k == 1 || (k == 2 && o == b.obj)))
  | 3 =>
    let lim := if b.port = s.ownSw ∧ ¬ s.on F.INS_OBJ_CFG_KIND (ent b.obj) then 1 else 16
    decide (lim ≤ s.targetUses fun k p o => k == 3 && p == b.port && o == b.obj)
  | 4 => decide (16 ≤ s.targetUses fun k _ o => k == 4 && o == b.obj)
  | _ => false

/-- Whether a target carries CXL.mem traffic. -/
def State.targetMem (s : State) (b : Bound) : Bool :=
  b.kind == 2 || b.kind == 3 || (b.kind == 1 && (s.get F.BND_PARTNER_KIND (ent b.port) == 2 || s.get F.BND_PARTNER_KIND (ent b.port) == 3))

/-- Whether the upstream port's mode allows the target kind (reason 4): no CXL.mem behind PCIE_UP, and only one of the pool's LDs behind a
restricted CXL device port (R127). -/
def State.modeOk (s : State) (up : Nat) (b : Bound) : Bool :=
  let md := s.portMode up
  if md = 1 then !s.targetMem b else if md = 4 then b.kind == 3 else md == 5 || md == 7

/-- Whether the target's memory overlaps a coherent region of this module (reason 5). -/
def State.targetCoherent (s : State) (b : Bound) : Bool :=
  (List.range 1024).any fun r =>
    s.on F.HA_RGN_CFG_VALID (ent r) &&
      (if b.kind = 3 ∧ b.port = s.ownSw then
        !s.rgnExp r && (objSpan s.get b.obj).any fun x =>
          let a := poolBase + s.get F.INS_EXT_PEXT (ent x) * 0x4000000
          decide (a < s.rgnBase r + s.get F.HA_RGN_SIZE_SIZE (ent r) * 16384) && decide (s.rgnBase r < a + 0x4000000)
       else if b.kind = 1 then s.rgnExp r && s.rgnPort r == b.port
       else if b.kind = 2 then s.rgnExp r && s.rgnPort r == b.port && s.rgnLd r == b.obj
       else false)

/-- Whether a host's port cannot reach coherent regions (R133): modes 1, 4 and 5, CXL 2.0, or 68 B flits. -/
def State.portNoCoh (s : State) (up : Nat) : Bool :=
  let md := s.portMode up
  md == 1 || md == 4 || md == 5 || s.get F.EP_CXL_STATUS_VER (dPort up) != 3 || s.get F.EP_CXL_STATUS_FLITFMT (dPort up) == 0

/-- The reason for refusing a bind, zero where it passes (R328). DEDUCED (log entry 27). -/
def State.bindReason (s : State) (v : Nat) (b : Bound) : Nat :=
  match s.upOf v with
  | none => 1
  | some up =>
    if (s.bound? v).isSome || s.bnd.binds.any (fun c => c.vppb == v) then 1
    else if !s.targetOk b then 2
    else if s.targetInUse b then 3
    else if !s.modeOk up b then 4
    else if s.targetCoherent b && s.portNoCoh up then 5
    else if s.on F.EP_IDE_STATUS_BLOCKED (dPort up) || ((b.kind == 1 || b.kind == 2) && s.on F.EP_IDE_STATUS_BLOCKED (dPort b.port)) then 6
    else if s.slState b.slice != 1 then 7
    else 0

/-- A bind result is reported (R328, R410). -/
def State.bindEvent (s : State) (v reason : Nat) (unbind : Bool) : State :=
  s.event clsBind 0xB v 1 (v + reason * 1024 + bit unbind * 16384)

/-- The status of a path's bind command, at the entry its command acted on. -/
def State.bcmdStatus (s : State) (p : Option Path) (v st reason : Nat) : State :=
  if p.isSome then (s.put F.BND_BCMD_STATUS_STATE (ent v) st).put F.BND_BCMD_STATUS_REASON (ent v) reason else s

/-- Whether a path's previous bind or unbind is still PENDING. DEDUCED (log entry 27). -/
def State.bindBusy (s : State) (p : Option Path) : Bool :=
  p.isSome && (s.bnd.binds.any (fun c => c.path == p) || s.bnd.unbinds.any fun c => c.path == p)

/-- A bind is checked, and queued for the next boundary or refused (R328). The reason is returned. -/
def State.bindCmd (s : State) (p : Option Path) (v : Nat) (b : Bound) : State × Nat :=
  let r := if s.bindBusy p then 9 else s.bindReason v b
  if r = 0 then
    ((s.setBnd fun x => { x with binds := x.binds ++ [⟨s.tim.bnd, p, v, b.kind, b.port, b.obj, b.slice⟩] }).bcmdStatus p v 1 0, 0)
  else
    let s1 := if r = 9 then s.put F.BND_BCMD_STATUS_REASON (ent v) 9 else s
    ((if r = 9 && !(s.get F.BND_BCMD_STATUS_STATE (ent v) == 1) then s1.bcmdStatus p v 3 9 else if r = 9 then s1 else s.bcmdStatus p v 3 r).bindEvent v
      r false, r)

/-- An unbind is checked and started (R329). The reason is returned. -/
def State.unbindCmd (s : State) (p : Option Path) (v umode : Nat) : State × Nat :=
  let r := if s.bindBusy p then 9 else if (s.bound? v).isNone || s.bnd.unbinds.any (fun u => u.vppb == v) then 1 else 0
  if r = 0 then
    let s1 := (s.setBnd fun x => { x with unbinds := x.unbinds ++ [⟨s.tim.bnd, p, v, umode⟩] }).bcmdStatus p v 1 0
    (if umode = 1 then s1.send (.ctl ((s.upOf v).getD 0) 11 v) else s1, 0)
  else
    let s1 := if r = 9 && s.get F.BND_BCMD_STATUS_STATE (ent v) == 1 then s.put F.BND_BCMD_STATUS_REASON (ent v) 9 else s.bcmdStatus p v 3 r
    (s1.bindEvent v r true, r)

/-- A write of BND_BCMD (R328, R329). -/
def State.bcmdWrite (s : State) (p : Path) (w : Word) : State :=
  let v := s.sel p F.BND_VSEL_VPPB
  let s1 := s.storeAt (R.BND_BCMD + ent v) w
  if F.BND_BCMD_GO.of w = 0 then s1
  else if F.BND_BCMD_OP.of w = 0 then
    (s1.bindCmd (some p) v ⟨F.BND_BCMD_KIND.of w, F.BND_BCMD_PORT.of w, F.BND_BCMD_LD_OBJ.of w, F.BND_BCMD_SLICE.of w⟩).1
  else (s1.unbindCmd (some p) v (F.BND_BCMD_UMODE.of w)).1

/-! ### Bindings applied and removed -/

def VBind.start : VBind := { bars := [], memEn := false, busEn := false, intxDis := false }

/-- BINDINGS and OWNER of a presented function kept with its bindings: the owner stays while bound, and the lowest vPPB follows (R358). -/
def State.syncFn (s : State) (f : Nat) : State :=
  let vs := (s.boundList.filter fun e => e.2.kind == 4 && e.2.obj == f).map (·.1)
  let old := s.get F.VAMP_FN_STATUS_OWNER (ent f)
  let s1 := s.put F.VAMP_FN_STATUS_BINDINGS (ent f) vs.length
  match vs with
  | [] => (s1.put F.VAMP_FN_STATUS_OWNER (ent f) 0).put F.VAMP_FN_STATUS_OWNER_VALID (ent f) 0
  | v :: rest =>
    let keep := s.on F.VAMP_FN_STATUS_OWNER_VALID (ent f) && vs.contains old
    (s1.put F.VAMP_FN_STATUS_OWNER (ent f) (if keep then old else rest.foldl min v)).put F.VAMP_FN_STATUS_OWNER_VALID (ent f) 1

/-- A checked bind takes effect: the vPPB is bound, a VAMP function gains its virtual configuration, and an UNBOUND port is BOUND
(R150, R328, R358). -/
def State.bindApply1 (s : State) (c : BindCmd) : State :=
  let b : Bound := ⟨c.kind, c.port, c.obj, c.slice⟩
  let s1 := (s.put F.BND_VPPB_BIND_TARGET (ent c.vppb) b.word).put F.BND_VPPB_BIND_BOUND (ent c.vppb) 1
  let s2 := if (c.kind = 1 ∨ c.kind = 2) ∧ s1.hp c.port = hpUnbound then s1.hpTo c.port hpBound else s1
  let s3 := if c.kind = 4 then (s2.setVmp fun x => { x with binds := x.binds.set c.vppb VBind.start }).syncFn c.obj else s2
  (s3.bcmdStatus c.path c.vppb 2 0).bindEvent c.vppb 0 false

/-- Whether a boundary has begun since a command's check. -/
def State.since (s : State) (b : Nat) : Bool := decide (b < s.tim.bnd)

/-- The Management instant of a boundary: every checked bind applies (R328). -/
def State.bindApply (s : State) : State :=
  let now := s.bnd.binds.filter fun c => s.since c.since
  (s.setBnd fun x => { x with binds := x.binds.filter fun c => !s.since c.since }).each now State.bindApply1

/-- The held port of a window (spec/13 R362). -/
def State.winPort (s : State) (w : Nat) : Nat := s.get F.VAMP_FN_CFG_PORT (ent (s.get F.VAMP_WIN_CFG_FN (ent w)))

/-- Prefetched lines are discarded unread: each counts for its window, whose count reaching DISC_TH sets VAMP_PF_DISCARD
(spec/13 R364, R365). -/
def State.pfDiscard (s : State) (p : PfLine → Bool) : State :=
  let gone := s.vmp.lines.filter p
  (s.setVmp fun v => { v with lines := v.lines.filter fun l => !p l }).each gone fun t l =>
    let old := t.get F.VAMP_WIN_PFSTAT_DISC (ent l.win)
    let th := t.get F.VAMP_PF_CFG_DISC_TH 0
    let t1 := (t.bump F.VAMP_WIN_PFSTAT_DISC (ent l.win) 1).count cbVamp 3 (t.winPort l.win) l.slice 1
    if th ≠ 0 ∧ old < th ∧ th ≤ old + 1 then t1.occAt (960 + t.winPort l.win) l.win (some (.win l.win)) else t1

/-- The prefetched lines of a binding end with it: those of the function's windows in the binding's slice (spec/13 R364). -/
def State.bindLinesGone (s : State) (b : Bound) : State :=
  if b.kind = 4 then s.pfDiscard fun l => l.slice == b.slice && s.get F.VAMP_WIN_CFG_FN (ent l.win) == b.obj else s

/-- A binding is removed (R329, R330). Loss of presence is reported to the host where asked for. -/
def State.unbind (s : State) (v : Nat) (presence : Bool) : State :=
  match s.bound? v with
  | none => s
  | some b =>
    let s1 := (s.put F.BND_VPPB_BIND_TARGET (ent v) 0).put F.BND_VPPB_BIND_BOUND (ent v) 0
    let s2 := if b.kind = 4 then
        ((s1.setVmp fun x => { x with binds := x.binds.del v }).bindLinesGone b).syncFn b.obj else s1
    if presence then s2.send (.ctl ((s.upOf v).getD 0) 4 v) else s2

/-- An unbind ends at a boundary: SURPRISE at the first one, WAIT and MANAGED once the host has brought the link down (R329). -/
def State.unbindApply (s : State) (v : Nat) (hostDown : Bool) : State :=
  match s.bnd.unbinds.find? fun u => u.vppb == v with
  | none => s
  | some u =>
    if s.since u.since && (u.umode == 2 || hostDown) then
      let s1 := (s.setBnd fun x => { x with unbinds := x.unbinds.filter fun u => u.vppb != v }).unbind v (u.umode == 2)
      (s1.bcmdStatus u.path v 2 0).bindEvent v 0 true
    else s

/-- A downstream port's link loss marks the bindings of its partner for removal at the next boundary (R330, R372). -/
def State.bindingsLost (s : State) (n : Nat) : State :=
  let gone := s.boundList.filter fun e =>
    ((e.2.kind == 1 || e.2.kind == 2) && e.2.port == n) || (e.2.kind == 4 && s.get F.VAMP_FN_CFG_PORT (ent e.2.obj) == n)
  if upMode (s.portMode n) then s else s.setBnd fun x => { x with lost := x.lost ++ (gone.map (·.1)).filter fun v => !x.lost.contains v }

/-- The removals of R330 at a boundary: bindings of partners and LDs end, those of bridged functions report loss of presence (R372). -/
def State.bindingsRemove (s : State) : State :=
  let now := s.bnd.lost
  (s.setBnd fun x => { x with lost := [] }).each now fun t v =>
    match t.bound? v with
    | some b => if b.kind = 4 then t.send (.ctl ((t.upOf v).getD 0) 4 v) else
        (t.setBnd fun x => { x with unbinds := x.unbinds.filter fun u => u.vppb != v }).unbind v true
    | none => t

/-- Whether the Management instant of the running boundary still has BND values to apply, so that ingress holds headers (R324). -/
def State.bndHolds (s : State) : Bool :=
  s.bnd.binds.any (fun c => s.since c.since) || s.bnd.unbinds.any (fun u => u.umode == 2 && s.since u.since)

/-! ### Discovery and policy (R325, R331) -/

/-- What discovery found of a partner: its kind, LDs, whether it is a dynamic capacity device and shows XR_128, its serial number and vendor. -/
structure Partner where
  kind : Nat
  lds : Nat
  dcd : Bool
  xr : Bool
  sn : Option Nat
  vendor : Nat

/-- The partner record (R325). -/
def State.partnerSet (s : State) (n : Nat) (p : Partner) : State :=
  let d := ent n
  let s1 := (((s.put F.BND_PARTNER_KIND d p.kind).put F.BND_PARTNER_LDS d p.lds).put F.BND_PARTNER_DCD d (bit p.dcd)).put F.BND_PARTNER_XR d (bit p.xr)
  let s2 := (s1.put F.BND_PARTNER_SN_VALID d (bit p.sn.isSome)).put F.BND_PARTNER_VENDOR d p.vendor
  (s2.put F.BND_PARTNER_SN_LO_SN d (p.sn.getD 0)).put F.BND_PARTNER_SN_HI_SN d (p.sn.getD 0 / 2 ^ 32)

/-- The partner record of a port without a partner. -/
def State.partnerGone (s : State) (n : Nat) : State := s.partnerSet n ⟨0, 0, false, false, none, 0⟩

/-- Whether a partner's serial number satisfies a vPPB's policy (R331). -/
def State.serialOk (s : State) (v n : Nat) : Bool :=
  !s.on F.BND_VPPB_POL_SN_EN (ent v) ||
    (s.on F.BND_PARTNER_SN_VALID (ent n) && s.get F.BND_PARTNER_SN_LO_SN (ent n) == s.get F.BND_VPPB_SN_LO_SN (ent v) &&
      s.get F.BND_PARTNER_SN_HI_SN (ent n) == s.get F.BND_VPPB_SN_HI_SN (ent v))

/-- Policy binding of a partner: every vPPB whose policy names its port or one of its LDs (R331). A mismatched serial number is
reported as SERIAL. DEDUCED (log entry 27). -/
def State.policyBind (s : State) (n : Nat) : State :=
  s.each (s.policies.filter fun e => (e.2.kind == 1 || e.2.kind == 2) && e.2.port == n) fun t e =>
    if t.serialOk e.1 n then (t.bindCmd none e.1 e.2).1 else t.bindEvent e.1 8 false

/-- The start-up policy bindings of objects, functions and the Cobbler: checked when step 7 has ended, for the next boundary (R331). -/
def State.startBindings (s : State) : State :=
  s.each (s.policies.filter fun e => decide (3 ≤ e.2.kind) && decide (e.2.kind ≤ 5))
    fun t e => (t.bindCmd none e.1 e.2).1

/-- Whether policy BIND leaves the port UNBOUND: a vPPB names it, and none of them accepts its serial number (R331). -/
def State.serialRefused (s : State) (n : Nat) : Bool :=
  let named := s.policies.filter fun e => (e.2.kind == 1 || e.2.kind == 2) && e.2.port == n
  !named.isEmpty && named.all fun e => !s.serialOk e.1 n

/-- Discovery ends (R325, R150): the record, the extended rate where the policy sets it (R136), then BOUND or UNBOUND. A port whose policy
requires IDE does not end discovery before its stream is secure. -/
def State.discoveryDone (s : State) (n : Nat) (p : Partner) : State :=
  let d := dPort n
  let pol := s.get F.EP_HP_CFG_POLICY d
  let up := upMode (s.portMode n)
  if s.hp n ≠ hpDiscover ∨ (pol ≠ 2 ∧ s.get F.EP_IDE_CFG_LINK_POLICY d = 2 ∧ s.get F.EP_IDE_STATUS_LINK_STATE d ≠ 1) then s
  else
    let rec_ : Partner := if up then ⟨5, 0, false, false, none, 0⟩ else if pol = 2 then { p with lds := 0, dcd := false } else p
    let s1 := (s.partnerSet n rec_).setPort n fun x => { x with disc := none }
    let s2 := if up then s1 else s1.put F.EP_XR_STATUS_PARTNER_CAP d (bit p.xr)
    let s3 := if pol = 1 ∧ ¬ s2.serialRefused n then (s2.hpTo n hpBound).policyBind n
      else if pol = 1 then (s2.hpTo n hpUnbound).policyBind n
      else s2.hpTo n hpUnbound
    if !up && s3.on F.EP_LINK_CTL_XR_POLICY d && p.xr then s3.xrWrite n true (s3.port n).xrLopt else s3

/-- The discovery limit has passed (R325). -/
def State.discoveryTimeout (s : State) (n : Nat) : State :=
  if s.hp n = hpDiscover ∧ s.dueO (s.port n).disc then ((s.setPort n fun x => { x with disc := none }).hpTo n hpUnbound).occ 832 n else s

/-! ### The wake budget (R349, R350) -/

/-- The cost of a waiting request: a bank, or 20 plus a shelf. -/
def State.wakeCost (s : State) (k : Nat) : Nat :=
  if k < 20 then s.get F.BND_WCOST_COST (4 * k) else s.get F.BND_SHELF_CFG_COST (ent (k - 20))

/-- The refill of a boundary. -/
def State.wakeRefill (s : State) : State :=
  s.put F.BND_WAKE_STATUS_TOKENS 0 (min (s.get F.BND_WAKE_CFG_CAP 0) (s.get F.BND_WAKE_STATUS_TOKENS 0 + s.get F.BND_WAKE_CFG_RATE 0))

/-- The limit of a shelf's parking or waking, in stitches. -/
def State.wakeLimit (s : State) (sh : Nat) : Nat := s.get F.BND_SHELF_TIME_WAKE_LIMIT (ent sh) * 64

/-- The ports of a shelf. -/
def State.shelfPorts (s : State) (sh : Nat) : List Nat :=
  let m := s.get F.BND_SHELF_PORTS_LO_PORTS (ent sh) + s.get F.BND_SHELF_PORTS_HI_PORTS (ent sh) * 2 ^ 32
  (List.range 64).filter fun n => m.testBit n

def State.shelfTimer (s : State) (sh : Nat) (on : Bool) : State :=
  s.setBnd fun x => { x with shelfTo := if on then x.shelfTo.set sh (s.after (s.wakeLimit sh)) else x.shelfTo.del sh }

/-- The park (12) or wake (13) commands of a shelf are sent to its ports. -/
def State.shelfSend (s : State) (sh act : Nat) : State := s.each (s.shelfPorts sh) fun t n => t.send (.ctl n act sh)

/-- The request at the head is granted when its cost fits (R349, R121, R351). A request waits for the boundary after its stamp. Shelves stay in
WAKE_WAIT while no firmware runs, and banks do not wait behind them (spec/16 R440). DEDUCED (log entry 29). -/
def State.wakeGrant (s : State) : State :=
  match s.bnd.wakeQ.find? fun e => decide (e.2 < 20) || !s.restarting with
  | none => s
  | some (st, k) =>
    let c := s.wakeCost k
    let t := s.get F.BND_WAKE_STATUS_TOKENS 0
    if s.tim.num ≤ st ∨ t < c then s
    else
      let s1 := ((s.setBnd fun b => { b with wakeQ := b.wakeQ.erase (st, k) }).syncWake).put F.BND_WAKE_STATUS_TOKENS 0 (t - c)
      if k < 20 then s1.bankGrant k
      else ((s1.setBndShelf (k - 20) 5).shelfTimer (k - 20) true).shelfSend (k - 20) 13

/-- The largest wake cost of a copy of the configuration (R349). -/
def State.maxCost (_s : State) (g : Fld → Nat → Nat) : Nat :=
  let banks := (List.range 20).foldl (fun m b => max m (g F.BND_WCOST_COST (4 * b))) 0
  (List.range 64).foldl (fun m sh => if g F.BND_SHELF_CFG_VALID (ent sh) = 1 then max m (g F.BND_SHELF_CFG_COST (ent sh)) else m) banks

/-! ### Shelves (R351) -/

def State.shelfErr (s : State) (sh e : Nat) : State := s.put F.BND_SHELF_STATUS_ERR (ent sh) e

/-- A shelf starts to park: the Insole cleans it (R318, R319). -/
def State.shelfParkStart (s : State) (sh : Nat) : State := ((s.shelfErr sh 0).setBndShelf sh 1).shelfClean sh

/-- PARK written (R351). -/
def State.shelfPark (s : State) (sh : Nat) : State := if s.bndShelf sh = 0 then s.shelfParkStart sh else s.shelfErr sh 1

/-- WAKE written (R351): the wake is reported to the Insole and requested. -/
def State.shelfWake (s : State) (sh : Nat) : State :=
  if s.bndShelf sh = 3 then (((s.shelfErr sh 0).setBndShelf sh 4).setShelf sh 4).wakeAdd (20 + sh) else s.shelfErr sh 1

/-- The commands of BND_SHELF_CMD for a shelf. -/
def State.shelfCmd (s : State) (sh : Nat) (w : Word) : State :=
  let s1 := if F.BND_SHELF_CMD_PARK.of w = 1 then s.shelfPark sh else s
  if F.BND_SHELF_CMD_WAKE.of w = 1 then s1.shelfWake sh else s1

/-- A write of BND_SHELF_CMD: parking and waking wait for firmware (spec/16 R440). -/
def State.shelfCmdWrite (s : State) (p : Path) (w : Word) : State :=
  let sh := s.sel p F.BND_SHSEL_SHELF
  s.firmware sh (.shelfPark p w) fun t => t.shelfCmd sh w

/-- No request has reached the shelf's ports for PARK_IDLE × 1,024 stitches (R351). -/
def State.shelfIdlePark (s : State) (sh : Nat) : State :=
  let idle := s.get F.BND_SHELF_TIME_PARK_IDLE (ent sh) * 1024
  if s.bndShelf sh = 0 ∧ s.on F.BND_SHELF_CFG_PARK_EN (ent sh) ∧ 0 < idle ∧
      (s.shelfPorts sh).all (fun n => decide ((s.port n).lastReq + idle ≤ s.tim.bnd)) then s.shelfParkStart sh
  else s

/-- The Insole reports CLEAN: firmware sends park commands (R351, spec/16 R440). -/
def State.shelfParking (s : State) (sh : Nat) : State :=
  if s.bndShelf sh = 1 ∧ s.shelfState sh = 2 ∧ ¬ s.restarting then ((s.setBndShelf sh 2).shelfTimer sh true).shelfSend sh 12 else s

/-- Every port has acknowledged: PARKED, and WAKE_WAIT at once where a wake request was kept (R351). DEDUCED (log entry 29). -/
def State.shelfParkAck (s : State) (sh : Nat) : State :=
  if s.bndShelf sh = 2 then
    let s1 := ((s.setBndShelf sh 3).shelfTimer sh false).shelfParked sh
    if s1.bnd.pendWake.contains sh then
      (((s1.setBnd fun b => { b with pendWake := b.pendWake.filter (· != sh) }).setBndShelf sh 4).setShelf sh 4).wakeAdd (20 + sh)
    else s1
  else s

/-- Parking not acknowledged in time: AWAKE with ERR PARK (R351). -/
def State.shelfParkTimeout (s : State) (sh : Nat) : State :=
  if s.bndShelf sh = 2 ∧ s.dueO (s.bnd.shelfTo.find sh) then
    (((s.shelfTimer sh false).shelfErr sh 2).setBndShelf sh 0).shelfRelease sh |>.setBnd fun b => { b with pendWake := b.pendWake.filter (· != sh) }
  else s

/-- Every port of the shelf is BOUND again (R351, R320). The released requests are left for the same command. -/
def State.shelfWakeDone (s : State) (sh : Nat) : State :=
  if s.bndShelf sh = 5 ∧ (s.shelfPorts sh).all (fun n => s.hp n == hpBound) then
    let s1 := ((s.shelfTimer sh false).setBndShelf sh 0).bump F.BND_SHELF_STATUS_WAKES (ent sh) 1
    releaseHeld (s1.shelfAwake sh s1.coherentGran)
  else s

/-- A wake not done in time: PARKED, the failure reported, and the held requests completed as for a lost link (R351, R320). -/
def State.shelfWakeTimeout (s : State) (sh : Nat) : State :=
  if s.bndShelf sh = 5 ∧ s.dueO (s.bnd.shelfTo.find sh) then
    let s1 := (((s.shelfTimer sh false).shelfErr sh 3).setBndShelf sh 3).occ 384 sh
    let r := s1.shelfWakeFailed sh
    r.1.each r.2 fun t m => if 76 ≤ m.srcAg ∧ m.srcAg ≤ 79 ∧ m.srcSw = t.ownSw
      then t.homeSelf (m.srcAg - 76) m.sid m.tag (m.op == .memWr) else t.failBack 83 m
  else s

/-! ### Ownership (R353) -/

/-- The lease in stitches: LEASE seconds of 976,562.5 stitches. DEDUCED (log entry 27). -/
def State.leaseEnd (s : State) : Option Nat :=
  let l := s.get F.BND_FM_LEASE 0
  if l = 0 then none else some (s.after ((l * 1953125 + 1) / 2))

/-- The OWNER event. -/
def State.ownerEvent (s : State) (eid sw : Nat) (owned : Bool) : State :=
  s.event clsBind 0xB 0 3 (eid % 256 + sw % 64 * 256 + bit owned * 16384)

/-- A controlling command of an endpoint: accepted from the owner, or from any endpoint when there is none, which it claims (R353). -/
def State.ownerAccept (s : State) (eid sw : Nat) : State × Bool :=
  if s.on F.BND_FM_OWNED 0 then
    if s.get F.BND_FM_OWNER_EID 0 = eid ∧ s.get F.BND_FM_OWNER_SW 0 = sw then (s.setBnd fun b => { b with lease := s.leaseEnd }, true) else (s, false)
  else
    let s1 := ((s.put F.BND_FM_OWNER_EID 0 eid).put F.BND_FM_OWNER_SW 0 sw).put F.BND_FM_OWNED 0 1
    ((s1.setBnd fun b => { b with lease := s.leaseEnd }).ownerEvent eid sw true, true)

/-- The lease has run out (R353). -/
def State.leaseExpiry (s : State) : State :=
  if s.on F.BND_FM_OWNED 0 ∧ s.dueO s.bnd.lease then
    ((s.put F.BND_FM_OWNED 0 0).setBnd fun b => { b with lease := none }).ownerEvent (s.get F.BND_FM_OWNER_EID 0) (s.get F.BND_FM_OWNER_SW 0) false
  else s

/-! ### Reports to other modules (R354) -/

/-- A vendor MCTP message from one Clicker to another: a report, or with `ack` its acknowledgement. -/
def State.reportMsg (s : State) (sw kind val : Nat) (ack : Bool) : Msg :=
  { id := 2 ^ 120 + ((sw * 4 + kind) * 2 ^ 16 + val % 2 ^ 16) * 2 + bit ack, via := 82, kind := .mctp, op := .mctp, metaV := .none,
    srcSw := s.ownSw, srcAg := 82, dstSw := sw, dstAg := 82, slice := s.get F.BND_AGSL_SLICE (4 * 10), cls := 0, colour := .green, stamp := s.tim.num,
    body := 2, hops := 0, space := .bus, sid := kind, addr := val, len := 8, pasid := none, tag := bit ack, data := [], poison := false,
    status := .ok, devload := 0, be := false }

/-- The modules a Clicker can reach. -/
def State.peers (s : State) : List Nat := (List.range 64).filter fun w => w != s.ownSw && s.usable w

/-- A report is sent to every other module in reach, and again every 256 stitches until acknowledged. DEDUCED (log entry 27). -/
def State.report (s : State) (kind val : Nat) : State :=
  s.each s.peers fun t w =>
    ((t.setBnd fun b => { b with reports := b.reports.filter (fun r => !(r.sw == w && r.kind == kind && r.val == val)) ++ [⟨w, kind, val, s.after 256⟩] }).enqueue
      82 (t.reportMsg w kind val false))

/-- The reports to a module that are due are sent again. -/
def State.reportRepeat (s : State) (w : Nat) : State :=
  let due := s.bnd.reports.filter fun r => r.sw == w && s.reached r.next
  let s1 := s.setBnd fun b => { b with reports := b.reports.map fun r => if r.sw == w && s.reached r.next then { r with next := s.after 256 } else r }
  s1.each due fun t r => t.enqueue 82 (t.reportMsg r.sw r.kind r.val false)

/-- A far Clicker acknowledges a report. -/
def State.reportAcked (s : State) (w kind val : Nat) : State :=
  s.setBnd fun b => { b with reports := b.reports.filter fun r => !(r.sw == w && r.kind == kind && r.val == val) }

/-- A report arrives: kept for the next boundary and acknowledged. -/
def State.reportRx (s : State) (w kind val : Nat) : State :=
  let s1 := s.setBnd fun b => { b with reportsRx := if b.reportsRx.contains (kind, val) then b.reportsRx else b.reportsRx ++ [(kind, val)] }
  s1.enqueue 82 (s1.reportMsg w kind val true)

/-- The value of a departure report: the FPID, and whether its port declared link loss, which lets the agent return (R282). -/
def departVal (f : Nat) (gone : Bool) : Nat := f + bit gone * 4096

/-- The reports received apply at the boundary: a departed FPID departs at every home agent slice (R279). -/
def State.reportsApply (s : State) : State :=
  let now := s.bnd.reportsRx
  (s.setBnd fun b => { b with reportsRx := [] }).each now fun t r =>
    if r.1 = 0 then t.depart (r.2 % 4096) (decide (4096 ≤ r.2)) else t

/-- The departure of an agent of this module, here and everywhere (R279, R354). -/
def State.departAll (s : State) (f : Nat) (gone : Bool) : State := (s.depart f gone).report 0 (departVal f gone)

/-! ### Link loss and resets of a port (R145, R146, R149, R330) -/

/-- What the declaration of a link loss does beyond the port. -/
def State.lossAll (s : State) (n : Nat) : State :=
  if s.lossReady n then
    let s1 := ((s.lossDeclare n).bindingsLost n).partnerGone n
    let s2 := s1.departAll (s.ownSw * 64 + n) true
    if upMode (s.portMode n) then s2.report 1 (s.ownSw * 64 + n) else s2
  else s

/-- A hot reset from the host: the partners bound to its virtual switch are reset, LDs of MLD partners by LD reset; a departed agent may
return (R145, R282). -/
def State.hotReset (s : State) (n : Nat) : State :=
  let md := s.portMode n
  if md = 1 ∨ md = 5 ∨ md = 7 then
    let s1 := (s.portStale n).departClear (s.ownSw * 64 + n)
    s1.each (s1.boundList.filter fun e => s1.upOf e.1 == some n) fun t e =>
      if e.2.kind = 1 then (t.portStale e.2.port).send (.ctl e.2.port 0 0) else if e.2.kind = 2 then t.send (.ctl e.2.port 2 e.2.obj) else t
  else s

/-- A secondary bus reset of a vPPB: its partner or LD is reset (R145). -/
def State.busReset (s : State) (v : Nat) : State :=
  match s.bound? v with
  | some b => if b.kind = 1 then (s.portStale b.port).send (.ctl b.port 0 0) else if b.kind = 2 then s.send (.ctl b.port 2 b.obj) else s
  | none => s

/-- A link-up, with the departure of an agent whose link fell back to 68 B flits while a coherent region is bound to it (R133, R279). -/
def State.linkUpAll (s : State) (n : Nat) (u : LinkUp) : State :=
  let s1 := s.linkUp n u
  let coh := s1.boundList.any fun e => s1.upOf e.1 == some n && s1.targetCoherent e.2
  if s1.portUp n && u.fmt == 0 && s.portMode n == 7 && coh then s1.departAll (s.ownSw * 64 + n) false else s1

/-! ### Swaps of group BND (R340) -/

/-- The slices that a copy of the configuration has valid. -/
def State.slValid (_s : State) (g : Fld → Nat → Nat) : List Nat := (List.range 512).filter fun sl => g F.BND_SL_CFG_VALID (ent sl) == 1

/-- The checks of a swap of group BND: VALID is cleared only of CLOSED slices, and CAP is not below the largest cost. -/
def State.bndSwapOk (s : State) : Bool :=
  (s.slValid s.get).all (fun sl => s.staged F.BND_SL_CFG_VALID (ent sl) == 1 || s.slState sl == 4) &&
    decide (s.maxCost s.staged ≤ s.staged F.BND_WAKE_CFG_CAP 0)

/-- The slices after a swap: VALID opens a FREE slice, its loss frees a CLOSED one (R334). -/
def State.bndSlices (s : State) : State :=
  s.each (List.range 512) fun t sl =>
    let v := t.on F.BND_SL_CFG_VALID (ent sl)
    if v && t.slState sl == 0 then t.put F.BND_SL_STATUS_STATE (ent sl) 1
    else if !v && t.slState sl == 4 then t.put F.BND_SL_STATUS_STATE (ent sl) 0
    else t

/-- VSW and VPPB of BND_ID kept with the virtual switches. -/
def State.syncVsw (s : State) : State :=
  let vs := (List.range 64).filter fun k => s.on F.BND_VSW_VALID (4 * k)
  (s.put F.BND_ID_VSW 0 vs.length).put F.BND_ID_VPPB 0 ((vs.map fun k => s.get F.BND_VSW_COUNT (4 * k)).sum)

end Sys2Proof.Machine
end

