-- ==== Sys2Proof/Machine/Cobbler.lean ====
section
/-!
DEFINITION. The Cobbler: queue pairs, doorbells, descriptors and their checks, completions and sanitisation (spec/12 R341 to R348).
-/
namespace Sys2Proof.Machine
open Sys2Proof

/-! ### Queue pairs (R341 to R343) -/

def qpDisabled : Nat := 0
def qpEnabled : Nat := 1
def qpStopped : Nat := 2
def qpError : Nat := 3

def State.qpState (s : State) (q : Nat) : Nat := s.get F.COB_QP_STATE_STATE (ent q)
def State.setQp (s : State) (q st : Nat) : State := s.put F.COB_QP_STATE_STATE (ent q) st
def State.qpPriv (s : State) (q : Nat) : Bool := s.on F.COB_QP_CFG_PRIV (ent q)

/-- Entries of the submission and the completion ring. -/
def State.sqSize (s : State) (q : Nat) : Nat := 2 ^ s.get F.COB_QP_CFG_SQ_LOG2 (ent q)
def State.cqSize (s : State) (q : Nat) : Nat := 2 ^ s.get F.COB_QP_CFG_CQ_LOG2 (ent q)

def State.sqBase (s : State) (q : Nat) : Nat :=
  s.get F.COB_SQ_BASE_LO_ADDR (ent q) * 64 + s.get F.COB_SQ_BASE_HI_ADDR (ent q) * 2 ^ 32
def State.cqBase (s : State) (q : Nat) : Nat :=
  s.get F.COB_CQ_BASE_LO_ADDR (ent q) * 64 + s.get F.COB_CQ_BASE_HI_ADDR (ent q) * 2 ^ 32

/-- Whether the rings lie in the Insole DPA, which only a queue pair with PRIV may ask for (R341). -/
def State.ringDpa (s : State) (q : Nat) : Bool := s.on F.COB_QP_CFG_RING_DPA (ent q) && s.qpPriv q

/-- The completion ring has no room. DEDUCED (log entry 30). -/
def State.cqFull (s : State) (q : Nat) : Bool := (s.cob.cqTails.getD q 0 + 1) % s.cqSize q == s.cob.cqHeads.getD q 0

/-- OPEN, SANITISING and CQ_FULL kept with the descriptors. -/
def State.syncCob (s : State) (q : Nat) : State :=
  let s1 := s.put F.COB_STATUS_OPEN 0 (s.cob.descs.filter fun d => d.st == .running).length
  (s1.put F.COB_STATUS_SANITISING 0 (bit (!s.cob.san.isEmpty || !s.cob.sanRun.isEmpty))).put F.COB_QP_STATE_CQ_FULL (ent q) (bit (s.cqFull q))

/-- ENABLE zeroes the submission head and tail, the completion tail and the phase, and enables a defined queue pair (R343). DEDUCED (log entry 30). -/
def State.qpEnable (s : State) (q : Nat) : State :=
  if s.on F.COB_QP_CFG_VALID (ent q) then
    (((s.put F.COB_QP_STATE_SQ_HEAD (ent q) 0).setCob fun c =>
      { c with tails := c.tails.set q 0, cqTails := c.cqTails.set q 0, phase := c.phase.set q false }).setQp q qpEnabled).syncCob q
  else s

/-- DISABLE stops fetching at once (R343). DEDUCED (log entry 30). -/
def State.qpDisable (s : State) (q : Nat) : State := s.setQp q qpDisabled

/-- A write of COB_QP_CTL. -/
def State.qpCtlWrite (s : State) (p : Path) (w : Word) : State :=
  let q := s.sel p F.COB_QSEL_QP
  let s1 := if F.COB_QP_CTL_ENABLE.of w = 1 then s.qpEnable q else s
  if F.COB_QP_CTL_DISABLE.of w = 1 then s1.qpDisable q else s1

/-- A doorbell: a new submission tail, or a new completion head; ignored and counted where its value is not below the ring size, the
queue pair is not ENABLED or its slice not OPEN (R333, R342). -/
def State.doorbell (s : State) (q : Nat) (head : Bool) (v : Nat) : State :=
  if (if head then s.cqSize q else s.sqSize q) ≤ v ∨ s.qpState q ≠ qpEnabled ∨ s.slState q ≠ 1 then
    s.bump F.COB_QP_ERR_IGNORED_DB (ent q) 1
  else (s.setCob fun c => if head then { c with cqHeads := c.cqHeads.set q v } else { c with tails := c.tails.set q v }).syncCob q

/-- A write of COB_QP_DB rings both (R342, R356). -/
def State.qpDbWrite (s : State) (p : Path) (w : Word) : State :=
  let q := s.sel p F.COB_QSEL_QP
  ((s.storeAt (R.COB_QP_DB + ent q) w).doorbell q false (F.COB_QP_DB_SQ_TAIL.of w)).doorbell q true (F.COB_QP_DB_CQ_HEAD.of w)

/-! ### Descriptors (R344, R345) -/

/-- Completion status values (R347). -/
def csSuccess : Nat := 0x00
def csOpcode : Nat := 0x10
def csLength : Nat := 0x11
def csAlign : Nat := 0x12
def csSpace : Nat := 0x13
def csBounds : Nat := 0x14
def csAccess : Nat := 0x15
def csPoison : Nat := 0x16
def csLink : Nat := 0x17
def csTimeout : Nat := 0x18
def csSquashed : Nat := 0x19
def csOverlap : Nat := 0x1A
def csPriv : Nat := 0x1B
def csState : Nat := 0x1C

/-- A field of the 512-bit descriptor. -/
def dField (w lo n : Nat) : Nat := w / 2 ^ lo % 2 ^ n

/-- The capacity of a slice's export object (R302). -/
def State.objCap (s : State) (o : Nat) : Nat :=
  if s.on F.INS_OBJ_CFG_VALID (ent o) then s.get F.INS_OBJ_CFG_COUNT (ent o) * 0x4000000 else 0

/-- Bytes of the Insole (R37). -/
def insBytes : Nat := 0x2000000000

/-- Whether an operation reads a source, and whether it writes a destination (R344). -/
def opSrc (op : Nat) : Bool := op == 1
def opDst (op : Nat) : Bool := op == 1 || op == 2 || op == 3

/-- A failed check of a space, as its status, zero where it passes. -/
def spaceCheck (priv : Bool) (op sp : Nat) : Nat :=
  if sp = 3 ∨ (op = 3 ∧ sp = 1) then csSpace else if sp = 2 ∧ ¬ priv then csPriv else 0

/-- Whether a range lies beyond its space. -/
def State.beyond (s : State) (q sp a n : Nat) : Bool :=
  (sp == 0 && decide (s.objCap q < a + n)) || (sp == 2 && decide (insBytes < a + n))

/-- The check of a descriptor before its first access: the status and the number of the first failing field, in the order of the fields
(R345). A LEN of zero completes SUCCESS. DEDUCED (log entry 30). -/
def State.descCheck (s : State) (q w : Nat) : Option (Nat × Nat) :=
  let op := dField w 0 8
  let priv := s.qpPriv q
  let ss := dField w 16 2
  let ds := dField w 18 2
  let len := dField w 32 32
  let src := dField w 64 64
  let dst := dField w 128 64
  if 4 < op then some (csOpcode, 1)
  else if dField w 10 6 ≠ 0 ∨ dField w 20 12 ≠ 0 ∨ dField w 272 240 ≠ 0 then some (csOpcode, 0)
  else if len = 0 then some (csSuccess, 0)
  else if (op = 3 ∨ op = 4) ∧ ¬ priv then some (csPriv, 1)
  else if opSrc op ∧ spaceCheck priv op ss ≠ 0 then some (spaceCheck priv op ss, 2)
  else if opDst op ∧ spaceCheck priv op ds ≠ 0 then some (spaceCheck priv op ds, 3)
  else if (op = 4 ∧ len ≠ 0x4000000) ∨ (opDst op ∧ 0x40000000 < len) then some (csLength, 4)
  else if op = 3 ∧ len % 4096 ≠ 0 then some (csAlign, 4)
  else if opSrc op ∧ s.beyond q ss src len then some (csBounds, 5)
  else if opDst op ∧ s.beyond q ds dst len then some (csBounds, 6)
  else if op = 3 ∧ dst % 4096 ≠ 0 then some (csAlign, 6)
  else if op = 1 ∧ ss = ds ∧ src < dst + len ∧ dst < src + len then some (csOverlap, 6)
  else if op = 4 ∧ s.get F.INS_PEXT_STATE (ent (dField w 192 11)) ≠ 2 then some (csState, 7)
  else none

/-- A descriptor as fetched, with the result of its check. -/
def State.descOf (s : State) (q idx w : Nat) : Desc :=
  let r := s.descCheck q w
  { no := s.cob.seq, qp := q, idx := idx, op := dField w 0 8, fence := w.testBit 8, notify := w.testBit 9, ss := dField w 16 2, ds := dField w 18 2,
    len := dField w 32 32, src := dField w 64 64, dst := dField w 128 64, arg := dField w 192 64, ident := dField w 256 16,
    st := if r.isSome then .ended else .ready, status := (r.getD (0, 0)).1, field := (r.getD (0, 0)).2, done := 0, poison := false,
    timer := none, wait := none, chunk := 0, postAt := 0 }

/-- The tail up to which a queue pair fetches: the doorbell's, and after the gate of its slice the tail written before it (R338, R343). -/
def State.fetchTail (s : State) (q : Nat) : Nat :=
  if s.qpState q = qpStopped then s.cob.gateTails.getD q 0 else s.cob.tails.getD q 0

/-- Whether a queue pair has a descriptor to fetch. -/
def State.fetchable (s : State) (q : Nat) : Bool :=
  (s.qpState q == qpEnabled || s.qpState q == qpStopped) && s.get F.COB_QP_STATE_SQ_HEAD (ent q) != s.fetchTail q

/-- A ring access has failed (R343). -/
def State.ringError (s : State) (q : Nat) : State := (s.setQp q qpError).occAt 13 0 (some (.qp q))

/-- The descriptor at the head arrives, from the Insole or with `data` from host memory, or its fetch fails (R343, R345). -/
def State.descFetched (s : State) (q : Nat) (ok : Bool) (data : List Byte) : State :=
  if s.fetchable q then
    let h := s.get F.COB_QP_STATE_SQ_HEAD (ent q)
    let a := s.sqBase q + 64 * h
    let bad := !ok || (s.ringDpa q && (s.rangePoison a 64 || decide (insBytes < a + 64)))
    if bad then s.ringError q
    else
      let w := if s.ringDpa q then s.memN a 64 else leNat (data.take 64)
      (((s.setCob fun c => { c with descs := c.descs ++ [s.descOf q h w], seq := c.seq + 1 }).put F.COB_QP_STATE_SQ_HEAD (ent q) ((h + 1) % s.sqSize q))).syncCob q
  else s

/-! ### Running (R346) -/

/-- The first descriptor of a queue pair that waits to start, with those before it. -/
def State.nextReady (s : State) (q : Nat) : Option (Desc × List Desc) :=
  let l := s.cob.descs.filter fun d => d.qp == q
  (l.find? fun d => d.st == .ready).map fun d => (d, l.takeWhile fun e => e != d)

/-- Whether a queue pair has a startable descriptor (R346, R347). -/
def State.startable (s : State) (q : Nat) : Bool :=
  match s.nextReady q with
  | none => false
  | some (d, before) =>
    s.qpState q != qpError && !s.cqFull q && (!d.fence || before.isEmpty) &&
      decide ((s.cob.descs.filter fun e => e.qp == q && e.st == .running).length < s.get F.COB_QP_CFG_DEPTH (ent q))

/-- The state with a descriptor replaced. -/
def State.updDesc (s : State) (no : Nat) (f : Desc → Desc) : State :=
  s.setCob fun c => { c with descs := c.descs.map fun d => if d.no == no then f d else d }

/-- The next queue pair in turn: the lowest number after the one served last, then the lowest of all (R346). -/
def State.qpTurn (s : State) : Option Nat :=
  let qs := (s.cob.descs.map (·.qp)).foldl insNat []
  let ok := qs.filter s.startable
  match ok.find? fun q => decide (s.cob.rr < q) with
  | some q => some q
  | none => ok.head?

/-- The oldest descriptor that may start begins (R346). -/
def State.descStart (s : State) : State :=
  if s.get F.COB_CFG_MAX_OPEN 0 ≤ (s.cob.descs.filter fun d => d.st == .running).length then s
  else match s.qpTurn with
    | none => s
    | some q => match s.nextReady q with
      | none => s
      | some (d, _) =>
        ((s.setCob fun c => { c with rr := q }).updDesc d.no fun d =>
          if d.op = 0 then { d with st := .ended } else { d with st := .running, timer := some (s.after (s.get F.COB_TO_LIMIT 0)) }).syncCob q

/-- A descriptor ends with a status; its sanitised extent becomes CLEAN at the next boundary (R347, R348). -/
def State.descEnd (s : State) (d : Desc) (status : Nat) : State :=
  let s1 := s.updDesc d.no fun d =>
    { d with st := .ended, status := status, timer := none, wait := none, postAt := if d.op = 4 ∧ status = csSuccess then s.tim.bnd + 1 else s.tim.bnd }
  let s2 := if d.op = 4 ∧ status = csSuccess then s1.setIns fun i => { i with sanTags := i.sanTags ++ [d.arg % 2048] } else s1
  s2.syncCob d.qp

/-- No cell accepted for COB_TO.LIMIT stitches (R346). -/
def State.descTimeout (s : State) (q : Nat) : State :=
  match s.cob.descs.find? fun d => d.qp == q && d.st == .running && s.dueO d.timer with
  | some d => s.descEnd d csTimeout
  | none => s

/-! ### Completions (R347) -/

/-- A completion entry as a number. -/
def State.cqEntry (s : State) (d : Desc) : Nat :=
  d.ident + d.status * 2 ^ 16 + d.field * 2 ^ 24 + d.done % 2 ^ 32 * 2 ^ 32 + (d.idx + 1) % s.sqSize d.qp * 2 ^ 64 +
    bit (s.cob.phase.getD d.qp false) * 2 ^ 80

/-- A posted write of the Cobbler into host memory through a queue pair's port. -/
def State.cobHostWrite (s : State) (q a : Nat) (bs : List Byte) : State :=
  let m : Msg := { id := 2 ^ 115 + s.cob.seq, via := 81, kind := .io, op := .mWr, metaV := .none, srcSw := s.ownSw, srcAg := 81, dstSw := s.ownSw,
                   dstAg := s.get F.COB_QP_CFG_PORT (ent q), slice := q, cls := 0, colour := .green, stamp := s.tim.num,
                   body := slotsFor bs.length, hops := 0, space := .bus, sid := 0, addr := a, len := bs.length,
                   pasid := if s.on F.COB_QP_PASID_PASID_EN (ent q) then some (s.get F.COB_QP_PASID_PASID (ent q)) else none, tag := 0,
                   data := bs, poison := false, status := .ok, devload := 0, be := false }
  (s.setCob fun c => { c with seq := c.seq + 1 }).step7 81 m.dstAg m

/-- The signal of a completion with NOTIFY: the Clicker's interrupt for a PRIV queue pair, else the vector of the Cobbler function. -/
def State.cobNotify (s : State) (q : Nat) : State :=
  if s.qpPriv q then s.each (List.range 4) fun t c => t.put F.CLK_IRQ_PEND_COB (4 * c) 1
  else s.send (.ctl (s.get F.COB_QP_CFG_PORT (ent q)) 8 (s.get F.COB_QP_CFG_VEC (ent q)))

/-- What a sanitisation's end does (R348): done, retried once, or given up. -/
def State.sanEnd (s : State) (d : Desc) : State :=
  if d.op = 4 then
    let e := d.arg % 2048
    match s.cob.sanRun.find? fun x => x.1 == e with
    | none => s
    | some x =>
      let s1 := s.setCob fun c => { c with sanRun := c.sanRun.filter fun y => y.1 != e }
      if d.status = csSuccess then s1
      else if x.2 then s1.occAt 14 0 none
      else (s1.setCob fun c => { c with san := c.san ++ [(e, true)] }).occAt 14 0 none
  else s

/-- A descriptor that has ended writes its completion entry, where the ring has room; a write that fails stops the queue pair (R343, R347). -/
def State.descComplete (s : State) (q : Nat) (ok : Bool) : State :=
  match s.cob.descs.find? fun d => d.qp == q && d.st == .ended && decide (d.postAt ≤ s.tim.bnd) with
  | none => s
  | some d =>
    if s.qpState q = qpError ∨ s.cqFull q then s
    else
      let a := s.cqBase q + 16 * s.cob.cqTails.getD q 0
      let bytes := leBytes 16 (s.cqEntry d)
      let s1 := (s.setCob fun c => { c with descs := c.descs.filter fun e => e.no != d.no }).sanEnd d
      if !ok || (s.ringDpa q && (!s.answers a || decide (insBytes < a + 16))) then (s1.ringError q).syncCob q
      else
        let s2 := if s.ringDpa q then s1.insWrite a bytes false else s1.cobHostWrite q a bytes
        let t := (s.cob.cqTails.getD q 0 + 1) % s.cqSize q
        let s3 := s2.setCob fun c =>
          { c with cqTails := c.cqTails.set q t, phase := if t = 0 then c.phase.set q (!(c.phase.getD q false)) else c.phase }
        let good := d.status == csSuccess
        let s4 := ((if good then s3.bump F.COB_CNT_DONE 0 1 else s3.bump F.COB_CNT_ERRORS 0 1).count cbCob (if good then 2 else 3) 0 q 1).syncCob q
        if d.notify && s.on F.COB_QP_CFG_NOTIFY_EN (ent q) then s4.cobNotify q else s4

/-! ### Sanitisation on release (R348) -/

/-- The PRIV queue pair of the Clicker: the one of its slice. -/
def State.sanQp (s : State) : Nat := s.get F.BND_AGSL_SLICE (4 * 10)

/-- The 64 bytes of a SANITISE descriptor. -/
def sanDesc (e : Nat) : Nat := 4 + 0x4000000 * 2 ^ 32 + e * 2 ^ 192 + e * 2 ^ 256

/-- Extents that await sanitisation are submitted while the ring has room, in order. -/
def State.sanSubmit (s : State) : State :=
  s.each s.cob.san fun t x =>
    let q := t.sanQp
    let tail := t.cob.tails.getD q 0
    let next := (tail + 1) % t.sqSize q
    if t.qpState q = qpEnabled ∧ t.ringDpa q = true ∧ next ≠ t.get F.COB_QP_STATE_SQ_HEAD (ent q) then
      ((t.insWrite (t.sqBase q + 64 * tail) (leBytes 64 (sanDesc x.1)) false).setCob fun c =>
        { c with tails := c.tails.set q next, san := c.san.erase x, sanRun := c.sanRun ++ [x] }).syncCob q
    else t

/-- The extents a swap of group INS made UNCLEAN are to be sanitised, in ascending number. -/
def State.sanNew (s : State) (gone : List Nat) : State :=
  ((s.setCob fun c => { c with san := c.san ++ (gone.foldl insNat []).map fun e => (e, false) }).sanSubmit).syncCob s.sanQp

end Sys2Proof.Machine
end

