-- ==== Sys2Proof/Machine/Eyelets.lean ====
section
/-!
DEFINITION. Eyelets: slots, windows, the check of a request, colour keys and tags, rejections and violation records (spec/14 R374 to R388).
-/
namespace Sys2Proof.Machine
open Sys2Proof

/-! ### Access kinds (R375, R379) -/

/-- The access kind of a request, none where it is not checked: 0 RD, 1 WR, 2 CACHE, 3 ATOM. -/
def accessKind (m : Msg) : Option Nat :=
  match m.op with
  | .mRd | .mRdLk => some 0
  | .mWr => some 1
  | .atomicOp => some 3
  | .memRd | .memRdData => if m.metaV == .shr || m.metaV == .any then some 2 else some 0
  | .memSpecRd => some 0
  | .memInv | .memInvNT => some 2
  | .memWr | .memWrPtl => some 1
  | .rdCurr => some 0
  | .rdShared | .rdOwn | .rdAny | .rdOwnNoData => some 2
  | .itoMWr | .wrCur | .wrInv | .wrInvPtl | .dirtyEvict => some 1
  | _ => none

/-- The number of a space (R376). -/
def spaceNo : Space → Nat
  | .bus => 0
  | .obj => 1
  | .rgn => 2
  | .dpa => 3
  | .csr => 4

/-- Bytes of an access: at least one, so that a zero-length access is checked at its address. DEDUCED (log entry 44). -/
def accessLen (m : Msg) : Nat := max 1 (max m.len m.data.length)

/-! ### Windows (R376, R378) -/

def State.winBase (s : State) (w : Nat) : Nat := s.get F.EYE_WIN_BASE_LO_BASE (ent w) * 64 + s.get F.EYE_WIN_BASE_HI_BASE (ent w) * 2 ^ 32
def State.winLimit (s : State) (w : Nat) : Nat := s.get F.EYE_WIN_LIM_LO_LIMIT (ent w) * 64 + s.get F.EYE_WIN_LIM_HI_LIMIT (ent w) * 2 ^ 32

/-- Conditions 1 to 3 of R378 for the first byte. -/
def State.winHits (s : State) (w sp ident slice a : Nat) : Bool :=
  s.get F.EYE_WIN_ATTR_SPACE (ent w) == sp && (sp != 1 && sp != 2 || s.get F.EYE_WIN_ATTR_ID (ent w) == ident) &&
    (!s.on F.EYE_WIN_ATTR_SL_EN (ent w) || s.get F.EYE_WIN_ATTR_SLICE (ent w) == slice) &&
    decide (s.winBase w ≤ a) && decide (a < s.winLimit w + 64)

/-- Whether a window permits an access kind (R379). -/
def State.winPermits (s : State) (w k : Nat) : Bool :=
  let rd := s.on F.EYE_WIN_ATTR_RD (ent w)
  let wr := s.on F.EYE_WIN_ATTR_WR (ent w)
  match k with
  | 0 => rd
  | 1 => wr
  | 2 => rd && s.on F.EYE_WIN_ATTR_CACHE (ent w)
  | _ => rd && wr && s.on F.EYE_WIN_ATTR_ATOM (ent w)

/-- The windows of a slot in table order. -/
def State.slotWins (s : State) (a : Nat) : List Nat :=
  (List.range (s.get F.EYE_SLOT_COUNT (4 * a))).map (· + s.get F.EYE_SLOT_FIRST (4 * a))

/-- The key of an access: the window's, or the slot's (R380). -/
def State.keyOf (s : State) (slot : Nat) (w : Option Nat) : Nat :=
  match w with
  | some w => if s.on F.EYE_WIN_ATTR_KEY_EN (ent w) then s.get F.EYE_WIN_ATTR_KEY (ent w) else s.get F.EYE_SLOT_KEY (4 * slot)
  | none => s.get F.EYE_SLOT_KEY (4 * slot)

/-- Reason codes (R386). -/
def vNowin : Nat := 1
def vSpan : Nat := 2
def vKind : Nat := 3
def vTag : Nat := 4
def vTagErr : Nat := 5
def vLocked : Nat := 6
def vLoadBuf : Nat := 7

/-- The window part of the check: the reason for a rejection, zero where it passes, and the deciding window (R378). -/
def State.winCheck (s : State) (slot sp ident slice a n k : Nat) : Nat × Option Nat :=
  match (s.slotWins slot).find? fun w => s.winHits w sp ident slice a with
  | none => (vNowin, none)
  | some w =>
    if s.winLimit w + 64 < a + n then (vSpan, some w)
    else if s.winPermits w k then (0, some w) else (vKind, some w)

/-! ### Locked regions (R384, R385) -/

/-- Whether two ranges of bytes share one. -/
def overlaps (a n b k : Nat) : Bool := decide (a < b + k) && decide (b < a + n)

/-- Whether the load buffer is write-protected: a load from it runs, from FETCH through COMMIT (R81). DEDUCED (log entry 44). -/
def State.loadBufLocked (s : State) : Bool :=
  let st := s.get F.LAST_LOAD_STATUS_STATE 0
  decide (1 ≤ st) && decide (st ≤ 5) && (match s.las.load with | some l => l.src == 0 | none => false)

/-- The reason a locked region gives for rejecting an access, zero where none does. -/
def State.lockedReason (s : State) (slot sp a n k : Nat) : Nat :=
  let returned := s.get F.SEC_STATUS_LIFECYCLE 0 == 2
  if slot == 84 && !s.on F.SEC_STATUS_DEBUG 0 then vLocked
  else if slot != 85 && !(slot == 84 && returned) &&
      ((sp == 3 && overlaps a n 0x40000000 0x1000000) || (sp == 4 && overlaps a n 0x1301000 0xff000)) then vLocked
  else if sp == 3 && (k == 1 || k == 3) && overlaps a n 0x12000000 0x2000000 && s.loadBufLocked then vLoadBuf
  else 0

/-! ### Violation records (R386) -/

/-- What the record of a request would say. -/
def State.violOf (s : State) (slot : Nat) (m : Msg) (sp k : Nat) : Viol :=
  { seq := 0, stitch := 0, reason := 0, kind := k, space := sp, addr := m.addr, len := min 4096 (accessLen m),
    fpid := if m.srcAg < 64 then some (m.srcSw * 64 + m.srcAg) else none, agent := m.srcAg, sw := m.srcSw, slot := slot,
    window := none, slice := m.slice, key := s.get F.EYE_SLOT_KEY (4 * slot), tag := none, ident := if sp = 1 ∨ sp = 2 then m.sid else 0 }

/-- A rejection is counted for the slice (spec/17 R452) and produces one record, lost where the on-die queue is full. DEDUCED (log entry 44). -/
def State.violate (s : State) (v : Viol) : State :=
  let q := s.get F.EYE_VIOL_SEQ_SEQ 0
  let s1 := (s.count cbSole 0xC v.slot v.slice 1).account v.slice 7 1
  if 256 ≤ s.sec.violQ.length then (s1.bump F.EYE_VIOL_STATUS_LOST 0 1).occAt 15 0 none
  else
    ((s1.put F.EYE_VIOL_SEQ_SEQ 0 (q + 1)).setSec fun x => { x with violQ := x.violQ ++ [{ v with seq := q, stitch := s.tim.num }] }).put
      F.EYE_VIOL_STATUS_QUEUED 0 (s.sec.violQ.length + 1)

/-- The 64 B of a record. -/
def Viol.word (v : Viol) : Nat :=
  v.stitch % 2 ^ 48 + v.reason * 2 ^ 48 + v.kind * 2 ^ 56 + v.space * 2 ^ 60 + bit v.fpid.isSome * 2 ^ 63 + v.addr % 2 ^ 64 * 2 ^ 64 +
    v.len % 8192 * 2 ^ 128 + v.fpid.getD 0 * 2 ^ 144 + (if v.fpid.isSome then 0 else v.agent) * 2 ^ 156 + v.sw % 64 * 2 ^ 163 +
    v.slot * 2 ^ 169 + v.window.getD 0 * 2 ^ 176 + bit v.window.isSome * 2 ^ 188 + v.slice % 512 * 2 ^ 189 + v.key % 16 * 2 ^ 198 +
    v.tag.getD 0 * 2 ^ 202 + bit v.tag.isSome * 2 ^ 206 + v.ident % 1024 * 2 ^ 208 + v.seq % 2 ^ 32 * 2 ^ 224

/-- The unit a setting of EYE_VIOL of a slot fences (R430). -/
def slotUnit (slot : Nat) : Option FUnit :=
  if slot < 64 then some (.port slot) else if slot < 72 then some (.link (slot - 64)) else none

/-- The oldest queued record is written to the ring, raises its event, and sets EYE_VIOL of its slot where that is clear. DEDUCED (log entry 44). -/
def State.violWrite (s : State) : State :=
  match s.sec.violQ with
  | [] => s
  | v :: rest =>
    let s1 := (s.setSec fun x => { x with violQ := rest }).put F.EYE_VIOL_STATUS_QUEUED 0 rest.length
    let s2 := s1.sysWrite (0x3C000000 + 64 * (v.seq % 1048576)) (leBytes 64 v.word)
    let s3 := (s2.put F.EYE_VIOL_LAST_LO_ADDR 0 v.addr).put F.EYE_VIOL_LAST_HI_ADDR 0 (v.addr / 2 ^ 32)
    let s4 := (((s3.put F.EYE_VIOL_LAST_INFO_REASON 0 v.reason).put F.EYE_VIOL_LAST_INFO_KIND 0 v.kind).put F.EYE_VIOL_LAST_INFO_SLOT 0 v.slot).put
      F.EYE_VIOL_LAST_INFO_SLICE 0 v.slice
    (s4.event 1 0xD v.slot v.reason (v.seq % 2 ^ 32 + v.slot * 2 ^ 32)).occAt (1152 + v.slot) v.slot (slotUnit v.slot)

/-! ### Responses to failed steps (R28, R148, R333, R382) -/

/-- A response that grants the invalid state. -/
def State.respondInv (s : State) (ag : Nat) (m : Msg) (op : Op) (st : Status) (data : List Byte) (poison : Bool) : State :=
  s.step7 ag m.via { s.response ag m op st data poison 0 with metaV := .inv }

/-- A request that fails a step is answered whole: `io` is the completion status of CXL.io, `own` the error of an internal agent. -/
def State.answerErr (s : State) (ag : Nat) (m : Msg) (io own : Status) : State :=
  let mine := decide (72 ≤ m.srcAg)
  let st : Status := if mine then own else .ok
  let s0 := s.unland ag m.id
  match m.op with
  | .memRd | .memRdData => s0.respondInv ag m .memData st (poisonLine 64) true
  | .memWr | .memWrPtl | .memInv | .memInvNT | .memClnEvct => s0.respondInv ag m .cmp st [] false
  | .mRd | .mRdLk | .cfgRd | .cfgWr | .atomicOp => s0.respondInv ag m .cpl (if mine then own else io) [] false
  | .mWr => s0.accepted ag m
  | .memSpecRd | .msg | .unlock | .mctp | .fence | .biConflict => s0
  | _ => s0.respondInv ag m .goErr st [] false

/-- A rejection under R378, R382 or R384: its record, its response, and the agent it answers. -/
def State.reject (s : State) (ag : Nat) (m : Msg) (v : Viol) : State := (s.violate v).answerErr ag m .ca .access

/-! ### Colour tags (R380, R381) -/

/-- The 4 KiB granules an access touches. -/
def granules (a n : Nat) : List Nat := (List.range ((a % 4096 + n + 4095) / 4096)).map (· + a / 4096)

/-- The tag an access is checked against: the one kept for it where a boundary has changed it since its header entered step 2. -/
def State.tagFor (s : State) (old : List (Nat × Nat)) (g : Nat) : Option Nat :=
  (s.tagOf g).map fun t => ((old.find? fun e => e.1 == g).map (·.2)).getD t

/-- The result of the colour check at a DPA with every tag line on the die: the reason for a rejection, and the first mismatching tag. -/
def State.tagCheck (s : State) (key a n : Nat) (old : List (Nat × Nat)) : Nat × Option Nat :=
  match (granules a n).find? fun g => s.tagFor old g != some key with
  | none => (0, none)
  | some g => match s.tagFor old g with
    | some t => (vTag, some t)
    | none => (vTagErr, none)

/-- The first line of tags an access needs that is not in the tag cache. -/
def State.tagMiss (s : State) (a n : Nat) : Option Nat := ((granules a n).map tagLine).find? fun l => !s.ins.tagC.contains l

/-! ### Rule sets and swaps (R388) -/

/-- The checks of a swap of group EYE on the values being applied. -/
def State.eyeSwapOk (s : State) : Bool :=
  (List.range 86).all fun a =>
    let f := s.staged F.EYE_SLOT_FIRST (4 * a)
    let c := s.staged F.EYE_SLOT_COUNT (4 * a)
    decide (f + c ≤ 4096) && decide (c ≤ 256) && (s.staged F.EYE_SLOT_ANYTAG (4 * a) == 0 || a == 81 || a == 82 || a == 85) &&
      ((List.range c).map (· + f)).all fun w =>
        let sp := s.staged F.EYE_WIN_ATTR_SPACE (ent w)
        let base := s.staged F.EYE_WIN_BASE_LO_BASE (ent w) * 64 + s.staged F.EYE_WIN_BASE_HI_BASE (ent w) * 2 ^ 32
        let lim := s.staged F.EYE_WIN_LIM_LO_LIMIT (ent w) * 64 + s.staged F.EYE_WIN_LIM_HI_LIMIT (ent w) * 2 ^ 32
        decide (base ≤ lim) && decide (sp ≤ 4) && (sp == 1 || sp == 2 || s.staged F.EYE_WIN_ATTR_ID (ent w) == 0)

end Sys2Proof.Machine
end

