-- ==== Sys2Proof/Machine/Ingress.lean ====
section
/-!
DEFINITION. Ingress examination (spec/01 R28 to R32): stamp, slice, eyelet, meter, decode, remap, colour check, and the way to step 7. The
requests that a fill, a wake or a migration releases take up the examination where they left it (spec/11 R309, R314, R320).
-/
namespace Sys2Proof.Machine
open Sys2Proof

/-! ### Step 2: the slice (R332, R333) -/

/-- The valid keys of the key table. -/
def State.keys (s : State) : List Nat := (listedEnts s.act R.BND_KEY).filter fun k => s.on F.BND_KEY_VALID (ent k)

/-- The slice of the key of a port that matches a PASID, or of its key with NOPASID. -/
def State.keySlice (s : State) (n : Nat) (pasid : Option Nat) : Option Nat :=
  (s.keys.find? fun k =>
    s.get F.BND_KEY_AGENT (ent k) == n &&
      (match pasid with
       | some p => !s.on F.BND_KEY_NOPASID (ent k) && s.get F.BND_KEY_PASID (ent k) == p
       | none => s.on F.BND_KEY_NOPASID (ent k))).map fun k => s.get F.BND_KEY_SL_SLICE (ent k)

/-- The slice of a request (R332): over a link, of the Cobbler and of the tiering engine, and of what the Vamp bridge forwards, the one it
carries. -/
def State.sliceOf (s : State) (ag : Nat) (r : Route) (m : Msg) : Option Nat :=
  if (64 ≤ ag ∧ ag < 72) ∨ ag = 80 ∨ ag = 81 ∨ ag = 83 then some m.slice
  else if 72 ≤ ag then some (s.get F.BND_AGSL_SLICE (4 * (ag - 72)))
  else if m.kind == .io && m.pasid.isSome then s.keySlice ag m.pasid
  else match r with
    | .vppb v _ => match s.bound? v with
      | some b => some b.slice
      | none => s.keySlice ag none
    | _ => s.keySlice ag none

/-- A request no OPEN slice matches (R28, R333): an unsupported request for CXL.io, GO-Err for CXL.cache, and for CXL.mem the responses
to a lost link. -/
def State.sliceFail (s : State) (ag : Nat) (m : Msg) : State := s.answerErr ag m .ur .link

/-! ### Step 5: decode (R30 to R32, R302) -/

/-- The coherent region that holds an Insole DPA. -/
def State.rgnAt (s : State) (a : Nat) : Option Nat :=
  (List.range 1024).find? fun r =>
    s.on F.HA_RGN_CFG_VALID (ent r) && !s.rgnExp r && decide (s.rgnBase r ≤ a) &&
      decide (a < s.rgnBase r + s.get F.HA_RGN_SIZE_SIZE (ent r) * 16384)

/-- The coherent region that holds a DPA of an expander. -/
def State.rgnExpAt (s : State) (port ld a : Nat) : Option Nat :=
  (List.range 1024).find? fun r =>
    s.on F.HA_RGN_CFG_VALID (ent r) && s.rgnExp r && s.rgnPort r == port && s.rgnLd r == ld && decide (s.rgnBase r ≤ a) &&
      decide (a < s.rgnBase r + s.get F.HA_RGN_SIZE_SIZE (ent r) * 16384)

/-- A coherent access at an offset of a region: its home address bits [13:12] choose the slice (R31). -/
def State.cohTarget (s : State) (r o : Nat) : Target := .coherent r (lineNo o) ((s.rgnBase r + o) / 4096 % 4) o

/-- An access at an Insole DPA. -/
def State.dpaTarget (s : State) (a : Nat) : Target :=
  if insBytes ≤ a then .none
  else match s.rgnAt a with
    | some r => s.cohTarget r (a - s.rgnBase r)
    | none => .insole a

/-- An access at an offset of an export object of this module; beyond its capacity step 5 fails (R302). -/
def State.objTarget (s : State) (o ofs : Nat) : Target :=
  if s.objCap o ≤ ofs then .none
  else
    let e := s.get F.INS_OBJ_CFG_FIRST (ent o) + ofs / 0x4000000
    s.dpaTarget (poolBase + s.get F.INS_EXT_PEXT (ent e) * 0x4000000 + ofs % 0x4000000)

/-- An access at a DPA of an expander: coherent, tiered or passed through. -/
def State.expTarget (s : State) (port ld a : Nat) : Target :=
  match s.rgnExpAt port ld a with
  | some r => s.cohTarget r (a - s.rgnBase r)
  | none => match s.rangeAt port ld a with
    | some (rng, gran, o) => .tiered rng gran o
    | none => .pass port

/-- Whether a message reads or writes memory of its target. -/
def isMem (m : Msg) : Bool := (accessKind m).isSome || m.op == .memClnEvct || m.op == .cleanEvict || m.op == .cleanEvictNoData || m.op == .cacheOther

/-- The target of a request at an edge port (R30, R327, R357). -/
def State.edgeTarget (s : State) (n : Nat) (r : Route) (m : Msg) : Target :=
  match r with
  | .none => .none
  | .mgmt => .mgmt
  | .region rg o => if s.on F.HA_RGN_CFG_VALID (ent rg) && decide (o < s.get F.HA_RGN_SIZE_SIZE (ent rg) * 16384) then s.cohTarget rg o else .none
  | .up =>
    if s.vampHeld n then .vamp n
    else match s.boundList.find? fun e => (e.2.kind == 1 || e.2.kind == 2) && e.2.port == n with
      | some e => match s.upOf e.1 with
        | some u => .pass u
        | none => .none
      | none => .none
  | .vppb v o =>
    if s.upOf v != some n && m.kind != .io then .none
    else match s.bound? v with
      | none => .none
      | some b => match b.kind with
        | 1 => if isMem m then s.expTarget b.port 0 o else .pass b.port
        | 2 => if isMem m then s.expTarget b.port b.obj o else .pass b.port
        | 3 => if b.port = s.ownSw then s.objTarget b.obj o else .remote b.port 72
        | 4 => .vamp (s.get F.VAMP_FN_CFG_PORT (ent b.obj))
        | _ => .none

/-- The target of a request of an internal agent or of one that came over a link, by the space and the header it carries (R377). -/
def State.headTarget (s : State) (m : Msg) : Target :=
  if m.dstSw ≠ s.ownSw then .remote m.dstSw m.dstAg
  else match m.space with
    | .obj => s.objTarget m.sid m.addr
    | .rgn =>
      if s.on F.HA_RGN_CFG_VALID (ent m.sid) && decide (m.addr < s.get F.HA_RGN_SIZE_SIZE (ent m.sid) * 16384) then s.cohTarget m.sid m.addr else .none
    | .dpa => if reservedArea m.addr && m.srcAg != 82 then .none else s.dpaTarget m.addr
    | .csr => .mgmt
    | .bus => if m.dstAg ≤ 63 then .pass m.dstAg else if m.dstAg = 80 then .vamp 0 else if m.dstAg = 82 then .mgmt else .none

/-- The request as decode leaves it for its target: destination, space and address. -/
def State.aimed (s : State) (r : Route) (m : Msg) (t : Target) : Msg :=
  let own := s.ownSw
  match t with
  | .insole a => { m with dstSw := own, dstAg := 72 + chanOf a, space := .dpa, sid := 0, addr := a }
  | .coherent rg _ h o => { m with dstSw := own, dstAg := 76 + h, space := .rgn, sid := rg, addr := o }
  | .pass p => match r with
    | .vppb v o => { m with dstSw := own, dstAg := p, sid := (match s.bound? v with | some b => if b.kind = 2 then b.obj else 0 | none => 0), addr := o }
    | _ => { m with dstSw := own, dstAg := p }
  | .remote w a => match r with
    | .vppb v o => match s.bound? v with
      | some b => { m with dstSw := w, dstAg := a, space := .obj, sid := b.obj, addr := o }
      | none => { m with dstSw := w, dstAg := a }
    | _ => { m with dstSw := w, dstAg := a }
  | .vamp p => match r with
    | .vppb v o => { m with dstSw := own, dstAg := 80, sid := v, tag := m.tag, space := .bus, addr := o }
    | _ => { m with dstSw := own, dstAg := 80, sid := 1024 + p }
  | .mgmt => { m with dstSw := own, dstAg := 82 }
  | .tiered rng gran o => { m with dstSw := own, dstAg := s.rngPort rng, sid := s.get F.INS_TR_CFG_LD (ent rng), space := .dpa, addr := s.backAddr rng gran + o }
  | .none => m

/-- A host whose link fell back to 68 B flits reaches no coherent region (R133). -/
def State.flitFallback (s : State) (ag : Nat) (t : Target) : Bool :=
  match t with
  | .coherent _ _ _ _ => decide (ag < 64) && upMode (s.portMode ag) && s.portNoCoh ag
  | _ => false

/-! ### Step 7 and what precedes it -/

/-- Whether a slice in SQUASHING takes a request away: every one that is not posted, and is none of the home agents' or of the tiering
engine's own (R338). -/
def State.squashes (s : State) (m : Msg) : Bool :=
  s.slState m.slice == 3 && isReq m && m.op != .mWr && m.op != .msg && m.op != .unlock &&
    !(m.srcSw == s.ownSw && ((decide (76 ≤ m.srcAg) && decide (m.srcAg ≤ 79)) || m.srcAg == 83))

/-- A request removed by a squash is answered as for a lost link; a dropped CXL.mem write sets BND_SQUASH_WR_LOST (R338). -/
def State.squashOne (s : State) (ag : Nat) (m : Msg) : State :=
  (if m.op = .memWr ∨ m.op = .memWrPtl then s.occAt 12 m.slice none else s).failBack ag m

/-- Whether a request is a zero-length read of a target of this module's own, which completes with one DW of zeros and nothing else (spec/05 R134).
DEDUCED (log entry 20). -/
def State.zeroRead (s : State) (m : Msg) : Bool :=
  m.op == .mRd && m.len == 0 && m.dstSw == s.ownSw && ((decide (72 ≤ m.dstAg) && decide (m.dstAg ≤ 79)) || m.dstAg == 82)

/-- Whether a TLP that arrives at an edge port is malformed: a payload above the port's programmed max payload size, or a read above the max read
request size (spec/05 R130, R134). Both sizes are controls of the presented configuration space. DEDUCED (log entry 20). -/
def malformed (n : Nat) (m : Msg) : Bool :=
  m.kind == .io && ((decide (128 < m.data.length) && decide (128 * 2 ^ ((Config.maxPayload n).toNat % 3) < m.data.length)) ||
    (isRead m.op && decide (128 < m.len) && decide (128 * 2 ^ ((Config.maxRead n).toNat % 6) < m.len)))
where
  isRead (o : Op) : Bool := o == .mRd || o == .mRdLk

/-- The request passes on to step 7 toward its agent; a non-posted one of an edge port is open from now on (R146). A request that arrives
there while its slice squashes is answered at once (R338). -/
def State.pass7 (s : State) (ag : Nat) (m : Msg) : State :=
  if s.squashes m then (s.unland ag m.id).squashOne ag m
  else if s.zeroRead m then (s.unland ag m.id).respond ag m .cplD .ok [0, 0, 0, 0] false 0
  else
  let s1 := if ag < 64 ∧ expects m then s.setPort ag fun p => { p with opened := p.opened ++ [m.id] } else s
  s1.enqueue ag m

/-- The colour check of an access against the tags of its granules, once their lines are on the die, then step 7 (R380, R381). -/
def State.colourTags (s : State) (ag : Nat) (m : Msg) (v : Viol) (a : Nat) (old : List (Nat × Nat)) : State :=
  match s.tagMiss a (accessLen m) with
  | some l => (s.setSec fun x => { x with tagWait := x.tagWait ++ [⟨l, ag, m, v, a, old⟩] }).svcAdd 5 (0x14000000 + 64 * l)
  | none =>
    let s1 := (granules a (accessLen m)).foldl (fun t g => t.tagIn (tagLine g)) s
    match s.tagCheck v.key a (accessLen m) old with
    | (0, _) => s1.pass7 ag m
    | (r, t) => s1.reject ag { m with addr := v.addr } { v with reason := r, tag := t }

/-- The colour check of an access whose DPA lies in the pool-export part, then step 7 (R380, R381). -/
def State.colour (s : State) (ag : Nat) (m : Msg) (v : Viol) : State :=
  let dpa := match m.space with
    | .rgn => if s.rgnExp m.sid then none else some (s.rgnBase m.sid + m.addr)
    | .dpa => if 72 ≤ m.dstAg ∧ m.dstAg ≤ 75 then some m.addr else none
    | _ => none
  match dpa with
  | none => s.pass7 ag m
  | some a =>
    if !s.inPool a || (accessKind m).isNone || s.on F.EYE_SLOT_ANYTAG (4 * v.slot) then s.pass7 ag m
    else s.colourTags ag m v a []

/-- A line of tags arrives, read good or cured, or lost (R305): the checks that wait for it go on in their order. -/
def State.tagFilled (s : State) (line out : Nat) : State :=
  let a := 0x14000000 + 64 * line
  let now := s.sec.tagWait.filter fun w => w.line == line
  if now.isEmpty then s
  else
    let s1 := (s.setSec fun x => { x with tagWait := x.tagWait.filter fun w => w.line != line }).each now fun t _ => t.svcDone 5 a
    let r := if s1.answers a then s1.eccRead a out else (s1, false)
    (r.1.mirrorRead a).tagIn line |>.each now fun t w => t.colourTags w.agent w.msg w.viol w.dpa w.old

/-- A request to a LOST granule: reads receive data with poison, writes complete with their data dropped (R307). -/
def State.answerLost (s : State) (ag : Nat) (m : Msg) : State :=
  match m.op with
  | .memRd | .memRdData => (s.unland ag m.id).respondInv ag m .memData .ok (poisonLine 64) true
  | .memWr | .memWrPtl | .memInv | .memInvNT | .memClnEvct => (s.unland ag m.id).respondInv ag m .cmp .ok [] false
  | .mRd | .mRdLk => (s.unland ag m.id).respondInv ag m .cplD .ok (poisonLine m.len) true
  | _ => s.answerErr ag m .ur .access

/-- Step 6 for a request of a tiered range: the table gives the granule's place (R309, R314, R320). -/
def State.tierStep (s : State) (ag : Nat) (m : Msg) : State :=
  match s.rangeAt m.dstAg m.sid m.addr with
  | none => s.pass7 ag m
  | some (rng, gran, o) =>
    let write := accessKind m == some 1 || accessKind m == some 3
    match s.look rng gran o write with
    | .miss => s.lookMiss rng gran ag m
    | .wait => s.lookHold rng gran m
    | .asleep => s.lookAsleep rng gran m
    | .lost => (s.lookDone rng gran write m.id .lost).answerLost ag m
    | .frame dpa => (s.lookDone rng gran write m.id (.frame dpa)).pass7 ag { m with dstAg := 72 + chanOf dpa, sid := 0, addr := dpa }
    | .backing => (s.lookDone rng gran write m.id .backing).pass7 ag m

/-- The granule in migration that holds a coherent request at step 6: every request to it but an owner's writeback, a clean eviction or a
BIConflict (spec/10 R289). -/
def State.cohWait (s : State) (m : Msg) : Option (Nat × Nat) :=
  if !s.rgnExp m.sid || m.op == .biConflict then none
  else match s.opAt (m.dstAg - 76) m with
    | some .wb | some .ce => none
    | _ => match s.rangeAt (s.rgnPort m.sid) (s.rgnLd m.sid) (s.rgnBase m.sid + m.addr) with
      | none => none
      | some (rng, gran, _) => if (s.mig? rng gran).any fun g => g.coh then some (rng, gran) else none

/-- Step 6 for a coherent request whose home lies in an expander. -/
def State.cohStep (s : State) (ag : Nat) (m : Msg) : State :=
  match s.cohWait m with
  | some (rng, gran) => s.lookHold rng gran m
  | none => s.pass7 ag m

/-- The entry of the Cobbler function: a doorbell of the slice's queue pair (R342). -/
def State.cobBar (s : State) (ag : Nat) (m : Msg) (o : Nat) : State :=
  if m.op = .mWr then
    let v := leNat m.data
    let s1 := if m.data.length = 4 ∧ o % 4096 = 0 then s.doorbell m.slice false v
      else if m.data.length = 4 ∧ o % 4096 = 4 then s.doorbell m.slice true v else s
    s1.accepted ag m
  else s.answerErr ag m .ur .link

/-- Steps 4 to 7 of a request whose window part of the eyelet check has passed. -/
def State.examine4 (s : State) (ag : Nat) (r : Route) (m0 : Msg) (v : Viol) : State :=
  let (s1, m) := s.meterStep ag m0
  let cob := match r with
    | .vppb w o => match s.bound? w with
      | some b => if b.kind = 5 then some o else none
      | none => none
    | _ => none
  match cob with
  | some o => s1.cobBar ag m o
  | none =>
    let t := if ag < 64 then s.edgeTarget ag r m else s.headTarget m
    if t == .none then s1.answerErr ag m .ur .link
    else if s.flitFallback ag t then
      let s2 := if m.op = .memWr ∨ m.op = .memWrPtl then s1.occ 704 ag else s1
      s2.answerErr ag m .ur .link
    else
      let x := s1.aimed r m t
      match t with
      | .tiered _ _ _ => s1.tierStep ag x
      | .coherent rg _ _ _ => if s1.rgnExp rg then s1.cohStep ag x else s1.colour ag x v
      | _ => s1.colour ag x v

/-- Step 3 (R374 to R384): the window part of the eyelet check, for requests that are checked. -/
def State.examine3 (s : State) (ag : Nat) (r : Route) (m : Msg) : State :=
  let sp := if ag < 64 then (if r == .mgmt then 4 else 0) else spaceNo m.space
  match accessKind m with
  | none => s.examine4 ag r m (s.violOf ag m sp 0)
  | some k =>
    let n := accessLen m
    let v0 := s.violOf ag m sp k
    match s.lockedReason ag sp m.addr n k with
    | 0 =>
      let c := s.winCheck ag sp m.sid m.slice m.addr n k
      let v := { v0 with window := c.2, key := s.keyOf ag c.2 }
      if c.1 = 0 then s.examine4 ag r m v else s.reject ag m { v with reason := c.1 }
    | lr => s.reject ag m { v0 with reason := lr }

/-- Step 2 (R332, R333). A fetched descriptor of a draining slice runs to its end (R338). -/
def State.examine2 (s : State) (ag : Nat) (r : Route) (m : Msg) : State :=
  match s.sliceOf ag r m with
  | none => s.sliceFail ag m
  | some sl =>
    if s.slState sl = 1 ∨ (ag = 81 ∧ s.slState sl = 2) then s.examine3 ag r { m with slice := sl }
    else
      let bar := match r with
        | .vppb w _ => match s.bound? w with
          | some b => b.kind == 5
          | none => false
        | _ => false
      if bar && m.op == .mWr then (s.bump F.COB_QP_ERR_IGNORED_DB (ent sl) 1).accepted ag m else s.sliceFail ag { m with slice := sl }

/-- Whether ingress admits no header from an edge port or link into step 2: BND values apply (R324), or the module powers down (R443). -/
def State.ingressHolds (s : State) (ag : Nat) (m : Msg) : Bool :=
  s.bndHolds || (s.flt.pdHold && decide (ag < 72) && isReq m && m.kind != .mctp)

/-- The examination of a request from its arrival on (R28). A response, completion or snoop only takes step 7 (R185). -/
def State.ingress (s : State) (ag : Nat) (r : Route) (m : Msg) : State :=
  if !isReq m then s.enqueue ag m
  else if s.ingressHolds ag m then s.setBnd fun b => { b with heldIn := b.heldIn ++ [(ag, r, m)] }
  else if 64 ≤ ag ∧ ag < 72 then s.examine2 ag r m
  else s.examine2 ag r { m with stamp := s.tim.num }

/-- A request at an edge port or of an internal agent: received payload is counted, and it enters through that agent (R28, R450). A malformed TLP is
dropped and reported (spec/05 R134). -/
def State.arrive (s : State) (ag : Nat) (r : Route) (m0 : Msg) : State :=
  let m := { m0 with via := ag, hops := 0, srcSw := s.ownSw, srcAg := ag }
  let s1 := if ag < 64 then s.count (ag / 4) 1 (ag % 4) m.slice ((bodyBytes m + 63) / 64) else s
  if ag < 64 && malformed ag m then s1.send (.ctl ag 5 m.id) else s1.ingress ag r m

/-- The headers held while BND values applied enter step 2, in their arrival order (R324). DEDUCED (log entry 4). -/
def State.releaseIn (s : State) : State :=
  let now := s.bnd.heldIn
  if s.bndHolds || s.flt.pdHold then s
  else (s.setBnd fun b => { b with heldIn := [] }).each now fun t e => t.ingress e.1 e.2.1 e.2.2

/-- The requests that the running command has released take up their examination again, in order. DEDUCED (log entry 4). -/
def State.drainAgain (s : State) : State :=
  let now := s.ins.again
  (s.setIns fun i => { i with again := [] }).each now fun t e =>
    if 76 ≤ e.2.via ∧ e.2.via ≤ 79 ∧ e.2.srcSw = t.ownSw then t.homeIssue (e.2.via - 76) e.2
    else if e.2.space == .rgn then t.cohStep e.1 e.2 else t.tierStep e.1 e.2

end Sys2Proof.Machine
end

