-- ==== Sys2Proof/Machine/Vamp.lean ====
section
/-!
DEFINITION. The Vamp bridge (spec/13 R357 to R373): requests in both directions, windows, prefetch, locks, device messages, tracking entries
and the presented configuration space. A message for the bridge names the vPPB it came by as `sid`, or 1,024 plus the held port of the
device.
-/
namespace Sys2Proof.Machine
open Sys2Proof

/-! ### Windows (R362) -/

def State.fnPort (s : State) (f : Nat) : Nat := s.get F.VAMP_FN_CFG_PORT (ent f)
def State.winSize (s : State) (w : Nat) : Nat := 2 ^ s.get F.VAMP_WIN_CFG_SZ_LOG2 (ent w)
def State.winDev (s : State) (w : Nat) : Nat := s.get F.VAMP_WIN_DBASE_LO_DBASE (ent w) * 4096 + s.get F.VAMP_WIN_DBASE_HI_DBASE (ent w) * 2 ^ 32
def State.winTarget (s : State) (w : Nat) : Nat := s.get F.VAMP_WIN_TBASE_LO_TBASE (ent w) * 4096 + s.get F.VAMP_WIN_TBASE_HI_TBASE (ent w) * 2 ^ 32

/-- A fenced window, or a window of a fenced port, is treated as not valid (spec/16 R437). -/
def State.winFenced (s : State) (w : Nat) : Bool := s.fencedBy (.win w) || s.fencedBy (.port (s.winPort w))

def State.vbind (s : State) (v : Nat) : VBind := s.vmp.binds.getD v VBind.start

/-- The valid windows of a direction, rising. -/
def State.vwins (s : State) (dir : Nat) : List Nat :=
  (listedEnts s.act R.VAMP_WIN_CFG).filter fun w => s.on F.VAMP_WIN_CFG_VALID (ent w) && s.get F.VAMP_WIN_CFG_DIR (ent w) == dir

/-- The outbound window of a binding whose virtual BAR holds a host address, with the BAR's base. -/
def State.outWin (s : State) (v f a : Nat) : Option (Nat × Nat) :=
  ((s.vwins 0).filterMap fun w =>
    if s.get F.VAMP_WIN_CFG_FN (ent w) = f ∧ ¬ s.winFenced w then
      match (s.vbind v).bars.find (s.get F.VAMP_WIN_CFG_BAR (ent w)) with
      | some b => if b ≤ a ∧ a < b + s.winSize w then some (w, b) else none
      | none => none
    else none).head?

/-- The inbound window of a port that holds a device address. -/
def State.inWin (s : State) (n a : Nat) : Option Nat :=
  (s.vwins 1).find? fun w => s.winPort w == n && decide (s.winDev w ≤ a) && decide (a < s.winDev w + s.winSize w)

/-- Whether a window's attributes permit a request. -/
def State.winAllows (s : State) (w : Nat) (m : Msg) : Bool :=
  if m.op = .mWr then s.on F.VAMP_WIN_CFG_WR (ent w) else s.on F.VAMP_WIN_CFG_RD (ent w)

/-! ### Registers kept with the bridge's state -/

/-- The lock of a port that is held. -/
def State.lock? (s : State) (n : Nat) : Option VLock := s.vmp.locks.find? fun l => l.port == n && !l.broken

/-- NP_OUT and NP_IN kept with the tracking entries. -/
def State.syncVamp (s : State) : State :=
  (s.put F.VAMP_STATUS_NP_OUT 0 (s.vmp.tracks.filter (·.outb)).length).put F.VAMP_STATUS_NP_IN 0 (s.vmp.tracks.filter fun t => !t.outb).length

/-- VAMP_LOCK_STATUS of a port. -/
def State.syncLock (s : State) (n : Nat) : State :=
  let h := s.lock? n
  ((s.put F.VAMP_LOCK_STATUS_HELD (ent n) (bit h.isSome)).put F.VAMP_LOCK_STATUS_HOLDER (ent n) ((h.map (·.fpid)).getD 0)).put
    F.VAMP_LOCK_STATUS_QUEUED (ent n) (s.vmp.lockQ.filter fun q => q.1 == n).length

/-! ### Forwarding (R360, R370, R371) -/

/-- The identifier of a forwarded message. -/
def vampId (no : Nat) : Nat := 2 ^ 112 + no

/-- A message the bridge forwards or derives passes steps 3 to 7 with the bridge's eyelet slot, keeping its stamp and slice. The number
taken is its tag. -/
def State.vampSend (s : State) (m : Msg) : State :=
  let no := s.vmp.tag
  (s.setVmp fun v => { v with tag := no + 1 }).examine3 80 .none
    { m with id := vampId no, via := 80, srcSw := s.ownSw, srcAg := 80, hops := 0, tag := no % 16384 }

/-- A posted write accepted from a device is noted until its target has accepted it (R369). -/
def State.vampPosted (s : State) (n : Nat) (m : Msg) : State :=
  (s.setSole fun o => { o with posted := o.posted ++ [(vampId s.vmp.tag, n)] }).vampSend m

/-- A non-posted request takes a tracking entry and leaves the bridge (R371, R372). -/
def State.vampTrack (s : State) (t : VTrack) (m : Msg) : State :=
  let t1 := { t with tag := s.vmp.tag, timer := s.after (s.get F.VAMP_NP_TO_LIMIT 0) }
  let s1 := (s.setVmp fun v => { v with tracks := v.tracks ++ [t1] }).syncVamp
  (if t.outb then s1.count cbVamp 1 t.port m.slice 1 else s1).vampSend m

/-- Whether a direction has a tracking entry free. -/
def State.trackRoom (s : State) (outb : Bool) : Bool := decide ((s.vmp.tracks.filter fun t => t.outb == outb).length < 4096)

/-- The entry of a request before it leaves. -/
def VTrack.of (outb : Bool) (m : Msg) (port win dev extra : Nat) (locked : Bool) : VTrack :=
  { outb := outb, req := m, port := port, win := win, tag := 0, dev := dev, extra := extra, locked := locked, timer := 0, detached := false }

/-! ### Prefetch (R363, R364) -/

/-- Bytes by which a read is extended: to the lowest of PF_LEN lines, the page end and the window end. -/
def State.pfExtra (s : State) (w dev len : Nat) : Nat :=
  if len = 0 ∨ ¬ s.on F.VAMP_WIN_CFG_PF (ent w) then 0
  else
    let last := dev + len - 1
    min (last + s.get F.VAMP_WIN_CFG_PF_LEN (ent w) * 64) (min (last / 4096 * 4096 + 4095) (s.winDev w + s.winSize w - 1)) - last

/-- The byte of a held line at a device address. -/
def State.pfByte (s : State) (w sl a : Nat) : Option Byte :=
  (s.vmp.lines.find? fun l => l.win == w && l.slice == sl && decide (l.addr ≤ a) && decide (a < l.addr + l.data.length)).bind fun l => l.data[a - l.addr]?

/-- Whether a line of a window and slice shares a byte with a range. -/
def PfLine.touches (l : PfLine) (w sl a n : Nat) : Bool :=
  l.win == w && l.slice == sl && decide (l.addr < a + n) && decide (a < l.addr + l.data.length)

/-- Extra bytes of a completion as lines: pieces that end at multiples of 64. -/
def pfPieces : Nat → Nat → List Byte → List (Nat × List Byte)
  | 0, _, _ => []
  | _, _, [] => []
  | fuel + 1, a, d => (a, d.take (64 - a % 64)) :: pfPieces fuel (a + (64 - a % 64)) (d.drop (64 - a % 64))

/-- One line is held, replacing its predecessor, and the least recently used line where there is no room. -/
def State.pfHold (s : State) (w sl a : Nat) (d : List Byte) : State :=
  let s1 := s.pfDiscard fun l => l.win == w && l.slice == sl && l.addr == a
  let s2 := if s1.vmp.lines.length < 4096 then s1 else match s1.vmp.lines with
    | [] => s1
    | l :: _ => s1.pfDiscard (· == l)
  s2.setVmp fun v => { v with lines := v.lines ++ [⟨w, sl, a, d, s.tim.bnd⟩] }

/-- A read served from held lines, which are freed. -/
def State.pfServe (s : State) (m : Msg) (w dev : Nat) : State :=
  let used := s.vmp.lines.filter fun l => l.touches w m.slice dev m.len
  let data := (List.range m.len).filterMap fun i => s.pfByte w m.slice (dev + i)
  let s1 := s.setVmp fun v => { v with lines := v.lines.filter fun l => !l.touches w m.slice dev m.len }
  ((s1.bump F.VAMP_WIN_PFSTAT_USED (ent w) used.length).count cbVamp 2 (s.winPort w) m.slice used.length).respond 80 m .cplD .ok data false 0

/-- A line has outlived AGE. -/
def State.pfAged (s : State) (w sl a : Nat) : State :=
  s.pfDiscard fun l => l.win == w && l.slice == sl && l.addr == a && s.due (l.born + s.get F.VAMP_PF_CFG_AGE 0)

/-! ### Outbound (R359, R360, R362) -/

/-- The requester of a message. -/
def reqFpid (m : Msg) : Nat := m.srcSw * 64 + m.srcAg

/-- The request toward a device address. -/
def State.toDevice (s : State) (m : Msg) (p dev len : Nat) : Msg :=
  { m with op := if m.op = .mRdLk then .mRd else m.op, dstSw := s.ownSw, dstAg := p, space := .bus, sid := 0, addr := dev, len := len }

/-- An outbound request outside its window, or of a kind the window does not permit (R362). -/
def State.outReject (s : State) (m : Msg) : State := (s.bump F.VAMP_CNT2_ATTR_REJ 0 1).answerErr 80 m .ur .ur

/-- A non-posted request whose window and device address are known leaves, or waits for an entry (R371). -/
def State.outNp (s : State) (m : Msg) (p w dev : Nat) : State :=
  let locked := m.op == .mRdLk
  if m.op = .mRd ∧ m.len ≠ 0 ∧ (List.range m.len).all (fun i => (s.pfByte w m.slice (dev + i)).isSome) then s.pfServe m w dev
  else if !s.trackRoom true then s.setVmp fun v => { v with npq := v.npq ++ [(true, m)] }
  else
    let s1 := s.pfDiscard fun l => l.touches w m.slice dev m.len || (m.op == .atomicOp && l.win == w && l.addr / 4096 == dev / 4096)
    let x := if m.op = .mRd then s1.pfExtra w dev m.len else 0
    s1.vampTrack (VTrack.of true m p w dev x locked) (s1.toDevice m p dev (m.len + x))

/-- A configuration request is forwarded to the device of a function as a tracked request. -/
def State.cfgForward (s : State) (m : Msg) (f : Nat) : State :=
  if s.trackRoom true then s.vampTrack (VTrack.of true m (s.fnPort f) 2048 m.addr 0 false) (s.toDevice m (s.fnPort f) m.addr m.len)
  else s.setVmp fun v => { v with npq := v.npq ++ [(true, m)] }

/-- A request that no lock holds back: memory space enable, window, then its way toward the device. An MRdLk takes the semaphore. -/
def State.outCore (s : State) (m : Msg) (f : Nat) : State :=
  let p := s.fnPort f
  if m.op = .cfgRd ∨ m.op = .cfgWr then s.cfgForward m f
  else if !(s.vbind m.sid).memEn then s.answerErr 80 m .ur .ur
  else match s.outWin m.sid f m.addr with
    | none => s.outReject m
    | some (w, b) =>
      if b + s.winSize w < m.addr + accessLen m ∨ ¬ s.winAllows w m then s.outReject m
      else
        let dev := s.winDev w + (m.addr - b)
        if m.op = .mWr then
          ((s.pfDiscard fun l => l.win == w && l.addr / 4096 == dev / 4096).vampSend (s.toDevice m p dev m.len)).accepted 80 m
        else
          let s1 := if m.op = .mRdLk ∧ (s.lock? p).isNone then
              (s.setVmp fun v => { v with locks := v.locks ++ [⟨p, reqFpid m, m.slice, s.after (s.get F.VAMP_LOCK_TO_LIMIT 0), false⟩] }).syncLock p
            else s
          s1.outNp m p w dev

/-- Whether another requester holds the port's semaphore. -/
def State.lockedOut (s : State) (p : Nat) (m : Msg) : Bool :=
  match s.lock? p with
  | some l => !(l.fpid == reqFpid m && l.slice == m.slice)
  | none => false

/-- Whether the requester's lock has been broken and its Unlock has not arrived. -/
def State.lockBroken (s : State) (p : Nat) (m : Msg) : Bool :=
  s.vmp.locks.any fun l => l.port == p && l.broken && l.fpid == reqFpid m && l.slice == m.slice

/-- A request goes on, or waits in the lock queue while another holds the semaphore. -/
def State.outPass (s : State) (m : Msg) (f : Nat) : State :=
  let p := s.fnPort f
  if s.lockBroken p m then s.answerErr 80 m .ca .ca
  else if s.lockedOut p m then (s.setVmp fun v => { v with lockQ := v.lockQ ++ [(p, m)] }).syncLock p
  else s.outCore m f

/-- The function a vPPB is bound to. -/
def State.fnOf (s : State) (v : Nat) : Option Nat := match s.bound? v with | some b => if b.kind = 4 then some b.obj else none | none => none

/-- The queued messages of a port are released in arrival order; the first MRdLk among them takes the semaphore (R367). -/
def State.lockDrain (s : State) (p : Nat) : State :=
  let now := s.vmp.lockQ.filter fun q => q.1 == p
  ((s.setVmp fun v => { v with lockQ := v.lockQ.filter fun q => q.1 != p }).each now fun t q =>
    match t.fnOf q.2.sid with
    | some f => t.outPass q.2 f
    | none => t.answerErr 80 q.2 .ur .ur).syncLock p

/-- The semaphore of a port is released. -/
def State.lockRelease (s : State) (p : Nat) : State :=
  (s.setVmp fun v => { v with locks := v.locks.filter fun l => !(l.port == p && !l.broken) }).lockDrain p

/-- The semaphore of a port is broken (R367); `mark` where the sticky bit is set. -/
def State.lockBreak (s : State) (p : Nat) (mark : Bool) : State :=
  if (s.lock? p).isNone then s
  else
    let s1 := (s.setVmp fun v => { v with locks := v.locks.map fun l => if l.port == p then { l with broken := true } else l }).bump
      F.VAMP_CNT2_LOCK_BREAKS 0 1
    (if mark then s1.occ 1024 p else s1).lockDrain p

/-- Whether a message has to enter the lock queue of a port. -/
def State.lockHolds (s : State) (p : Nat) (m : Msg) : Bool := !s.lockBroken p m && s.lockedOut p m

/-- An outbound message toward the device of a function meets the port's semaphore: a full lock queue breaks the lock, and a message that
enters the queue is counted (R367). DEDUCED (log entry 32). -/
def State.outLock (s : State) (m : Msg) (f : Nat) : State :=
  let p := s.fnPort f
  let s1 := if s.lockHolds p m ∧ 1024 ≤ s.vmp.lockQ.length then s.lockBreak p true else s
  (if s1.lockHolds p m then s1.count cbVamp 4 p m.slice 1 else s1).outPass m f

/-- An outbound request reaches the bridge (R360, R366, R367). DEDUCED (log entry 32). -/
def State.vampOut (s : State) (m : Msg) : State :=
  match s.fnOf m.sid with
  | none => s.answerErr 80 m .ur .ur
  | some f => s.outLock m f

/-- An Unlock is consumed: the holder's releases the semaphore, that of a broken lock ends its aborts (R366, R367). -/
def State.vampUnlock (s : State) (m : Msg) : State :=
  match s.fnOf m.sid with
  | none => s
  | some f =>
    let p := s.fnPort f
    if s.lockBroken p m then
      s.setVmp fun v => { v with locks := v.locks.filter fun l => !(l.port == p && l.broken && l.fpid == reqFpid m && l.slice == m.slice) }
    else if (s.lock? p).isSome && !s.lockedOut p m then s.lockRelease p else s

/-- A lock has been held too long (R367). -/
def State.lockTimeout (s : State) (p : Nat) : State :=
  match s.lock? p with
  | some l => if s.due l.timer then s.lockBreak p true else s
  | none => s

/-! ### Inbound (R361, R369) -/

/-- The request toward an inbound window's target, none where its binding does not permit it or the window has no target. -/
def State.inTo (s : State) (w : Nat) (m : Msg) : Option Msg :=
  let a := s.winTarget w + (m.addr - s.winDev w)
  match s.get F.VAMP_WIN_TGT_TKIND (ent w) with
  | 1 =>
    let v := s.get F.VAMP_WIN_TGT_VPPB (ent w)
    match s.upOf v with
    | some up => if (s.vbind v).busEn then some { m with dstSw := s.ownSw, dstAg := up, space := .bus, sid := 0, addr := a } else none
    | none => none
  | 2 => some { m with dstSw := s.get F.VAMP_WIN_TGT_SW (ent w), dstAg := 72, space := .obj, sid := s.get F.VAMP_WIN_TGT_OBJ (ent w), addr := a }
  | _ => none

/-- The window of a device's request, where it lies whole inside it and its kind is permitted. -/
def State.inMatch (s : State) (n : Nat) (m : Msg) : Option Nat :=
  match s.inWin n m.addr with
  | some w => if m.addr + accessLen m ≤ s.winDev w + s.winSize w ∧ s.winAllows w m ∧ s.get F.VAMP_WIN_TGT_TKIND (ent w) % 3 ≠ 0 then some w else none
  | none => none

/-- A request of a device that no window takes (R361); fenced windows set no bit (spec/16 R437). -/
def State.unmapped (s : State) (n : Nat) (m : Msg) (mark : Bool) : State :=
  (if mark then s.occ 896 n else s).answerErr 80 m .ur .ur

/-- Held lines must not be passed by what the bridge accepts from their device (R364). -/
def State.devLinesGone (s : State) (n : Nat) : State := s.pfDiscard fun l => s.winPort l.win == n

/-- A posted write of a device goes on toward its window's target. -/
def State.inPosted (s : State) (n w : Nat) (m : Msg) : State :=
  match s.inTo w m with
  | some x => s.vampPosted n x
  | none => s.answerErr 80 m .ur .ur

/-- Whether messages of a device wait. -/
def State.inWaits (s : State) (n : Nat) : Bool := s.vmp.inq.any fun q => q.port == n

/-- Whether a posted write accepted from a device is not yet accepted at its target. -/
def State.inUnaccepted (s : State) (n : Nat) : Bool := s.sole.posted.any fun p => p.2 == n

/-- Kinds of the inbound message queue: a write of an MSG window, INTx, an error message, a forwarded one, a consumed one, and an ordinary write
behind them. -/
def vqMsi : Nat := 0
def vqIntx : Nat := 1
def vqErr : Nat := 2
def vqFwd : Nat := 3
def vqEat : Nat := 4
def vqWrite : Nat := 5

/-- The vPPBs bound to a presented function, rising. -/
def State.fnBindings (s : State) (f : Nat) : List Nat := (s.boundList.filter fun e => e.2.kind == 4 && e.2.obj == f).map (·.1)

/-- An INTx message to the host of a binding: the message code, and the pin. -/
def State.intxSend (s : State) (m : Msg) (v pin : Nat) (on : Bool) : State :=
  match s.upOf v with
  | some up => s.vampSend { m with kind := .io, op := .msg, dstSw := s.ownSw, dstAg := up, space := .bus, sid := v, addr := 0x20 + pin + 4 * bit (!on), len := 0, data := [] }
  | none => s

/-- A message of a device takes its effect (R368). Of an INTx message `sid` is the function, `tag` twice the pin plus one for Assert; of an
error message `tag` is its severity. -/
def State.msgEffect (s : State) (q : VMsg) : State :=
  let m := q.msg
  if q.kind = vqMsi ∨ q.kind = vqWrite then s.inPosted q.port q.win m
  else if q.kind = vqIntx then
    let pin := m.tag / 2
    let on := m.tag % 2 == 1
    let was := s.vmp.intx.contains (q.win, pin)
    if was == on then s
    else
      let s1 := s.setVmp fun v => { v with intx := if on then v.intx ++ [(q.win, pin)] else v.intx.filter (· != (q.win, pin)) }
      s1.each (s1.fnBindings q.win) fun t v => if (t.vbind v).intxDis then t else t.intxSend m v pin on
  else if q.kind = vqErr then
    (s.each (s.fnBindings q.win) fun t v => t.send (.ctl ((t.upOf v).getD 0) 5 (v * 4 + m.tag))).send
      (.mctp (s.get F.BND_FM_OWNER_EID 0) 7 1 0 (leBytes 2 q.win ++ leBytes 1 m.tag))
  else if q.kind = vqFwd then
    match s.upOf (s.get F.VAMP_FN_STATUS_OWNER (ent q.win)) with
    | some up =>
      if s.on F.VAMP_FN_STATUS_OWNER_VALID (ent q.win) then
        s.vampSend { m with dstSw := s.ownSw, dstAg := up, space := .bus, sid := s.get F.VAMP_FN_STATUS_OWNER (ent q.win) }
      else s
    | none => s
  else s.bump F.VAMP_CNT2_MSG_CONSUMED 0 1

/-- The first message of a device leaves the queue. -/
def State.inTake (s : State) (n : Nat) : Option (VMsg × State) :=
  match s.vmp.inq.find? fun q => q.port == n with
  | some q => some (q, s.setVmp fun v => { v with inq := v.inq.eraseP fun x => x.port == n })
  | none => none

/-- Ordinary writes at the head of a device's queue go on. -/
def State.inWrites : Nat → State → Nat → State
  | 0, s, _ => s
  | fuel + 1, s, n =>
    match s.inTake n with
    | some (q, t) => if q.kind = vqWrite then State.inWrites fuel (t.msgEffect q) n else s
    | none => s

/-- The first waiting message of a device is released once every earlier posted write has been accepted (R369). DEDUCED (log entry 32). -/
def State.vampRelease (s : State) (n : Nat) : State :=
  if s.inUnaccepted n then s
  else match s.inTake n with
    | some (q, t) => State.inWrites t.vmp.inq.length (t.msgEffect q) n
    | none => s

/-- A message is accepted from a device: released at once, or queued behind posted writes and earlier messages. -/
def State.inMsg (s : State) (q : VMsg) : State :=
  let s1 := s.devLinesGone q.port
  let s2 := s1.setVmp fun v => { v with inq := v.inq ++ [q] }
  if s1.inWaits q.port then s2 else if q.kind = vqWrite then State.inWrites 1 s2 q.port else s2.vampRelease q.port

/-- A non-posted request of a device leaves, or waits for an entry. -/
def State.inNp (s : State) (n w : Nat) (m : Msg) : State :=
  match s.inTo w m with
  | none => s.answerErr 80 m .ur .ur
  | some x =>
    if s.trackRoom false then s.vampTrack (VTrack.of false m n w m.addr 0 false) x else s.setVmp fun v => { v with npq := v.npq ++ [(false, m)] }

/-- A request of a device reaches the bridge (R361). A locked read is a malformed TLP and is dropped (R366). DEDUCED (log entry 32). -/
def State.vampIn (s : State) (m : Msg) : State :=
  let n := m.sid - 1024
  if m.op = .mRdLk then s.portClosed n m.id
  else match s.inMatch n m with
    | none => s.unmapped n m true
    | some w =>
      if s.winFenced w then s.unmapped n m false
      else if m.op = .mWr then
        s.inMsg ⟨n, if s.on F.VAMP_WIN_CFG_MSG (ent w) then vqMsi else vqWrite, m, w⟩
      else s.inNp n w m

/-- Whether the bridge can take a posted message of a device now: a full queue leaves it at the crossbar (R369). -/
def State.inqRoom (s : State) (n : Nat) : Bool := decide ((s.vmp.inq.filter fun q => q.port == n).length < 256)

/-- The presented functions of a device's routing ID at a port. -/
def State.fnsAt (s : State) (n rtid : Nat) : List Nat :=
  (listedEnts s.act R.VAMP_FN_CFG).filter fun f =>
    s.on F.VAMP_FN_CFG_VALID (ent f) && s.fnPort f == n && s.get F.VAMP_FN_CFG_RTID (ent f) == rtid

/-- A device message of a kind arrives (R368): one entry for each presented function of its routing ID. -/
def State.vampMsg (s : State) (kind : Nat) (m : Msg) (rtid tag : Nat) : State :=
  let n := m.sid - 1024
  let fs := if kind = vqEat then [0] else s.fnsAt n rtid
  (s.devLinesGone n).each fs fun t f => t.inMsg ⟨n, kind, { m with tag := tag }, f⟩

/-! ### Configuration (R359) -/

/-- A part of the presented configuration space: the identity of the device, a BAR by its register, the Command register, a capability the device
has, a hidden one, or DOE. -/
def cfIdent : Nat := 0
def cfBar : Nat := 1
def cfCommand : Nat := 2
def cfDevice : Nat := 3
def cfHidden : Nat := 4
def cfDoe : Nat := 5

/-- The outbound window that sizes a BAR register: of the BAR itself, or of the one below, whose high half the register is. -/
def State.barWin (s : State) (f k : Nat) : Option (Nat × Bool) :=
  let at_ (j : Nat) := (s.vwins 0).find? fun w => s.get F.VAMP_WIN_CFG_FN (ent w) == f && s.get F.VAMP_WIN_CFG_BAR (ent w) == j
  match at_ k with
  | some w => some (w, false)
  | none => if k = 0 then none else (at_ (k - 1)).map fun w => (w, true)

/-- A completed write without effect. -/
def State.cfgIgnored (s : State) (m : Msg) : State := (s.bump F.VAMP_CNT_CFG_IGN 0 1).respond 80 m .cpl .ok [] false 0

def State.setVbind (s : State) (v : Nat) (f : VBind → VBind) : State := s.setVmp fun x => { x with binds := x.binds.set v (f (s.vbind v)) }

/-- The new base of a virtual BAR: the half written, aligned to the window's size. -/
def barBase (old size v : Nat) (high : Bool) : Nat :=
  let n := if high then old % 2 ^ 32 + v * 2 ^ 32 else old / 2 ^ 32 * 2 ^ 32 + v
  n / size * size

/-- A write of a binding's presented configuration space (R359): `what` names the part, `k` the BAR register. DEDUCED (log entry 32). -/
def State.vampCfgWrite (s : State) (m : Msg) (what k : Nat) : State :=
  let v := m.sid
  match s.fnOf v with
  | none => s.answerErr 80 m .ur .ur
  | some f =>
    let x := leNat (m.data.take 4)
    let owner := s.on F.VAMP_FN_STATUS_OWNER_VALID (ent f) && s.get F.VAMP_FN_STATUS_OWNER (ent f) == v
    if what = cfBar then
      match s.barWin f k with
      | none => s.cfgIgnored m
      | some (w, high) =>
        let bar := s.get F.VAMP_WIN_CFG_BAR (ent w)
        (s.setVbind v fun b => { b with bars := b.bars.set bar (barBase (b.bars.getD bar 0) (s.winSize w) x high) }).respond 80 m .cpl .ok [] false 0
    else if what = cfCommand then
      let off := x.testBit 10
      let s1 := s.setVbind v fun b => { b with memEn := x.testBit 1, busEn := x.testBit 2, intxDis := off }
      let s2 := if off && !(s.vbind v).intxDis then
          s1.each ((s.vmp.intx.filter fun e => e.1 == f).map (·.2)) fun t pin => t.intxSend m v pin false
        else s1
      s2.respond 80 m .cpl .ok [] false 0
    else if what = cfDevice then (if owner then s.outLock m f else s.cfgIgnored m)
    else if what = cfDoe then s.respond 80 m .cpl .ok [] false 0
    else s.cfgIgnored m

/-- A read of a binding's presented configuration space (R359). DEDUCED (log entry 32). -/
def State.vampCfgRead (s : State) (m : Msg) (what k : Nat) : State :=
  let v := m.sid
  match s.fnOf v with
  | none => s.answerErr 80 m .ur .ur
  | some f =>
    let b := s.vbind v
    let answer (t : State) (x : Nat) : State := t.respond 80 m .cplD .ok (leBytes 4 x) false 0
    if what = cfBar then
      match s.barWin f k with
      | none => answer s 0
      | some (w, high) =>
        let base := b.bars.getD (s.get F.VAMP_WIN_CFG_BAR (ent w)) 0
        if high then answer s (base / 2 ^ 32) else answer s.usedFree (base % 2 ^ 32 / 16 * 16 + s.freeVal % 16)
    else if what = cfCommand then
      let x := s.freeVal % 2 ^ 16
      answer s.usedFree (Nat.lor (Nat.land x 0xFBF9) (2 * bit b.memEn + 4 * bit b.busEn + 1024 * bit b.intxDis))
    else if what = cfIdent ∨ what = cfDevice then s.outLock m f
    else answer s.usedFree (s.freeVal % 2 ^ 32)

/-! ### Completions, timeouts and losses (R360, R366, R372) -/

/-- The first waiting non-posted request of a direction takes the entry that has become free. -/
def State.npNext (s : State) (outb : Bool) : State :=
  if !s.trackRoom outb then s
  else match s.vmp.npq.find? fun q => q.1 == outb with
    | none => s
    | some q =>
      let m := q.2
      let s1 := s.setVmp fun v => { v with npq := v.npq.erase q }
      if outb then
        match s.fnOf m.sid with
        | none => s1.answerErr 80 m .ur .ur
        | some f =>
          if m.op = .cfgRd ∨ m.op = .cfgWr then s1.cfgForward m f
          else match s.outWin m.sid f m.addr with
            | some (w, b) => s1.outNp m (s.fnPort f) w (s.winDev w + (m.addr - b))
            | none => s1.outReject m
      else match s.inMatch (m.sid - 1024) m with
        | some w => s1.inNp (m.sid - 1024) w m
        | none => s1.unmapped (m.sid - 1024) m true

/-- A tracking entry ends. -/
def State.trackEnd (s : State) (t : VTrack) : State := ((s.setVmp fun v => { v with tracks := v.tracks.erase t }).syncVamp).npNext t.outb

/-- The completion returned to the requester of an entry: the locked forms for an MRdLk, whose failure releases the semaphore.
DEDUCED (log entry 32). -/
def State.trackAnswer (s : State) (t : VTrack) (st : Status) (data : List Byte) (poison : Bool) : State :=
  let d := st == .ok && t.req.op != .cfgWr
  let op : Op := if t.locked then (if d then .cplDLk else .cplLk) else if d then .cplD else .cpl
  let s1 := s.respond 80 t.req op st data poison 0
  match s.lock? t.port with
  | some l => if t.locked && st != .ok && l.fpid == reqFpid t.req && l.slice == t.req.slice then s1.lockRelease t.port else s1
  | none => s1

/-- A completion reaches the bridge. One that matches no entry, or an entry past its expiry stitch, is late. -/
def State.vampCpl (s : State) (c : Msg) : State :=
  match s.vmp.tracks.find? fun t => vampId t.tag == c.id with
  | none => s.bump F.VAMP_CNT_LATE 0 1
  | some t =>
    if s.due t.timer then s.bump F.VAMP_CNT_LATE 0 1
    else if t.detached then s.trackEnd t
    else if c.status = .link then ((s.trackAnswer t .ca [] false).bindingsLost t.port).trackEnd t
    else
      let good := c.status == .ok || (decide (0 < t.extra) && decide (t.req.len ≤ c.data.length))
      let st : Status := if good then .ok else if c.status = .ur then .ur else .ca
      let s1 := s.trackAnswer t st (if good then c.data.take t.req.len else []) c.poison
      let s2 := if t.extra = 0 then s1
        else if c.status = .ok then
          s1.each (pfPieces (t.extra + 1) (t.dev + t.req.len) (c.data.drop t.req.len)) fun u p => u.pfHold t.win t.req.slice p.1 p.2
        else s1.bump F.VAMP_WIN_PFERR_PF_ERR (ent t.win) 1
      s2.trackEnd t

/-- A tracking entry's timer has expired (R372). A detached one has been answered already (R338). -/
def State.vampNpTimeout (s : State) (no : Nat) : State :=
  match s.vmp.tracks.find? fun t => t.tag == no && s.due t.timer with
  | none => s
  | some t =>
    let s1 := if t.detached then s else s.trackAnswer t .ca [] false
    (s1.occAt (1088 + t.port) t.win (if t.win < 2048 then some (.win t.win) else none)).trackEnd t

/-- The link of a device is lost: its semaphore is released as for a break, without a sticky bit (R367). DEDUCED (log entry 32). -/
def State.vampLoss (s : State) (n : Nat) : State := s.lockBreak n false

end Sys2Proof.Machine
end

