-- ==== Sys2Proof/Machine/CobRun.lean ====
section
/-!
DEFINITION. Running descriptors of the Cobbler: their accesses, one outstanding at a time and within one 64 B line of source and destination,
and what their responses lead to (spec/12 R344 to R348).
-/
namespace Sys2Proof.Machine
open Sys2Proof

/-- Bytes of the next access of a descriptor. -/
def Desc.piece (d : Desc) : Nat :=
  let room (a : Nat) : Nat := 64 - a % 64
  let r := d.len - d.done
  if d.op = 1 then min r (min (room (d.src + d.done)) (room (d.dst + d.done))) else if d.op = 4 then min r 64 else min r (room (d.dst + d.done))

/-- A message of a queue pair's descriptor for a space and an address. -/
def State.cobMsg (s : State) (d : Desc) (sp a n : Nat) (write : Bool) (data : List Byte) (poison : Bool) : Msg :=
  { id := 2 ^ 114 + s.cob.seq, via := 81, kind := if sp = 1 then .io else .memM2S,
    op := if sp = 1 then (if write then .mWr else .mRd) else if write then (if n = 64 then .memWr else .memWrPtl) else .memRd,
    metaV := .none, srcSw := s.ownSw, srcAg := 81, dstSw := s.ownSw, dstAg := if sp = 1 then s.get F.COB_QP_CFG_PORT (ent d.qp) else 72,
    slice := d.qp, cls := 0, colour := .green, stamp := s.tim.num, body := if write then slotsFor n else 1, hops := 0,
    space := if sp = 0 then .obj else if sp = 1 then .bus else .dpa, sid := if sp = 0 then d.qp else 0, addr := a, len := n,
    pasid := if sp = 1 ∧ s.on F.COB_QP_PASID_PASID_EN (ent d.qp) then some (s.get F.COB_QP_PASID_PASID (ent d.qp)) else none, tag := 0,
    data := data, poison := poison, status := .ok, devload := 0, be := false }

/-- A read (false) or write (true) of a descriptor leaves. -/
def State.cobAccess (s : State) (d : Desc) (sp a n : Nat) (write : Bool) (data : List Byte) (poison : Bool) : State :=
  let m := s.cobMsg d sp a n write data poison
  let s1 := (s.setCob fun c => { c with seq := c.seq + 1 }).updDesc d.no fun x => { x with wait := some (2 * s.cob.seq + bit write), chunk := n }
  let s2 := if write ∧ sp = 1 then s1.setSole fun o => { o with posted := o.posted ++ [(m.id, 81)] } else s1
  s2.ingress 81 .none m

/-- A piece of the destination has been accepted: DONE advances, the no-progress timer restarts, and the last piece ends the descriptor.
DEDUCED (log entry 30). -/
def State.cobProgress (s : State) (d : Desc) (n : Nat) : State :=
  let x := { d with done := d.done + n, wait := none, timer := some (s.after (s.get F.COB_TO_LIMIT 0)) }
  let s1 := (s.updDesc d.no fun _ => x).count cbCob 1 0 d.qp ((n + 63) / 64)
  if d.len ≤ x.done then s1.descEnd x (if x.poison then csPoison else csSuccess) else s1

/-- The DPA of a granule a TAG names. -/
def State.tagDpa (s : State) (d : Desc) (a : Nat) : Option Nat :=
  if d.ds = 2 then some a
  else match s.objTarget d.qp a with
    | .insole x => some x
    | .coherent r _ _ o => some (s.rgnBase r + o)
    | _ => none

/-- One granule of a TAG enters the tag update queue, where the Cobbler's eyelet slot permits it (R305). -/
def State.cobTag (s : State) (d : Desc) : State :=
  let a := d.dst + d.done
  let sp := if d.ds = 2 then 3 else 1
  match s.tagDpa d a with
  | none => s.descEnd d csAccess
  | some x =>
    if s.lockedReason 81 sp a 4096 1 ≠ 0 ∨ (s.winCheck 81 sp d.qp d.qp a 4096 1).1 ≠ 0 ∨ ¬ s.inPool x then s.descEnd d csAccess
    else (s.setIns fun i => { i with tagQ := i.tagQ ++ [(x / 4096, d.arg % 16)] }).cobProgress d 4096

/-- Bytes of the pattern of a FILL from an offset on. -/
def fillBytes (arg o n : Nat) : List Byte := (List.range n).map fun i => BitVec.ofNat 8 (arg / 256 ^ ((o + i) % 8))

/-- A running descriptor without an outstanding access makes its next one. -/
def State.cobIssue (s : State) (d : Desc) : State :=
  let n := d.piece
  if d.op = 1 then s.cobAccess d d.ss (d.src + d.done) n false [] false
  else if d.op = 2 then s.cobAccess d d.ds (d.dst + d.done) n true (fillBytes d.arg d.done n) false
  else if d.op = 3 then s.cobTag d
  else s.cobAccess d 2 (poolBase + d.arg % 2048 * 0x4000000 + d.done) n true (List.replicate n 0) false

/-- The status a failed access ends its descriptor with, zero where the access has succeeded. -/
def cobFail (st : Status) : Nat :=
  match st with
  | .ok => 0
  | .link | .timeout => csLink
  | _ => csAccess

/-- A response for the Cobbler: the data of a COPY go on to the destination, an accepted write advances the descriptor. -/
def State.cobResponse (s : State) (m : Msg) : State :=
  match s.cob.descs.find? fun d => d.st == .running && (match d.wait with | some w => 2 ^ 114 + w / 2 == m.id | none => false) with
  | none => s
  | some d =>
    if cobFail m.status ≠ 0 then s.descEnd d (cobFail m.status)
    else if d.wait.getD 0 % 2 = 1 then s.cobProgress d d.chunk
    else
      let d1 := { d with poison := d.poison || m.poison }
      (s.updDesc d.no fun _ => d1).cobAccess d1 d.ds (d.dst + d.done) d.chunk true (m.data.take d.chunk) m.poison

/-- Writes into host memory that their port has sent. -/
def State.cobPosted (s : State) : State :=
  s.each (s.cob.descs.filter fun d => d.st == .running && d.ds == 1 && (match d.wait with
      | some w => w % 2 == 1 && !s.sole.posted.any fun p => p.1 == 2 ^ 114 + w / 2
      | none => false)) fun t d => t.cobProgress d d.chunk

/-- The Cobbler's work of one cell time: responses taken, host writes noted, and the next accesses in order of fetching. -/
def State.cobStep (s : State) : State :=
  let now := s.sole.crossing.filter fun e => e.1 == 81
  let s1 := ((s.setSole fun o => { o with crossing := o.crossing.filter fun e => e.1 != 81 }).each now fun t e => t.cobResponse e.2).cobPosted
  s1.each (s1.cob.descs.filter fun d => d.st == .running && d.wait.isNone) fun t d => t.cobIssue d

end Sys2Proof.Machine
end

