-- ==== Sys2Proof/Machine/Dump.lean ====
section
/-!
DEFINITION. Snapshots of the accounting store and the dump buffer (spec/17 R453 to R456).
-/
namespace Sys2Proof.Machine
open Sys2Proof

/-- Bytes of a frame. -/
def frameBytes : Nat := 65664

/-- The dump buffer's configuration in force. -/
def State.dumpBase (s : State) : Nat := s.get F.PMC_ACCT_BASE_LO_BASE 0 * 128 + s.get F.PMC_ACCT_BASE_HI_BASE 0 * 2 ^ 32

/-- BUSY kept with the buffers. -/
def State.syncDump (s : State) : State := s.put F.PMC_ACCT_STATUS_BUSY 0 s.cnt.bufs.length

/-- Accounting data has been lost. -/
def State.dumpLost (s : State) (f : Fld) : State := (s.bump f 0 1).occAt 20 0 none

/-- Whether a frame that was never acknowledged is overwritten (R456). -/
def unacked (seq ack : Nat) : Bool :=
  let d := (seq + 2 ^ 32 - ack % 2 ^ 32) % 2 ^ 32
  decide (1 ≤ d) && decide (d < 2 ^ 31)

/-- A snapshot is due at this boundary: it takes a buffer, a SEQ and a slot, or is skipped (R453 to R456). DEDUCED (log entry 31). -/
def State.snapshot (s : State) (kind : Nat) (short : Bool) (final : List Nat) : State :=
  if 2 ≤ s.cnt.bufs.length then s.dumpLost F.PMC_ACCT_STATUS_SKIPPED
  else
    let seq := s.get F.PMC_ACCT_SEQ_NEXT 0
    let slot := s.get F.PMC_ACCT_SLOT_NEXT 0
    let f : Frame :=
      { seq := seq, slot := slot, stitch := s.tim.num, astate := s.astate, kind := kind, short := short,
        lost := s.get F.PMC_ACCT_STATUS_LOST 0, skipped := s.get F.PMC_ACCT_STATUS_SKIPPED 0, cyc := s.tim.cyc,
        host := s.on F.PMC_ACCT_CFG_DST 0, base := s.dumpBase, hostPort := s.get F.PMC_ACCT_HOST_PORT 0,
        pasid := if s.on F.PMC_ACCT_HOST_PASID_EN 0 then some (s.get F.PMC_ACCT_HOST_PASID 0) else none,
        ctrs := s.cnt.acct, gens := s.cnt.gens,
        states := ((List.range 512).map fun sl => (sl, s.slState sl)).filter fun e => e.2 != 0, final := final }
    let full := match s.cnt.slots.find slot with
      | some q => unacked q (s.get F.PMC_ACCT_ACK_SEQ 0)
      | none => false
    let s1 := (s.setCnt fun c => { c with bufs := c.bufs ++ [f], slots := c.slots.set slot seq }).put F.PMC_ACCT_SEQ_NEXT 0 (seq + 1)
    let s2 := (s1.put F.PMC_ACCT_SLOT_NEXT 0 ((slot + 1) % max 1 (s.get F.PMC_ACCT_CFG_FRAMES 0))).syncDump
    if full then s2.dumpLost F.PMC_ACCT_STATUS_LOST else s2

/-- A scheduled snapshot, at the end of an ACCT epoch. -/
def State.acctEpoch (s : State) (short : Bool) : State := if s.on F.PMC_ACCT_CFG_EN 0 then s.snapshot 1 short [] else s

/-- The accounting counters of a slice whose RESET ends here become zero, after the snapshot, which joins a scheduled one of this boundary. -/
def State.acctReset (s : State) (sl : Nat) : State :=
  let s1 :=
    if !s.on F.PMC_ACCT_CFG_EN 0 then s
    else if s.cnt.bufs.any (fun f => f.stitch == s.tim.num) then
      s.setCnt fun c => { c with bufs := c.bufs.map fun f =>
        if f.stitch == s.tim.num then { f with kind := f.kind % 2 + 2, final := f.final ++ [sl] } else f }
    else s.snapshot 2 false [sl]
  s1.setCnt fun c => { c with acct := c.acct.filter (fun e => e.1 / 8 != sl), gens := c.gens.set sl ((c.gens.getD sl 0 + 1) % 65536) }

/-- A swap that changes DST, FRAMES or BASE sets the slot counter to zero (R454). -/
def State.dumpMoved (s : State) : State := (s.setCnt fun c => { c with slots := [] }).put F.PMC_ACCT_SLOT_NEXT 0 0

/-- The header of a frame as a number. -/
def Frame.header (f : Frame) (sw : Nat) : Nat :=
  f.seq % 2 ^ 32 + f.stitch % 2 ^ 48 * 2 ^ 32 + f.astate * 2 ^ 80 + f.kind * 2 ^ 83 + bit f.short * 2 ^ 85 + sw * 2 ^ 86 + f.lost * 2 ^ 96 +
    f.skipped * 2 ^ 128 + f.cyc % 2 ^ 64 * 2 ^ 160 + f.slot * 2 ^ 224

/-- The record of a slice in a frame as a number. -/
def Frame.record (f : Frame) (sl : Nat) : Nat :=
  (List.range 8).foldl (fun n c => n + f.ctrs.getD (8 * sl + c) 0 % 2 ^ 64 * 2 ^ (64 * c)) 0 + f.gens.getD sl 0 * 2 ^ 512 + sl * 2 ^ 528 +
    f.states.getD sl 0 * 2 ^ 537 + bit (f.final.contains sl) * 2 ^ 540

/-- A posted write of the PMC into host memory, a request of agent 82. -/
def State.dumpWrite (s : State) (f : Frame) (i a v : Nat) : State :=
  s.ingress 82 .none
    { id := 2 ^ 118 + f.seq * 1024 + i, via := 82, kind := .io, op := .mWr, metaV := .none, srcSw := s.ownSw, srcAg := 82, dstSw := s.ownSw,
      dstAg := f.hostPort, slice := 0, cls := 0, colour := .green, stamp := s.tim.num, body := 9, hops := 0, space := .bus, sid := 0, addr := a,
      len := 128, pasid := f.pasid, tag := 0, data := leBytes 128 v, poison := false, status := .ok, devload := 0, be := false }

/-- Whether every write of a frame is permitted: its area of the Insole answers, or the eyelet slot of agent 82 permits the host addresses. -/
def State.dumpOk (s : State) (f : Frame) (a : Nat) : Bool :=
  if f.host then (s.winCheck 82 0 0 (s.get F.BND_AGSL_SLICE (4 * 10)) a frameBytes 1).1 == 0
  else (List.range 4).all (fun c => s.sysOk (256 * c)) && decide (a + frameBytes ≤ insBytes)

/-- The oldest frame has been written, records first, then its header; or a write failed and the rest is abandoned (R455). DEDUCED (log entry 31). -/
def State.dumpDone (s : State) (ok : Bool) : State :=
  match s.cnt.bufs with
  | [] => s
  | f :: rest =>
    let a := f.base + frameBytes * f.slot
    let s1 := (s.setCnt fun c => { c with bufs := rest }).syncDump
    if !ok || !s.dumpOk f a then
      let s2 := if f.host then s1.dumpWrite f 0 (a + 128) (f.record 0) else s1
      (s2.setCnt fun c => { c with slots := if c.slots.find f.slot == some f.seq then c.slots.del f.slot else c.slots }).dumpLost F.PMC_ACCT_STATUS_LOST
    else if f.host then
      (s1.each (List.range 512) fun t sl => t.dumpWrite f (sl + 1) (a + 128 + 128 * sl) (f.record sl)).dumpWrite f 0 a (f.header s.ownSw)
    else
      (s1.each (List.range 512) fun t sl => t.sysWrite (a + 128 + 128 * sl) (leBytes 128 (f.record sl))).sysWrite a (leBytes 128 (f.header s.ownSw))

end Sys2Proof.Machine
end

