-- ==== Sys2Proof/Machine/Slices.lean ====
section
/-!
DEFINITION. Slice commands: gate, drain, squash, and their end (spec/12 R335 to R339).
-/
namespace Sys2Proof.Machine
open Sys2Proof

def slOpen : Nat := 1
def slDraining : Nat := 2
def slSquashing : Nat := 3
def slClosed : Nat := 4

def State.setSl (s : State) (sl st : Nat) : State := s.put F.BND_SL_STATUS_STATE (ent sl) st

/-! ### Outstanding work (R335) -/

/-- The slices of the outstanding work on the module, once per item, cells of requests and responses counted one by one. DEDUCED (log entry 28). -/
def State.outItems (s : State) : List Nat :=
  let cells := ((s.sole.buf ++ s.sole.waiting ++ s.sole.slotWait ++ s.sole.deferred).filter fun x => isReq x.msg || isResp x.msg.op).flatMap fun x =>
    List.replicate (x.cells - x.sent) x.msg.slice
  let homes := (List.range 4).flatMap fun h =>
    let x := s.home h
    (x.tacks.filter fun t => !t.eviction && !t.migration).map (·.req.slice) ++ (x.chain ++ x.setQ ++ x.resQ).map (·.msg.slice)
  let nps := (List.range 64).flatMap fun n => ((s.port n).np.filter (·.own)).map (·.msg.slice)
  let xts := (List.range 8).flatMap fun m => ((s.link m).xt.filter fun x => !x.dead).map (·.req.slice)
  let vamp := (s.vmp.tracks.filter fun t => !t.detached).map (·.req.slice) ++
    (s.vmp.lockQ.filter fun q => q.2.op == .mWr).map (·.2.slice) ++ (s.vmp.inq.filter fun q => q.msg.op == .mWr).map (·.msg.slice) ++
    (s.vmp.locks.filter fun l => !l.broken).map (·.slice)
  cells ++ homes ++ nps ++ xts ++ vamp ++ s.cob.descs.map (·.qp)

/-- The sums of a boundary, in BND_SL_STATUS.OUT. -/
def State.sumOut (s : State) : State :=
  let l := s.outItems
  s.each (dedupNat (l ++ listedEnts s.regs R.BND_SL_STATUS)) fun t sl => t.put F.BND_SL_STATUS_OUT (ent sl) (min (2 ^ 24 - 1) (l.filter (· == sl)).length)

/-! ### The command (R336) -/

/-- The error a slice command is refused with, zero where it is taken. DEDUCED (log entry 28). -/
def State.slCheck (s : State) (sl : Nat) (fabric : Bool) (target : Nat) : Nat :=
  if s.slState sl ≠ slOpen ∨ s.bnd.slCmds.any (fun c => c.slice == sl) then 1
  else if s.on F.BND_SL_CFG_PROTECTED (ent sl) then 2
  else if 16 ≤ s.bnd.slCmds.length then 3
  else if fabric ∧ ¬ (s.astate = 1 ∨ s.astate = 3 ∨ s.astate = 4) then 5
  else if fabric ∧ target < s.tim.num + 2 then 4
  else 0

/-- The status of a slice's command: 1 waiting for its gate, 2 running, 3 done, 4 refused. -/
def State.slStatus (s : State) (sl st err : Nat) : State :=
  (s.put F.BND_SL_CMD_STATUS_STATE (ent sl) st).put F.BND_SL_CMD_STATUS_ERR (ent sl) err

/-- A write of BND_SL_CMD (R336). -/
def State.slCmdWrite (s : State) (p : Path) (w : Word) : State :=
  let sl := s.sel p F.BND_SSEL_SLICE
  let s1 := s.storeAt (R.BND_SL_CMD + ent sl) w
  if F.BND_SL_CMD_GO.of w = 0 then s1
  else
    let fabric := F.BND_SL_CMD_SCOPE.of w == 1
    let target := s.get F.BND_SL_TGT_LO_TGT (ent sl) + s.get F.BND_SL_TGT_HI_TGT (ent sl) * 2 ^ 32
    let e := s.slCheck sl fabric target
    if e ≠ 0 then (if s.bnd.slCmds.any (fun c => c.slice == sl) then s1.put F.BND_SL_CMD_STATUS_ERR (ent sl) e else s1.slStatus sl 4 e)
    else
      let c : SlCmd := ⟨s.tim.bnd, sl, F.BND_SL_CMD_OP.of w == 1, F.BND_SL_CMD_MODE.of w == 1, if fabric then some target else none, false, none, false⟩
      ((s1.setBnd fun b => { b with slCmds := b.slCmds ++ [c] }).slStatus sl 1 0).put F.BND_SL_CMD_STATUS_SQUASHED (ent sl) 0

/-! ### Squash (R338) -/

/-- What SQUASHING does to a slice's outstanding work, once. DEDUCED (log entry 28). -/
def State.squash (s : State) (sl : Nat) : State :=
  let tracks := s.vmp.tracks.filter fun t => t.req.slice == sl && !t.detached
  let s1 := (s.setVmp fun v => { v with tracks := v.tracks.map fun t => if t.req.slice == sl then { t with detached := true } else t }).each tracks
    fun t x => t.trackAnswer x .ca [] false
  let locks := s1.vmp.locks.filter fun l => l.slice == sl && !l.broken
  let s2 := (s1.setVmp fun v => { v with locks := v.locks.map fun l => if l.slice == sl then { l with broken := true } else l }).each locks
    fun t l => t.lockDrain l.port
  let s3 := s2.each (List.range 8) fun t m =>
    let xs := (t.link m).xt.filter fun x => x.req.slice == sl && !x.dead
    (t.setLink m fun l => { l with xt := l.xt.map fun x => if x.req.slice == sl then { x with dead := true } else x }).each xs
      fun u x => if u.remoteCoherent x.req then u.coherentBack (64 + m) x.req else u.failBack (64 + m) x.req
  let gone (x : Queued) : Bool := x.msg.slice == sl && s3.squashes x.msg
  let qs := (s3.sole.buf ++ s3.sole.waiting ++ s3.sole.slotWait ++ s3.sole.deferred).filter gone
  let s4 := (s3.unqueue gone).each qs fun t x => (t.unland x.src x.msg.id).squashOne x.egress x.msg
  let s5 := s4.each (s4.cob.descs.filter fun d => d.qp == sl && d.st != .ended) fun t d => t.descEnd d csSquashed
  (s5.pfDiscard fun l => l.slice == sl).drainBehind

/-- The slice enters SQUASHING, and its queue pair fetches no further. -/
def State.slSquash (s : State) (sl : Nat) : State :=
  let s1 := s.setSl sl slSquashing
  let s2 := s1.setCob fun c => { c with gateTails := c.gateTails.set sl (s1.get F.COB_QP_STATE_SQ_HEAD (ent sl)) }
  s2.squash sl

/-- The gate of a slice command: from this boundary on the slice admits no request (R336, R343). DEDUCED (log entry 28). -/
def State.slGate (s : State) (sl : Nat) : State :=
  match s.bnd.slCmds.find? fun c => c.slice == sl && !c.running with
  | none => s
  | some c =>
    let due := match c.target with
      | some t => decide (t ≤ s.tim.num)
      | none => s.since c.since
    if !due then s
    else
      let run : SlCmd := { c with running := true, since := s.tim.bnd, timer := if c.squash then none else some (s.after (s.get F.BND_SL_CFG_DRAIN (ent sl))) }
      let s1 := (s.setBnd fun b => { b with slCmds := b.slCmds.map fun x => if x.slice == sl then run else x }).slStatus sl 2 0
      let s2 := if s1.qpState sl = qpEnabled then
          (s1.setQp sl qpStopped).setCob fun k => { k with gateTails := k.gateTails.set sl (k.tails.getD sl 0) }
        else s1
      if c.squash then s2.slSquash sl else s2.setSl sl slDraining

/-- The drain limit has passed with work outstanding: SQUASHING (R337). -/
def State.slDrainTimeout (s : State) (sl : Nat) : State :=
  match s.bnd.slCmds.find? fun c => c.slice == sl && c.running && s.dueO c.timer with
  | none => s
  | some _ =>
    if s.get F.BND_SL_STATUS_OUT (ent sl) = 0 then s
    else
      ((s.setBnd fun b => { b with slCmds := b.slCmds.map fun x => if x.slice == sl then { x with timer := none, fell := true } else x }).put
        F.BND_SL_CMD_STATUS_SQUASHED (ent sl) 1).slSquash sl

/-- A slice command ends at the first boundary at which nothing is outstanding (R339). DEDUCED (log entry 28). -/
def State.slEnd (s : State) (sl : Nat) : State :=
  match s.bnd.slCmds.find? fun c => c.slice == sl && c.running && s.since c.since with
  | none => s
  | some c =>
    if s.get F.BND_SL_STATUS_OUT (ent sl) ≠ 0 then s
    else
      let s1 := (s.setBnd fun b => { b with slCmds := b.slCmds.filter fun x => x.slice != sl }).slStatus sl 3 0
      let s2 := if c.remove then (s1.setSl sl slClosed).report 2 sl else ((s1.qpDisable sl).acctReset sl).setSl sl slOpen
      s2.event clsBind 0xB sl 2 (sl + bit c.fell * 512 + bit c.remove * 1024)

end Sys2Proof.Machine
end

