-- ==== Sys2Proof/Machine/Security.lean ====
section
/-!
DEFINITION. The enclave: the key store, the lifecycle, security commands, the return sequence, IDE keys, self-tests and attestation
(spec/14 R385, R389 to R399).
-/
namespace Sys2Proof.Machine
open Sys2Proof

/-! ### Registers -/

def lcShipped : Nat := 0
def lcOwned : Nat := 1
def lcReturned : Nat := 2

def State.lifecycle (s : State) : Nat := s.get F.SEC_STATUS_LIFECYCLE 0
def State.secError (s : State) : Bool := s.on F.SEC_STATUS_ERROR 0
def State.keyState (s : State) (e : Nat) : Nat := s.get F.SEC_KEY_INFO_STATE (ent e)
def State.keyUsage (s : State) (e : Nat) : Nat := s.get F.SEC_KEY_INFO_USAGE (ent e)

/-- APPROVED kept with the three conditions of R399. -/
def State.syncApproved (s : State) : State :=
  s.put F.SEC_STATUS_APPROVED 0 (bit (s.lifecycle == lcOwned && !s.sec.dbgEver && s.on F.SEC_STATUS_SELFTEST_OK 0))

/-- A lifecycle state is entered, with its event (R390, R410). -/
def State.setLifecycle (s : State) (v : Nat) : State := ((s.put F.SEC_STATUS_LIFECYCLE 0 v).syncApproved).event clsSecurity 0x13 0 1 v

/-- A new nonce is drawn from the DRBG (R391). DESIGN CHOICE (log entry 7). -/
def State.drawNonce (s : State) : State :=
  ((s.put F.SEC_NONCE_LO_NONCE 0 (s.freeVal % 2 ^ 32)).put F.SEC_NONCE_HI_NONCE 0 (s.freeVal / 2 ^ 32)).usedFree

/-- The nonce a command must hold. -/
def State.nonce (s : State) : Nat := s.get F.SEC_NONCE_LO_NONCE 0 + s.get F.SEC_NONCE_HI_NONCE 0 * 2 ^ 32

/-! ### The key store (R389) -/

/-- Usage bits. -/
def useLast : Nat := 0
def useFw : Nat := 1
def useAuth : Nat := 2
def useDebug : Nat := 3
def useProv : Nat := 4

/-- Whether an entry serves a usage. -/
def State.keyServes (s : State) (e u : Nat) : Bool := decide (e < 32) && s.keyState e == 1 && (s.keyUsage e).testBit u

/-- The words of an entry's KEY_ID are written. -/
def State.setKeyId (s : State) (e : Nat) (ids : List Nat) : State :=
  s.each (List.range 12) fun t i => t.setReg (R.SEC_KEY_ID + 4 * i + ent e) (BitVec.ofNat 32 (ids.getD i 0))

/-- An entry is zeroed. -/
def State.keyZero (s : State) (e : Nat) : State :=
  (((s.put F.SEC_KEY_INFO_STATE (ent e) 0).put F.SEC_KEY_INFO_USAGE (ent e) 0).setKeyId e []).setSec fun x => { x with owners := x.owners.filter (· != e) }

/-- The lowest empty entry. -/
def State.keyFree (s : State) : Option Nat := (List.range 32).find? fun e => s.keyState e == 0

/-- A new ACTIVE entry of the owner. -/
def State.keyAdd (s : State) (e usage : Nat) (ids : List Nat) : State :=
  (((s.put F.SEC_KEY_INFO_STATE (ent e) 1).put F.SEC_KEY_INFO_USAGE (ent e) usage).setKeyId e ids).setSec fun x => { x with owners := insNat x.owners e }

/-- The entries that hold Staolo's firmware key and Staolo's LAST key. -/
def keyStaoloFw : Nat := 0
def keyStaoloLast : Nat := 2

/-- Whether the store would still hold an ACTIVE key of a usage without an entry. -/
def State.keyLeft (s : State) (e u : Nat) : Bool := (List.range 32).any fun k => k != e && s.keyServes k u

/-! ### IDE keys (R394) -/

/-- Every IDE stream of a port is insecure, and the port behaves as in step 4 of R153. -/
def State.ideInsecure (s : State) (n : Nat) : State :=
  let d := dPort n
  let s1 := if s.get F.EP_IDE_STATUS_LINK_STATE d = 1 then s.put F.EP_IDE_STATUS_LINK_STATE d 2 else s
  ((s1.put F.EP_IDE_STATUS_SEL_ACTIVE d 0).setPort n fun p => { p with rekey := none }).syncBlocked n

/-- Every IDE stream of the module is insecure and its keys are zeroed. -/
def State.ideAllInsecure (s : State) : State := (s.each (List.range 64) State.ideInsecure).setSec fun x => { x with ideKeys := [] }

/-- The key refresh of a requester is due again (R394). -/
def State.rekeyStart (s : State) (n : Nat) : State :=
  if upMode (s.portMode n) then s else s.setPort n fun p => { p with rekey := some (s.after (s.get F.SEC_IDE_CFG_REKEY 0)) }

/-- The enclave installs a stream's keys and the stream starts or switches its key set (R152 to R154, R394). Without the engine's confirmation, in
the error state, or in RETURNED, the stream stays as it is. -/
def State.ideKeyProg (s : State) (n stream : Nat) (confirmed : Bool) : State :=
  let d := dPort n
  let pol := s.get F.EP_IDE_CFG_LINK_POLICY d
  if (stream = 0 ∧ pol = 0) ∨ s.get F.EP_IDE_CFG_SEL_MAX d < stream ∨ s.secError ∨ s.lifecycle = lcReturned ∨ s.sec.returning.isSome ∨
      ¬ s.on F.EP_LINK_STATUS_DL_UP d then s
  else if !confirmed then s.occAt 17 n none
  else
    let s1 := (s.ideSecure n stream).setSec fun x => { x with ideKeys := if x.ideKeys.contains (n, stream) then x.ideKeys else x.ideKeys ++ [(n, stream)] }
    s1.rekeyStart n

/-- The refresh interval of a requester has passed: every secure stream of the port takes a new key set (R154, R394). -/
def State.ideRekey (s : State) (n : Nat) : State :=
  if s.dueO (s.port n).rekey then
    let mine := (s.sec.ideKeys.filter fun e => e.1 == n).map (·.2)
    ((s.each mine fun t st => t.ideKeyProg n st true).setPort n fun p => { p with rekey := none }).rekeyStart n
  else s

/-! ### Self-tests (R399) -/

/-- The enclave enters its error state. -/
def State.secFail (s : State) : State :=
  ((((s.put F.SEC_STATUS_ERROR 0 1).ideAllInsecure).syncApproved).setFlt fun f => { f with encAlert := true }).occAt 18 0 none

/-- A self-test run ends. -/
def State.selfTest (s : State) (ok : Bool) : State :=
  let s1 := s.put F.SEC_STATUS_SELFTEST_OK 0 (bit ok)
  if ok then s1.syncApproved else s1.secFail

/-! ### Commands (R391) -/

def opClaim : Nat := 1
def opInstall : Nat := 2
def opRevoke : Nat := 3
def opSvn : Nat := 4
def opUnlock : Nat := 5
def opLock : Nat := 6
def opRelease : Nat := 7
def opReturn : Nat := 8
def opFlash : Nat := 9
def opTest : Nat := 10

/-- The usage a command's signature needs. -/
def opUsage (op : Nat) : Option Nat :=
  if op = opClaim then some useProv else if op = opUnlock then some useDebug
  else if op = opInstall ∨ op = opRevoke ∨ op = opSvn ∨ op = opRelease ∨ op = opReturn then some useAuth else none

/-- Whether a signer authorises a command: ACTIVE with the usage, and where the state names whose key it is, that party's (R390, R391).
DEDUCED (log entry 33); DESIGN CHOICE (log entry 46). -/
def State.signedBy (s : State) (r : SecRec) : Bool :=
  match opUsage r.op with
  | none => true
  | some u =>
    match r.signer with
    | none => false
    | some e =>
      s.keyServes e u && (!(r.op == opUnlock || r.op == opReturn || r.op == opRelease) ||
        s.sec.owners.contains e == (s.lifecycle == lcOwned))

/-- Whether the lifecycle state forbids a command. DEDUCED (log entry 33). -/
def State.stateForbids (s : State) (op : Nat) : Bool :=
  let l := s.lifecycle
  if op = opClaim then l != lcShipped
  else if op = opInstall ∨ op = opRelease then l != lcOwned
  else if op = opUnlock ∨ op = opLock ∨ op = opReturn then l == lcReturned
  else false

/-- The error of a command's arguments, zero where they are good. DEDUCED (log entry 33). -/
def State.argError (s : State) (r : SecRec) : Nat :=
  if r.op = opClaim then (if !r.ok || r.ids.length != 12 then 6 else if s.keyFree.isNone then 4 else 0)
  else if r.op = opInstall then
    (if r.ids.length != 12 || 32 ≤ r.a || r.a.testBit useProv then 6 else if s.keyFree.isNone then 4 else 0)
  else if r.op = opRevoke then
    (if 32 ≤ r.a || s.keyState r.a != 1 then 6 else if [useAuth, useLast, useFw].all (s.keyLeft r.a) then 0 else 4)
  else if r.op = opSvn then
    let cur := if r.a = 1 then s.get F.SEC_FW_SVN_MIN_SVN 0 else s.get F.LAST_SVN_MIN_MIN 0
    let run := if r.a = 1 then s.get F.SEC_FW_SVN_SVN 0 else s.get F.LAST_SVN_SVN 0
    (if r.b < cur ∨ run < r.b then 5 else 0)
  else if r.op = opUnlock then (if r.ok then 0 else 6)
  else if r.op = opFlash then (if !r.ok || s.secError then 2 else if !s.las.recovery && r.a % 2 == s.get F.LAST_BOOT_IMAGE 0 then 6 else 0)
  else 0

/-- The bytes of an image set are written to the flash device not booted from (R94). Erased flash reads as ones, so the store holds the complement. -/
def State.flashSet (s : State) (img : Nat) (bytes : List Nat) : State :=
  let m : Mem := Mem.sets [] 0 (bytes.map fun b => ~~~ BitVec.ofNat 8 b)
  s.setLas fun l => if img = 0 then { l with flashA := m } else { l with flashB := m }

/-- The work of an accepted command (R385, R390 to R392, R94, R95). DEDUCED (log entry 33). -/
def State.secWork (s : State) (r : SecRec) : State :=
  if r.op = opClaim then
    (((s.keyAdd (s.keyFree.getD 0) (2 ^ useAuth) r.ids).setSec fun x => { x with ownerKey := true })).setLifecycle lcOwned
  else if r.op = opInstall then s.keyAdd (s.keyFree.getD 0) r.a r.ids
  else if r.op = opRevoke then s.put F.SEC_KEY_INFO_STATE (ent r.a) 2
  else if r.op = opSvn then (if r.a = 1 then s.put F.SEC_FW_SVN_MIN_SVN 0 r.b else s.put F.LAST_SVN_MIN_MIN 0 r.b)
  else if r.op = opUnlock then s.setSec fun x => { x with dbgPend := some true }
  else if r.op = opLock then s.setSec fun x => { x with dbgPend := some false }
  else if r.op = opRelease then
    (((s.each s.sec.owners State.keyZero).setSec fun x => { x with ownerKey := false }).put F.SEC_KEY_INFO_STATE (ent keyStaoloLast) 1).setLifecycle lcShipped
  else if r.op = opReturn then s.setSec fun x => { x with returning := some s.tim.bnd }
  else if r.op = opFlash then s.flashSet (r.a % 2) r.ids
  else s.selfTest r.ok

/-- The enclave mailbox interrupts every core (spec/15 R416). DEDUCED (log entry 33). -/
def State.mailboxIrq (s : State) : State := s.each (List.range 4) fun t c => t.put F.CLK_IRQ_PEND_MBOX (4 * c) 1

/-- A command ends: its status, a new nonce, and the mailbox's interrupt, which the enclave raises with its answer (DEDUCED: R416 names the interrupt
and not its moment). -/
def State.secDone (s : State) (st err : Nat) : State :=
  ((((s.put F.SEC_CMD_STATUS_STATE 0 st).put F.SEC_CMD_STATUS_ERR 0 err).setSec fun x => { x with running := none }).drawNonce).mailboxIrq

/-- The enclave runs a command: nonce, signature, lifecycle state, arguments, then the work (R391). RETURN runs on. -/
def State.secRun (s : State) (r : SecRec) : State :=
  if r.nonce ≠ s.nonce then s.secDone 3 1
  else if !s.signedBy r then (s.occAt 16 0 none).secDone 3 2
  else if s.stateForbids r.op then s.secDone 3 3
  else
    let e := s.argError r
    if e ≠ 0 then s.secDone 3 e
    else if r.op = opReturn then
      ((s.put F.SEC_CMD_STATUS_STATE 0 1).put F.SEC_CMD_STATUS_ERR 0 0).setSec (fun x => { x with running := some opReturn }) |>.secWork r
    else (s.secWork r).secDone 2 0

/-- Whether the enclave verifies a Last (R80, state AUTH). -/
def State.verifying (s : State) : Bool := s.get F.LAST_LOAD_STATUS_STATE 0 == 2

/-- A write of SEC_CMD starts the command placed in the enclave mailbox; one arriving during a verification runs after it (R391). -/
def State.secCmd (s : State) (r : SecRec) : State :=
  let s1 := s.put F.SEC_CMD_OP 0 r.op
  if s1.sec.running.isSome || !s1.sec.waiting.isEmpty then s1.put F.SEC_CMD_STATUS_ERR 0 7
  else if s1.verifying then (s1.put F.SEC_CMD_STATUS_STATE 0 1).setSec fun x => { x with waiting := x.waiting ++ [r] }
  else s1.secRun r

/-- A verification has ended: the commands that waited run. -/
def State.secNext (s : State) : State :=
  let now := s.sec.waiting
  (s.setSec fun x => { x with waiting := [] }).each now State.secRun

/-! ### What boundaries do (R385, R392) -/

/-- A debug change applies at the boundary, at the instant of step 2 (R385). -/
def State.debugApply (s : State) : State :=
  match s.sec.dbgPend with
  | none => s
  | some b =>
    let s1 := s.setSec fun x => { x with dbgPend := none, dbgEver := x.dbgEver || b }
    if s.on F.SEC_STATUS_DEBUG 0 == b then s1.syncApproved
    else ((s1.put F.SEC_STATUS_DEBUG 0 (bit b)).syncApproved).event clsSecurity 0x13 0 2 (bit b)

/-- Steps 1 to 3 of RETURN at the ends of their stitches (R392). -/
def State.returnSteps (s : State) : State :=
  match s.sec.returning with
  | none => s
  | some b =>
    if s.tim.bnd = b + 1 then s.ideAllInsecure
    else if s.tim.bnd = b + 2 then s.setSec fun x => { x with identity := false, ownerKey := false, sessions := [], conns := [] }
    else if s.tim.bnd = b + 3 then s.each ((List.range 32).filter (· != keyStaoloFw)) State.keyZero
    else s

/-- The zero-fill of the locked region has ended: RETURNED, debug UNLOCKED (R392). -/
def State.returnDone (s : State) : State :=
  match s.sec.returning with
  | none => s
  | some b =>
    if s.reached (b + 4100) then
      let s1 := (s.clearMem 0x40000000 0x1000000).setSec fun x => { x with returning := none, dbgEver := true, dbgPend := none }
      let s2 := ((s1.put F.SEC_STATUS_DEBUG 0 1).setLifecycle lcReturned)
      let s3 := if s.on F.SEC_STATUS_DEBUG 0 then s2 else s2.event clsSecurity 0x13 0 2 1
      if s3.sec.running = some opReturn then s3.secDone 2 0 else s3
    else s

/-! ### Attestation (R395 to R397) -/

/-- Codes of SPDM responses. -/
def spdmVersion : Nat := 0x04
def spdmCapabilities : Nat := 0x61
def spdmAlgorithms : Nat := 0x63
def spdmCertificate : Nat := 0x02
def spdmChallengeAuth : Nat := 0x03
def spdmMeasurements : Nat := 0x60
def spdmKeyExchangeRsp : Nat := 0x64
def spdmFinishRsp : Nat := 0x65
def spdmError : Nat := 0x7F

/-- An SPDM response to a requester. -/
def State.spdm (s : State) (who code cc : Nat) (body : List Byte) : State := s.send (.mctp who 5 code cc body)

/-- A request is answered, or refused: in the error state, out of its order, or not served in the recovery state (R395, R399, spec/15 R409).
PRESUMED (log entry 34). -/
def State.spdmIf (s : State) (who least : Nat) (f : State → State) : State :=
  if s.las.recovery then s.spdm who spdmError 7 []
  else if s.secError then s.spdm who spdmError 3 []
  else if s.sec.conns.getD who 0 < least then s.spdm who spdmError 4 []
  else f s

def State.setConn (s : State) (who v : Nat) : State := s.setSec fun x => { x with conns := x.conns.set who v }

/-- GET_VERSION lists 1.2 and starts anew. -/
def State.spdmGetVersion (s : State) (who : Nat) : State := s.spdmIf who 0 fun t => (t.setConn who 1).spdm who spdmVersion 0 [0x12]

/-- CERT, CHAL, MEAS with signature, ENCRYPT, MAC and KEY_EX. -/
def State.spdmGetCaps (s : State) (who : Nat) : State :=
  s.spdmIf who 1 fun t => (t.setConn who (max 2 (t.sec.conns.getD who 0))).spdm who spdmCapabilities 0 (leBytes 4 0x2D6)

/-- The one suite: ECDSA P-384, SHA-384, secp384r1, AES-256-GCM. -/
def State.spdmAlgs (s : State) (who : Nat) : State :=
  s.spdmIf who 2 fun t => (t.setConn who 3).spdm who spdmAlgorithms 0 (leBytes 4 0x80 ++ leBytes 4 2 ++ leBytes 2 0x10 ++ leBytes 2 2)

/-- Whether a certificate slot has a chain: slot 0 with the device identity, slot 1 in OWNED. -/
def State.slotOk (s : State) (slot : Nat) : Bool := (slot == 0 && s.sec.identity) || (slot == 1 && s.lifecycle == lcOwned && s.sec.ownerKey)

/-- GET_CERTIFICATE of a slot. -/
def State.spdmCert (s : State) (who slot : Nat) : State :=
  s.spdmIf who 3 fun t => if t.slotOk slot then (t.spdm who spdmCertificate 0 (leBytes 1 slot ++ leBytes 8 t.freeVal)).usedFree else t.spdm who spdmError 1 []

/-- CHALLENGE of a slot. -/
def State.spdmChallenge (s : State) (who slot : Nat) : State :=
  s.spdmIf who 3 fun t => if t.slotOk slot then (t.spdm who spdmChallengeAuth 0 (leBytes 1 slot ++ leBytes 8 t.freeVal)).usedFree else t.spdm who spdmError 1 []

/-- The active rule set as the number that its bytes spell (R397). -/
def State.ruleSet (s : State) : Nat :=
  let slots := (List.range 86).map fun a => (s.act.get (R.EYE_SLOT + 4 * a)).toNat
  let wins := (List.range 4096).flatMap fun w =>
    [R.EYE_WIN_BASE_LO, R.EYE_WIN_BASE_HI, R.EYE_WIN_LIM_LO, R.EYE_WIN_LIM_HI, R.EYE_WIN_ATTR].map fun r => (s.act.get (r + ent w)).toNat
  (slots ++ wins).foldr (fun w n => w + n * 2 ^ 32) 0

/-- The manifest of the key store as a number: KEY_ID, state and usage of every entry that is not empty, in entry order. -/
def State.manifest (s : State) : Nat :=
  ((List.range 32).filter fun e => s.keyState e != 0).foldr (fun e n =>
    ((List.range 12).foldr (fun i k => (s.reg (R.SEC_KEY_ID + 4 * i + ent e)).toNat + k * 2 ^ 32) 0 + (s.reg (R.SEC_KEY_INFO + ent e)).toNat * 2 ^ 384) + n * 2 ^ 416) 0

/-- A digest as the model's function of the bytes digested. DESIGN CHOICE (log entry 8); PRESUMED (log entry 34). -/
def digestOf (block n : Nat) : Nat := (Config.digest (block + 16 * n)).toNat

/-- The value of a measurement block other than block 10 (R396). -/
def State.measure (s : State) (i : Nat) : Nat :=
  match i with
  | 4 => s.get F.SEC_FW_SVN_SVN 0 + s.get F.SEC_FW_SVN_MIN_SVN 0 * 2 ^ 32
  | 5 => digestOf 5 (s.las.structDigests.foldr (fun d n => d + n * 2 ^ 64) 0)
  | 6 => s.get F.LAST_ACTIVE_ID_LO_ID 0 + s.get F.LAST_ACTIVE_ID_HI_ID 0 * 2 ^ 32 + s.get F.LAST_ID_STATUS_MIXED 0 * 2 ^ 64
  | 7 => s.get F.LAST_SVN_MIN_MIN 0
  | 8 => s.lifecycle + s.get F.SEC_STATUS_DEBUG 0 * 4 + s.get F.SEC_STATUS_APPROVED 0 * 8
  | 9 => digestOf 9 s.manifest
  | 11 => (s.reg R.GLB_ID).toNat + (s.reg R.GLB_SERIAL_LO).toNat * 2 ^ 32 + (s.reg R.GLB_SERIAL_HI).toNat * 2 ^ 64
  | i => digestOf i (s.get F.SEC_FW_SVN_SVN 0)

/-- A measurement block as a response carries it, its number first. PRESUMED (log entry 34). -/
def State.measBlock (s : State) (i : Nat) : List Byte :=
  if i = 10 then leBytes 1 10 ++ leBytes 8 (s.sec.digest.getD 0) else leBytes 1 i ++ leBytes 12 (s.measure i)

/-- A requester that waits for block 10 is answered: block 10, or every block in order. -/
def State.measAnswer (s : State) (e : Nat × Bool) : State :=
  s.spdm e.1 spdmMeasurements 0 (if e.2 then (List.range 11).flatMap fun i => s.measBlock (i + 1) else s.measBlock 10)

/-- GET_MEASUREMENTS of a block, of their number (0) or of all (255): what holds block 10 is answered once its digest describes the rule set in force,
which a request makes the enclave compute where nothing has yet. PRESUMED (log entry 34). -/
def State.spdmMeas (s : State) (who i : Nat) : State :=
  if s.lifecycle = lcReturned then s
  else s.spdmIf who 3 fun t =>
    if i = 10 ∨ i = 255 then
      if t.sec.digBusy ∨ t.sec.digest = none then
        t.setSec fun x => { x with digBusy := true, digWait := x.digWait ++ [(who, i == 255)] }
      else t.measAnswer (who, i == 255)
    else if i = 0 then t.spdm who spdmMeasurements 0 [11]
    else if i ≤ 11 then t.spdm who spdmMeasurements 0 (leBytes 1 i ++ leBytes 12 (t.measure i))
    else t.spdm who spdmError 1 []

/-- A swap of group EYE starts the computation of block 10 on the new rule set (R397). -/
def State.eyeDigestStart (s : State) : State := s.setSec fun x => { x with digBusy := true, digest := none }

/-- The computation of block 10 has ended: waiting requests are answered. -/
def State.eyeDigestDone (s : State) : State :=
  if s.sec.digBusy then
    let d := digestOf 10 s.ruleSet
    let now := s.sec.digWait
    (s.setSec fun x => { x with digBusy := false, digest := some d, digWait := [] }).each now fun t e =>
      if t.lifecycle = lcReturned then t else t.measAnswer e
  else s

/-- KEY_EXCHANGE opens a session, at most 16 of them. -/
def State.spdmKeyEx (s : State) (who slot id : Nat) : State :=
  s.spdmIf who 3 fun t =>
    if 16 ≤ t.sec.sessions.length then t.spdm who spdmError 10 []
    else if !t.slotOk slot || t.sec.sessions.any (fun e => e.1 == id) then t.spdm who spdmError 1 []
    else ((t.setSec fun x => { x with sessions := x.sessions ++ [(id, false)] }).spdm who spdmKeyExchangeRsp 0 (leBytes 4 id ++ leBytes 8 t.freeVal)).usedFree

/-- FINISH completes a session's handshake. -/
def State.spdmFinish (s : State) (who id : Nat) : State :=
  s.spdmIf who 3 fun t =>
    if t.sec.sessions.any (fun e => e.1 == id && !e.2) then
      (t.setSec fun x => { x with sessions := x.sessions.map fun e => if e.1 == id then (id, true) else e }).spdm who spdmFinishRsp 0 (leBytes 4 id)
    else t.spdm who spdmError 4 []

end Sys2Proof.Machine
end

