-- ==== Sys2Proof/Machine/Events.lean ====
section
/-!
DEFINITION. Event records: coalescing at the boundary, the log, the rate limit and the subscribers (spec/15 R410 to R415).
-/
namespace Sys2Proof.Machine
open Sys2Proof

/-- The management port: the one whose MGMT is set (spec/05 R128). -/
def State.mgmtPort (s : State) : Option Nat := (List.range 64).find? fun n => s.on F.EP_PORT_CFG_MGMT (dPort n)

/-- The key an event coalesces under, as a number in the order of R412: class, block, instance, code. -/
def Ev.key (e : Ev) : Nat := e.cls * 2 ^ 32 + e.blk % 64 * 2 ^ 26 + e.inst % 1024 * 2 ^ 16 + e.code % 2 ^ 16

/-- The events of a stitch by key: how often raised, the last DATA, and whether only logged (R412, R414). DEDUCED (log entry 38). -/
def coalesce (l : List Ev) : Tab (Nat × Nat × Bool) :=
  l.foldl (fun t e => t.set e.key (min 65535 ((t.getD e.key (0, 0, false)).1 + 1), e.data, e.quiet)) []

/-- An event record as a number (R411). -/
def State.eventRec (s : State) (stitch seq key count supp data : Nat) : Nat :=
  seq % 2 ^ 32 + stitch % 2 ^ 48 * 2 ^ 32 + s.astate * 2 ^ 80 + key / 2 ^ 32 * 2 ^ 83 + s.ownSw * 2 ^ 86
    + key / 2 ^ 26 % 64 * 2 ^ 96 + key / 2 ^ 16 % 1024 * 2 ^ 102 + key % 2 ^ 16 * 2 ^ 112 + count * 2 ^ 128 + supp * 2 ^ 144
    + data % 2 ^ 64 * 2 ^ 192

/-- Whether an endpoint lies in the bridge pool, and the switch it stands for (R404). -/
def State.poolSw (s : State) (eid : Nat) : Option Nat :=
  let b := s.get F.CLK_MCTP_STATUS_POOL_BASE 0
  if s.on F.CLK_MCTP_STATUS_POOL_VALID 0 && decide (b ≤ eid) && decide (eid < b + 64) && eid - b != s.ownSw then some (eid - b) else none

/-- Whether the path toward a subscriber is up (R415). -/
def State.subUp (s : State) (path eid : Nat) : Bool :=
  (if path = 0 then
    s.on F.CLK_MCTP_CFG_VDM_EN 0 && s.mgt.vdmSet &&
      (match s.mgmtPort with | some n => s.on F.EP_LINK_STATUS_DL_UP (dPort n) | none => false)
  else s.on F.CLK_MCTP_CFG_I3C_EN 0 && s.mdl.dynAddr.isSome && s.mdl.ibi) &&
  (match s.poolSw eid with | some w => s.usable w | none => true)

/-- A record goes to every subscriber whose mask includes the class and whose path is up (R415). DEDUCED (log entry 38). -/
def State.eventSend (s : State) (cls r : Nat) : State :=
  s.each (List.range 4) fun t i =>
    let eid := t.get F.CLK_EVT_SUB_EID (4 * i)
    let path := t.get F.CLK_EVT_SUB_PATH (4 * i)
    if t.on F.CLK_EVT_SUB_VALID (4 * i) && (t.get F.CLK_EVT_SUB_CLASSES (4 * i)).testBit cls && t.subUp path eid then t.send (.event eid path r)
    else t

/-- Tokens of a class bucket. -/
def State.tokens (s : State) (k : Nat) : Nat := s.mgt.tokens.getD k 0
def State.setTokens (s : State) (k v : Nat) : State := s.setMgt fun g => { g with tokens := g.tokens.set k v }

/-- Every bucket is refilled (R414). -/
def State.refillTokens (s : State) : State :=
  s.each (List.range 8) fun t k =>
    t.setTokens k (min (t.get F.CLK_EVT_RATE_BURST (4 * k) * 1024) (t.tokens k + t.get F.CLK_EVT_RATE_RATE (4 * k)))

/-- A record enters the log and takes its sequence number (R412, R413). -/
def State.eventLog (s : State) (r : Nat) : State :=
  let q := s.get F.CLK_EVT_SEQ_NEXT 0
  ((s.sysWrite (0x28000000 + 32 * (q % 4194304)) (leBytes 32 r)).put F.CLK_EVT_SEQ_NEXT 0 (q + 1)).setMgt fun g =>
    { g with evCount := g.evCount + 1 }

/-- One record: logged, and sent where its class has a token; otherwise counted as suppressed. A free one takes no token (R412, R414). -/
def State.eventPut (s : State) (stitch key count data : Nat) (quiet free : Bool) : State :=
  let cls := key / 2 ^ 32
  let supp := s.get F.CLK_EVT_SUPP_SUPPRESSED (4 * cls)
  let r := s.eventRec stitch (s.get F.CLK_EVT_SEQ_NEXT 0) key count supp data
  let s1 := s.eventLog r
  if free then (s1.put F.CLK_EVT_SUPP_SUPPRESSED (4 * cls) 0).eventSend cls r
  else if !quiet && decide (1024 ≤ s.tokens cls) && s.get F.CLK_EVT_RATE_BURST (4 * cls) != 0 then
    ((s1.setTokens cls (s.tokens cls - 1024)).put F.CLK_EVT_SUPP_SUPPRESSED (4 * cls) 0).eventSend cls r
  else s1.bump F.CLK_EVT_SUPP_SUPPRESSED (4 * cls) 1

/-- The coalescing instant of the boundary that ends `stitch` (R412 to R415): the 1,024 lowest keys, the OVERFLOW record for the rest. -/
def State.evCoalesce (s : State) (stitch : Nat) : State :=
  let t := coalesce s.mgt.events
  let now := t.take 1024
  let lost := (t.drop 1024).length
  let s1 := (s.setMgt fun g => { g with events := [] }).refillTokens
  let s2 := s1.each now fun u e => u.eventPut stitch e.1 e.2.1 e.2.2.1 (e.2.2.2 && decide (e.1 / 2 ^ 32 = 0)) false
  let s3 := s2.put F.CLK_EVT_STATUS_KEYS 0 now.length
  let s4 := if lost = 0 then s3
    else (s3.eventPut stitch (clsStatus * 2 ^ 32 + 0xE * 2 ^ 26 + 2) 1 (lost % 65536) false true).bump F.CLK_EVT_STATUS_OVERFLOWS 0 1
  if t.isEmpty then s4 else (s4.count cbClk 6 0 0 (now.length + if lost = 0 then 0 else 1)).each (List.range 4) fun u c => u.put F.CLK_IRQ_PEND_EVENT (4 * c) 1

/-- How far a sequence number lies behind the next one, modulo 2^32. -/
def State.behindSeq (s : State) (first : Nat) : Nat := (s.get F.CLK_EVT_SEQ_NEXT 0 + 2 ^ 32 - first % 2 ^ 32) % 2 ^ 32

/-- Whether a record has been overwritten: it is not one of the last 4,194,304 written (R413). A number at most 2^31 ahead of the next record is not
written yet, and is not older (DEDUCED). DEDUCED (log entry 38). -/
def State.goneRec (s : State) (first : Nat) : Bool :=
  decide (min s.mgt.evCount 4194304 < s.behindSeq first) && decide (s.behindSeq first < 2 ^ 31)

/-- The records from `first` that exist, up to `n` (R413). DEDUCED (log entry 38). -/
def State.logRecords (s : State) (first n : Nat) : List Byte :=
  if 2 ^ 31 ≤ s.behindSeq first then []
  else (List.range (min n (s.behindSeq first))).flatMap fun i => s.ins.mem.gets (0x28000000 + 32 * ((first + i) % 4194304)) 32

end Sys2Proof.Machine
end

