-- ==== Sys2Proof/Machine/Power.lean ====
section
/-!
DEFINITION. The power entry controller, adaptive voltage scaling and telemetry (spec/18).
-/
namespace Sys2Proof.Machine
open Sys2Proof

/-! ### The controller (R459 to R473) -/

/-- Controller states (R463). -/
def pcNobias : Nat := 0
def pcOff : Nat := 1
def pcInsert : Nat := 2
def pcRamp : Nat := 3
def pcOn : Nat := 4
def pcLatched : Nat := 5

/-- Off causes (R473). -/
def ocNoFeed : Nat := 1
def ocPmEn : Nat := 2
def ocBreaker : Nat := 3
def ocFast : Nat := 4
def ocSoa : Nat := 5
def ocRampTimeout : Nat := 6
def ocFetOt : Nat := 7
def ocNobias : Nat := 8

/-- Whether some feed is in its window. -/
def PwrSt.anyFeed (p : PwrSt) : Bool := p.feedA || p.feedB

/-- Whether the pass FET is ramping or on. -/
def PwrSt.fetOn (p : PwrSt) : Bool := p.ctl == pcRamp || p.ctl == pcOn

/-- One evaluation of the transitions that no event of its own names (R463, R464, R470). DEDUCED (log entry 42). -/
def PwrSt.turn (p : PwrSt) : PwrSt :=
  if p.ctl = pcOff && p.anyFeed then { p with ctl := pcInsert }
  else if p.ctl = pcInsert && !p.anyFeed then { p with ctl := pcOff }
  else if p.ctl = pcInsert && p.insDone && p.pmEn then { p with ctl := pcRamp }
  else if p.ctl = pcLatched && !p.latch && !p.cool then { p with ctl := pcOff }
  else p

/-- The evaluations until nothing more follows: three clocks lead from LATCHED to RAMP (R463). -/
def PwrSt.settle (p : PwrSt) : PwrSt := p.turn.turn.turn

/-- A turn-off without a trip (R463, R471). -/
def PwrSt.turnOff (p : PwrSt) (cause : Nat) : PwrSt := { p with ctl := pcOff, regsOn := false, recCause := cause }

/-- A trip: latch, cool-down, cause and count (R470, R473). -/
def PwrSt.trip (p : PwrSt) (cause : Nat) : PwrSt :=
  if p.fetOn then
    { p with ctl := pcLatched, regsOn := false, latch := true, cool := true, recCause := cause, recTrips := min 65535 (p.recTrips + 1) }
  else p

/-- What the PWR block reflects of the controller (R460, R481). -/
def State.syncPwr (s : State) : State :=
  let p := s.pwr
  ((((((s.put F.PWR_STATUS_FEED_A_OK 0 (bit p.feedA)).put F.PWR_STATUS_FEED_B_OK 0 (bit p.feedB)).put F.PWR_STATUS_ORA_ON 0 (bit p.orA)).put
    F.PWR_STATUS_ORB_ON 0 (bit p.orB)).put F.PWR_STATUS_PM_EN 0 (bit p.pmEn)).put F.PWR_OFF_CAUSE_CAUSE 0 p.recCause).put
    F.PWR_OFF_CAUSE_TRIPS 0 p.recTrips

/-- An event at the controller: its effect, the transitions that follow, and what the die sees. -/
def State.ctlEvent (s : State) (f : PwrSt → PwrSt) : State := (s.setPwr fun p => (f p).settle).syncPwr

/-- A feed enters its window: the insertion timer starts where no feed was in its window (R459, R464). -/
def State.feedEnter (s : State) (feed : Nat) : State :=
  if s.pwr.ctl = pcNobias then s
  else s.ctlEvent fun p =>
    let q := if p.anyFeed then p else { p with insRun := true, insDone := false }
    if feed = 0 then { q with feedA := true } else { q with feedB := true }

/-- A feed leaves its window: its FET is held off; while the die is powered its loss bit is set; the loss of the last one turns the module off
(R459, R460, R463). -/
def State.feedLeave (s : State) (feed : Nat) : State :=
  if !(if feed = 0 then s.pwr.feedA else s.pwr.feedB) then s
  else
    let s1 := if s.pwr.regsOn then s.occAt (if feed = 0 then 21 else 22) 0 none else s
    s1.ctlEvent fun p =>
      let q := if feed = 0 then { p with feedA := false, orA := false } else { p with feedB := false, orB := false }
      if q.anyFeed then q
      else
        let r := { q with insRun := false, insDone := false }
        if r.fetOn then r.turnOff ocNoFeed else r

/-- Bias appears (R463). -/
def State.biasPresent (s : State) : State :=
  if s.pwr.ctl = pcNobias then s.ctlEvent fun p => { p with ctl := pcOff, latch := false, cool := false } else s

/-- Bias has been absent for 1,000 ms: all but the nonvolatile record is lost (R463, R473). -/
def State.biasLoss (s : State) : State :=
  s.ctlEvent fun p =>
    { p with ctl := pcNobias, feedA := false, feedB := false, orA := false, orB := false, insRun := false, insDone := false, latch := false,
             cool := false, regsOn := false, recCause := if p.fetOn then ocNobias else p.recCause }

/-- The insertion delay has elapsed (R464). -/
def State.insertionEnd (s : State) : State := if s.pwr.insRun then s.ctlEvent fun p => { p with insDone := true } else s

/-- PM_EN rises (R464, R470): a running cool-down starts again, which the model shows by its going on. -/
def State.pmEnRise (s : State) : State := s.ctlEvent fun p => { p with pmEn := true }

/-- PM_EN has been low for 100 µs (R463): a turn-off, after which the insertion delay counts as elapsed. -/
def State.pmEnLow (s : State) : State :=
  s.ctlEvent fun p =>
    let q := { p with pmEn := false }
    if q.fetOn then { q.turnOff ocPmEn with insDone := true } else q

/-- PM_EN has been low for 100 ms with a feed in its window: the latch clears (R470). -/
def State.latchClear (s : State) : State :=
  if !s.pwr.pmEn && s.pwr.anyFeed then s.ctlEvent fun p => { p with latch := false } else s

/-- The cool-down ends (R470). -/
def State.cooldownEnd (s : State) : State := s.ctlEvent fun p => { p with cool := false }

/-- Power good (R466). -/
def State.powerGood (s : State) : State := s.ctlEvent fun p => if p.ctl = pcRamp then { p with ctl := pcOn } else p

/-- A trip of the pass FET's guards (R466 to R469). -/
def State.fetTrip (s : State) (cause : Nat) : State := s.ctlEvent fun p => p.trip cause

/-- Power good is lost in ON: a breaker trip (R466). -/
def State.powerGoodLost (s : State) : State := if s.pwr.ctl = pcOn then s.fetTrip ocBreaker else s

/-- Power good has not come 40 ms after the ramp began (R469). -/
def State.rampTimeout (s : State) : State := if s.pwr.ctl = pcRamp then s.fetTrip ocRampTimeout else s

/-- A reverse-current turn-off of a feed in its window (R461, R462). -/
def State.reverseOff (s : State) (feed : Nat) : State :=
  if (if feed = 0 then s.pwr.feedA else s.pwr.feedB) then
    ((s.occAt 24 0 none).bump F.PWR_STATUS_REVERSALS 0 1).ctlEvent fun p =>
      if feed = 0 then { p with orA := false } else { p with orB := false }
  else s

/-- A write of PWR_CFG; NV_COMMIT writes INS_DELAY to the controller's record within 10 ms (R481). -/
def State.pwrCfgWrite (s : State) (v : Word) : State :=
  let s1 := s.storeAt R.PWR_CFG v
  if F.PWR_CFG_NV_COMMIT.of v = 1 then
    (s1.put F.PWR_CFG_NV_BUSY 0 1).setPwr fun p => { p with recIns := s1.get F.PWR_CFG_INS_DELAY 0, nvBusy := some (s.after 9765) }
  else s1

/-- A write of PWR_PIN_PEAK: CLR clears the peak (R479). -/
def State.peakWrite (s : State) (v : Word) : State := if F.PWR_PIN_PEAK_CLR.of v = 1 then s.put F.PWR_PIN_PEAK_PEAK 0 0 else s

/-! ### Adaptive voltage scaling (R474 to R477) -/

def State.setpoint (s : State) : Nat := s.get F.PWR_AVS_STATUS_SETPOINT 0
def State.vmin (s : State) : Nat := s.get F.PWR_AVS_CFG_VMIN 0
def State.vmax (s : State) : Nat := s.get F.PWR_AVS_CFG_VMAX 0

/-- Whether regular raise and lower act: EN, once the Last is committed and RUN is set (R476, R477). -/
def State.avsOn (s : State) : Bool := s.on F.PWR_AVS_CFG_EN 0 && s.locked && s.tim.running

/-- An urgent raise: 25 mV at once, none for 8 µs after one (R475, R476). DEDUCED (log entry 42). -/
def State.avsUrgent (s : State) (margin : Nat) : State :=
  let free := match s.pwr.urgentAt with | some t => decide (t + 20000 ≤ s.soleClk) | none => true
  if margin < s.get F.PWR_AVS_MARGIN_M_CRIT 0 && free then
    ((s.put F.PWR_AVS_STATUS_SETPOINT 0 (max s.setpoint (min s.vmax (s.setpoint + 5)))).bump F.PWR_AVS_CNT_URGENT 0 1).setPwr fun p =>
      { p with urgentAt := some s.soleClk }
  else s

/-- The regular lower: every margin has stayed above M_HIGH for 1,024 stitches (R475). -/
def State.avsLower (s : State) : State :=
  if s.avsOn && s.get F.PWR_AVS_STATUS_LOWER_CNT 0 == 1024 then
    (s.put F.PWR_AVS_STATUS_SETPOINT 0 (if s.vmin < s.setpoint then s.setpoint - 1 else s.setpoint)).put F.PWR_AVS_STATUS_LOWER_CNT 0 0
  else s

/-- The smallest margin of a sample. -/
def leastMargin (x : Samples) : Nat := x.margins.foldl min 63

/-- The boundary's step of AVS: the monitors, the count toward a lower, the regular raise, the limits and PWR_AVS_LIMIT (R475 to R477).
DEDUCED (log entry 42). -/
def State.avsBoundary (s : State) (x : Samples) : State :=
  let s1 := s.each (List.range 4) fun t d =>
    (t.put F.PWR_AVS_MON_MARGIN (4 * d) (x.margins.getD d 63)).put F.PWR_AVS_MON_RO_FREQ (4 * d) (x.freqs.getD d 0)
  let s2 := s1.put F.PWR_AVS_STATUS_LIMITING 0 ((List.range 4).findIdx fun d => x.margins.getD d 63 == leastMargin x)
  let low := decide (leastMargin x < s.get F.PWR_AVS_MARGIN_M_LOW 0)
  let high := decide (s.get F.PWR_AVS_MARGIN_M_HIGH 0 < leastMargin x)
  let v := s.setpoint
  let s3 := if s.avsOn then
      let s4 := s2.put F.PWR_AVS_STATUS_LOWER_CNT 0 (if high then min 1024 (s.get F.PWR_AVS_STATUS_LOWER_CNT 0 + 1) else 0)
      if s.vmax < v then s4.put F.PWR_AVS_STATUS_SETPOINT 0 (v - 1)
      else if v < s.vmin ∨ (low && decide (v < s.vmax)) then s4.put F.PWR_AVS_STATUS_SETPOINT 0 (v + 1)
      else s4
    else s2
  let s5 := if low && v == s.vmax && decide (v < 170) then s3.bump F.PWR_AVS_CNT_CAPPED 0 1 else s3
  let lim := low && v == 170
  let s6 := s5.setPwr fun p => { p with avsLim := lim }
  if lim && !s.pwr.avsLim then s6.occAt 25 0 none else s6

/-! ### Telemetry (R478 to R480) -/

/-- The averages of a TEL epoch that ends: the means of its samples (R478). -/
def State.telEnd (s : State) : State :=
  let n := s.pwr.samples
  let a (i : Nat) : Nat := s.pwr.sums.getD i 0 / n
  if n = 0 then s
  else
    (((((s.put F.PWR_FEEDA_AVG_V 0 (a 0)).put F.PWR_FEEDA_AVG_I 0 (a 1)).put F.PWR_FEEDB_AVG_V 0 (a 2)).put F.PWR_FEEDB_AVG_I 0 (a 3)).put
      F.PWR_PIN_AVG 0 (a 4)).setPwr fun p => { p with sums := [0, 0, 0, 0, 0], samples := 0 }

/-- The samples of a boundary: the instantaneous registers, the sums, the energy and the peak (R478, R479). 10 mW over 1.024 µs are 1,024/100,000 µJ.
DEDUCED (log entry 42). -/
def State.telSample (s : State) (x : Samples) : State :=
  let s1 := (((s.put F.PWR_FEEDA_V 0 x.va).put F.PWR_FEEDA_I 0 x.ia).put F.PWR_FEEDB_V 0 x.vb).put F.PWR_FEEDB_I 0 x.ib
  let s2 := (((s1.put F.PWR_PIN_INST 0 x.pin).put F.PWR_CORE_V 0 x.cv).put F.PWR_CORE_I 0 x.ci).put F.PWR_TEMP_DIE 0 (unsigned 10 x.die)
  let s3 := (s2.put F.PWR_TEMP_FET 0 (unsigned 10 x.fet)).put F.PWR_PIN_PEAK_PEAK 0 (max (s.get F.PWR_PIN_PEAK_PEAK 0) (x.pin % 65536))
  let e := s.pwr.frac + x.pin % 65536 * 1024
  let j := s.get F.PWR_ENERGY_LO_E 0 + s.get F.PWR_ENERGY_HI_E 0 * 2 ^ 32 + e / 100000
  let s4 := (s3.put F.PWR_ENERGY_LO_E 0 j).put F.PWR_ENERGY_HI_E 0 (j / 2 ^ 32)
  s4.setPwr fun p =>
    { p with frac := e % 100000, samples := p.samples + 1
             sums := List.zipWith (· + ·) p.sums [x.va, x.ia, x.vb, x.ib, x.pin]
             orA := p.feedA && decide (0 < x.ia), orB := p.feedB && decide (0 < x.ib) }

/-- The thermal alarm: above ALARM its condition holds, and it ends at ALARM − 5 °C (R480). -/
def State.thermal (s : State) (x : Samples) : State :=
  let a : Int := 2 * (s.get F.PWR_THERM_CFG_ALARM 0 : Nat)
  let hot := if a < x.die then true else if x.die ≤ a - 10 then false else s.pwr.therm
  let s1 := s.setPwr fun p => { p with therm := hot }
  if hot && !s.pwr.therm then s1.occAt 26 0 none else s1

/-- The PWR block's work at a boundary, at the Always-on instant (R475 to R481). DEDUCED (log entry 42). -/
def State.pwrBoundary (s : State) (x : Samples) : State :=
  let s1 := ((s.telSample x).thermal x).avsBoundary x
  let s3 := match s1.pwr.nvBusy with
    | some e => if e ≤ s1.tim.bnd then (s1.put F.PWR_CFG_NV_BUSY 0 0).setPwr fun p => { p with nvBusy := none } else s1
    | none => s1
  s3.syncPwr

/-- Whether the condition of a PWR source holds (R430). -/
def State.pwrCondition (s : State) (n : Nat) : Bool :=
  if n = 21 then !s.pwr.feedA else if n = 22 then !s.pwr.feedB else if n = 25 then s.pwr.avsLim else if n = 26 then s.pwr.therm else false

end Sys2Proof.Machine
end

