-- ==== Sys2Proof/Machine/Stage.lean ====
section
/-!
DEFINITION. Staged and active copies of the swap groups: the checks of a swap, its application, and what each group's new values change at
once (spec/02 R57, R59, spec/07 R193, spec/08 R225, spec/11 R303, spec/12 R334, R340, spec/14 R388, R397, spec/17 R454).
-/
namespace Sys2Proof.Machine
open Sys2Proof

/-- The swap group of the STG fields of a block, by bits [25:20] of its offsets (spec/20 R504). -/
def grpOfBlk (b : Nat) : Option Grp :=
  match b with
  | 0 => some .glb | 2 => some .lb | 3 => some .lb | 4 => some .ep | 5 => some .ml | 6 => some .sole | 7 => some .sched | 8 => some .sched
  | 9 => some .ha | 10 => some .ins | 11 => some .bnd | 12 => some .vamp | 13 => some .eye | 14 => some .clk | 15 => some .flt
  | 16 => some .pmc | 18 => some .cob
  | _ => none

/-- The swap group of an offset. -/
def grpOfOff (o : Nat) : Option Grp := grpOfBlk (o % entStride / 0x100000)

/-- All groups in the order of their mask bits (R504). -/
def allGrps : List Grp := [.glb, .lb, .ep, .ml, .sole, .sched, .ha, .ins, .bnd, .vamp, .eye, .pmc, .flt, .cob, .clk]

/-- The groups of a mask. -/
def grpsOf (mask : Nat) : List Grp := allGrps.filter fun g => mask.testBit g.bitNo

/-- The lane bank whose PCS domain holds an offset's register, if it is one (spec/01 R36). -/
def bankOfOff (o : Nat) : Option Nat :=
  if 0x200000 ≤ o ∧ o < 0x340000 then some ((o - 0x200000) / 0x10000)
  else if 0x400000 ≤ o ∧ o < 0x500000 then some ((o - 0x400000) / 0x4000 / 4)
  else if 0x500000 ≤ o ∧ o < 0x580000 then some (16 + (o - 0x500000) / 0x10000 / 2)
  else none

/-- The bits of the STG fields of the register at a key. -/
def stgMask (k : Nat) : Word :=
  match regAt (k % entStride) with
  | some d => d.maskOf (· = .stg)
  | none => 0

/-- The keys of a group listed in the staged or the active copies, without repeats. -/
def State.grpKeys (s : State) (g : Grp) : List Nat :=
  let of (r : RegFile) : List Nat := (r.filter fun e => grpOfOff e.1 == some g).map (·.1)
  of s.act ++ (of s.regs).filter fun k => !s.act.any (·.1 == k)

/-- One register's staged values become active; in EXCHANGE the staged copy receives those that were (R57). -/
def State.applyKey (s : State) (exchange : Bool) (k : Nat) : State :=
  let m := stgMask k
  let a := s.act.get k
  let r := s.regs.get k
  let s1 := s.setAct k ((a &&& ~~~ m) ||| (r &&& m))
  if exchange then s1.setReg k ((r &&& ~~~ m) ||| (a &&& m)) else s1

/-- The registers of a group, but for those of banks that the swap does not reach now, are applied. -/
def State.applyKeys (s : State) (g : Grp) (exchange : Bool) (p : Nat → Bool) : State :=
  s.each ((s.grpKeys g).filter p) fun t k => t.applyKey exchange k

/-! ### The checks of a swap (R57) -/

/-- The configured queues of an egress's strict levels, as pairs of egress and level. -/
def State.strictLevels (s : State) : List (Nat × Nat) :=
  ((listedEnts s.regs R.SCHED_QALIAS).filter fun q => s.on F.SCHED_QALIAS_CONF (ent q)).filterMap fun q =>
    let p := s.staged F.SCHED_QCFG_PRIO (ent q)
    if p < 4 then some (queueEgress q, p) else none

/-- Whether a list of pairs has no repeats. -/
def pairsDistinct : List (Nat × Nat) → Bool
  | [] => true
  | x :: xs => !xs.contains x && pairsDistinct xs

/-- The swap-time check of a group on its staged values (R193, R225, R303, R340, R349, R388). -/
def State.groupOk (s : State) (g : Grp) : Bool :=
  match g with
  | .sole => decide (0 ≤ s.sharedSize s.staged)
  | .sched => pairsDistinct s.strictLevels
  | .ins => s.insSwapOk
  | .bnd => s.bndSwapOk
  | .eye => s.eyeSwapOk
  | _ => true

/-- The configuration error of a group that fails its check. -/
def grpErrKind (g : Grp) : Nat :=
  match g with
  | .glb => kGLB | .lb => kLB | .ep => kEP | .ml => kML | .sole => kSOLE | .sched => kSCHED | .ha => kHA | .ins => kINS | .bnd => kBND
  | .vamp => kVAMP | .eye => kEYE | .pmc => kPMC | .flt => kFLT | .cob => kCOB | .clk => kCLK

/-! ### What new active values change at once -/

/-- A queue that joined or left the group of its egress has a deficit of zero (R225). -/
def State.deficits (s : State) (before : List (Nat × Nat)) : State :=
  s.each before fun t e =>
    let p := t.get F.SCHED_QCFG_PRIO (ent e.1)
    if (e.2 == 4) != (p == 4) then t.setQueue e.1 fun q => { q with deficit := 0 } else t

/-- The buffer of the accounting dump as R454 compares it. -/
def State.dumpCfg (s : State) : List Nat :=
  [s.get F.PMC_ACCT_CFG_DST 0, s.get F.PMC_ACCT_CFG_FRAMES 0, s.get F.PMC_ACCT_BASE_LO_BASE 0, s.get F.PMC_ACCT_BASE_HI_BASE 0]

/-- What follows in the group's blocks from the values now active; `s0` is the state before. -/
def State.groupHook (s : State) (s0 : State) (g : Grp) : State :=
  match g with
  | .sole => s.put F.SOLE_BUF_SHARED_SHARED_SIZE 0 (s.sharedSize s.get).toNat
  | .sched => s.deficits (s0.sole.queues.map fun e => (e.1, s0.get F.SCHED_QCFG_PRIO (ent e.1)))
  | .ins => let r := s.insExtents; r.1.sanNew r.2
  | .bnd => s.bndSlices
  | .eye => s.eyeDigestStart
  | .pmc => if s.dumpCfg = s0.dumpCfg then s else s.dumpMoved
  | .ep => s.each (List.range 64) State.syncBlocked
  | _ => s

/-- A group applies its staged values at its instant, for the registers `p` admits, or fails its check and applies none (R57). -/
def State.swapGroup (s : State) (g : Grp) (exchange : Bool) (p : Nat → Bool) : State × Bool :=
  if s.groupOk g then ((s.applyKeys g exchange p).groupHook s g, true) else (s.cfgErr (grpErrKind g) 0, false)

/-- The staged values of a group's registers become active without a swap: the boot load, and the restart of spec/19 R501. -/
def State.activate (s : State) (g : Grp) : State := s.applyKeys g false fun _ => true

/-! ### Where an access reaches (spec/20 R505, R506) -/

/-- The register at an offset and its key for a path: the path's copy of a banked register, and behind a selector the entry that the path's copy
of it names. -/
def State.keyAt (s : State) (p : Path) (o : Nat) : Option (RegDef × Nat) :=
  (regAt o).map fun d =>
    (d, match d.reach with
      | .plain => o
      | .banked => o + ent p.code
      | .selected sel => o + ent (s.reg (sel + (if d.dims.isEmpty then 0 else (o - d.off) / 0x40000 * 0x40000) + ent p.code)).toNat)

end Sys2Proof.Machine
end

