-- ==== Sys2Proof/Machine/Image.lean ====
section
/-!
DEFINITION. The image of a Last: its layout, its records and the checks of a load (spec/03 R72 to R78, R86), with the limits of a section's objects that
other chapters give the loader.
-/
namespace Sys2Proof.Machine
open Sys2Proof

/-! ### Reading an image (R72, R79) -/

/-- The load buffer's first DPA (spec/11 R300). -/
def loadBuf : Nat := 0x12000000

/-- The largest image. -/
def maxImage : Nat := 33554432

/-- A byte of the image at its source: the load buffer, flash A or flash B. Flash is held complemented, so that an erased device reads as ones. -/
def State.imgByte (s : State) (src i : Nat) : Byte :=
  match src with
  | 0 => s.mem (loadBuf + i)
  | 1 => ~~~ s.las.flashA.get i
  | _ => ~~~ s.las.flashB.get i

/-- A field of the image of `n` bytes at an offset. -/
def State.imgN (s : State) (src o n : Nat) : Nat := leNat ((List.range n).map fun i => s.imgByte src (o + i))

/-- The length the load works with: LAST_LOAD_LEN for the load buffer, TOTAL_LEN for flash (R97). -/
def State.imgLen (s : State) (src : Nat) : Nat := if src = 0 then s.get F.LAST_LOAD_LEN_LEN 0 else s.imgN src 8 4

/-- A section table entry. -/
structure Sect where
  idx : Nat
  ty : Nat
  cls : Nat
  grp : Nat
  rsv : Nat
  ofs : Nat
  len : Nat
  digest : Nat
deriving DecidableEq, Repr

/-- The section table. -/
def State.sects (s : State) (src : Nat) : List Sect :=
  (List.range (s.imgN src 12 2)).map fun i =>
    let e := 0x80 + 64 * i
    ⟨i, s.imgN src e 2, s.imgN src (e + 2) 2, s.imgN src (e + 4) 2, s.imgN src (e + 6) 2, s.imgN src (e + 8) 4, s.imgN src (e + 12) 4,
     s.imgN src (e + 16) 48⟩

/-- The group a staged section type writes (R76). -/
def sectGrp (ty : Nat) : Option Grp :=
  match ty with
  | 0x10 => some .glb | 0x11 => some .lb | 0x12 => some .ep | 0x13 => some .ml | 0x14 => some .sole | 0x15 => some .sched | 0x16 => some .ha
  | 0x17 => some .ins | 0x18 => some .bnd | 0x19 => some .vamp | 0x1A => some .eye | 0x1B => some .pmc | 0x1C => some .flt
  | 0x1D => some .cob | 0x1E => some .clk
  | _ => none

/-- Whether a type is one of the seven structural ones. -/
def structural (ty : Nat) : Bool := decide (1 ≤ ty) && decide (ty ≤ 7)

/-- An error of a load: code, section index, image offset, and the register field where there is one (R86). -/
structure LoadErr where
  code : Nat
  sect : Nat
  item : Nat
  field : Option (Nat × Nat)
deriving DecidableEq, Repr

/-- The load error codes (R86). -/
def leMagic : Nat := 1
def leFormat : Nat := 2
def leLength : Nat := 3
def leLayout : Nat := 4
def leKey : Nat := 5
def leSig : Nat := 6
def leRollback : Nat := 7
def leTarget : Nat := 8
def leKind : Nat := 9
def leSection : Nat := 10
def leDigest : Nat := 11
def leRange : Nat := 12
def leAgent : Nat := 13
def leOverlap : Nat := 14
def leCapacity : Nat := 15
def leBase : Nat := 16
def leStruct : Nat := 17
def leSource : Nat := 18
def leAborted : Nat := 19

/-- An error in the header. -/
def hdrErr (bad : Bool) (code item : Nat) : Option LoadErr := if bad then some ⟨code, 0, item, none⟩ else none

/-- The first of several checks that fails. -/
def firstErr : List (Option LoadErr) → Option LoadErr
  | [] => none
  | some e :: _ => some e
  | none :: rest => firstErr rest

/-- Whether a stretch of the image is zero. -/
def State.zeros (s : State) (src a b : Nat) : Bool := (List.range (b - a)).all fun i => s.imgByte src (a + i) == 0

/-- The layout of the table and the bodies (R72, R74): entries, order, bounds and the gaps between bodies. -/
def State.layoutErr (s : State) (src sigOfs : Nat) : Nat → List Sect → Option LoadErr
  | pos, [] => if s.zeros src pos sigOfs then none else some ⟨leLayout, 0, pos, none⟩
  | pos, x :: xs =>
    let item := 0x80 + 64 * x.idx
    if x.rsv ≠ 0 ∨ x.ofs % 64 ≠ 0 ∨ x.len % 8 ≠ 0 ∨ x.ofs < pos ∨ sigOfs < x.ofs + x.len ∨ !s.zeros src pos x.ofs then
      some ⟨leLayout, x.idx, item, none⟩
    else State.layoutErr s src sigOfs (x.ofs + x.len) xs

/-- The KIND checks (R75, R82): a PARTIAL image at boot, a structural section in a PARTIAL image, a FULL image without a required one. -/
def kindErr (kind : Nat) (boot : Bool) (l : List Sect) : Option LoadErr :=
  if kind = 2 then
    if boot then some ⟨leKind, 0, 6, none⟩
    else match l.find? fun x => structural x.ty with
      | some x => some ⟨leKind, x.idx, 0x80 + 64 * x.idx, none⟩
      | none => none
  else if [1, 2, 3, 6].all fun t => l.any fun x => x.ty == t && x.len != 0 then none
  else some ⟨leKind, 0, 12, none⟩

/-- The SECTION checks (R75, R76): an unknown or repeated TYPE, CLASS or GROUP disagreeing with it. -/
def sectErr : List Nat → List Sect → Option LoadErr
  | _, [] => none
  | seen, x :: xs =>
    let ok := !seen.contains x.ty &&
      (if structural x.ty then x.cls == 0 && x.grp == 0
       else match sectGrp x.ty with
         | some g => x.cls == 1 && x.grp == 2 ^ g.bitNo
         | none => false)
    if ok then sectErr (x.ty :: seen) xs else some ⟨leSection, x.idx, 0x80 + 64 * x.idx, none⟩

/-- The checks of FETCH in the order of R86. DEDUCED (log entry 16). -/
def State.fetchErr (s : State) (src : Nat) (boot : Bool) : Option LoadErr :=
  let n := s.imgLen src
  let tot := s.imgN src 8 4
  let cnt := s.imgN src 12 2
  let kind := s.imgN src 6 2
  let sig := s.imgN src 0x64 4
  let l := s.sects src
  firstErr [
    hdrErr (src == 0 && decide (1 ≤ n) && decide (n ≤ 223)) leLength 8,
    hdrErr (s.imgN src 0 4 != 0x5453414C) leMagic 0,
    hdrErr (s.imgN src 4 2 != 1) leFormat 4,
    hdrErr (kind != 1 && kind != 2) leFormat 6,
    hdrErr (decide (maxImage < n) || decide (maxImage < tot) || decide (tot < 224) || n != tot) leLength 8,
    hdrErr (sig + 96 != tot) leLength 0x64,
    hdrErr (decide (31 < cnt)) leLayout 12,
    hdrErr (s.imgN src 14 2 != 0) leLayout 14,
    hdrErr ((s.imgByte src 0x24).getLsbD 6) leLayout 0x24,
    hdrErr (!s.zeros src 0x25 0x28) leLayout 0x25,
    hdrErr (s.imgN src 0x60 4 != 0x80) leLayout 0x60,
    hdrErr (!s.zeros src 0x68 0x80) leLayout 0x68,
    hdrErr (decide (sig < 0x80 + 64 * cnt)) leLayout 12,
    s.layoutErr src sig (0x80 + 64 * cnt) l,
    kindErr kind boot l,
    sectErr [] l]

/-- The checks of AUTH (R73, R86, R95, spec/14 R389): a key store entry with LAST usage whose KEY_ID the header names, the signature, the SVN, the
target. In the enclave's error state no Last is verified. DEDUCED (log entry 16); DESIGN CHOICE (log entry 46). -/
def State.authErr (s : State) (src : Nat) (boot sigOk : Bool) : Option LoadErr :=
  let key := (List.range 32).any fun e =>
    s.keyServes e useLast && (List.range 12).all fun i => (s.reg (R.SEC_KEY_ID + 4 * i + ent e)).toNat == s.imgN src (0x30 + 4 * i) 4
  let target := s.imgN src 0x24 1
  let any := target / 128 == 1
  firstErr [
    hdrErr (!key) leKey 0x30,
    hdrErr (!sigOk || s.secError) leSig 0x64,
    hdrErr (decide (s.imgN src 0x28 4 < s.get F.LAST_SVN_MIN_MIN 0)) leRollback 0x28,
    hdrErr (!boot && s.imgN src 0x20 4 != s.get F.GLB_FABRIC_ID_ID 0) leTarget 0x20,
    hdrErr (any && s.imgN src 6 2 == 1) leTarget 0x24,
    hdrErr (!boot && !any && target % 64 != s.ownSw) leTarget 0x24]

/-! ### Records (R77, R78) -/

/-- What the check of the bodies carries: the state with the values checked so far in its register file, the writes of the section found, newest
first, with the CSR offset and the image offset of each, the section's first queue of an agent that has none, and the first error. -/
structure Scan where
  t : State
  ws : List RecWrite
  at_ : List (Nat × Nat)
  agent : Option LoadErr
  err : Option LoadErr

/-- Whether a register is a selector of R506. -/
def isSel (d : RegDef) : Bool := d.reach == .banked && d.off != R.LAST_VIEW_CTL && d.flds.all fun f => f.acc == .rw

/-- The bits of a register that a section may write (R78): RW and RWL in a structural section; STG of its group, or a selector in a block of it, in
a staged one. DEDUCED (log entry 18). -/
def sectMask (ty : Nat) (d : RegDef) (o : Nat) : Word :=
  let b := o / 0x100000
  if b = 0x11 || b = 0x13 || b = 0x14 then 0
  else if structural ty then d.maskOf fun a => a = .rw || a = .rwl
  else if grpOfBlk b == sectGrp ty && (grpOfBlk b).isSome then
    (if isSel d then d.maskOf (· = .rw) else d.maskOf (· = .stg))
  else 0

/-- The lowest set bit of a word. -/
def lowBit (w : Word) : Nat := ((List.range 32).find? fun i => w.getLsbD i).getD 0

/-- The fields whose limits depend on other registers: such a limit is judged on the values that the section leaves. -/
def relFlds : List Fld :=
  [F.LB_BANK_CTL_FAMILY, F.EP_LINK_CTL_TGT_RATE, F.SCHED_QCFG_WEIGHT, F.SCHED_SRATE_RATE, F.SCHED_SBURST_BURST, F.SCHED_EGR_SRATE_RATE,
    F.SCHED_EGR_SBURST_BURST, F.HA_RGN_CFG_VALID, F.HA_RGN_SIZE_SIZE, F.INS_TR_CFG_VALID, F.INS_TR_SIZE_SIZE_GIB, F.CLK_RAT_BASE_ADDR,
    F.CLK_RAT_LIM_ADDR, ⟨R.CLK_SHANK_MAP, 0, 32, .rwl, 0⟩]

/-- Whether a rejection is one of those. -/
def Check.relates (c : Check) : Bool := c.flds.any fun f => relFlds.any fun g => g.off == f.off && g.lsb == f.lsb && g.width == f.width

/-- The first rejection of a register that concerns bits the section writes, among those that relate to other registers or among the rest. -/
def State.recordBad (t : State) (d : RegDef) (k : Nat) (m w : Word) (rel : Bool) : Option Check :=
  (checksOf d).find? fun c => c.relates == rel && (maskOfList c.flds &&& m) != 0 && c.bad t (k - d.off) w

/-- One register of a record (R78, R19). -/
def Scan.word (x : Scan) (sec : Sect) (o item : Nat) (w : Word) : Scan :=
  let fail (code lsb : Nat) (named : Bool) : Scan :=
    { x with err := some ⟨code, sec.idx, item, if named then some (o, lsb) else none⟩ }
  if x.err.isSome then x
  else match x.t.keyAt .loader o with
    | none => fail leRange 0 false
    | some (d, k) =>
      let m := sectMask sec.ty d o &&& ~~~ rsvIn d (o - d.off)
      let merged := (x.t.reg k &&& ~~~ m) ||| (w &&& m)
      if m = 0 then fail leRange 0 true
      else if w &&& ~~~ m ≠ 0 then fail leRange (lowBit (w &&& ~~~ m)) true
      else if isSel d then { x with t := x.t.setReg k merged }
      else if d.off = R.SCHED_QALIAS && F.SCHED_QALIAS_CONF.of w == 1 && decide (84 ≤ queueEgress (k / entStride)) then
        { x with agent := some (x.agent.getD ⟨leAgent, sec.idx, item, some (o, 30)⟩) }
      else if d.off = R.SCHED_QCFG && !x.t.on F.SCHED_QALIAS_CONF (ent (k / entStride)) then fail leRange 1 true
      else match x.t.recordBad d k m merged false with
        | some c => fail leRange (lowBit (maskOfList c.flds)) true
        | none => { x with t := x.t.setReg k merged, ws := ⟨k, w &&& m, m⟩ :: x.ws, at_ := (o, item) :: x.at_ }

/-- The registers of a record, one after another. DEDUCED (log entry 18). -/
def Scan.words (x : Scan) (s : State) (src : Nat) (sec : Sect) (o body : Nat) (rep : Bool) (n : Nat) : Scan :=
  (List.range n).foldl (fun y i =>
    let item := if rep then body else body + 4 * i
    y.word sec (o + 4 * i) item (BitVec.ofNat 32 (s.imgN src item 4))) x

/-- The fields of a record header: the offset, the count, whether one word is repeated, and the words that follow (R77). -/
def State.recHdr (s : State) (src pos : Nat) : Nat × Nat × Bool × Nat :=
  let h := s.imgN src pos 8
  let cnt := h / 2 ^ 32 % 65536
  let rep := h / 2 ^ 48 % 2 == 1
  (h % 2 ^ 26, cnt, rep, if rep then 1 else cnt)

/-- The first breach of the record layout in a body from a position, over at most `fuel` records (R77). -/
def State.recErr (s : State) (src : Nat) (sec : Sect) : Nat → Nat → Option LoadErr
  | 0, _ => none
  | fuel + 1, pos =>
    let last := sec.ofs + sec.len
    if last ≤ pos then none
    else
      let h := s.imgN src pos 8
      let n := (s.recHdr src pos).2.2.2
      let next := pos + 8 + 4 * (n + n % 2)
      if h / 2 ^ 26 % 64 ≠ 0 ∨ h / 2 ^ 49 ≠ 0 ∨ h % 4 ≠ 0 ∨ last < next ∨ !s.zeros src (pos + 8 + 4 * n) next then
        some ⟨leLayout, sec.idx, pos, none⟩
      else State.recErr s src sec fuel next

/-- The records of a body from a position, at most `fuel` of them (R77). DEDUCED (log entry 18). -/
def Scan.records (x : Scan) (s : State) (src : Nat) (sec : Sect) : Nat → Nat → Scan
  | 0, _ => x
  | fuel + 1, pos =>
    if x.err.isSome || decide (sec.ofs + sec.len ≤ pos) then x
    else
      let (o, cnt, rep, n) := s.recHdr src pos
      Scan.records (x.words s src sec o (pos + 8) rep cnt) s src sec fuel (pos + 8 + 4 * (n + n % 2))

/-- The first limit between registers that the values of a section break, in the order of its words. -/
def Scan.relErr (x : Scan) (sec : Sect) : Option LoadErr :=
  firstErr ((x.ws.zip x.at_).reverse.map fun e =>
    match regAt (e.1.key % entStride) with
    | none => none
    | some d => (x.t.recordBad d e.1.key e.1.mask (x.t.reg e.1.key) true).map fun c =>
      ⟨leRange, sec.idx, e.2.2, some (e.2.1, lowBit (maskOfList c.flds))⟩)

/-! ### Limits of the sections (R76, and the chapters of their objects) -/

/-- The highest MAXRATE of a mode (spec/05 R127, R128). -/
def modeRate (md : Nat) : Nat := if 3 ≤ md ∧ md ≤ 6 then 4 else 6

/-- Whether two half-open spans overlap. -/
def spansMeet (a b : Nat × Nat) : Bool := decide (a.1 < b.2) && decide (b.1 < a.2)

/-- Whether some two spans of a list overlap. -/
def anyMeet : List (Nat × Nat) → Bool
  | [] => false
  | x :: xs => xs.any (spansMeet x) || anyMeet xs

/-- The span of a coherent region in its memory, with the memory named: zero for the Insole, else an expander's LD. -/
def State.rgnSpan (s : State) (r : Nat) : Nat × Nat × Nat :=
  let b := s.rgnBase r
  (if s.rgnExp r then 1 + 16 * s.get F.HA_RGN_CFG_EXP_PORT (ent r) + s.get F.HA_RGN_CFG_EXP_LD (ent r) else 0, b,
    b + s.get F.HA_RGN_SIZE_SIZE (ent r) * 16384)

/-- The valid regions of the table. -/
def State.rgns (s : State) : List Nat := (listedEnts s.regs R.HA_RGN_CFG).filter fun r => s.on F.HA_RGN_CFG_VALID (ent r)

/-- Whether a region breaks a limit (spec/09 R235). -/
def State.rgnBad (s : State) (r : Nat) : Bool :=
  let x := s.rgnSpan r
  s.get F.HA_RGN_CFG_FMT (ent r) == 3 || (s.get F.HA_RGN_CFG_FMT (ent r) != 0 && (s.members r).isEmpty) || decide (2 ^ 40 < x.2.2 - x.2.1) ||
  (if s.rgnExp r then
    let md := s.get F.EP_PORT_CFG_MODE (dPort (s.get F.HA_RGN_CFG_EXP_PORT (ent r)))
    !(md == 3 || md == 6 || md == 8 || md == 9)
  else decide (x.2.1 < poolBase) || decide (s.poolEnd < x.2.2))

/-- The limits of IDENT (R76, R503). -/
def State.identBad (s : State) (src : Nat) : Bool :=
  let en := s.get F.GLB_STITCH_CTL_BK_EN 0
  let roots := s.get F.GLB_STITCH_ROOTS_ROOT 0 ::
    ((if en.testBit 0 then [s.get F.GLB_STITCH_ROOTS_BK1 0] else []) ++ (if en.testBit 1 then [s.get F.GLB_STITCH_ROOTS_BK2 0] else []) ++
      (if en.testBit 2 then [s.get F.GLB_STITCH_ROOTS_BK3 0] else []))
  s.ownSw != s.imgN src 0x24 1 % 64 || s.get F.GLB_FABRIC_ID_ID 0 != s.imgN src 0x20 4 || !noRepeats roots

/-- The limits of LANES (R76, spec/05 R128). -/
def State.lanesBad (s : State) : Bool :=
  let mgmt := (List.range 64).filter fun n => s.on F.EP_PORT_CFG_MGMT (dPort n)
  ((List.range 64).any fun n =>
    let md := s.get F.EP_PORT_CFG_MODE (dPort n)
    decide (modeRate md < s.get F.EP_PORT_CFG_MAXRATE (dPort n)) || (md != 0 && !s.portPresent n) ||
      ((md == 3 || md == 4) && s.get F.LB_BANK_CFG_BIFUR (dBank (n / 4)) != 0)) ||
  decide (1 < mgmt.length) || mgmt.any fun n => let md := s.get F.EP_PORT_CFG_MODE (dPort n); !(md == 1 || md == 5 || md == 7)

/-- The egress agents present (spec/08 R214). -/
def State.egressPresent (s : State) : List Nat :=
  ((List.range 12).map (· + 72)) ++
  ((List.range 64).filter fun n => s.bankEn (n / 4) && s.portPresent n && s.get F.EP_PORT_CFG_MODE (dPort n) != 0) ++
  ((List.range 8).filter fun m => s.bankEn (16 + m / 2)).map (· + 64)

/-- The queues that QUEUES configures. -/
def State.confQueues (s : State) : List Nat := (listedEnts s.regs R.SCHED_QALIAS).filter fun q => s.on F.SCHED_QALIAS_CONF (ent q)

/-- The limits of QUEUES with RANGE (spec/08 R214, R217). -/
def State.queuesBad (s : State) : Bool :=
  (s.egressPresent.any fun a =>
    let q := s.get F.SCHED_EGR_DEFQ_DEF_Q (0x20 * a)
    !s.on F.SCHED_QALIAS_CONF (ent q) || queueEgress q != a) ||
  ((listedEnts s.regs R.SCHED_QALIAS).any fun q =>
    let tg := s.get F.SCHED_QALIAS_TARGET (ent q)
    s.on F.SCHED_QALIAS_ALIASED (ent q) && (queueEgress tg != queueEgress q || s.on F.SCHED_QALIAS_ALIASED (ent tg))) ||
  decide (65536 < 84 * s.get F.SCHED_ACT_CFG_ACT_MIN 0)

/-- Whether a Mode S egress has more than 64 configured queues. -/
def State.queuesMany (s : State) : Bool :=
  (List.range 84).any fun a => !s.egrModeF a && decide (64 < (s.confQueues.filter fun q => queueEgress q == a).length)

/-- The limits of SCHED on meters (spec/08 R230). -/
def State.metersBad (s : State) : Bool :=
  ((listedEnts s.regs R.SCHED_PCFG).filter fun e => s.staged F.SCHED_PCFG_MTR_EN (ent e) == 1).any fun e =>
    let k := ent (s.staged F.SCHED_PCFG_MTR_ID (ent e))
    let cir := s.staged F.SCHED_MCIR_RATE k
    let pir := s.staged F.SCHED_MPIR_RATE k
    let cbs := s.staged F.SCHED_MCBS_SIZE k
    let pbs := s.staged F.SCHED_MPBS_SIZE k
    decide (pir < cir) || decide (pbs < cbs) || cir == 0 || cbs == 0 || pbs == 0

/-- Whether two keys repeat (spec/12 R333). -/
def State.keysRepeat (s : State) : Bool :=
  let l := ((listedEnts s.regs R.BND_KEY).filter fun k => s.staged F.BND_KEY_VALID (ent k) == 1).map fun k =>
    (s.staged F.BND_KEY_AGENT (ent k),
      if s.staged F.BND_KEY_NOPASID (ent k) = 1 then 2 ^ 20 else s.staged F.BND_KEY_PASID (ent k))
  !pairsDistinct l

/-- Whether windows overlap in device address: outbound of one device, inbound of one port (spec/13 R362). -/
def State.windowsMeet (s : State) : Bool :=
  let ws := (listedEnts s.regs R.VAMP_WIN_CFG).filter fun w => s.staged F.VAMP_WIN_CFG_VALID (ent w) == 1
  let spans (dir key : Nat) (of : Nat → Nat) : List (Nat × Nat) :=
    (ws.filter fun w => s.staged F.VAMP_WIN_CFG_DIR (ent w) == dir && of w == key).map fun w =>
      let b := s.staged F.VAMP_WIN_DBASE_LO_DBASE (ent w) * 4096 + s.staged F.VAMP_WIN_DBASE_HI_DBASE (ent w) * 2 ^ 32
      (b, b + 2 ^ s.staged F.VAMP_WIN_CFG_SZ_LOG2 (ent w))
  let fn (w : Nat) : Nat := s.staged F.VAMP_WIN_CFG_FN (ent w)
  let port (w : Nat) : Nat := s.staged F.VAMP_FN_CFG_PORT (ent (fn w))
  (ws.any fun w => s.staged F.VAMP_WIN_CFG_DIR (ent w) == 0 && anyMeet (spans 0 (fn w) fn)) ||
    ws.any fun w => s.staged F.VAMP_WIN_CFG_DIR (ent w) == 1 && anyMeet (spans 1 (port w) port)

/-- Whether the accounting dump's buffer leaves its area (spec/17 R454). -/
def State.bufferBad (s : State) : Bool :=
  let base := s.staged F.PMC_ACCT_BASE_LO_BASE 0 * 128 + s.staged F.PMC_ACCT_BASE_HI_BASE 0 * 2 ^ 32
  s.staged F.PMC_ACCT_CFG_DST 0 == 0 &&
    (decide (base < 0x18000000) || decide (0x20000000 < base + s.staged F.PMC_ACCT_CFG_FRAMES 0 * frameBytes))

/-- Whether a route names a link of a bank that is not enabled (R76). -/
def State.routesBad (s : State) : Bool :=
  (List.range 64).any fun w =>
    (s.staged F.SOLE_ROUTE_PVALID (4 * w) == 1 && !s.bankEn (16 + s.staged F.SOLE_ROUTE_PRIMARY (4 * w) / 2)) ||
    (s.staged F.SOLE_ROUTE_AVALID (4 * w) == 1 && !s.bankEn (16 + s.staged F.SOLE_ROUTE_ALT (4 * w) / 2))

/-- The limits of a section's objects, with the code of each and whether the values break it. -/
def State.limits (s : State) (src ty : Nat) : List (Bool × Nat) :=
  match ty with
  | 0x01 => [(s.identBad src, leRange)]
  | 0x02 => [(s.lanesBad, leRange)]
  | 0x03 => [(s.get F.INS_CARVE_POOL_UNITS 0 + s.get F.INS_CARVE_CACHE_UNITS 0 + mirrorUnits (s.get F.INS_CARVE_MIRROR 0) != 487, leCapacity)]
  | 0x04 => [(s.rgns.any s.rgnBad, leRange),
      (s.rgns.any fun r => s.rgns.any fun q => decide (r < q) && (s.rgnSpan r).1 == (s.rgnSpan q).1 && spansMeet (s.rgnSpan r).2 (s.rgnSpan q).2, leOverlap),
      (s.rgns.any fun r => !noRepeats (s.members r), leOverlap)]
  | 0x05 =>
    let vs := (List.range 64).filter fun k => s.on F.BND_VSW_VALID (4 * k)
    let span (k : Nat) : Nat × Nat := (s.get F.BND_VSW_FIRST (4 * k), s.get F.BND_VSW_FIRST (4 * k) + s.get F.BND_VSW_COUNT (4 * k))
    [(vs.any fun k => decide (64 < s.get F.BND_VSW_COUNT (4 * k)) || decide (1024 < (span k).2), leRange), (anyMeet (vs.map span), leOverlap),
      (decide (1024 < (vs.map fun k => s.get F.BND_VSW_COUNT (4 * k)).sum), leCapacity)]
  | 0x06 => [(s.queuesBad, leRange), (s.queuesMany, leCapacity)]
  | 0x14 => [(s.routesBad, leRange), (!s.groupOk .sole, leCapacity)]
  | 0x15 => [(!s.groupOk .sched || s.metersBad, leRange)]
  | 0x17 => [(!s.groupOk .ins, leCapacity)]
  | 0x18 => [(decide (s.staged F.BND_WAKE_CFG_CAP 0 < s.maxCost s.staged), leRange), (s.keysRepeat, leOverlap)]
  | 0x19 => [(s.windowsMeet, leOverlap)]
  | 0x1A => [(!s.eyeSwapOk, leRange)]
  | 0x1B => [(s.bufferBad, leRange)]
  | _ => []

/-- Whether the values break a limit of a section that has the given code. DEDUCED (log entry 16). -/
def State.limitErr (s : State) (src : Nat) (sec : Sect) (code : Nat) : Option LoadErr :=
  if (s.limits src sec.ty).any fun e => e.1 && e.2 == code then some ⟨code, sec.idx, sec.ofs, none⟩ else none

/-! ### The check of the bodies (R80, R86) -/

/-- The register file with every STG field at its reset value: what a FULL image starts from (R79). -/
def State.stgReset (s : State) : State :=
  s.each (s.regs.map (·.1)) fun t k => let m := stgMask k; t.setReg k ((t.reg k &&& ~~~ m) ||| (resetWord k &&& m))

/-- The loader's selectors are zero (R507). -/
def State.loaderSelReset (s : State) : State :=
  s.each ((s.regs.filter fun e => e.1 / entStride == Path.loader.code && (match regAt (e.1 % entStride) with | some d => isSel d | none => false)).map (·.1))
    fun t k => t.setReg k 0

/-- One section: its digest, the layout of its records, then its values, its agents and its overlaps (R86). Structural sections of a runtime image are
checked as at boot (R84). DESIGN CHOICE (log entry 46). -/
def Scan.sect (x : Scan) (s : State) (src : Nat) (sec : Sect) (digestOk : Bool) : Scan :=
  if x.err.isSome then x
  else if !digestOk then { x with err := some ⟨leDigest, sec.idx, sec.ofs, none⟩ }
  else match s.recErr src sec (sec.len / 8) sec.ofs with
    | some e => { x with err := some e }
    | none =>
      let y := Scan.records { x with t := x.t.loaderSelReset, agent := none } s src sec (sec.len / 8) sec.ofs
      { y with err := firstErr [y.err, y.relErr sec, y.t.limitErr src sec leRange, y.agent, y.t.limitErr src sec leOverlap] }

/-- The state whose registers the check of a FULL image starts from: the reset values of its staged fields, and the structural values of the image
itself, so that a limit between sections does not depend on their order. DEDUCED (log entry 16). -/
def State.checkBase (s : State) (src : Nat) : State :=
  ((s.sects src).filter fun x => structural x.ty).foldl (fun t sec =>
    (Scan.records ⟨t.loaderSelReset, [], [], none, none⟩ s src sec (sec.len / 8) sec.ofs).t) s.stgReset

/-- What the check of all bodies yields: the error, or the writes of the structural sections and those of each staged group in order. The limits on sums
come after every section (R86). DEDUCED (log entry 16). -/
def State.checkBodies (s : State) (src : Nat) (digestOk : List Bool) : Option LoadErr × List RecWrite × List (Grp × List RecWrite) :=
  let full := s.imgN src 6 2 == 1
  let x0 : Scan := ⟨if full then s.checkBase src else s, [], [], none, none⟩
  let r := (s.sects src).foldl (fun (acc : Scan × List RecWrite × List (Grp × List RecWrite)) sec =>
    let y := Scan.sect { acc.1 with ws := [], at_ := [] } s src sec (digestOk.getD sec.idx true)
    match sectGrp sec.ty with
    | some g => (y, acc.2.1, acc.2.2 ++ [(g, y.ws.reverse)])
    | none => (y, acc.2.1 ++ y.ws.reverse, acc.2.2)) (x0, [], [])
  (firstErr (r.1.err :: (s.sects src).map fun sec => r.1.t.limitErr src sec leCapacity), r.2.1, r.2.2)

end Sys2Proof.Machine
end

