-- ==== Sys2Proof/Machine/Last.lean ====
section
/-!
DEFINITION. The loader and the boot: starting and aborting a load, its states, the commit, held writes, images A and B (spec/03 R80 to R95, spec/19 R494,
R501, R503).
-/
namespace Sys2Proof.Machine
open Sys2Proof

/-! ### States (R80) -/

def lsFetch : Nat := 1
def lsAuth : Nat := 2
def lsCheck : Nat := 3
def lsVerified : Nat := 4
def lsCommit : Nat := 5
def lsCommitted : Nat := 6
def lsFailed : Nat := 7

def State.loadState (s : State) : Nat := s.get F.LAST_LOAD_STATUS_STATE 0
def State.setLoadState (s : State) (v : Nat) : State := s.put F.LAST_LOAD_STATUS_STATE 0 v

/-- A 64-bit identity of the LAST block. -/
def State.activeId (s : State) : Nat := s.get F.LAST_ACTIVE_ID_LO_ID 0 + s.get F.LAST_ACTIVE_ID_HI_ID 0 * 2 ^ 32
def State.stagedId (s : State) : Nat := s.get F.LAST_STAGED_ID_LO_ID 0 + s.get F.LAST_STAGED_ID_HI_ID 0 * 2 ^ 32
def State.setActiveId (s : State) (v : Nat) : State := (s.put F.LAST_ACTIVE_ID_LO_ID 0 v).put F.LAST_ACTIVE_ID_HI_ID 0 (v / 2 ^ 32)
def State.setStagedId (s : State) (v : Nat) : State := (s.put F.LAST_STAGED_ID_LO_ID 0 v).put F.LAST_STAGED_ID_HI_ID 0 (v / 2 ^ 32)

def State.updLoad (s : State) (f : Load → Load) : State := s.setLas fun l => { l with load := l.load.map f }

/-- The start-up step in progress (spec/19 R494). -/
def State.step? (s : State) : Nat := s.get F.GLB_START_STATUS_STEP 0
def State.setStep (s : State) (v : Nat) : State := s.put F.GLB_START_STATUS_STEP 0 v

/-! ### Images A and B (R93, R94) -/

/-- The Clicker complex is to run the image: the enclave verifies its firmware next. -/
def State.bootFrom (s : State) (img : Nat) : State :=
  ((s.put F.LAST_BOOT_IMAGE 0 img).put F.LAST_BOOT_FALLBACK 0 (bit (img != s.las.prefImage))).setLas fun l =>
    { l with fallback := img != l.prefImage, fwRunning := false, confirm := none }

/-- A power entry: the preferred image, or after three attempts without a CONFIRM the other one (R93). -/
def State.bootEntry (s : State) : State :=
  let l := s.las
  let s1 := s.setLas fun x => { x with bootFailed := [], recovery := false }
  if 3 ≤ l.tries then (s1.bootFrom (1 - l.prefImage)).put F.LAST_BOOT_TRIES 0 3
  else ((s1.setLas fun x => { x with tries := x.tries + 1 }).bootFrom l.prefImage).put F.LAST_BOOT_TRIES 0 (l.tries + 1)

/-- A boot attempt has failed: the other image, or with both failed the recovery state (R83, R93, spec/15 R409). -/
def State.bootFail (s : State) : State :=
  let img := s.get F.LAST_BOOT_IMAGE 0
  let s1 := s.setLas fun l => { l with bootFailed := insNat l.bootFailed img, fwRunning := false, confirm := none }
  if s1.las.bootFailed.contains (1 - img) then
    (s1.setLas fun l => { l with recovery := true }).setFlt fun f => { f with encAlert := true }
  else (s1.bootFrom (1 - img)).setStep (if s.locked then s.step? else 2)

/-- Verification of the firmware ends: its signature, its SVN and the self-tests decide (spec/14 R393); a running image has 60 s for CONFIRM, which is
58,593,750 stitches. DEDUCED (log entry 17). -/
def State.firmwareDone (s : State) (ok : Bool) (svn : Nat) : State :=
  if s.las.fwRunning || s.las.recovery then s
  else if ok && decide (s.get F.SEC_FW_SVN_MIN_SVN 0 ≤ svn) && s.on F.SEC_STATUS_SELFTEST_OK 0 && !s.secError then
    let s1 := (s.put F.SEC_FW_SVN_SVN 0 svn).setLas fun l => { l with fwRunning := true, confirm := some (s.after 58593750) }
    let s2 := s1.each (List.range 4) fun t c => t.put F.CLK_CORE_STATUS_STATE (4 * c) (if t.on F.CLK_CORE_CTL_HOLD (4 * c) then 0 else 1)
    if s2.step? = 2 then s2.setStep 3 else s2
  else s.bootFail

/-- CONFIRM (R93); it ends a warm restart that awaits it (spec/16 R439). -/
def State.confirmWrite (s : State) (v : Word) : State :=
  if F.LAST_BOOT_CONFIRM.of v = 1 then
    let s1 := ((s.setLas fun l => { l with tries := 0, confirm := none }).put F.LAST_BOOT_TRIES 0 0).setFlt fun f => { f with restartTo := none }
    if s1.get F.FLT_RESTART_STATUS_STATE 0 = 3 then s1.put F.FLT_RESTART_STATUS_STATE 0 0 else s1
  else s

/-- No CONFIRM within 60 s of starting (R93). Before RUN no boundary passes, and the enclave's own time ends the wait. DEDUCED (log entry 17). -/
def State.confirmTimeout (s : State) : State :=
  match s.las.confirm with
  | some e => if s.due e || !s.tim.running then s.bootFail else s
  | none => s

/-- A write of LAST_BOOT_PREF (R94). -/
def State.prefWrite (s : State) (v : Word) : State :=
  (s.storeAt R.LAST_BOOT_PREF v).setLas fun l => { l with prefImage := F.LAST_BOOT_PREF_PREFER.of v }

/-! ### The end of a load (R86, R83) -/

/-- The LOAD_RESULT event (spec/15 R410). -/
def State.loadEvent (s : State) (st code build : Nat) : State := s.event clsConfig 0x11 0 1 (st + code * 256 + build % 2 ^ 48 * 65536)

/-- The load ends in FAILED with the first error found. -/
def State.loadFail (s : State) (e : LoadErr) : State :=
  let build := match s.las.load with | some l => l.buildId | none => 0
  let boot := match s.las.load with | some l => l.boot | none => false
  let s1 := ((s.setLoadState lsFailed).put F.LAST_LOAD_STATUS_CODE 0 e.code).put F.LAST_LOAD_STATUS_SECTION 0 e.sect
  let s2 := s1.put F.LAST_LOAD_ITEM_OFS 0 e.item
  let s3 := match e.field with
    | some (o, b) => ((s2.put F.LAST_LOAD_FIELD_CSR_OFS 0 o).put F.LAST_LOAD_FIELD_LSB 0 b).put F.LAST_LOAD_FIELD_VALID 0 1
    | none => s2
  let s4 := ((s3.occAt 5 0 none).loadEvent lsFailed e.code build).setLas fun l => { l with load := none }
  if boot then s4.bootFail else s4

/-- The outcome of a state's checks: the error, or the state that follows. -/
def State.loadTo (s : State) (e : Option LoadErr) (next : Nat) : State :=
  match e with
  | some x => s.loadFail x
  | none => s.setLoadState next

/-! ### START and ABORT (R81) -/

/-- A load begins. -/
def State.loadBegin (s : State) (src : Nat) : State :=
  let boot := !s.locked
  let s1 := ((((s.setLoadState lsFetch).put F.LAST_LOAD_STATUS_CODE 0 0).put F.LAST_LOAD_STATUS_SECTION 0 0).put F.LAST_LOAD_STATUS_BOOT 0 (bit boot)).put
    F.LAST_LOAD_ITEM_OFS 0 0
  let s2 := ((s1.put F.LAST_LOAD_FIELD_CSR_OFS 0 0).put F.LAST_LOAD_FIELD_LSB 0 0).put F.LAST_LOAD_FIELD_VALID 0 0
  let new : Load :=
    { src := src, len := 0, partImg := false, buildId := 0, baseId := 0, svn := 0, boot := boot,
      startId := if s.on F.LAST_ID_STATUS_MIXED 0 then none else some s.activeId,
      groups := [], structural := [], staged := [], digests := [], doneGrps := [] }
  s2.setLas fun l => { l with load := some new }

/-- A write of LAST_LOAD_CTL (R81, R97). -/
def State.loadCtlWrite (s : State) (v : Word) : State :=
  let s1 := s.storeAt R.LAST_LOAD_CTL v
  let start := F.LAST_LOAD_CTL_START.of v == 1
  let abort := F.LAST_LOAD_CTL_ABORT.of v == 1
  let st := s.loadState
  let src := s1.get F.LAST_LOAD_CTL_SRC 0
  if st = 0 ∨ st = lsCommitted ∨ st = lsFailed then
    (if start && !(src == 0 && s.get F.LAST_LOAD_LEN_LEN 0 == 0) then s1.loadBegin src else s1)
  else
    let s2 := if start then s1.put F.LAST_LOAD_STATUS_START_REFUSED 0 1 else s1
    if abort && st != lsCommit then
      let s3 := s2.loadFail ⟨leAborted, 0, 0, none⟩
      if st = lsAuth then s3.secNext else s3
    else s2

/-! ### FETCH, AUTH and CHECK (R80, R86) -/

/-- An item that cannot be read. -/
def sourceErr (e : Option Nat) : Option LoadErr := e.map fun i => ⟨leSource, 0, i, none⟩

/-- The header and the section table have been read. -/
def State.fetchDone (s : State) (srcErr : Option Nat) : State :=
  match s.las.load with
  | none => s
  | some l =>
    if s.loadState ≠ lsFetch then s
    else
      let e := match sourceErr srcErr with
        | some x => some x
        | none => s.fetchErr l.src l.boot
      let secs := s.sects l.src
      let kind := s.imgN l.src 6 2
      let s1 := s.updLoad fun x =>
        { x with len := s.imgLen l.src, partImg := kind == 2, buildId := s.imgN l.src 0x10 8, baseId := s.imgN l.src 0x18 8, svn := s.imgN l.src 0x28 4
                 groups := if kind == 2 then allGrps.filter fun g => secs.any fun z => sectGrp z.ty == some g else allGrps
                 digests := (secs.filter fun z => structural z.ty).map (·.digest) }
      s1.loadTo e lsAuth

/-- The enclave has finished its checks; its commands that waited run (spec/14 R391). -/
def State.authDone (s : State) (sigOk : Bool) : State :=
  match s.las.load with
  | none => s
  | some l => if s.loadState ≠ lsAuth then s else (s.loadTo (s.authErr l.src l.boot sigOk) lsCheck).secNext

/-- The base of a PARTIAL image against an identity (R92). -/
def baseErr (l : Load) (id : Option Nat) : Option LoadErr := if l.partImg && id != some l.baseId then some ⟨leBase, 0, 0x18, none⟩ else none

/-- The bodies have been read and checked: the errors of R86 in order, then BASE as START found it, then STRUCT. -/
def State.checkDone (s : State) (srcErr : Option Nat) (digestOk : List Bool) : State :=
  match s.las.load with
  | none => s
  | some l =>
    if s.loadState ≠ lsCheck then s
    else
      let r := s.checkBodies l.src digestOk
      let strct : Option LoadErr := if !l.partImg && !l.boot && l.digests != s.las.structDigests then some ⟨leStruct, 0, 0x80, none⟩ else none
      let e := firstErr [sourceErr srcErr, r.1, baseErr l l.startId, strct]
      (s.updLoad fun x => { x with structural := r.2.1, staged := r.2.2 }).loadTo e lsVerified

/-! ### COMMIT (R80, R82, R84, R85) -/

/-- The writes of a section's records: the bits of the mask, and no others. -/
def State.recWrites (s : State) (l : List RecWrite) : State := s.each l fun t w => t.setReg w.key ((t.reg w.key &&& ~~~ w.mask) ||| (w.value &&& w.mask))

/-- A group's STG registers take their reset values, where a FULL image does not write them (R79). -/
def State.grpReset (s : State) (g : Grp) : State :=
  s.each ((s.regs.filter fun e => grpOfOff e.1 == some g).map (·.1)) fun t k =>
    let m := stgMask k
    t.setReg k ((t.reg k &&& ~~~ m) ||| (resetWord k &&& m))

/-- The bank that holds a register, where it is disabled. -/
def State.bankOff (s : State) (k : Nat) : Option Nat :=
  match bankOfOff (k % entStride) with
  | some b => if s.bankState b = 3 then none else some b
  | none => none

/-- A disabled bank misses a write or a swap, in the order of occurrence (R36, R59). -/
def State.miss (s : State) (b : Nat) (x : Missed) : State := s.setAcs fun a => { a with missed := a.missed.set b (a.missed.getD b [] ++ [x]) }

/-- A commit's write of a register at runtime: a disabled bank holds it (R36). DEDUCED (log entry 18). -/
def State.commitWrite (s : State) (w : RecWrite) : State :=
  match s.bankOff w.key with
  | some b => s.miss b (.write ⟨.loader, w.key % entStride, w.key, w.value, w.mask⟩)
  | none => s.recWrites [w]

/-- The commit of a group: its staged copies, and at boot its active ones. -/
def State.commitGrp (s : State) (l : Load) (g : Grp) : State :=
  let s1 :=
    if l.partImg then s
    else if l.boot then s.grpReset g
    else s.each (s.grpKeys g) fun t k => t.commitWrite ⟨k, resetWord k, stgMask k⟩
  let s2 := s1.each (l.staged.filter fun e => e.1 == g) fun t e => if l.boot then t.recWrites e.2 else t.each e.2 State.commitWrite
  let s3 := if l.boot then (s2.activate g).groupHook s g else s2
  s3.setLas fun x => { x with direct := x.direct.filter (· != g) }

/-- Held writes and arms are released by operations that come later; the group's commit itself ends here, and the next one begins. -/
def State.grpDone (s : State) : State :=
  match s.las.load, s.las.committing with
  | some l, some g =>
    let s1 := (s.commitGrp l g).updLoad fun x => { x with doneGrps := x.doneGrps ++ [g] }
    s1.setLas fun x => { x with committing := l.groups.find? fun k => k != g && !l.doneGrps.contains k }
  | _, _ => s

/-- Whether the armed swap shares a group with the load (R84). -/
def State.armShares (s : State) (l : Load) : Bool :=
  match s.tim.arm with
  | some a => l.groups.any fun g => a.mask.testBit g.bitNo
  | none => false

/-- A VERIFIED load enters COMMIT: no overlapping swap, the base once more, and at boot the structural sections first. -/
def State.commitStart (s : State) : State :=
  match s.las.load with
  | none => s
  | some l =>
    if s.loadState ≠ lsVerified || s.armShares l then s
    else match baseErr l (if s.on F.LAST_ID_STATUS_MIXED 0 then none else some s.activeId) with
      | some e => s.loadFail e
      | none =>
        let s1 := (s.setLoadState lsCommit).setLas fun x => { x with committing := l.groups.head? }
        if l.boot then (s1.recWrites l.structural).setLas fun x => { x with structDigests := l.digests } else s1

/-- The Insole extents that a coherent region overlaps are COHERENT, in units of 64 MiB from the pool's base (spec/11 R302). -/
def State.cohExtents (s : State) : State :=
  s.each ((s.rgns.filter fun r => !s.rgnExp r)) fun t r =>
    let x := t.rgnSpan r
    let lo := (x.2.1 - poolBase) / 67108864
    let hi := (x.2.2 - poolBase + 67108863) / 67108864
    t.each ((List.range (hi - lo)).map (· + lo)) fun u e => u.put F.INS_PEXT_STATE (ent e) 3

/-- NQ of every egress and CONF of every queue kept with what QUEUES configured (spec/08 R214). -/
def State.syncQueues (s : State) : State :=
  let qs := s.confQueues
  let s1 := s.each qs fun t q => t.put F.SCHED_QCFG_CONF (ent q) 1
  s1.each (List.range 84) fun t a => t.put F.SCHED_EGR_CFG_NQ (0x20 * a) (qs.filter fun q => queueEgress q == a).length

/-- What the boot load leaves beside the registers it writes: the lock, the identities, the full wake budget and meters, and what the structural values
fix in other blocks (R82, R90, spec/08 R231, spec/12 R331, R349). DEDUCED (log entry 17). -/
def State.bootDone (s : State) (l : Load) : State :=
  let s1 := (((s.put F.LAST_LOCK_LOCKED 0 1).setActiveId l.buildId).setStagedId l.buildId).put F.LAST_SVN_SVN 0 l.svn
  let s2 := (s1.put F.BND_WAKE_STATUS_TOKENS 0 (s1.get F.BND_WAKE_CFG_CAP 0)).fillMeters
  let s3 := ((s2.each (List.range 16) State.syncPortIds).each (List.range 64) State.capRestore).syncVsw
  let s4 := (s3.cohExtents.syncQueues).setLas fun x => { x with structDigests := l.digests }
  (s4.syncFrames).syncBuf

/-- All groups of a load are committed. -/
def State.commitAll (s : State) : Nat → State
  | 0 => s
  | n + 1 => if s.las.committing.isSome then State.commitAll s.grpDone n else s

/-- The commit ends: COMMITTED, the staged identity, at boot the lock (R80, R82, R90). -/
def State.commitDone (s : State) : State :=
  match s.las.load with
  | none => s
  | some l =>
    if s.loadState ≠ lsCommit then s
    else
      let s1 := s.commitAll 15
      let s2 := if l.groups.isEmpty then s1 else s1.setStagedId l.buildId
      let s3 := if l.boot then s2.bootDone l else s2
      ((s3.setLoadState lsCommitted).loadEvent lsCommitted 0 l.buildId).setLas fun x =>
        { x with load := none, committing := none, lastGroups := if l.groups.isEmpty then x.lastGroups else l.groups }

/-! ### The restart load (spec/19 R501) -/

/-- The groups a restart load writes. -/
def restartGrps : List Grp := [.bnd, .pmc, .clk]

/-- The restart load of the running image: checked as a runtime FULL load, it writes the RWL fields of the Management blocks and both copies of their groups,
notwithstanding LOCKED, and sets the identity as a swap of the groups it wrote does (R91, R501). An image that fails its checks leaves the groups as the reset did.
DEDUCED (log entry 17). -/
def State.restartLoad (s : State) (sigOk : Bool) (digestOk : List Bool) : State :=
  let src := s.get F.LAST_BOOT_IMAGE 0 + 1
  let r := s.checkBodies src digestOk
  let digests := ((s.sects src).filter fun z => structural z.ty).map (·.digest)
  let e := firstErr [s.fetchErr src false, s.authErr src false sigOk, r.1,
    if digests != s.las.structDigests then some ⟨leStruct, 0, 0x80, none⟩ else none]
  let build := s.imgN src 0x10 8
  match e with
  | some x => (((s.put F.LAST_LOAD_STATUS_CODE 0 x.code).setLoadState lsFailed).occAt 5 0 none).loadEvent lsFailed x.code build
  | none =>
    let mine := r.2.1.filter fun w => match grpOfOff w.key with | some g => restartGrps.contains g | none => false
    let s1 := s.recWrites mine
    let s2 := s1.each restartGrps fun t g =>
      ((((t.grpReset g).each (r.2.2.filter fun e => e.1 == g) fun u e => u.recWrites e.2).activate g).groupHook t g).setLas fun x =>
        { x with direct := x.direct.filter (· != g), lastGroups := restartGrps }
    let s3 := ((s2.setStagedId build).setActiveId build).syncVsw
    ((s3.put F.BND_WAKE_STATUS_TOKENS 0 (s3.get F.BND_WAKE_CFG_CAP 0)).setLoadState lsCommitted).loadEvent lsCommitted 0 build

end Sys2Proof.Machine
end

