-- ==== Sys2Proof/Machine/Module.lean ====
section
/-!
DEFINITION. The module: its resets, start-up, cages and the I3C target (spec/19 R488, R491, R494 to R503).
-/
namespace Sys2Proof.Machine
open Sys2Proof

/-! ### Power-on and module reset (R466, R498, R499) -/

/-- Registers that hold what outlives the die: the key store, the minimum SVNs and the preference of the boot records (spec/16 R441).
DEDUCED (log entry 40). -/
def keptReg (k : Nat) : Bool :=
  let o := k % entStride
  (decide (R.SEC_KEY_INFO ≤ o) && decide (o < 0x1300200)) || o == R.SEC_FW_SVN_MIN || o == R.LAST_SVN_MIN || o == R.LAST_BOOT_PREF

/-- The register file with only the registers a predicate picks. -/
def RegFile.keep (r : RegFile) (p : Nat → Bool) : RegFile := r.filter fun e => p e.1

/-- The PWR block of a die that is reset; the controller goes on (R473). DESIGN CHOICE (log entry 5). -/
def PwrSt.dieReset (p : PwrSt) : PwrSt :=
  { p with nvBusy := none, urgentAt := none, sums := [0, 0, 0, 0, 0], samples := 0, frac := 0, therm := false, avsLim := false }

/-- Every die domain is cleared: what stays are the flash images and boot records, the key store, the minimum SVNs, the lifecycle state, and the
power entry controller with its record (R499, spec/16 R441). The cause is 0 power-on, 1 PERST_N, 2 GLB_RST.MODULE. A RETURN that was interrupted
is still to be run (spec/14 R392). DESIGN CHOICE (log entry 5). -/
def State.dieReset (s : State) (cause : Nat) : State :=
  let lc := s.lifecycle
  let s1 : State :=
    { State.reset with
      regs := s.regs.keep keptReg, out := s.out, freeCtr := s.freeCtr, pending := s.pending, pwr := s.pwr.dieReset
      las := { LastSt.reset with flashA := s.las.flashA, flashB := s.las.flashB, prefImage := s.las.prefImage, tries := s.las.tries }
      sec := { SecSt.reset with identity := s.sec.identity, ownerKey := s.sec.ownerKey, owners := s.sec.owners, returning := s.sec.returning.map fun _ => 0 }
      mdl := { ModSt.reset with perst := s.mdl.perst, aonHeld := s.mdl.aonHeld } }
  let s2 := ((s1.put F.SEC_STATUS_LIFECYCLE 0 lc).put F.SEC_STATUS_DEBUG 0 (bit (lc == lcReturned))).put F.GLB_START_STATUS_LAST_RESET 0 cause
  ((s2.put F.PWR_CFG_INS_DELAY 0 s.pwr.recIns).syncPwr).drawNonce

/-- Whether the Always-on domain is up. -/
def State.aonUp (s : State) : Bool := s.pwr.regsOn && !s.mdl.aonHeld && !s.mdl.perst && !s.mdl.pulse

/-- The regulators are enabled, 1 ms after power good: the die starts from a power-on reset (R466, R494 step 1). DESIGN CHOICE (log entry 5). -/
def State.regulatorEnable (s : State) : State :=
  if s.pwr.ctl = pcOn && !s.pwr.regsOn then
    ((s.setPwr fun p => { p with regsOn := true }).dieReset 0).setMdl fun m => { m with aonHeld := true }
  else s

/-- The start-up goes on at step 2, unless a reset still holds the die (R494, R498, R499). DEDUCED (log entry 43). -/
def State.toStep2 (s : State) : State := if s.aonUp && s.step? == 1 then s.setStep 2 else s

/-- The Always-on reset is released and the controller's record is read; a previous turn-off by a fuse trip sets PWR_FUSE_TRIP (R473, R494, R497). -/
def State.aonRelease (s : State) : State :=
  if s.pwr.regsOn && s.mdl.aonHeld then
    let s1 := (s.setMdl fun m => { m with aonHeld := false }).syncPwr
    let s2 := if ocBreaker ≤ s.pwr.recCause ∧ s.pwr.recCause ≤ ocFetOt then s1.occAt 23 0 none else s1
    s2.toStep2
  else s

/-- PERST_N has been low for 100 µs: every die domain is reset while the die is powered (R499). -/
def State.perstAssert (s : State) : State :=
  let s1 := s.setMdl fun m => { m with perst := true }
  if s.pwr.regsOn && !s.mdl.aonHeld then s1.dieReset 1 else s1

/-- PERST_N is high. -/
def State.perstRelease (s : State) : State := (s.setMdl fun m => { m with perst := false }).toStep2

/-- The 1 ms of GLB_RST.MODULE have passed. -/
def State.pulseEnd (s : State) : State := (s.setMdl fun m => { m with pulse := false }).toStep2

/-- The power-up self-tests end. A RETURN that was interrupted runs to its end first (R497); then the power entry starts an image (spec/03 R93). -/
def State.powerUpTests (s : State) (ok : Bool) : State :=
  if s.step? = 2 ∧ ¬ s.on F.SEC_STATUS_SELFTEST_OK 0 ∧ ¬ s.secError then
    let s1 := match s.sec.returning with
      | none => s
      | some _ =>
        let t := ((s.ideAllInsecure).setSec fun x => { x with identity := false, ownerKey := false, returning := none, dbgEver := true }).each
          ((List.range 32).filter (· != keyStaoloFw)) State.keyZero
        ((t.clearMem 0x40000000 0x1000000).put F.SEC_STATUS_DEBUG 0 1).setLifecycle lcReturned
    (s1.selfTest ok).bootEntry
  else s

/-! ### The Management reset (R500, R501) -/

/-- A core is reset: stores not accepted are discarded, those toward the Insole window where they still wait at the crossbar,
and so are the responses of what it has sent (spec/15 R421). DEDUCED (log entry 37). -/
def State.coreReset (s : State) (c : Nat) : State :=
  let own := s.mgt.coreReqs.filter fun r => r.2.1 == c
  let held (x : Queued) : Bool := own.any fun r => !r.2.2.2 && r.1 == x.msg.id
  let qs := (s.sole.buf ++ s.sole.waiting ++ s.sole.slotWait ++ s.sole.deferred).filter held
  let s0 := (((s.unqueue held).each qs fun t x => t.unland x.src x.msg.id).setMgt fun g => { g with coreReqs := g.coreReqs.filter fun r => r.2.1 != c })
  let s1 := s0.setCore c fun x =>
    { CoreSt.reset with dropped := x.dropped ++ x.sb.filter (·.accepted), result := x.result }
  (s1.put F.CLK_CORE_STATUS_SB (4 * c) 0).put F.CLK_CORE_STATUS_OUT (4 * c) 0

/-- Whether a management reset is refused: a swap ARMED or LOCKED, or a load in COMMIT. -/
def State.mgmtRefused (s : State) : Bool := s.tim.arm.isSome || s.loadState == lsCommit

/-- Registers that a management reset clears: those of BND, CLK, PMC, LAST and SEC but for what it keeps. DEDUCED (log entry 40). -/
def mgmtClears (k : Nat) : Bool :=
  let o := k % entStride
  [0xB, 0xE, 0x10, 0x11, 0x13].contains (o / 0x100000) && !(keptReg k || o == R.LAST_LOCK || o == R.LAST_BOOT || o == R.SEC_STATUS ||
    o == R.SEC_NONCE_LO || o == R.SEC_NONCE_HI || o == R.SEC_FW_SVN)

/-- The Management domain is reset. DEDUCED (log entry 40). -/
def State.mgmtClear (s : State) : State :=
  let s1 : State :=
    { s with
      regs := s.regs.keep fun k => !mgmtClears k, act := s.act.keep fun k => !mgmtClears k
      bnd := { BndSt.reset with wakeQ := s.bnd.wakeQ.filter (fun e => decide (e.2 < 20)), heldIn := s.bnd.heldIn }, cnt := CntSt.reset
      acs := { s.acs with snaps := s.acs.snaps.filter (fun e => !mgmtClears e.2.1), holds := s.acs.holds.filter fun e => !mgmtClears e.2.1 } }
  let s2 := s1.setLas fun l =>
    { l with load := none, committing := none, heldStg := [], heldArm := [], heldJobs := [], direct := [], lastGroups := [], confirm := none, fwRunning := false }
  let s3 := (s2.each (List.range 4) State.coreReset).setMgt fun g =>
    { MgtSt.reset with cores := g.cores, seq := g.seq, mbox := g.mbox, sram := g.sram, dbg := g.dbg }
  let s4 := s3.setVmp fun x => { x with binds := [] }
  ((s4.each (listedEnts s4.regs R.VAMP_FN_CFG) State.syncFn).syncWake).secNext.releaseIn

/-- A write of GLB_RST: the module reset, the management reset or its refusal, the hold and its release (R499 to R502). -/
def State.rstWrite (s : State) (v : Word) : State :=
  if F.GLB_RST_MODULE.of v = 1 then (s.dieReset 2).setMdl fun m => { m with pulse := true }
  else
    let was := s.on F.GLB_RST_MGMT_HOLD 0
    let hold := F.GLB_RST_MGMT_HOLD.of v == 1
    let asks := F.GLB_RST_MGMT.of v == 1 || (hold && !was)
    let s0 := if F.GLB_RST_REFUSED.of v = 1 then s.put F.GLB_RST_REFUSED 0 0 else s
    if asks && s.mgmtRefused then (s0.put F.GLB_RST_REFUSED 0 1).put F.GLB_RST_MGMT_HOLD 0 (bit (hold && was))
    else
      let s1 := if asks then s0.mgmtClear else s0
      (s1.put F.GLB_RST_MGMT_HOLD 0 (bit hold)).setMdl fun m => { m with mgmtLoad := !hold && (asks || was || m.mgmtLoad) }

/-- The restart after a management reset ends: with the firmware verified and started, the restart load commits (R501). -/
def State.mgmtRestart (s : State) : State :=
  if s.mdl.mgmtLoad && s.las.fwRunning && !s.on F.GLB_RST_MGMT_HOLD 0 then
    (s.restartLoad true []).setMdl fun m => { m with mgmtLoad := false }
  else s

/-! ### Start-up (R494 to R497) -/

/-- Step 4 ends (spec/11 R321): the Insole zero-filled and the lost-write table empty; or the start-up stops at a channel that failed training. -/
def State.insoleStarted (s : State) (trained : List Bool) : State :=
  if s.step? = 4 ∧ ¬ s.on F.GLB_START_STATUS_STOPPED 0 then
    let ok (c : Nat) : Bool := trained.getD c true
    let s1 := s.each (List.range 4) fun t c => t.put F.INS_CH_STATUS_TRAINED (4 * c) (bit (ok c))
    if (List.range 4).all ok then
      let s2 := s1.zeroFill.setLwt fun _ => []
      ((s2.setIns fun i => { i with ready := true }).syncLwt.setStep 5).setMdl fun m =>
        { m with bootWake := true, readyTo := some (s.after (s.get F.GLB_START_CFG_READY_LIMIT 0)) }
    else (s1.each ((List.range 4).filter fun c => !ok c) fun t c => t.occ 96 c).put F.GLB_START_STATUS_STOPPED 0 1
  else s

/-- Step 5 begins: every bank with BOOT_EN requests a wake at this boundary (spec/12 R350). -/
def State.bootWakes (s : State) : State :=
  if s.mdl.bootWake then
    (s.each ((List.range 20).filter fun b => s.on F.LB_BANK_CFG_BOOT_EN (dBank b)) State.bankWake).setMdl fun m => { m with bootWake := false }
  else s

/-- Whether every link that is not disabled is UP or FENCED, or has ended its first training attempt. DEDUCED (log entry 43). -/
def State.linksSettled (s : State) : Bool :=
  (List.range 8).all fun m => [mlDisabled, mlUpSt, mlFenced].contains (s.mlState m) || s.mdl.tried.contains m

/-- Whether the alignment has settled. -/
def State.alignSettled (s : State) : Bool := s.astate == 1 || s.astate == 3 || s.get F.GLB_STITCH_CTL_SRC 0 == 0

/-- The edge ports present and not OFF. -/
def State.usedPorts (s : State) : List Nat := (List.range 64).filter fun n => s.portPresent n && s.portMode n != 0

/-- The conditions of R495. DEDUCED (log entry 43). -/
def State.readyOk (s : State) : Bool :=
  (s.usedPorts.all fun n => [hpEmpty, hpBound, hpUnbound, hpDisabled].contains (s.hp n)) && s.linksSettled && s.alignSettled

/-- The steps that end at a boundary: 5 when the banks with BOOT_EN are READY or in FAULT, 6 when the cages are out of reset, no port trains, and
links and alignment have settled, 7 when R495 holds; the policy bindings of start-up apply at the boundary after it (spec/12 R331).
DEDUCED (log entry 43). -/
def State.stepTurn (s : State) : State :=
  let st := s.step?
  if st = 5 then
    (if !s.mdl.bootWake && (List.range 20).all fun b => !s.on F.LB_BANK_CFG_BOOT_EN (dBank b) || s.bankState b == 3 || s.bankState b == 5 then s.setStep 6
     else s)
  else if st = 6 then
    (if s.mdl.cages.isEmpty && (s.usedPorts.all fun n => s.hp n != hpTraining) && s.linksSettled && s.alignSettled then s.setStep 7 else s)
  else if st = 7 then (if s.readyOk then (s.setStep 8).startBindings else s)
  else s

/-- The READY record (R495, spec/15 R410). -/
def State.readyEvent (s : State) (part : Bool) : State :=
  (((s.put F.GLB_START_STATUS_PARTIAL 0 (bit part)).setStep 9).event clsStatus 0xE 0 1 s.activeId).setMdl fun m => { m with readyTo := none }

/-- READY is sent at the first boundary at which everything has settled. -/
def State.readySend (s : State) : State := if s.step? = 8 && s.readyOk then s.readyEvent false else s

/-- READY_LIMIT stitches have passed since step 5 began. -/
def State.readyLimit (s : State) : State :=
  if 5 ≤ s.step? ∧ s.step? ≤ 8 ∧ s.reachedO s.mdl.readyTo ∧ ¬ (s.step? = 8 ∧ s.readyOk) then
    (if s.step? = 8 then s else s.startBindings).readyEvent true
  else s

/-! ### Cages (R488) -/

/-- Cn_RST_N is released 100 ms after READY: the downstream ports of the bank start training. -/
def State.cageRelease (s : State) (b : Nat) : State :=
  match s.mdl.cages.find b with
  | some e =>
    if s.reached e then
      (s.setMdl fun m => { m with cages := m.cages.del b, released := insNat m.released b }).each
        ((List.range 4).map fun i => 4 * b + i) fun t n => if upMode (t.portMode n) then t else t.portDetect n
    else s
  | none => s

/-! ### The I3C target (R491) -/

/-- The 48-bit provisional ID. DESIGN CHOICE (log entry 8). -/
def State.provisionalId (s : State) : Nat :=
  s.get F.GLB_SERIAL_LO_SN 0 + 2 ^ 32 + (Config.device 0).toNat % 2 ^ 15 * 2 ^ 33

/-- The target answers a command on the bus. -/
def State.i3cOut (s : State) (code v : Nat) : State := s.send (.i3c code v)

/-- Whether the target holds a dynamic address. -/
def State.i3cHeld (s : State) : Bool := s.aonUp && s.mdl.dynAddr.isSome

/-- ENTDAA: without a dynamic address the target offers its provisional ID and takes the address. PRESUMED (log entry 41). -/
def State.i3cEntdaa (s : State) (addr : Nat) : State :=
  if s.aonUp && s.mdl.dynAddr.isNone then
    (s.i3cOut 0x07 s.provisionalId).setMdl fun m => { m with dynAddr := some (addr % 128), hotJoin := false }
  else s

/-- RSTDAA. -/
def State.i3cRstdaa (s : State) : State :=
  if s.aonUp then s.setMdl fun m => { m with dynAddr := none, hotJoin := false } else s

/-- SETNEWDA. -/
def State.i3cSetnewda (s : State) (addr : Nat) : State :=
  if s.i3cHeld then s.setMdl fun m => { m with dynAddr := some (addr % 128) } else s

/-- A GET command is answered by a target that holds an address. DESIGN CHOICE (log entry 8); PRESUMED (log entry 41). -/
def State.i3cGet (s : State) (code v : Nat) : State := if s.i3cHeld then s.i3cOut code v else s

/-- ENEC and DISEC of in-band interrupts. PRESUMED (log entry 41). -/
def State.i3cIbi (s : State) (on : Bool) : State := if s.aonUp then s.setMdl fun m => { m with ibi := on } else s

/-- SETMRL and SETMWL. PRESUMED (log entry 41). -/
def State.i3cLimit (s : State) (read : Bool) (n : Nat) : State :=
  if s.aonUp then s.setMdl fun m => if read then { m with mrl := n % 65536 } else { m with mwl := n % 65536 } else s

/-- Hot-Join is requested once the Always-on domain is up and no dynamic address is held. -/
def State.i3cHotJoin (s : State) : State :=
  if s.aonUp && s.mdl.dynAddr.isNone && !s.mdl.hotJoin then (s.i3cOut 0x02 0).setMdl fun m => { m with hotJoin := true } else s

end Sys2Proof.Machine
end

