-- ==== Sys2Proof/Machine/Fence.lean ====
section
/-!
DEFINITION. Fences and their release, clearing sticky bits, the warm restart, global persistent flush and controlled power-down (spec/16 R431 to R443).
-/
namespace Sys2Proof.Machine
open Sys2Proof

/-! ### Fencing (R437) -/

/-- A port is fenced: held in Disabled, its loss declared at the next boundary; the prefetched lines of its windows are discarded without counting. -/
def State.portFence (s : State) (n : Nat) : State :=
  (s.portDisable n).setVmp fun v => { v with lines := v.lines.filter fun l => s.winPort l.win != n }

/-- The effect of a fence on its unit. -/
def State.applyFence (s : State) (u : FUnit) : State :=
  match u with
  | .lane b l => s.laneFence b l
  | .bank _ => s
  | .port n => s.portFence n
  | .link m => s.mlFence m
  | .slice h => s.homeFence h
  | .chan c => (s.chanFence c).fencedDemote s.coherentGran
  | .qp q => s.setQp q qpError
  | .win w => s.setVmp fun v => { v with lines := v.lines.filter fun l => l.win != w }

/-- The fences that the running command has raised take effect, in order; a fence may raise further ones. -/
def State.settleFences (s : State) : Nat → State
  | 0 => s
  | n + 1 =>
    match s.flt.fenceQ with
    | [] => s
    | u :: rest => State.settleFences ((s.setFlt fun f => { f with fenceQ := rest }).applyFence u) n

/-- The end of a command: its fences take effect in the same clock (R431). DEDUCED (log entry 4). -/
def State.settle (s : State) : State := s.settleFences 64

/-- The effect of a release on its unit. -/
def State.applyRelease (s : State) (u : FUnit) : State :=
  match u with
  | .lane b l => s.laneRelease b l
  | .bank b => s.bankCleared b
  | .port n => if s.on F.EP_LINK_CMD_DISABLE (dPort n) then s else s.portEnable n
  | .link m => s.mlRelease m
  | .slice h => s.homeRelease h
  | .chan c => s.chanRelease c
  | .qp q => s.setQp q qpDisabled
  | .win _ => s

/-- Whether every bit that fences a unit is clear. -/
def State.fenceOver (s : State) (u : FUnit) : Bool := s.flt.fences.all fun e => e.1 != u || !s.pendingBit e.2

/-- A fenced unit is released at its instant (R436). -/
def State.unitRelease (s : State) (u : FUnit) : State :=
  if s.flt.released.contains u && s.fenceOver u then
    let n := ((s.flt.fences.find? fun e => e.1 == u).map (·.2)).getD 0
    ((s.faultLog 4 n 0).setFlt fun f =>
      { f with fences := f.fences.filter (fun e => e.1 != u), released := f.released.filter (· != u) }).applyRelease u
  else s

/-- The unit that a kind and a number name: lane (16 × bank + lane), bank, port, link, home agent slice, channel, queue pair, window. -/
def unitOf (kind n : Nat) : FUnit :=
  match kind with
  | 0 => .lane (n / 16) (n % 16)
  | 1 => .bank n
  | 2 => .port n
  | 3 => .link n
  | 4 => .slice n
  | 5 => .chan n
  | 6 => .qp n
  | _ => .win n

/-! ### Clearing (R435) -/

/-- The bank whose PCS domain a sticky bit's unit belongs to. -/
def bankOfBit (n : Nat) : Option Nat :=
  if 128 ≤ n ∧ n ≤ 199 then some (bankOfLink (n % 8))
  else if 256 ≤ n ∧ n ≤ 295 then some ((n - 256) % 20)
  else if 448 ≤ n ∧ n ≤ 831 then some (bankOfPort (n % 64))
  else if 1280 ≤ n ∧ n ≤ 2239 then some ((n - 1280) % 320 / 16)
  else none

/-- Whether the clear of a bit is refused because its bank is OFF or in FAULT. -/
def State.clearBarred (s : State) (n : Nat) : Bool :=
  match bankOfBit n with
  | some b => !(decide (256 ≤ n) && decide (n ≤ 295)) && (s.bankState b == 0 || s.bankState b == 5)
  | none => false

/-- One bit is cleared by a path, or its clear will be refused. -/
def State.clearBit (s : State) (p : Path) (n : Nat) : State :=
  if !s.sticky n then s
  else if s.clearBarred n then s.setAcs fun a => { a with missedClr := a.missedClr ++ [(n, p)] }
  else
    let s1 := ((s.setSticky n false).faultLog 1 n p.code).setFlt fun f => { f with clears := f.clears ++ [(n, p)] }
    if 256 ≤ n ∧ n ≤ 295 then s1.bankCleared ((n - 256) % 20) else s1

/-- A write of FLT_STICKY word `w`: every bit written 1 clears. -/
def State.stickyClear (s : State) (p : Path) (w : Nat) (v : Word) : State :=
  s.each ((List.range 32).filter fun j => v.getLsbD j && assigned (32 * w + j)) fun t j => t.clearBit p (32 * w + j)

/-- Whether the condition of a condition source holds (R430); false for an occurrence source. -/
def State.condHolds (s : State) (n : Nat) : Bool :=
  if n = 1 then s.on F.GLB_STITCH_STATUS_DRIFT 0
  else if n = 2 then s.astate == 5
  else if n = 3 then s.astate == 4
  else if n = 18 then s.secError
  else if n = 21 ∨ n = 22 ∨ n = 25 ∨ n = 26 then s.pwrCondition n
  else if 72 ≤ n ∧ n ≤ 75 then decide (64 ≤ (s.home (n - 72)).degraded.length)
  else if 768 ≤ n ∧ n ≤ 831 then s.on F.EP_IDE_STATUS_BLOCKED (dPort (n - 768))
  else false

/-- A refused clear is logged and counted. DEDUCED (log entry 39). -/
def State.clearRefused (s : State) (n : Nat) (p : Path) : State :=
  (((s.faultLog 2 n p.code).bump F.FLT_CLR_STATUS_REFUSED 0 1).put F.FLT_CLR_STATUS_LAST 0 n).put F.FLT_CLR_STATUS_LAST_VALID 0 1

/-- ALERT_N by the sticky bits (R433): those set with their ALERT bit, and SEC_SELFTEST_FAIL. -/
def State.alertDue (s : State) : Bool :=
  ((List.range 72).filter fun w => s.reg (R.FLT_STICKY + 4 * w) != 0).any fun w =>
    (List.range 32).any fun j => (s.reg (R.FLT_STICKY + 4 * w)).getLsbD j && (s.alertBit (32 * w + j) || 32 * w + j == 18)

/-- The Always-on instant of a boundary (spec/02 R47, step 8): clears that are refused, bits that now read 1, units to be released, ALERT_N.
The first `k` occurrences are those of the stitch that ends; the others are the boundary's own. -/
def State.faultBoundary (s : State) (k : Nat) : State :=
  let occs := s.flt.occs.take k
  let again := s.flt.clears.filter fun e => !occs.contains e.1 && s.condHolds e.1
  let s1 := s.each again fun t e => (t.setSticky e.1 true).clearRefused e.1 e.2
  let s2 := s1.each s.acs.missedClr fun t e => t.clearRefused e.1 e.2
  let s3 := s2.each occs fun t n => t.setSticky n true
  let s4 := (s3.setAcs fun a => { a with missedClr := [] }).setFlt fun f => { f with occs := f.occs.drop k, clears := [] }
  let due := (s4.flt.fences.map (·.1)).filter s4.fenceOver
  let late := s4.flt.release.filter fun u => due.contains u
  s4.setFlt fun f =>
    { f with alert := s4.alertDue, released := late ++ f.released.filter (fun u => due.contains u && !late.contains u)
             release := due.eraseDups.filter fun u => !late.contains u && !f.released.contains u }

/-! ### The warm restart (R439, R440) -/

def State.setRestart (s : State) (v : Nat) : State := s.put F.FLT_RESTART_STATUS_STATE 0 v

/-- A write of FLT_RESTART. -/
def State.restartWrite (s : State) (v : Word) : State :=
  let s1 := s.storeAt R.FLT_RESTART v
  if F.FLT_RESTART_GO.of v = 1 ∧ s.restartState = 0 then
    (s1.setRestart 1).setFlt fun f =>
      { f with restartImg := s1.get F.FLT_RESTART_IMAGE 0, restartPrev := s.get F.LAST_BOOT_IMAGE 0, reverting := false }
  else s1

/-- The enclave has verified the image (spec/14 R393). -/
def State.restartVerified (s : State) (ok : Bool) (svn : Nat) : State :=
  if s.restartState ≠ 1 then s
  else if ok && decide (s.get F.SEC_FW_SVN_MIN_SVN 0 ≤ svn) && s.on F.SEC_STATUS_SELFTEST_OK 0 && !s.secError then
    (s.setRestart 2).setFlt fun f => { f with restartSvn := svn }
  else (s.setRestart 0).put F.FLT_RESTART_STATUS_REFUSED 0 1

/-- At the boundary that follows, the four cores are held in reset. -/
def State.restartHold (s : State) : State :=
  if s.restartState = 2 && s.las.fwRunning then
    ((s.each (List.range 4) fun t c => (t.coreReset c).put F.CLK_CORE_STATUS_STATE (4 * c) 0)).setLas fun l => { l with fwRunning := false }
  else s

/-- The image is loaded and the cores start; a new image awaits CONFIRM for 60 s. -/
def State.restartLoaded (s : State) : State :=
  if s.restarting then
    let back := s.flt.reverting
    let s1 := (s.put F.LAST_BOOT_IMAGE 0 (if back then s.flt.restartPrev else s.flt.restartImg)).put F.SEC_FW_SVN_SVN 0 s.flt.restartSvn
    let s2 := (s1.setLas fun l => { l with fwRunning := true }).setFlt fun f =>
      { f with restartSvn := s.get F.SEC_FW_SVN_SVN 0, reverting := false, restartTo := if back then none else some (s.after 58593750) }
    (s2.each (List.range 4) fun t c => t.put F.CLK_CORE_STATUS_STATE (4 * c) (if t.on F.CLK_CORE_CTL_HOLD (4 * c) then 0 else 1)).setRestart
      (if back then 0 else 3)
  else s

/-- No CONFIRM: the previous image is started again. -/
def State.restartRevert (s : State) : State :=
  if s.restartState = 3 ∧ s.dueO s.flt.restartTo then
    (((s.setRestart 2).put F.FLT_RESTART_STATUS_REVERTED 0 1).setFlt fun f => { f with restartTo := none, reverting := true }).occAt 28 0 none
  else s

/-- While no firmware runs, its own timers stand still: discovery, and the park and wake limits of shelves. -/
def State.restartTimers (s : State) : State :=
  if s.restarting then
    let s1 := s.setBnd fun b => { b with shelfTo := b.shelfTo.map fun e => (e.1, e.2 + 1) }
    s1.each (s1.ports.map (·.1)) fun t n => t.setPort n fun p => { p with disc := p.disc.map (· + 1) }
  else s

/-! ### Global persistent flush (R442) -/

/-- A number of milliseconds in stitches, rounded up. -/
def msStitches (ms : Nat) : Nat := (ms * 1000000 + 1023) / 1024

/-- The ports of the partners bound under a host's virtual switch. -/
def State.hostPartners (s : State) (n : Nat) : List Nat :=
  dedupNat ((s.boundList.filter fun e => s.upOf e.1 == some n && (e.2.kind == 1 || e.2.kind == 2)).map (·.2.port))

/-- The tiered ranges behind some ports that have a granule with D set. -/
def State.dirtyRanges (s : State) (ports : List Nat) : List Nat := s.dirtyIdx fun r => ports.contains (s.rngPort r)

/-- DIRTY_LEFT is counted. -/
def State.dirtyLeft (s : State) (l : List Nat) : State := s.put F.FLT_PWRDN_STATUS_DIRTY_LEFT 0 (min 65535 l.length)

/-- A phase is forwarded to a host's partners; with none of them the host's request completes at once. DEDUCED (log entry 39). -/
def State.gpfForward (s : State) (n phase : Nat) : State :=
  let ps := s.hostPartners n
  let s1 := s.each ps fun t q => t.send (.ctl q 10 phase)
  if ps.isEmpty then s1.send (.ctl n 10 (4 + phase))
  else s1.setFlt fun f => { f with gpfReqs := f.gpfReqs ++ [(n, phase, ps)] }

/-- A GPF Phase 1 request of a host. -/
def State.gpfPhase1 (s : State) (n : Nat) : State := if upMode (s.portMode n) && s.portUp n then s.gpfForward n 1 else s

/-- Whether the data of a host's partners have been written back, and every posted write toward them delivered. -/
def State.gpfClean (s : State) (n : Nat) : Bool :=
  let ps := s.hostPartners n
  (s.dirtyRanges ps).isEmpty && ps.all fun q => (s.queuedTo q).all fun x => x.msg.op != .mWr && x.msg.op != .memWr && x.msg.op != .memWrPtl

/-- The shelves with granules to write back behind some ports are cleaned. -/
def State.cleanBehind (s : State) (ports : List Nat) : State :=
  let shelves := dedupNat (((s.ranges.filter fun r => ports.contains (s.rngPort r) && !(s.dirtyIdx (· == r)).isEmpty)).map s.rngShelf)
  s.each shelves fun t sh =>
    if t.shelfState sh = 0 then t.shelfClean sh else if t.bndShelf sh = 3 then t.wakeRequest sh else t

/-- A GPF Phase 2 request of a host: tiered data are written back first. -/
def State.gpfPhase2 (s : State) (n : Nat) : State :=
  if upMode (s.portMode n) && s.portUp n then
    if s.gpfClean n then s.gpfForward n 2
    else (s.cleanBehind (s.hostPartners n)).setFlt fun f =>
      { f with gpfBack := f.gpfBack ++ [(n, s.after (msStitches (s.get F.FLT_GPF_CFG_P2_MS 0)))] }
  else s

/-- The Phase 2 requests whose write-back has ended are forwarded; shelves that are awake again are cleaned. -/
def State.gpfStep (s : State) : State :=
  s.each s.flt.gpfBack fun t e =>
    if t.gpfClean e.1 then (t.setFlt fun f => { f with gpfBack := f.gpfBack.erase e }).gpfForward e.1 2
    else t.cleanBehind (t.hostPartners e.1)

/-- The write-back has not ended within P2_MS: Phase 2 is forwarded anyway. -/
def State.gpfTimeout (s : State) (n : Nat) : State :=
  match s.flt.gpfBack.find? fun e => e.1 == n with
  | some e =>
    if s.due e.2 then
      let s1 := (s.dirtyLeft (s.dirtyRanges (s.hostPartners n))).setFlt fun f => { f with gpfBack := f.gpfBack.erase e }
      (s1.occAt 27 0 none).gpfForward n 2
    else s
  | none => s

/-- A partner answers a forwarded request: the host's request completes with the last answer. -/
def State.gpfAnswer (s : State) (n : Nat) : State :=
  let open_ := s.flt.gpfReqs.map fun r => (r.1, r.2.1, r.2.2.filter (· != n))
  let s1 := s.setFlt fun f => { f with gpfReqs := open_.filter (fun r => !r.2.2.isEmpty), pdWait := f.pdWait.filter (· != n) }
  s1.each (open_.filter fun r => r.2.2.isEmpty) fun t r => t.send (.ctl r.1 10 (4 + r.2.1))

/-! ### Controlled power-down (R443) -/

/-- The step of a power-down in progress (R443). DEDUCED (log entry 39). -/
def State.pdStep (s : State) : Nat := s.get F.FLT_PWRDN_STATUS_STEP 0
def State.setPd (s : State) (v : Nat) : State := s.put F.FLT_PWRDN_STATUS_STEP 0 v

/-- A write of FLT_PWRDN_CTL: GO starts the sequence at the next boundary unless one runs, ABORT ends it there. -/
def State.pwrdnWrite (s : State) (v : Word) : State :=
  let runs := s.flt.pdStart || (decide (1 ≤ s.pdStep) && decide (s.pdStep ≤ 5))
  let s1 := if F.FLT_PWRDN_CTL_GO.of v = 1 && !runs then s.setFlt fun f => { f with pdStart := true } else s
  if F.FLT_PWRDN_CTL_ABORT.of v = 1 && (runs || s1.flt.pdStart) then s1.setFlt fun f => { f with pdAbort := true } else s1

/-- Step 3: every shelf with granules to write back is cleaned, a parked one woken first. -/
def State.pdClean (s : State) : State :=
  ((s.setPd 3).setFlt fun f => { f with pdTimer := some (s.after (s.get F.FLT_PWRDN_CFG_CLEAN_LIMIT 0 * 1024)) }).cleanBehind (List.range 64)

/-- The partners that take part in a flush: CXL devices on downstream ports. -/
def State.gpfPartners (s : State) : List Nat :=
  (List.range 64).filter fun n => [2, 3, 4].contains (s.get F.BND_PARTNER_KIND (ent n)) && !upMode (s.portMode n) && s.portUp n

/-- A GPF phase of step 4 is sent to the partners. -/
def State.pdGpf (s : State) (phase : Nat) : State :=
  let ps := s.gpfPartners
  let ms := if phase = 1 then s.get F.FLT_GPF_CFG_P1_MS 0 else s.get F.FLT_GPF_CFG_P2_MS 0
  ((s.each ps fun t n => t.send (.ctl n 10 phase)).setPd 4).setFlt fun f =>
    { f with pdPhase := phase, pdWait := ps, pdFail := f.pdFail || (phase == 2 && !f.pdWait.isEmpty), pdTimer := some (s.after (msStitches ms)) }

/-- Step 3 has ended: FLT_GPF_FAIL where granules are left, then Phase 1. -/
def State.pdCleaned (s : State) : State :=
  let left := s.dirtyIdx fun _ => true
  (if left.isEmpty then s else s.occAt 27 0 none).pdGpf 1

/-- Nothing is left to drain: no request cell in the buffer, nothing outstanding in any slice. -/
def State.drained (s : State) : Bool := (s.sole.buf.all fun x => !isReq x.msg) && s.outItems.isEmpty

/-- The drain has ended. -/
def State.pdDrained (s : State) : State := if s.pdStep = 2 ∧ s.drained then s.pdClean else s

/-- The drain limit has passed. -/
def State.pdDrainTimeout (s : State) : State :=
  if s.pdStep = 2 ∧ s.reachedO s.flt.pdTimer ∧ ¬ s.drained then
    ((s.put F.FLT_PWRDN_STATUS_DRAIN_TO 0 1).dirtyLeft (s.dirtyIdx fun _ => true)).pdClean
  else s

/-- The cleaning passes have ended with no granule left. -/
def State.pdCleanDone (s : State) : State :=
  if s.pdStep = 3 ∧ (s.dirtyIdx fun _ => true).isEmpty ∧ s.ins.cleaning.isEmpty then s.pdCleaned else s

/-- The cleaning limit has passed. -/
def State.pdCleanTimeout (s : State) : State :=
  if s.pdStep = 3 ∧ s.reachedO s.flt.pdTimer then ((s.put F.FLT_PWRDN_STATUS_CLEAN_TO 0 1).dirtyLeft (s.dirtyIdx fun _ => true)).pdCleaned else s

/-- Step 4 has ended: FLT_GPF_FAIL where a partner left a phase unanswered; every Mornu link is set to DISABLE (step 5). -/
def State.pdGpfDone (s : State) : State :=
  if s.pdStep = 4 ∧ s.flt.pdPhase = 2 ∧ (s.flt.pdWait.isEmpty ∨ s.reachedO s.flt.pdTimer) then
    let s1 := if s.flt.pdFail || !s.flt.pdWait.isEmpty then s.occAt 27 0 none else s
    let ls := (List.range 8).filter fun m => !s.on F.ML_LINK_CMD_DISABLE (dLink m)
    let s2 := s1.each ls fun t m => t.mlCmdWrite m 2
    (s2.setPd 5).setFlt fun f => { f with pdDisabled := ls, pdWait := [], pdTimer := none }
  else s

/-- What a boundary does in a power-down: the ingress hold, its end one stitch later, the second GPF phase, an abort. -/
def State.pdBoundary (s : State) : State :=
  if s.flt.pdAbort then
    let s1 := s.each s.flt.pdDisabled fun t m => t.mlCmdWrite m 0
    (s1.setPd 6).setFlt fun f => { f with pdAbort := false, pdStart := false, pdHold := false, pdTimer := none, pdDisabled := [], pdWait := [] }
  else if s.flt.pdStart then
    ((((s.put F.FLT_PWRDN_STATUS_DRAIN_TO 0 0).put F.FLT_PWRDN_STATUS_CLEAN_TO 0 0).put F.FLT_PWRDN_STATUS_DIRTY_LEFT 0 0).setPd 1).setFlt fun f =>
      { f with pdStart := false, pdHold := true, pdFail := false, pdPhase := 0 }
  else if s.pdStep = 1 then (s.setPd 2).setFlt fun f => { f with pdTimer := some (s.after (s.get F.FLT_PWRDN_CFG_DRAIN_LIMIT 0)) }
  else if s.pdStep = 3 then s.cleanBehind (List.range 64)
  else if s.pdStep = 4 ∧ s.flt.pdPhase = 1 ∧ (s.flt.pdWait.isEmpty ∨ s.reachedO s.flt.pdTimer) then s.pdGpf 2
  else s

end Sys2Proof.Machine
end

