-- ==== Sys2Proof/Machine/Align.lean ====
section
/-!
DEFINITION. Stitch markers, the timing tree and the alignment states (spec/02 R61 to R67).
-/
namespace Sys2Proof.Machine
open Sys2Proof

/-! ### Sources (R61 to R63) -/

def asFree : Nat := 0
def asRoot : Nat := 1
def asAcquire : Nat := 2
def asAligned : Nat := 3
def asHoldover : Nat := 4
def asOut : Nat := 5

/-- Whether an alignment state is one that a root, or a module aligned to it, shows. -/
def rooted (st : Nat) : Bool := st == asRoot || st == asAligned || st == asHoldover

def State.stSrc (s : State) : Nat := s.get F.GLB_STITCH_CTL_SRC 0
def srcAuto : Nat := 0
def srcRoot : Nat := 1
def srcPin : Nat := 2
def srcFree : Nat := 3

/-- Whether flits pass over a link: UP, INIT or RETRAIN. -/
def State.flows (s : State) (m : Nat) : Bool := s.mlState m == mlUpSt || s.mlState m == mlInit || s.mlState m == mlRetrainSt

/-- The last marker of a link whose far module may serve as a source: aligned, at most 7 hops from the root, and heard within 16 stitches.
DEDUCED (log entry 14). -/
def State.uplinkOk (s : State) (m : Nat) : Option Marker :=
  match s.tim.marks.find m with
  | some (k, b) => if s.flows m && rooted k.state && decide (k.hops ≤ 7) && decide (s.tim.bnd < b + 16) then some k else none
  | none => none

/-- The usable links with their markers, in the order of their ML number. -/
def State.uplinks (s : State) : List (Nat × Marker) := (List.range 8).filterMap fun m => (s.uplinkOk m).map fun k => (m, k)

/-- The preferred uplink: the lowest hop count, then the lowest ML number. DEDUCED (log entry 14). -/
def State.bestUplink (s : State) : Option (Nat × Marker) :=
  s.uplinks.foldl (fun b e => match b with
    | none => some e
    | some x => if e.2.hops < x.2.hops then some e else some x) none

/-- The enabled backups as (place, switch ID), in their order. -/
def State.backups (s : State) : List (Nat × Nat) :=
  [(1, s.get F.GLB_STITCH_ROOTS_BK1 0), (2, s.get F.GLB_STITCH_ROOTS_BK2 0), (3, s.get F.GLB_STITCH_ROOTS_BK3 0)].filter fun e =>
    (s.get F.GLB_STITCH_CTL_BK_EN 0).testBit (e.1 - 1)

/-- The place of this module among the enabled backups. -/
def State.backupNo (s : State) : Option Nat := (s.backups.find? fun e => e.2 == s.ownSw).map (·.1)

/-- Whether a marker derived from the named root or from an earlier backup arrived in the stitch that ends (R62). -/
def State.seniorSeen (s : State) : Bool :=
  let ids := s.get F.GLB_STITCH_ROOTS_ROOT 0 :: (s.backups.takeWhile fun e => e.2 != s.ownSw).map (·.2)
  s.tim.seen.any fun m => match s.tim.marks.find m with
    | some (k, _) => ids.contains k.rootId && rooted k.state
    | none => false

/-- Whether the module is root: by its source, as the named root that no acting root precedes, or by R62. DEDUCED (log entry 14). -/
def State.isRoot (s : State) : Bool :=
  s.stSrc == srcRoot ||
    (s.stSrc == srcAuto &&
      (s.tim.actingRoot || (s.get F.GLB_STITCH_ROOTS_ROOT 0 == s.ownSw && s.uplinks.all fun e => e.2.rootId == s.ownSw)))

/-- Whether the source is present. -/
def State.srcHere (s : State) : Bool :=
  if s.stSrc = srcAuto then s.bestUplink.isSome else s.stSrc == srcPin && s.tim.pinSeen && !s.tim.pinLost

/-- Whether the source is lost (R66, R67). -/
def State.srcLost (s : State) : Bool :=
  if s.stSrc = srcAuto then decide (16 ≤ s.tim.dryRun) && s.bestUplink.isNone else s.stSrc == srcPin && s.tim.pinLost

/-! ### The phase (R65) -/

/-- The root-relative error, in 1/8 Sole clock. -/
def State.phase (s : State) : Int := signed 16 (s.get F.GLB_STITCH_ERR_OFFSET 0)

/-- A measured error is reported; the trim that the slew takes is left open within its limits: ±200 ppm in ACQUIRE, ±100 ppm otherwise. -/
def State.setPhase (s : State) (err : Int) : State :=
  let lim : Nat := if s.astate = asAcquire then 20000 else 10000
  let s1 := s.put F.GLB_STITCH_ERR_OFFSET 0 (unsigned 16 err)
  if s.astate = asAcquire || s.astate = asAligned then
    (s1.put F.GLB_STITCH_ERR_TRIM 0 (unsigned 16 (s1.freeIn (-(lim : Int)) (2 * lim + 1)))).usedFree
  else s1

/-- A marker arrives on a link `arrival` after the own boundary, from a module whose own error is `rootOfs` (R64, R65). It is kept with the measurement that
the next marker echoes in place of its TX_OFS. -/
def State.markerRx (s : State) (m : Nat) (k : Marker) (rootOfs arrival : Int) : State :=
  if !s.flows m || !s.tim.running then s
  else
    let fwd := arrival - k.txOfs
    let s1 := s.setTim fun t => { t with marks := t.marks.set m ({ k with txOfs := fwd }, t.bnd), seen := insNat t.seen m }
    let up := s.stSrc == srcAuto && s.on F.GLB_STITCH_STATUS_UPLINK_VALID 0 && s.get F.GLB_STITCH_STATUS_UPLINK 0 == m
    if up && k.echoValid && rooted k.state then
      let asym := signed 16 (s.get F.GLB_STITCH_LINKADJ_ASYM (4 * m))
      (s1.setTim fun t => { t with delay := (fwd + k.echo).tdiv 2 }).setPhase ((k.echo - fwd).tdiv 2 + asym.tdiv 2 + rootOfs)
    else s1

/-- The pulse of STITCH_IN under PIN (R66), `ofs` after the own boundary: checked for its period and measured; a long one loads the number where no link
leads to an aligned module. DEDUCED (log entry 15). -/
def State.pinPulse (s : State) (long : Bool) (period : Nat) (ofs : Int) : State :=
  if s.stSrc ≠ srcPin || !s.tim.running then s
  else
    let bad := decide (period < 2558) || decide (2562 < period)
    let s1 := s.setTim fun t => { t with pinSeen := true, pinBad := if bad then t.pinBad ++ [t.bnd] else t.pinBad }
    let x := (ofs + signed 16 (s.get F.GLB_STITCH_PINADJ_DELAY 0)) % 20480
    let s2 := s1.setPhase (if x < 10240 then -x else 20480 - x)
    if long && s.tim.jump && s.uplinks.isEmpty then
      let n := (s.get F.GLB_STITCH_LOAD_LO_LOAD 0 + s.get F.GLB_STITCH_LOAD_HI_LOAD 0 * 2 ^ 32) / 1024 * 1024
      s2.setTim fun t => { t with num := max t.num n, jump := false, pinLoaded := true }
    else s2

/-! ### The states (R67) -/

/-- A change of the alignment state, with its event. DEDUCED (log entry 14). -/
def State.alignTo (s : State) (st : Nat) : State :=
  if s.astate = st then s
  else ((s.put F.GLB_STITCH_STATUS_STATE 0 st).put F.GLB_STITCH_STATUS_DRIFT 0 0).event clsTiming 0 0 1 (st + 8 * s.astate)

/-- OUT, with its sticky bit. -/
def State.alignOut (s : State) : State := ((s.alignTo asOut).setTim fun t => { t with hold := none }).occAt 2 0 none

/-- 64 consecutive stitches within 8 ns. -/
def State.alignAcquired (s : State) : State :=
  if s.astate = asAcquire ∧ 64 ≤ s.tim.okRun then (s.alignTo asAligned).setTim fun t => { t with badRun := 0 } else s

/-- Four consecutive stitches beyond 40 ns. -/
def State.alignLost (s : State) : State := if s.astate = asAligned ∧ 4 ≤ s.tim.badRun then s.alignOut else s

/-- The source is lost: HOLDOVER from ALIGNED, OUT from ACQUIRE. A holdover limit of zero enters OUT at once. -/
def State.sourceLost (s : State) : State :=
  if !s.srcLost then s
  else if s.astate = asAligned then
    let lim := s.get F.GLB_STITCH_HOLD_LIMIT 0
    if lim = 0 then (s.occAt 3 0 none).alignOut
    else ((s.alignTo asHoldover).setTim fun t => { t with hold := some (s.after lim) }).occAt 3 0 none
  else if s.astate = asAcquire && !s.tim.actingRoot then s.alignOut
  else s

/-- The holdover limit has passed. -/
def State.holdExpiry (s : State) : State := if s.astate = asHoldover ∧ s.dueO s.tim.hold then s.alignOut else s

/-- A backup's count has reached its limit: it becomes root, which its state shows from the next boundary (R62). -/
def State.backupTakes (s : State) : State :=
  match s.backupNo with
  | some i => if s.stSrc = srcAuto ∧ 1024 * i ≤ s.tim.backupRun then s.setTim fun t => { t with actingRoot := true } else s
  | none => s

/-- The uplink is selected anew. -/
def State.reselect (s : State) : State :=
  if s.isRoot then
    ((s.put F.GLB_STITCH_STATUS_UPLINK_VALID 0 0).put F.GLB_STITCH_STATUS_HOPS 0 0).put F.GLB_STITCH_STATUS_ROOT_CUR 0 s.ownSw
  else if s.stSrc = srcAuto then
    match s.bestUplink with
    | some e =>
      (((s.put F.GLB_STITCH_STATUS_UPLINK 0 e.1).put F.GLB_STITCH_STATUS_UPLINK_VALID 0 1).put F.GLB_STITCH_STATUS_HOPS 0 (e.2.hops + 1)).put
        F.GLB_STITCH_STATUS_ROOT_CUR 0 e.2.rootId
    | none => s
  else s.put F.GLB_STITCH_STATUS_UPLINK_VALID 0 0

/-- The counts of the stitch that ends: markers of the uplink, markers senior to a backup, the pin's periods, and the error. DEDUCED (log entry 14). -/
def State.alignCounts (s : State) : State :=
  let up := s.on F.GLB_STITCH_STATUS_UPLINK_VALID 0 && (s.tim.seen.contains (s.get F.GLB_STITCH_STATUS_UPLINK 0))
  let good := up && match s.tim.marks.find (s.get F.GLB_STITCH_STATUS_UPLINK 0) with | some (k, _) => rooted k.state | none => false
  let measured := if s.stSrc = srcPin then s.tim.pinSeen else good
  let e := s.phase.natAbs
  let missing := s.stSrc == srcPin && !s.tim.pinSeen
  let senior := s.seniorSeen
  s.setTim fun t =>
    let bad := ((if missing then t.pinBad ++ [t.bnd] else t.pinBad)).filter fun b => decide (t.bnd < b + 64)
    { t with dryRun := if good then 0 else t.dryRun + 1, backupRun := if senior then 0 else t.backupRun + 1,
             okRun := if !measured then t.okRun else if e ≤ 160 then t.okRun + 1 else 0,
             badRun := if !measured then t.badRun else if 800 < e then t.badRun + 1 else 0,
             pinBad := bad, pinLost := decide (4 ≤ bad.length) }

/-- The alignment at a boundary (R67): the transitions that have no event of their own, and the uplink. DEDUCED (log entry 14). -/
def State.alignBoundary (s : State) : State :=
  let s1 := s.alignCounts
  let st := s1.astate
  let e := s1.phase.natAbs
  let s2 :=
    if s1.isRoot then
      (if s1.stSrc = srcRoot then s1.put F.GLB_STITCH_ERR_TRIM 0 0 else s1).alignTo asRoot
    else if s1.stSrc = srcFree then s1.alignTo asFree
    else if st = asFree || st = asOut || st = asRoot then
      if s1.srcHere then (s1.alignTo asAcquire).setTim fun t => { t with jump := true, okRun := 0, badRun := 0 }
      else if st = asRoot then s1.alignTo asFree else s1
    else if st = asAligned then
      if 320 < e && decide (e ≤ 800) then
        (if s1.on F.GLB_STITCH_STATUS_DRIFT 0 then s1
         else ((s1.put F.GLB_STITCH_STATUS_DRIFT 0 1).event clsTiming 0 0 1 (asAligned + 8 * asAligned)).occAt 1 0 none)
      else if e ≤ 320 then s1.put F.GLB_STITCH_STATUS_DRIFT 0 0 else s1
    else if st = asHoldover && s1.srcHere && (s1.tim.dryRun == 0 || s1.stSrc == srcPin) then
      (s1.alignTo (if e ≤ 320 then asAligned else asAcquire)).setTim fun t => { t with hold := none, okRun := 0, badRun := 0 }
    else s1
  s2.reselect.setTim fun t => { t with seen := [], pinSeen := false }

/-- The marker a link sends for the stitch that begins (R64): its departure depends on the flit boundary and is left open. -/
def State.markerFor (s : State) (m : Nat) : Marker :=
  let last := if s.tim.seen.contains m then s.tim.marks.find m else none
  { stitch := s.tim.num, rootId := s.get F.GLB_STITCH_STATUS_ROOT_CUR 0, hops := s.get F.GLB_STITCH_STATUS_HOPS 0, state := s.astate
    long := s.tim.num % 1024 == 0, echoValid := last.isSome, txOfs := s.freeIn 0 20480, echo := match last with | some e => e.1.txOfs | none => 0 }

end Sys2Proof.Machine
end

