-- ==== Sys2Proof/Machine/Boundary.lean ====
section
/-!
DEFINITION. The stitch boundary, epochs and armed swaps (spec/02 R43 to R60).
-/
namespace Sys2Proof.Machine
open Sys2Proof

/-! ### The arm (R55, R56) -/

def swIdle : Nat := 0
def swArmed : Nat := 1
def swLocked : Nat := 2
def swDone : Nat := 3
def swMissed : Nat := 4
def swRefused : Nat := 5

def State.setSwap (s : State) (st : Nat) : State := s.put F.LAST_SWAP_STATUS_STATE 0 st
def State.setSwapErr (s : State) (e : Nat) : State := s.put F.LAST_SWAP_STATUS_ERR 0 e
def State.setArm (s : State) (a : Option Arm) : State :=
  (s.setTim fun t => { t with arm := a }).put F.LAST_SWAP_CTL_ARM 0 (bit a.isSome)

/-- The target that the registers name. -/
def State.swapTgt (s : State) : Nat := s.get F.LAST_SWAP_TGT_LO_TGT 0 + s.get F.LAST_SWAP_TGT_HI_TGT 0 * 2 ^ 32

/-- Whether the alignment state admits a swap of scope FABRIC. -/
def State.aligned (s : State) : Bool := rooted s.astate

/-- A request about a swap is refused: STATE shows it where no swap is armed. -/
def State.swapRefuse (s : State) (e : Nat) : State :=
  if s.tim.arm.isSome then s.setSwapErr e else (s.setSwapErr e).setSwap swRefused

/-- The error of an arm, zero where it is accepted. -/
def State.armError (s : State) : Nat :=
  let tgt := s.swapTgt
  if tgt < s.tim.num + 2 then 1
  else if s.tim.num + 16777215 < tgt then 2
  else if s.get F.LAST_SWAP_CTL_MASK 0 = 0 then 3
  else if s.tim.arm.isSome then 4
  else if s.on F.LAST_SWAP_CTL_SCOPE 0 && !s.aligned then 5
  else 0

/-- The arm is checked and taken or refused (R55). -/
def State.armNow (s : State) : State :=
  let e := s.armError
  if e ≠ 0 then s.swapRefuse e
  else
    (((s.setArm (some { target := s.swapTgt, mask := s.get F.LAST_SWAP_CTL_MASK 0, fabric := s.on F.LAST_SWAP_CTL_SCOPE 0, exchange := s.on F.LAST_SWAP_CTL_MODE 0,
                        held := [], fresh := [], done := [], failed := [], wasMixed := s.on F.LAST_ID_STATUS_MIXED 0 })).setSwapErr 0).setSwap swArmed)

/-- The armed swap is cancelled before its lock point (R56). -/
def State.disarm (s : State) : State :=
  match s.tim.arm with
  | none => s.swapRefuse 6
  | some a => if a.target ≤ s.tim.num + 1 then s.swapRefuse 1 else ((s.setArm none).setSwapErr 0).setSwap swIdle

/-- Whether a commit under way overlaps an arm's mask: of the groups the mask names and the load writes, some is yet to be committed (R85). -/
def State.armBlocked (s : State) (mask : Nat) : Bool :=
  match s.las.load, s.las.committing with
  | some l, some _ => l.groups.any fun g => mask.testBit g.bitNo && !l.doneGrps.contains g
  | _, _ => false

/-- A write of LAST_SWAP_CTL: an arm that a commit overlaps is held (R85). -/
def State.swapCtlWrite (s : State) (p : Path) (v : Word) : State :=
  let arm := F.LAST_SWAP_CTL_ARM.of v == 1
  let dis := F.LAST_SWAP_CTL_DISARM.of v == 1
  if arm && !dis && s.armBlocked (F.LAST_SWAP_CTL_MASK.of v) then s.setLas fun l => { l with heldArm := l.heldArm ++ [(p, v)] }
  else
    let s1 := s.storeAt R.LAST_SWAP_CTL v
    if arm && dis then s1.swapRefuse 7 else if arm then s1.armNow else if dis then s1.disarm else s1

/-- Held arms whose commits have ended are checked and performed, in their order (R85). -/
def State.heldArms (s : State) : State :=
  let now := s.las.heldArm.filter fun e => !s.armBlocked (F.LAST_SWAP_CTL_MASK.of e.2)
  (s.setLas fun l => { l with heldArm := l.heldArm.filter fun e => s.armBlocked (F.LAST_SWAP_CTL_MASK.of e.2) }).each now fun t e =>
    (t.storeAt R.LAST_SWAP_CTL e.2).armNow

/-- A block receives the arm state and acknowledges it (R48, R49). DEDUCED (log entry 12). -/
def State.armRx (s : State) (g : Grp) (unit : Nat) : State :=
  match s.tim.arm with
  | none => s
  | some a =>
    if !a.mask.testBit g.bitNo || !(blocks g).contains unit || a.held.contains (g.bitNo, unit) then s
    else s.setTim fun t => { t with arm := some { a with held := a.held ++ [(g.bitNo, unit)], fresh := a.fresh ++ [(g.bitNo, unit)] } }
where
  /-- The units of a group's block, each with its own copy of the arm state: lane banks, home agent slices, or the block itself. -/
  blocks (g : Grp) : List Nat :=
    match g with
    | .lb => List.range 20
    | .ep => List.range 16
    | .ml => [16, 17, 18, 19]
    | .ha => List.range 4
    | _ => [0]

/-! ### The swap (R57 to R59) -/

/-- Whether the register at a key belongs to a unit of the group's block. -/
def unitHas (g : Grp) (unit k : Nat) : Bool :=
  match g with
  | .lb | .ep | .ml => bankOfOff (k % entStride) == some unit
  | .ha => (k % entStride - 0x900000) / 0x40000 == unit
  | _ => true

/-- A block applies a swap of its group at its own instant; a disabled bank will apply it when it is enabled (R57, R59). -/
def State.blockSwap (s : State) (g : Grp) (unit : Nat) (exchange : Bool) : State × Bool :=
  let banked := match g with | .lb | .ep | .ml => true | _ => false
  if banked && s.bankState unit != 3 then
    (s.miss unit (.swap g exchange), true)
  else s.swapGroup g exchange (unitHas g unit)

/-- A block that holds the arm state applies it, once. -/
def State.applyBlock (s : State) (g : Grp) (unit : Nat) : State :=
  match s.tim.arm with
  | none => s
  | some a =>
    if !a.mask.testBit g.bitNo || !a.held.contains (g.bitNo, unit) || a.done.contains (g.bitNo, unit) then s
    else
      let r := s.blockSwap g unit a.exchange
      r.1.setTim fun t => { t with arm := t.arm.map fun x =>
        { x with done := x.done ++ [(g.bitNo, unit)], failed := if r.2 || x.failed.contains g.bitNo then x.failed else x.failed ++ [g.bitNo] } }

/-- The blocks of the masked groups. -/
def Arm.blocks (a : Arm) : List (Nat × Nat) := (grpsOf a.mask).flatMap fun g => (State.armRx.blocks g).map fun u => (g.bitNo, u)

/-- Whether every masked block has applied. -/
def Arm.complete (a : Arm) : Bool := a.blocks.all fun b => a.done.contains b

/-- The identities after a swap that applied the given groups (R91). -/
def State.swapIdentity (s : State) (applied : List Grp) (exchange : Bool) : State :=
  let last := s.las.lastGroups
  if applied.any fun g => s.las.direct.contains g then s.put F.LAST_ID_STATUS_MIXED 0 1
  else if !last.isEmpty && last.all fun g => applied.contains g then
    let was := s.activeId
    let s1 := s.setActiveId s.stagedId
    let s2 := if exchange then s1.setStagedId was else s1
    if 15 ≤ last.length then s2.put F.LAST_ID_STATUS_MIXED 0 0 else s2
  else if last.any fun g => applied.contains g then s.put F.LAST_ID_STATUS_MIXED 0 1
  else s

/-- The swap is done when every masked block has applied (R57, R49). -/
def State.swapFinish (s : State) : State :=
  match s.tim.arm with
  | none => s
  | some a =>
    if !a.complete then s
    else
      let applied := (grpsOf a.mask).filter fun g => !a.failed.contains g.bitNo
      let s1 := ((s.setArm none).setSwap swDone).put F.LAST_SWAP_STATUS_LATE 0 0
      let s2 := ((s1.put F.LAST_SWAP_DONE_LO_DONE 0 a.target).put F.LAST_SWAP_DONE_HI_DONE 0 (a.target / 2 ^ 32)).put F.LAST_ID_STATUS_MIXED 0 (bit a.wasMixed)
      (s2.swapIdentity applied a.exchange).event clsConfig 0x11 0 2 a.target

/-- The armed swap is missed (R58). -/
def State.swapMiss (s : State) (e : Nat) : State := (((s.setArm none).setSwapErr e).setSwap swMissed).occAt 4 0 none

/-- What the LAST block does for an armed swap as number `n` begins: the lock point, a target that is missed, and blocks that lack the arm state.
DEDUCED (log entry 12). -/
def State.swapTurn (s : State) (n : Nat) : State :=
  match s.tim.arm with
  | none => s
  | some a =>
    if s.on F.LAST_SWAP_STATUS_LATE 0 then s
    else if a.target < n then s.swapMiss 1
    else if n = a.target then
      if a.fabric && !s.aligned then s.swapMiss 5
      else if a.blocks.all fun b => a.held.contains b then s.setSwap swLocked
      else (((s.setSwap swLocked).put F.LAST_SWAP_STATUS_LATE 0 1).put F.LAST_ID_STATUS_MIXED 0 1).occAt 4 0 none
    else if n + 1 = a.target then s.setSwap swLocked
    else s

/-- The groups of a step of the boundary apply the swap whose target begins. DEDUCED (log entry 12). -/
def State.swapStep (s : State) (gs : List Grp) : State :=
  match s.tim.arm with
  | none => s
  | some a => if s.tim.num ≠ a.target then s else s.each gs fun t g => t.each (State.armRx.blocks g) fun u b => u.applyBlock g b

/-- A block that received the arm state too late applies at its first boundary after it (R49). DEDUCED (log entry 12). -/
def State.swapLate (s : State) (g : Grp) (unit : Nat) : State :=
  match s.tim.arm with
  | none => s
  | some a =>
    if !s.on F.LAST_SWAP_STATUS_LATE 0 || a.fresh.contains (g.bitNo, unit) then s else ((s.applyBlock g unit).swapFinish).releaseIn.drainAgain

/-! ### The number (R44, R45, R67) -/

/-- The number that GLB_STITCH_LOAD holds (R45). DEDUCED (log entry 13). -/
def State.loadNum (s : State) : Nat := s.get F.GLB_STITCH_LOAD_LO_LOAD 0 + s.get F.GLB_STITCH_LOAD_HI_LOAD 0 * 2 ^ 32

/-- The source's number at the coming boundary, where a marker tells it. DEDUCED (log entry 13); DEDUCED (log entry 15). -/
def State.sourceNum (s : State) : Option Nat :=
  let m := if s.stSrc = srcAuto then s.bestUplink else if s.stSrc = srcPin then s.uplinks.head? else none
  match m with
  | some (l, k) => (s.tim.marks.find l).map fun e => k.stitch + (s.tim.bnd + 1 - e.2)
  | none => none

/-- The number that the coming boundary begins, and whether it is a jump. It never decreases. DEDUCED (log entry 13). -/
def State.nextNum (s : State) : Nat × Bool :=
  if !s.tim.running then (if s.stSrc = srcRoot ∨ s.stSrc = srcFree then s.loadNum else 0, false)
  else
    match if s.tim.jump && s.astate == asAcquire then s.sourceNum else none with
    | some n => (max (s.tim.num + 1) n % 2 ^ 48, true)
    | none => ((s.tim.num + 1) % 2 ^ 48, s.tim.pinLoaded)

/-- A masked block applies the armed swap at its instant of the target boundary, before the rest of that boundary's work. DEDUCED (log entry 12). -/
def State.swapApply (s : State) (g : Grp) (unit : Nat) : State :=
  match s.tim.arm with
  | none => s
  | some a => if s.on F.GLB_STITCH_CTL_RUN 0 && s.nextNum.1 == a.target && (!a.fabric || s.aligned) && !s.on F.LAST_SWAP_STATUS_LATE 0 then s.applyBlock g unit else s

/-- A write of GLB_STITCH_CTL: RUN starts the counter; it ends start-up step 3 once the Last has locked (R45, spec/19 R494). -/
def State.runWrite (s : State) (v : Word) : State :=
  let s1 := s.storeAt R.GLB_STITCH_CTL v
  if F.GLB_STITCH_CTL_RUN.of v = 0 then s1
  else
    let s2 := s1.put F.GLB_STITCH_CTL_RUN 0 1
    if s2.step? = 3 ∧ s2.locked then s2.setStep 4 else s2

/-! ### Epochs (R53, R54, R70) -/

def epochNo : Epoch → Nat
  | .heat => 0 | .acct => 1 | .tel => 2 | .fw => 3

def epochFld : Epoch → Fld
  | .heat => F.GLB_EPOCH_CFG_HEAT_EXP | .acct => F.GLB_EPOCH_CFG_ACCT_EXP | .tel => F.GLB_EPOCH_CFG_TEL_EXP | .fw => F.GLB_EPOCH_CFG_FW_EXP

/-- The exponent in force. -/
def State.epochExp (s : State) (e : Epoch) : Nat := s.tim.epochs.getD (epochNo e) 10

/-- The epochs that end as a number begins, and the lengths in force after it. DEDUCED (log entry 13). -/
def State.epochTurn (s : State) (first jumped : Bool) : State :=
  let n := s.tim.num
  let ended := if first then [] else [Epoch.heat, .acct, .tel, .fw].filter fun e => jumped || n % 2 ^ s.epochExp e == 0
  let s1 := s.setTim fun t => { t with epochEnds := ended, short := if jumped then ended else t.short.filter fun e => !ended.contains e }
  s1.each [Epoch.heat, .acct, .tel, .fw] fun t e =>
    let new := t.get (epochFld e) 0
    if first || n % 2 ^ (max (t.epochExp e) new) == 0 then t.setTim fun x => { x with epochs := x.epochs.set (epochNo e) new } else t

/-- The epoch that ended at the last boundary closes its period: heat counters, an accounting dump, telemetry averages, the cores' interrupt.
DEDUCED (log entry 12). -/
def State.epochEnd (s : State) (e : Epoch) : State :=
  if !s.tim.epochEnds.contains e then s
  else
    let s1 := s.setTim fun t => { t with epochEnds := t.epochEnds.filter (· != e) }
    match e with
    | .heat => s1.heatEnd
    | .acct => s1.acctEpoch (s.tim.short.contains .acct)
    | .tel => s1.telEnd
    | .fw => s1.each (List.range 4) fun t c => t.put F.CLK_IRQ_PEND_EPOCH (4 * c) 1

/-! ### The boundary (R47) -/

/-- Step 1: the number. DEDUCED (log entry 13). -/
def State.numberTurn (s : State) (n : Nat) (jumped : Bool) : State :=
  s.setTim fun t =>
    { t with num := n, bnd := t.bnd + 1, cells := 0, cyc := t.cyc + 2560, running := true, jump := t.jump && !jumped, pinLoaded := false
             arm := t.arm.map fun a => { a with fresh := [] } }

/-- Steps 2 to 4: the Sole domain. -/
def State.soleTurn (s : State) : State :=
  let s1 := (s.swapStep [.sole, .sched, .eye, .vamp, .cob]).debugApply
  (s1.applyTags.refillShapers).refillMeters

/-- Step 5: the home agents; a boundary stands for 2,048 Home clocks of open tacks (spec/17 R450). -/
def State.homeTurn (s : State) : State :=
  (s.swapStep [.ha]).each (List.range 4) fun t h => t.count (cbHome h) 0xB 0 0 (2048 * (t.home h).tacks.length)

/-- Step 6: the Insole. -/
def State.insoleTurn (s : State) : State :=
  let s1 := (s.swapStep [.ins]).scrub.applySanitised
  s1.fencedDemote s1.coherentGran

/-- The Clicker arms a LOCAL swap of group INS for a capacity change, or keeps to retry at the next boundary. -/
def State.dcdTry (s : State) : State :=
  if !s.bnd.dcdArm || s.tim.arm.isSome then s
  else
    let tgt := s.tim.num + 2
    let s1 := (s.put F.LAST_SWAP_TGT_LO_TGT 0 tgt).put F.LAST_SWAP_TGT_HI_TGT 0 (tgt / 2 ^ 32)
    let s2 := ((s1.put F.LAST_SWAP_CTL_MASK 0 128).put F.LAST_SWAP_CTL_SCOPE 0 0).put F.LAST_SWAP_CTL_MODE 0 0
    (s2.armNow).setBnd fun b => { b with dcdArm := false }

/-- Step 7: the Management domain; the events of the ended stitch are coalesced. -/
def State.mgmtTurn (s : State) (old : Nat) (evs : List Ev) : State :=
  let s1 := ((s.swapStep [.bnd, .pmc, .clk]).wakeRefill.bootWakes.bindingsRemove).reportsApply
  let s2 := ((s1.restartHold.restartTimers.sumOut).sanSubmit).gpfStep.pdBoundary.dcdTry
  let new := s2.mgt.events
  ((s2.setMgt fun g => { g with events := evs }).evCoalesce old).setMgt fun g => { g with events := g.events ++ new }

/-- Step 8: the Always-on domain; the first `k` occurrences are those of the ended stitch. -/
def State.aonTurn (s : State) (smp : Samples) (k : Nat) : State :=
  let s1 := (s.put F.GLB_STITCH_LO_STITCH 0 s.tim.num).put F.GLB_STITCH_HI_STITCH 0 (s.tim.num / 2 ^ 32)
  let s2 := ((s1.alignBoundary).swapStep [.glb, .flt]).pwrBoundary smp
  ((s2.faultBoundary k).returnSteps).stepTurn

/-- Step 9: the banks and links; each link sends its marker, and STITCH_OUT has pulsed. -/
def State.bankTurn (s : State) (marks : List (Nat × Marker)) : State :=
  let s1 := s.swapStep [.lb, .ep, .ml]
  let s2 := s1.each marks fun t e => t.send (.marker e.1 e.2)
  let s3 := (if marks.isEmpty then s2 else s2.usedFree).setTim fun t => { t with stitchOut := if t.num % 1024 = 0 then 512 else 128 }
  s3.each (List.range 8) State.autoLace

/-- A stitch boundary: the work of R47 in its order. None occurs before RUN (R45). DEDUCED (log entry 12). -/
def State.boundary (s : State) (smp : Samples) : State :=
  if !s.on F.GLB_STITCH_CTL_RUN 0 then s
  else
    let s0 := s.each [Epoch.heat, .acct, .tel, .fw] State.epochEnd
    let x := s0.nextNum
    let old := s0.tim.num
    let s1 := s0.swapTurn x.1
    let evs := s1.mgt.events
    let k := s1.flt.occs.length
    let seen := s1.tim.seen
    let s2 := ((s1.setMgt fun g => { g with events := [] }).numberTurn x.1 x.2).soleTurn
    let s3 := (s2.homeTurn.insoleTurn.mgmtTurn old evs).aonTurn smp k
    let back := s3.setTim fun t => { t with seen := seen }
    let s4 := s3.bankTurn (((List.range 8).filter s3.flows).map fun m => (m, back.markerFor m))
    let s5 := (s4.epochTurn (!s.tim.running) x.2).swapFinish
    s5.releaseIn.drainAgain.settle

end Sys2Proof.Machine
end

