-- ==== Sys2Proof/Machine/CsrAccess.lean ====
section
/-!
DEFINITION. Accesses to the CSR space by a path: what a register reads, what a write does in its block, pairs, staged views, disabled
banks and commits under way (spec/00 R10 to R18, spec/01 R36, spec/02 R60, spec/03 R85, spec/20 R504 to R508).
-/
namespace Sys2Proof.Machine
open Sys2Proof

/-! ### Pairs (R16, R17) -/

/-- The _LO registers of the pairs. -/
def loRegs : List Nat := [
  R.GLB_SERIAL_LO, R.GLB_STITCH_LO, R.GLB_STITCH_LOAD_LO, R.LAST_SWAP_TGT_LO, R.LAST_SWAP_DONE_LO, R.LAST_ACTIVE_ID_LO, R.LAST_STAGED_ID_LO,
  R.SCHED_QFIN_LO, R.SCHED_EGR_VT_LO, R.HA_EVICT_CNT_LO, R.HA_RGN_BASE_LO, R.INS_UE_LOG_LO, R.INS_TAG_ADDR_LO, R.BND_VPPB_SN_LO,
  R.BND_SL_TGT_LO, R.BND_SHELF_PORTS_LO, R.BND_PARTNER_SN_LO, R.COB_SQ_BASE_LO, R.COB_CQ_BASE_LO, R.VAMP_WIN_DBASE_LO, R.VAMP_WIN_TBASE_LO,
  R.EYE_WIN_BASE_LO, R.EYE_WIN_LIM_LO, R.EYE_VIOL_LAST_LO, R.SEC_NONCE_LO, R.CLK_STERR_ADDR_LO, R.PMC_CYC_LO, R.PMC_CYC_RD_LO, R.PMC_CTR_LO,
  R.PMC_ACCT_BASE_LO, R.PMC_ACTR_LO, R.PWR_ENERGY_LO, R.DBG_DENY_ADDR_LO]

def isLo (d : RegDef) : Bool := loRegs.contains d.off
def isHi (d : RegDef) : Bool := decide (4 ≤ d.off) && loRegs.contains (d.off - 4)

/-- Whether software can write some field of a register. -/
def RegDef.writable (d : RegDef) : Bool := d.flds.any fun f => f.acc == .rw || f.acc == .rwl || f.acc == .stg

/-! ### What a register reads -/

/-- A 64-bit value's word. -/
def wordOf (v i : Nat) : Word := BitVec.ofNat 32 (v / 2 ^ (32 * i))

/-- Bits [24:0] of a signed token count. -/
def token25 (i : Int) : Word := BitVec.ofNat 32 (unsigned 25 i)

/-- The word of a register as hardware gives it: the registers that show other state of the machine, and the file (spec/08 R232, spec/17 R446, R457, spec/20 R510).
DEDUCED (log entry 10). -/
def State.liveWord (s : State) (d : RegDef) (k : Nat) : Word :=
  let e := k / entStride
  let o := d.off
  if o = R.PMC_CYC_LO then wordOf s.soleClk 0
  else if o = R.PMC_CYC_HI then wordOf s.soleClk 1
  else if o = R.PMC_ACTR_LO then wordOf (s.cnt.acct.getD (8 * (e % 512) + e / 65536 % 8) 0) 0
  else if o = R.PMC_ACTR_HI then wordOf (s.cnt.acct.getD (8 * (e % 512) + e / 65536 % 8) 0) 1
  else if o = R.SCHED_QSTAT then
    let cells := ((s.sole.buf.filter fun x => x.qidx == e).map fun x => x.cells - x.sent).sum
    BitVec.ofNat 32 (cells % 2 ^ 18 + bit (s.queue e).slot * 2 ^ 18 + bit ((s.candidates (queueEgress e)).contains e) * 2 ^ 19)
  else if o = R.SCHED_QDEF then BitVec.ofNat 32 (unsigned 24 (s.queue e).deficit)
  else if o = R.SCHED_QFIN_LO then wordOf (showFin s e) 0
  else if o = R.SCHED_QFIN_HI then wordOf (showFin s e) 1
  else if o = R.SCHED_MTOK_C then token25 (s.meter e).1
  else if o = R.SCHED_MTOK_P then token25 (s.meter e).2
  else if o = R.DBG_STATUS then (s.reg k &&& ~~~1#32) ||| BitVec.ofNat 32 (s.get F.SEC_STATUS_DEBUG 0)
  else s.reg k
where
  showFin (s : State) (q : Nat) : Nat := if s.sole.buf.any fun x => x.qidx == q then (s.queue q).finish else (s.queue q).fLast

/-- Whether a path's reads of STG fields show the active copy (R60). -/
def State.viewsActive (s : State) (p : Path) : Bool := s.sel p F.LAST_VIEW_CTL_VIEW_ACTIVE == 1

/-- The word a path reads from a register. -/
def State.viewWord (s : State) (p : Path) (d : RegDef) (k : Nat) : Word :=
  let w := s.liveWord d k
  if s.viewsActive p then
    let m := d.maskOf (· = .stg)
    (w &&& ~~~ m) ||| (s.act.get k &&& m)
  else w

/-- Whether an access fails at the endpoint: misaligned (R10), or into the part of the SEC block locked to the enclave (R11). -/
def csrFails (o : Nat) : Bool := o % 4 != 0 || (decide (0x1301000 ≤ o) && decide (o < 0x1400000))

/-- The held values of a path replaced. -/
def keyed (l : List (Path × Nat × Word)) (p : Path) (k : Nat) : Option Word := (l.find? fun e => e.1 == p && e.2.1 == k).map (·.2.2)
def unkeyed (l : List (Path × Nat × Word)) (p : Path) (k : Nat) : List (Path × Nat × Word) := l.filter fun e => !(e.1 == p && e.2.1 == k)

/-- A read of a whole word: a _LO takes the snapshot of its _HI for the path, and a counter's also CYC (R16, R451). DEDUCED (log entry 10). -/
def State.csrRead (s : State) (p : Path) (o : Nat) : State × Word :=
  match s.keyAt p o with
  | none => (s, 0)
  | some (d, k) =>
    if isHi d then
      match keyed s.acs.snaps p (k - 4) with
      | some w => (s, w)
      | none => (s, s.viewWord p d k)
    else
      let w := s.viewWord p d k
      if isLo d then
        match s.keyAt p (o + 4) with
        | none => (s, w)
        | some (d2, k2) =>
          let s1 := s.setAcs fun a => { a with snaps := (p, k, s.viewWord p d2 k2) :: unkeyed a.snaps p k }
          if d.off = R.PMC_CTR_LO then
            let base := o / 256 * 256 % 0x10000
            ((s1.setReg (R.PMC_CYC_RD_LO + base + ent p.code) (wordOf s.soleClk 0)).setReg (R.PMC_CYC_RD_HI + base + ent p.code) (wordOf s.soleClk 1), w)
          else (s1, w)
      else (s, w)

/-! ### Commands of the Insole and the Clicker cores -/

/-- Whether the range of a granule command has a valid binding (spec/11 R317). -/
def State.rngBound (s : State) (rng : Nat) : Bool :=
  let n := s.rngPort rng
  let ld := s.get F.INS_TR_CFG_LD (ent rng)
  s.boundList.any fun e => e.2.port == n && (e.2.kind == 1 || (e.2.kind == 2 && e.2.obj == ld))

/-- A write of INS_GCMD (spec/11 R317). -/
def State.gcmdWrite (s : State) (v : Word) : State :=
  let s1 := s.storeAt R.INS_GCMD v
  if F.INS_GCMD_GO.of v = 0 then s1
  else
    let rng := F.INS_GCMD_RNG.of v
    let gran := s1.get F.INS_GCMD_GRAN_GRANULE 0
    (s1.gcmd (F.INS_GCMD_OP.of v) rng gran (s1.rngBound rng) (s1.coherentGran rng gran)).migIssue rng gran

/-- A write of INS_SHELF_CMD (spec/11 R318, R319, R323). -/
def State.insShelfWrite (s : State) (p : Path) (v : Word) : State :=
  let sh := s.sel p F.INS_SHSEL_SHELF
  let s1 := if F.INS_SHELF_CMD_CLEAN.of v = 1 then s.shelfClean sh else s
  if F.INS_SHELF_CMD_RELEASE.of v = 1 then s1.shelfRelease sh else s1

/-- A write of INS_TAG_WR: with GO the tag of the addressed granule is queued for the next boundary, or refused (spec/11 R305). -/
def State.tagWrWrite (s : State) (p : Path) (v : Word) : State :=
  let s1 := s.storeAt R.INS_TAG_WR v
  if F.INS_TAG_WR_GO.of v = 0 then s1
  else
    let a := s1.get F.INS_TAG_ADDR_LO_DPA 0 * 4096 + s1.get F.INS_TAG_ADDR_HI_DPA 0 * 2 ^ 32
    let clicker := match p with | .core _ => true | _ => false
    if !s1.inPool a || (s1.get F.INS_PEXT_STATE (ent (extentOf a)) == 1 && !clicker) then s1.put F.INS_TAG_WR_REFUSED 0 1
    else s1.setIns fun i => { i with tagQ := i.tagQ ++ [(a / 4096, F.INS_TAG_WR_TAG.of v)] }

/-- A write of CLK_CORE_CTL: RESET resets the core, HOLD keeps it in reset (spec/15 R421, R427). -/
def State.coreCtlWrite (s : State) (c : Nat) (v : Word) : State :=
  let was := s.on F.CLK_CORE_CTL_HOLD (4 * c)
  let s1 := s.storeAt (R.CLK_CORE_CTL + 4 * c) v
  let now := s1.on F.CLK_CORE_CTL_HOLD (4 * c)
  let s2 := if F.CLK_CORE_CTL_RESET.of v = 1 || (now && !was) then s1.coreReset c else s1
  s2.put F.CLK_CORE_STATUS_STATE (4 * c) (if now || !s2.las.fwRunning then 0 else if was || F.CLK_CORE_CTL_RESET.of v = 1 then 1 else s2.get F.CLK_CORE_STATUS_STATE (4 * c))

/-! ### What a write does -/

/-- A write of a plain register: its fields, the mark of a direct write (spec/03 R91), and what the block keeps with them. A staged write of a queue
index that QUEUES did not configure is ignored (spec/08 R225). -/
def State.plainWrite (s : State) (p : Path) (d : RegDef) (k : Nat) (v : Word) : State :=
  if (d.off = R.SCHED_QCFG ∨ d.off = R.SCHED_QALIAS) ∧ d.maskOf (· = .stg) ≠ 0 ∧ !s.on F.SCHED_QALIAS_CONF (ent (k / entStride)) then s.cfgErr kSCHED 0
  else
    let s1 := s.storeWord d k v
    match grpOfOff k with
    | some g =>
      if d.maskOf (· = .stg) ≠ 0 ∧ p ≠ .loader then s1.setLas fun l => { l with direct := if l.direct.contains g then l.direct else l.direct ++ [g] } else s1
    | none => s1

/-- A write of one word, performed: the commands of the registers that have some, and the fields of the others. -/
def State.wordNow (s : State) (p : Path) (d : RegDef) (k : Nat) (v : Word) : State :=
  let o := k % entStride
  let r := d.off
  if r = R.GLB_STITCH_CTL then s.runWrite v
  else if r = R.GLB_RST then s.rstWrite v
  else if r = R.PWR_CFG then s.pwrCfgWrite v
  else if r = R.PWR_PIN_PEAK then s.peakWrite v
  else if r = R.LB_BANK_CFG then (s.plainWrite p d k v).syncPortIds ((o - 0x200000) / 0x10000)
  else if r = R.LB_BANK_CTL then
    let b := (o - 0x200000) / 0x10000
    let s1 := s.familyWrite b v
    let s2 := if F.LB_BANK_CTL_WAKE.of v = 1 then s1.bankWake b else s1
    if F.LB_BANK_CTL_PARK.of v = 1 then s2.bankPark b else s2
  else if r = R.LB_LANE_ADAPT then s.laneAdaptWrite ((o - 0x200000) / 0x10000) (o / 0x100 % 0x100 - 0x10) v
  else if r = R.LB_LANE_MARGIN_CTL then s.marginWrite ((o - 0x200000) / 0x10000) (o / 0x100 % 0x100 - 0x10) v
  else if r = R.EP_LINK_CMD then s.portCmdWrite ((o - 0x400000) / 0x4000) v
  else if r = R.ML_LINK_CMD then s.mlCmdWrite ((o - 0x500000) / 0x10000) v
  else if r = R.ML_LACE_CTL then s.laceWrite ((o - 0x500000) / 0x10000) v
  else if r = R.HA_CTL then s.homeCtlWrite ((o - 0x900000) / 0x40000) v
  else if r = R.HA_DEPART_CLR then s.departClrWrite ((o - 0x900000) / 0x40000) v
  else if r = R.INS_GCMD then s.gcmdWrite v
  else if r = R.INS_SHELF_CMD then s.insShelfWrite p v
  else if r = R.INS_TAG_WR then s.tagWrWrite p v
  else if r = R.BND_BCMD then s.bcmdWrite p v
  else if r = R.BND_SL_CMD then s.slCmdWrite p v
  else if r = R.BND_SHELF_CMD then s.shelfCmdWrite p v
  else if r = R.CLK_CORE_CTL then s.coreCtlWrite ((o - R.CLK_CORE_CTL) / 4) v
  else if r = R.FLT_PWRDN_CTL then s.pwrdnWrite v
  else if r = R.FLT_RESTART then s.restartWrite v
  else if r = R.FLT_STICKY then s.stickyClear p ((o - R.FLT_STICKY) / 4) v
  else if r = R.LAST_LOAD_CTL then s.loadCtlWrite v
  else if r = R.LAST_BOOT then s.confirmWrite v
  else if r = R.LAST_BOOT_PREF then s.prefWrite v
  else if r = R.LAST_SWAP_CTL then s.swapCtlWrite p v
  else if r = R.COB_QP_CTL then s.qpCtlWrite p v
  else if r = R.COB_QP_DB then s.qpDbWrite p v
  else s.plainWrite p d k v

/-! ### Disabled banks (R36, R59) -/

/-- A write to a register of a disabled bank: RW and STG fields are held, other fields act at once, and of the commands only WAKE and PARK. -/
def State.offWrite (s : State) (p : Path) (d : RegDef) (k b : Nat) (v : Word) : State :=
  let held := d.maskOf fun a => a = .rw || a = .stg
  let s1 := s.setReg k (((s.reg k &&& ~~~ (d.maskOf (· = .w1c) &&& v)) &&& ~~~ (rwl s d)) ||| (v &&& rwl s d))
  let s2 := if s.locked && ((v ^^^ s.reg k) &&& d.maskOf (· = .rwl)) != 0 then s1.occ 0 0 else s1
  let s3 := if d.off = R.LB_BANK_CFG then s2.syncPortIds b else s2
  let s4 := if held = 0 then s3 else s3.miss b (.write ⟨p, k % entStride, k, v, held⟩)
  if d.off = R.LB_BANK_CTL then
    let s5 := if F.LB_BANK_CTL_WAKE.of v = 1 then s4.bankWake b else s4
    if F.LB_BANK_CTL_PARK.of v = 1 then s5.bankPark b else s5
  else s4
where
  rwl (s : State) (d : RegDef) : Word := if s.locked then 0 else d.maskOf (· = .rwl)

/-- What a bank missed takes effect as it is enabled, in the order of occurrence. -/
def State.applyMissed (s : State) (b : Nat) : State :=
  (s.setAcs fun a => { a with missed := a.missed.del b }).each (s.acs.missed.getD b []) fun t m => match m with
    | .swap g exchange => (t.swapGroup g exchange (unitHas g b)).1
    | .write w => match regAt w.off with
      | some d =>
        let cmd := d.maskOf fun a => a = .w1c || a = .w1s
        t.wordNow w.path d w.key ((t.reg w.key &&& ~~~ w.mask &&& ~~~ cmd) ||| (w.value &&& w.mask))
      | none => t

/-! ### A write of a path -/

/-- The block of an offset, as the Shank endpoints are counted here. DEDUCED (log entry 10). -/
def endpointOf (o : Nat) : Nat :=
  let b := o % entStride / 0x100000
  if b = 3 then 2 else if b = 8 then 7 else b

/-- Whether an access of a path to a block waits behind a held write of the same path (R85). DEDUCED (log entry 10). -/
def State.waitsBehind (s : State) (p : Path) (o : Nat) : Bool :=
  (s.las.heldStg.any fun e => e.2.path == p && endpointOf e.2.off == endpointOf o) || s.las.heldJobs.any fun e => e.1 == p && e.2.1 == endpointOf o

/-- The group whose commit holds a write of a register, if one does (R85). DEDUCED (log entry 10). -/
def State.commitHolds (s : State) (d : RegDef) (o : Nat) : Option Grp :=
  match s.las.committing, grpOfOff o with
  | some g, some g' => if g == g' && s.loadState == lsCommit && d.maskOf (· = .stg) != 0 then some g else none
  | _, _ => none

/-- A write of one word to a register, past the holds of commits. -/
def State.wordWrite (s : State) (p : Path) (d : RegDef) (k : Nat) (v : Word) : State :=
  match s.bankOff k with
  | some b => s.offWrite p d k b v
  | none => s.wordNow p d k v

/-- A write of one word, held behind a commit of its group or behind an earlier held write of its path (R85). DEDUCED (log entry 10). -/
def State.wordHeld (s : State) (p : Path) (d : RegDef) (k : Nat) (v : Word) : State :=
  let o := k % entStride
  match s.commitHolds d o with
  | some g => s.setLas fun l => { l with heldStg := l.heldStg ++ [(g, ⟨p, o, k, v, 0xFFFFFFFF#32⟩)] }
  | none =>
    match s.las.heldStg.find? fun e => e.2.path == p && endpointOf e.2.off == endpointOf o with
    | some e => s.setLas fun l => { l with heldStg := l.heldStg ++ [(e.1, ⟨p, o, k, v, 0xFFFFFFFF#32⟩)] }
    | none => s.wordWrite p d k v

/-- A write of a whole aligned word by a path (R17). DEDUCED (log entry 10). -/
def State.csrWrite (s : State) (p : Path) (o : Nat) (v : Word) : State :=
  match s.keyAt p o with
  | none => s
  | some (d, k) =>
    if isLo d && d.writable then s.setAcs fun a => { a with holds := (p, k, v) :: unkeyed a.holds p k }
    else if isHi d then
      match keyed s.acs.holds p (k - 4), s.keyAt p (o - 4) with
      | some lo, some (d0, k0) =>
        ((s.setAcs fun a => { a with holds := unkeyed a.holds p (k - 4) }).wordHeld p d0 k0 lo).wordHeld p d k v
      | _, _ => s.wordHeld p d k v
    else s.wordHeld p d k v

/-- Whether a held write may be performed: its group's commit has ended, or no commit runs. -/
def State.heldFree (s : State) (g : Grp) : Bool := s.las.committing != some g || s.loadState != lsCommit

/-- The held writes whose groups' commits have ended are performed, in their order (R85). DEDUCED (log entry 4). -/
def State.heldWrites (s : State) : State :=
  let now := s.las.heldStg.filter fun e => s.heldFree e.1
  (s.setLas fun l => { l with heldStg := l.heldStg.filter fun e => !s.heldFree e.1 }).each now fun t e => match regAt e.2.off with
    | some d => t.wordWrite e.2.path d e.2.key e.2.value
    | none => t

/-- A write command: what follows in the same command. DEDUCED (log entry 4). -/
def State.writeDone (s : State) : State := s.releaseIn.drainAgain.settle

/-- A write of a path with its answer (R10, R11). -/
def State.pathWrite (s : State) (p : Path) (o : Nat) (v : Word) : State :=
  if csrFails o then s.send (.csr p false 0) else ((s.csrWrite p o v).writeDone).send (.csr p true 0)

/-- A read of a path with its answer. -/
def State.pathRead (s : State) (p : Path) (o : Nat) : State :=
  if csrFails o then s.send (.csr p false 0)
  else
    let r := s.csrRead p o
    r.1.send (.csr p true r.2)

end Sys2Proof.Machine
end

