-- ==== Sys2Proof/Machine/Cores.lean ====
section
/-!
DEFINITION. The Clicker cores' accesses: the store buffer, device loads and stores, fences, traps and timeouts (spec/01 R40, spec/15 R416 to R426).
-/
namespace Sys2Proof.Machine
open Sys2Proof

/-! ### The physical map (spec/01 R40) -/

/-- Where a core's access goes. -/
inductive CoreTarget where
  | mbox (o : Nat)
  | sram (o : Nat)
  | csr (o : Nat)
  | remote (sw o : Nat)
  | insole (a : Nat)
  | nowhere
deriving DecidableEq, Repr

def State.coreTarget (s : State) (a : Nat) : CoreTarget :=
  if a < 0x10000 then .mbox a
  else if 0x8000000 ≤ a ∧ a < 0x8200000 then .sram (a - 0x8000000)
  else if 0x10000000 ≤ a ∧ a < 0x14000000 then .csr (a - 0x10000000)
  else if 0x200000000 ≤ a ∧ a < 0x300000000 then
    let w := (a - 0x200000000) / 0x4000000
    if w = s.ownSw then .csr (a % 0x4000000) else .remote w (a % 0x4000000)
  else if 0x2000000000 ≤ a ∧ a < 0x4000000000 then .insole (a - 0x2000000000)
  else .nowhere

/-- Whether a target is a device region. -/
def CoreTarget.device : CoreTarget → Bool
  | .csr _ | .remote _ _ => true
  | _ => false

/-- The attribute EA of an address: that of the first entry, in order, whose range holds it (R417). DEDUCED (log entry 37). -/
def State.eaOf (s : State) (a : Nat) : Bool :=
  match (List.range 32).find? fun e => s.on F.CLK_RAT_ATTR_VALID (ent e) && decide (s.get F.CLK_RAT_BASE_ADDR (ent e) ≤ a / 65536) &&
      decide (a / 65536 ≤ s.get F.CLK_RAT_LIM_ADDR (ent e)) with
  | some e => s.on F.CLK_RAT_ATTR_EA (ent e)
  | none => false

/-- Management clocks since the reset of the Sole domain: 12 for every 25 of the Sole (spec/01 R26). DEDUCED (log entry 9). -/
def State.mgmtClk (s : State) : Nat := s.soleClk * 12 / 25

/-- Whether a core executes. -/
def State.coreRuns (s : State) (c : Nat) : Bool := decide (c < 4) && s.get F.CLK_CORE_STATUS_STATE (4 * c) == 1

/-! ### Completion (R418, R419) -/

/-- Whether a buffered store is complete: a device store in an EA region from its acceptance on. -/
def CStore.complete (x : CStore) : Bool := x.device && x.ea && x.accepted

/-- Whether an address lies in the Insole window. -/
def insoleAddr (a : Nat) : Bool := decide (0x2000000000 ≤ a) && decide (a < 0x4000000000)

/-- Whether a load is a device load on its way. -/
def CLoad.out (l : CLoad) : Bool := l.issued && !insoleAddr l.addr

/-- Response places in use (R423). -/
def CoreSt.places (x : CoreSt) : Nat := (x.sb.filter fun t => t.device && t.accepted).length + (x.loads.filter (·.out)).length

/-- The registers of a core kept with its buffer. -/
def State.syncCore (s : State) (c : Nat) : State :=
  let x := s.core c
  (s.put F.CLK_CORE_STATUS_SB (4 * c) (x.sb.filter fun t => !t.complete).length).put F.CLK_CORE_STATUS_OUT (4 * c) x.places

/-- The next device store of a core is accepted, in program order, while a response place is free (R418, R423). DEDUCED (log entry 37). -/
def CoreSt.accept (x : CoreSt) (expiry : Nat) : CoreSt :=
  match x.sb.find? fun t => t.device && !t.accepted with
  | none => x
  | some _ =>
    if 32 ≤ x.places then x
    else { x with sb := go x.sb }
where
  go : List CStore → List CStore
    | [] => []
    | t :: ts => if t.device && !t.accepted then { t with accepted := true, timer := some expiry } :: ts else t :: go ts

/-- Loads are issued that wait for no store to the same 64 KiB (R418). -/
def CoreSt.issue (x : CoreSt) (expiry : Nat) : CoreSt :=
  let ready (l : CLoad) : Bool := !l.issued && !insoleAddr l.addr && !x.sb.any fun t => t.device && !t.accepted && t.addr / 65536 == l.addr / 65536
  { x with loads := x.loads.map fun l => if ready l && decide (x.places < 32) then { l with issued := true, timer := some expiry } else l }

/-- What a FENCE or a trap waits for (R419, R421). -/
def CoreSt.release (x : CoreSt) : CoreSt :=
  let stores := x.sb.any fun t => !t.complete
  let f := match x.fence with
    | some (ow, ir) => if (ow && stores) || (ir && !x.loads.isEmpty) then x.fence else none
    | none => none
  { x with fence := f, trap := x.trap && stores }

/-- A core goes on: stores are accepted, loads issued, and a FENCE or trap that waits is released. -/
def State.corePump (s : State) (c : Nat) : State :=
  let e := s.mgmtClk + s.get F.CLK_STO_LIMIT 0
  (s.setCore c fun x => (((x.accept e).issue e).release)).syncCore c

/-- Whether a core waits: a FENCE before its successors, a trap before its handler. -/
def State.coreWaits (s : State) (c : Nat) : Bool := (s.core c).fence.isSome || (s.core c).trap

/-! ### Errors (R420) -/

/-- A store that has failed is reported. -/
def State.storeError (s : State) (c addr cause : Nat) : State :=
  let s1 := ((s.put F.CLK_STERR_ADDR_LO_ADDR (8 * c) addr).put F.CLK_STERR_ADDR_HI_ADDR (8 * c) (addr / 2 ^ 32)).put F.CLK_STERR_INFO_CAUSE (4 * c) cause
  ((s1.bump F.CLK_STERR_INFO_COUNT (4 * c) 1).put F.CLK_IRQ_PEND_STERR (4 * c) 1).occ 64 c

/-- A precise load access fault. -/
def State.loadFault (s : State) (c addr : Nat) : State := s.setCore c fun x => { x with mtval := some addr, faults := x.faults + 1 }

/-! ### Accesses -/

/-- A request of a core to the Insole window, by the Clicker's eyelet slot. -/
def State.coreInsole (s : State) (c addr a n : Nat) (load : Bool) (v : Word) : State :=
  let id := 2 ^ 121 + s.mgt.seq
  let m : Msg :=
    { id := id, via := 82, kind := .memM2S, op := if load then .memRd else .memWrPtl, metaV := .none, srcSw := s.ownSw, srcAg := 82, dstSw := s.ownSw,
      dstAg := 72, slice := 0, cls := 0, colour := .green, stamp := s.tim.num, body := if load then 1 else slotsFor n, hops := 0, space := .dpa, sid := 0,
      addr := a, len := n, pasid := none, tag := 0, data := if load then [] else leBytes n v.toNat, poison := false, status := .ok, devload := 0, be := false }
  (s.setMgt fun g => { g with seq := g.seq + 1, coreReqs := g.coreReqs ++ [(id, c, addr, load)] }).ingress 82 .none m

/-- The byte of a core's youngest buffered memory store at an address. -/
def CoreSt.ownByte (x : CoreSt) (a : Nat) : Option Byte :=
  (x.sb.reverse.find? fun t => !t.device && decide (t.addr ≤ a) && decide (a < t.addr + t.n)).map fun t => BitVec.ofNat 8 (t.data.toNat / 256 ^ (a - t.addr))

/-- The loads of the Insole window that no buffered memory store to the same bytes holds back leave. DEDUCED (log entry 37). -/
def State.coreLoadsGo (s : State) (c : Nat) : State :=
  let go (l : CLoad) : Bool :=
    !l.issued && insoleAddr l.addr && !(s.core c).sb.any fun t => !t.device && overlaps t.addr t.n l.addr l.n
  let now := (s.core c).loads.filter go
  (s.setCore c fun x => { x with loads := x.loads.map fun l => if go l then { l with issued := true } else l }).each now fun t l =>
    t.coreInsole c l.addr (l.addr - 0x2000000000) l.n true 0

/-- A store of a core. The store buffer holds 16. DEDUCED (log entry 37). -/
def State.coreStore (s : State) (c addr n : Nat) (v : Word) : State :=
  if !s.coreRuns c || s.coreWaits c || 16 ≤ ((s.core c).sb.filter fun t => !t.complete).length then s
  else
    let t := s.coreTarget addr
    let push (d : Bool) : State :=
      s.setCore c fun x => { x with sb := x.sb ++ [{ addr := addr, n := n, data := v, device := d, ea := d && s.eaOf addr, accepted := false, timer := none }] }
    match t with
    | .mbox o => s.setMgt fun g => { g with mbox := g.mbox.sets o (leBytes n v.toNat) }
    | .sram o => s.setMgt fun g => { g with sram := g.sram.sets o (leBytes n v.toNat) }
    | .insole a => ((push false).coreInsole c addr a n false v).syncCore c
    | .nowhere => s.loadFault c addr
    | _ => ((push true).count cbClk 3 c 0 1).corePump c

/-- A load of a core. AMOs, LR and SC fault at device regions, LR and SC also at the Insole window. A load of the Insole window takes its bytes from the core's own buffered stores where they hold
all of them (R418), and otherwise goes after the stores that hold some. DEDUCED (log entry 37). -/
def State.coreLoad (s : State) (c addr n : Nat) (acc : CoreAcc) : State :=
  if !s.coreRuns c || s.coreWaits c then s
  else
    let t := s.coreTarget addr
    let have_ (l : List Byte) : State := s.setCore c fun x => { x with result := BitVec.ofNat 32 (leNat l) }
    match t with
    | .mbox o => have_ (s.mgt.mbox.gets o n)
    | .sram o => have_ (s.mgt.sram.gets o n)
    | .insole _ =>
      let own := (List.range n).filterMap fun i => (s.core c).ownByte (addr + i)
      if acc = .lrsc then s.loadFault c addr
      else if own.length = n then have_ own
      else (s.setCore c fun x => { x with loads := x.loads ++ [⟨addr, n, false, none⟩] }).coreLoadsGo c
    | .nowhere => s.loadFault c addr
    | _ =>
      if acc ≠ .load then s.loadFault c addr
      else ((s.setCore c fun x => { x with loads := x.loads ++ [⟨addr, n, false, none⟩] }).count cbClk 2 c 0 1).corePump c

/-- A FENCE: `ow` where its predecessor set includes O or W, `ir` where it includes I or R. -/
def State.coreFence (s : State) (c : Nat) (ow ir : Bool) : State :=
  if !s.coreRuns c || s.coreWaits c then s else (s.setCore c fun x => { x with fence := some (ow, ir) }).corePump c

/-- A trap: the handler waits for the older stores (R421). -/
def State.coreTrap (s : State) (c : Nat) : State :=
  if !s.coreRuns c then s else (s.setCore c fun x => { x with trap := true }).corePump c

/-! ### Responses -/

/-- The error of an access to the local CSR space, as a cause of R420, zero where it succeeds (R10, R11). -/
def csrCause (o n : Nat) (write : Bool) : Nat :=
  if csrFails (o / 4 * 4) || (write && (n != 4 || o % 4 != 0)) || o % n != 0 then 3 else 0

/-- The effect of an accepted store at the local CSR space. DEDUCED (log entry 37). -/
def State.storeEffect (s : State) (c : Nat) (x : CStore) : State :=
  match s.coreTarget x.addr with
  | .csr o => if csrCause o x.n true = 0 then s.csrWrite (.core c) o x.data else s
  | _ => s

/-- The cause a store's response reports: that of the local space, or of the remote answer. -/
def State.storeCause (s : State) (x : CStore) (err : Nat) : Nat :=
  match s.coreTarget x.addr with
  | .csr o => csrCause o x.n true
  | _ => err % 5

/-- The oldest accepted device store leaves the buffer. -/
def dropStore : List CStore → List CStore
  | [] => []
  | t :: ts => if t.device && t.accepted then ts else t :: dropStore ts

/-- The write response of the oldest accepted device store, or of one discarded by a reset or reported as timed out (R418, R420, R421). -/
def State.storeDone (s : State) (c err : Nat) (late : Bool) : State :=
  if 4 ≤ c then s
  else
    let x := s.core c
    if late then
      match x.expired with
      | [] => s
      | t :: ts => ((s.setCore c fun y => { y with expired := ts }).storeEffect c t).bump F.CLK_STERR_INFO_LATE (4 * c) 1
    else match x.dropped with
      | t :: ts => (s.setCore c fun y => { y with dropped := ts }).storeEffect c t
      | [] => match x.sb.find? fun t => t.device && t.accepted with
        | none => s
        | some t =>
          let cause := s.storeCause t err
          let s1 := (s.setCore c fun y => { y with sb := dropStore y.sb }).storeEffect c t
          (if cause = 0 then s1 else s1.storeError c t.addr cause).corePump c

/-- The oldest issued load leaves. -/
def dropLoad : List CLoad → List CLoad
  | [] => []
  | t :: ts => if t.out then ts else t :: dropLoad ts

/-- The response of the oldest issued device load: a local one reads the register, a remote one brings its value. -/
def State.loadDone (s : State) (c err : Nat) (v : Word) (late : Bool) : State :=
  if 4 ≤ c then s
  else
    let x := s.core c
    if late then
      (if x.lateLoads = 0 then s else (s.setCore c fun y => { y with lateLoads := y.lateLoads - 1 }).bump F.CLK_STERR_INFO_LATE (4 * c) 1)
    else match x.loads.find? (·.out) with
      | none => s
      | some l =>
        match s.coreTarget l.addr with
        | .csr o =>
          if s.waitsBehind (.core c) o then s
          else
            let s1 := s.setCore c fun y => { y with loads := dropLoad y.loads }
            if csrCause o l.n false ≠ 0 then (s1.loadFault c l.addr).corePump c
            else
              let r := s1.csrRead (.core c) (o / 4 * 4)
              (r.1.setCore c fun y => { y with result := BitVec.ofNat 32 (r.2.toNat / 256 ^ (o % 4) % 256 ^ l.n) }).corePump c
        | _ =>
          let s1 := s.setCore c fun y => { y with loads := dropLoad y.loads }
          (if err ≠ 0 then s1.loadFault c l.addr else s1.setCore c fun y => { y with result := v }).corePump c

/-- Accesses whose completion timeout has expired end in error (R420). -/
def State.accessTimeout (s : State) (c : Nat) : State :=
  let now := s.mgmtClk
  let past (e : Option Nat) : Bool := e.any fun t => decide (t ≤ now)
  let x := s.core c
  match x.sb.find? fun t => t.device && t.accepted && past t.timer with
  | some t => ((s.setCore c fun y => { y with sb := y.sb.erase t, expired := y.expired ++ [t] }).storeError c t.addr 1).corePump c
  | none => match x.loads.find? fun l => l.issued && past l.timer with
    | some l => ((s.setCore c fun y => { y with loads := y.loads.erase l, lateLoads := y.lateLoads + 1 }).loadFault c l.addr).corePump c
    | none => s

/-- The cause of a failed access of the Insole window. -/
def coreCause (st : Status) : Nat :=
  match st with
  | .ok => 0 | .access => 2 | .link => 4 | .timeout => 1 | _ => 3

/-- The answer to an access of the Insole window. -/
def State.coreAnswer (s : State) (m : Msg) : State :=
  match s.mgt.coreReqs.find? fun r => r.1 == m.id with
  | none => s
  | some (_, c, addr, load) =>
    let s1 := s.setMgt fun g => { g with coreReqs := g.coreReqs.filter fun r => r.1 != m.id }
    if load then
      let s2 := s1.setCore c fun y => { y with loads := y.loads.eraseP fun l => l.issued && l.addr == addr }
      (if coreCause m.status ≠ 0 || m.poison then s2.loadFault c addr
       else s2.setCore c fun y => { y with result := BitVec.ofNat 32 (leNat (m.data.take 4)) }).corePump c
    else
      let s2 := s1.setCore c fun y => { y with sb := y.sb.eraseP fun t => !t.device && t.addr == addr }
      ((if coreCause m.status = 0 then s2 else s2.storeError c addr (coreCause m.status)).corePump c).coreLoadsGo c

/-! ### The Shank (R426) -/

/-- A bad packet at a router: cured by the second copy, or lost for good. -/
def State.shankError (s : State) (x y : Nat) (cured : Bool) : State :=
  if cured then s.bump F.CLK_SHANK_STATUS_RETRIES 0 1
  else (((s.put F.CLK_SHANK_STATUS_FAIL_X 0 x).put F.CLK_SHANK_STATUS_FAIL_Y 0 y).put F.CLK_SHANK_STATUS_FAIL_VALID 0 1).occAt 19 0 none

end Sys2Proof.Machine
end

