-- ==== Sys2Proof/Machine/Mctp.lean ====
section
/-!
DEFINITION. MCTP: packets, the bridge, control messages, vendor commands, the debug session, FM API commands, and what the Clicker complex does
with messages that reach it over the crossbar (spec/12 R352, R353, spec/15 R402 to R409, R413, spec/20 R510).
-/
namespace Sys2Proof.Machine
open Sys2Proof

/-! ### Packets and the bridge (R402 to R405) -/

/-- The message types served. -/
def mctpTypes : List Nat := [0, 5, 6, 7, 0x7E]

/-- Whether a binding serves: 0 PCIe VDM, 1 I3C. In the recovery state only I3C does (R409). -/
def State.bindingOn (s : State) (path : Nat) : Bool :=
  if path = 0 then s.on F.CLK_MCTP_CFG_VDM_EN 0 && !s.las.recovery else path == 1 && s.on F.CLK_MCTP_CFG_I3C_EN 0

/-- The module's endpoint ID on a binding. -/
def State.ownEid (s : State) (path : Nat) : Nat := if path = 0 then s.get F.CLK_MCTP_STATUS_VDM_EID 0 else s.get F.CLK_MCTP_STATUS_I3C_EID 0

def State.reasmDrop (s : State) : State := s.bump F.CLK_MCTP_CNT_REASM_DROP 0 1

/-- A message toward the Clicker complex of another module (R404). -/
def State.mctpMsg (s : State) (sw : Nat) (src dst tag : Nat) (data : List Byte) : Msg :=
  { id := 2 ^ 122 + s.mgt.seq, via := 82, kind := .mctp, op := .mctp, metaV := .none, srcSw := s.ownSw, srcAg := 82, dstSw := sw, dstAg := 82,
    slice := s.get F.BND_AGSL_SLICE (4 * 10), cls := 0, colour := .green, stamp := s.tim.num, body := slotsFor data.length, hops := 0, space := .bus,
    sid := dst, addr := src, len := data.length, pasid := none, tag := tag, data := data, poison := false, status := .ok, devload := 0, be := false }

/-- A packet for an endpoint of the bridge's pool goes to its module, or is discarded without a usable route (R404). PRESUMED (log entry 35). -/
def State.mctpBridge (s : State) (path sw src dst tag : Nat) (body : List Byte) : State :=
  if !s.on F.CLK_MCTP_CFG_BRIDGE_EN 0 || (path == 1 && !s.mgt.i3cPool) then s
  else if !s.usable sw then s.bump F.CLK_MCTP_CNT_UNROUTED 0 1
  else (s.setMgt fun g => { g with seq := g.seq + 1 }).enqueue 82 (s.mctpMsg sw src dst tag body)

/-- A message is complete: its request is outstanding from now on, at most 8 of one source (R405). -/
def State.mctpWhole (s : State) (src tag : Nat) : State :=
  if 8 ≤ (s.mgt.open_.filter fun e => e.1 == src).length then s.reasmDrop else s.setMgt fun g => { g with open_ := g.open_ ++ [(src, tag)] }

/-- Whether a message is a CSR_READ or CSR_WRITE, which the CSR agent executes: the command follows the vendor ID (R406, R407). -/
def csrMessage (ty : Nat) (body : List Byte) : Bool := ty == 0x7E && (body[2]? == some 1 || body[2]? == some 2)

/-- A packet arrives (R403): bridged, reassembled or dropped. A packet that starts a message over another of its source and tag replaces it. A request
for firmware that arrives while none runs is discarded and counted (spec/16 R440). -/
def State.mctpPacket (s : State) (path src dst tag ty : Nat) (som eom : Bool) (body : List Byte) : State :=
  if !s.bindingOn path then s
  else if dst ≠ 0 ∧ dst ≠ s.ownEid path then
    (match s.poolSw dst with | some w => s.mctpBridge path w src dst tag body | none => s)
  else
    let old := s.mgt.reasm.find? fun r => r.src == src && r.tag == tag
    let s0 := s.setMgt fun g => { g with reasm := g.reasm.filter fun r => !(r.src == src && r.tag == tag) }
    let go (b : List Byte) : State :=
      if 8192 < b.length then s0.reasmDrop
      else if eom && s0.restarting && !csrMessage ty b then s0.reasmDrop
      else if eom then s0.mctpWhole src tag
      else if 16 ≤ s0.mgt.reasm.length then s0.reasmDrop
      else s0.setMgt fun g => { g with reasm := g.reasm ++ [⟨src, tag, b⟩] }
    if som then (if mctpTypes.contains ty then go body else s0.bump F.CLK_MCTP_CNT_UNSUPPORTED 0 1)
    else match old with
      | some r => go (r.body ++ body)
      | none => s

/-- Whether a request is the next of its source: none of its other requests is older (R405). -/
def State.mctpTurn (s : State) (eid tag : Nat) : Bool :=
  match s.mgt.open_.find? fun e => e.1 == eid with
  | some e => e.2 == tag
  | none => true

/-- A response leaves, and the request is no longer outstanding. -/
def State.answer (s : State) (eid tag ty cmd cc : Nat) (body : List Byte) : State :=
  (s.setMgt fun g => { g with open_ := g.open_.erase (eid, tag) }).send (.mctp eid ty cmd cc body)

/-- A request in its turn; outside the recovery state, or one that it serves. -/
def State.request (s : State) (eid tag ty cmd : Nat) (recovery : Bool) (f : State → State) : State :=
  if !s.mctpTurn eid tag then s
  else if s.las.recovery && !recovery then s.answer eid tag ty cmd 5 []
  else f s

/-- A request that firmware executes: while none runs, one that has arrived waits, and one that arrives is discarded and counted (spec/16 R440). -/
def State.fwRequest (s : State) (eid tag : Nat) (i : Instr) (f : State → State) : State :=
  if s.restarting && !s.mgt.open_.contains (eid, tag) then s.reasmDrop else s.firmware 0 i f

/-! ### Control messages (R402, R404) -/

/-- Set Endpoint ID: the binding's endpoint ID; at the first one on PCIe VDM a bridge requests its pool. PRESUMED (log entry 35). -/
def State.setEid (s : State) (path eid tag new : Nat) : State :=
  s.request eid tag 0 1 true fun t =>
    if !t.bindingOn path then t
    else if new % 256 = 0 ∨ new % 256 = 255 then t.answer eid tag 0 1 2 []
    else
      let t1 := if path = 0 then t.put F.CLK_MCTP_STATUS_VDM_EID 0 new else t.put F.CLK_MCTP_STATUS_I3C_EID 0 new
      let first := path == 0 && !t.mgt.vdmSet
      let t2 := if path = 0 then t1.setMgt fun g => { g with vdmSet := true } else t1
      let t3 := if first && t.on F.CLK_MCTP_CFG_BRIDGE_EN 0 && t.mgmtPort.isSome then
          (t2.setMgt fun g => { g with poolReq := true }).send (.mctp eid 0 8 0 [64])
        else t2
      t3.answer eid tag 0 1 0 [0, BitVec.ofNat 8 new]

/-- The bus owner grants the pool that was requested, or the BMC one on I3C. -/
def State.allocEids (s : State) (path base n : Nat) : State :=
  if n < 64 then s
  else if path = 0 then
    (if s.mgt.poolReq then
      ((s.setMgt fun g => { g with poolReq := false }).put F.CLK_MCTP_STATUS_POOL_BASE 0 base).put F.CLK_MCTP_STATUS_POOL_VALID 0 1
     else s)
  else
    let s1 := s.setMgt fun g => { g with i3cPool := true }
    if s.on F.CLK_MCTP_STATUS_POOL_VALID 0 then s1 else (s1.put F.CLK_MCTP_STATUS_POOL_BASE 0 base).put F.CLK_MCTP_STATUS_POOL_VALID 0 1

/-- Get Endpoint ID. PRESUMED (log entry 35). -/
def State.getEid (s : State) (path eid tag : Nat) : State :=
  s.request eid tag 0 2 true fun t => t.answer eid tag 0 2 0 [BitVec.ofNat 8 (t.ownEid path), BitVec.ofNat 8 (16 * bit (t.on F.CLK_MCTP_CFG_BRIDGE_EN 0)), 0]

/-- The version's four bytes are left open. -/
def State.getMctpVersion (s : State) (eid tag : Nat) : State :=
  s.request eid tag 0 4 true fun t => (t.answer eid tag 0 4 0 (1 :: leBytes 4 t.freeVal)).usedFree

/-- Get Message Type Support. PRESUMED (log entry 35). -/
def State.getMctpTypes (s : State) (eid tag : Nat) : State :=
  s.request eid tag 0 5 true fun t => t.answer eid tag 0 5 0 (5 :: mctpTypes.map (BitVec.ofNat 8 ·))

/-- One vendor set: PCI, vendor ID 0x2D5A, with a command set whose number is left open. -/
def State.getMctpVendor (s : State) (eid tag : Nat) : State :=
  s.request eid tag 0 6 true fun t => (t.answer eid tag 0 6 0 ([0xFF, 0, 0x2D, 0x5A] ++ leBytes 2 t.freeVal)).usedFree

/-- Routing Information Update: acknowledged; the bridge routes by its pool. -/
def State.routingUpdate (s : State) (eid tag : Nat) : State := s.request eid tag 0 9 true fun t => t.answer eid tag 0 9 0 []

/-- A message reaches the Clicker complex over the fabric (R404): one for this module's endpoint is outstanding from now on; one for another
endpoint leaves through the bridge, over the management port where the module has one. PRESUMED (log entry 35). -/
def State.mctpArrive (s : State) (m : Msg) : State :=
  if m.sid = s.ownEid 0 ∨ m.sid = s.ownEid 1 ∨ ¬ s.on F.CLK_MCTP_CFG_BRIDGE_EN 0 ∨ ¬ s.on F.CLK_MCTP_STATUS_POOL_VALID 0 then
    (if s.mgt.open_.contains (m.addr, m.tag) then s else s.mctpWhole m.addr m.tag)
  else match s.mgmtPort with
    | some n =>
      (s.setMgt fun g => { g with seq := g.seq + 1 }).enqueue 82
        { s.mctpMsg s.ownSw m.addr m.sid m.tag m.data with kind := .io, op := .msg, dstAg := n, slice := m.slice }
    | none => s.send (.mctp m.sid 0 0 0 m.data)

/-! ### Vendor commands (R406 to R408, R413) -/

/-- The completion word of a vendor response: CC, REASON and the index in the upper byte of LEN. -/
def vendorCc (cc reason index : Nat) : Nat := cc + 256 * reason + 65536 * index

def State.vendor (s : State) (eid tag cmd cc : Nat) (body : List Byte) : State := s.answer eid tag 0x7E cmd cc body

/-- The access checks of a vendor CSR command at a register (R10, R11, R375, R382): the reason, zero where it passes, and the state with the
violation record of a rejection. The debug master reaches the locked part where no lock stops it (R384). PRESUMED (log entry 36). -/
def State.csrCheck (s : State) (slot o n k : Nat) : State × Nat :=
  if o % n ≠ 0 then (s, 1)
  else
    let sl := s.get F.BND_AGSL_SLICE (4 * (slot - 72))
    let m := { s.mctpMsg s.ownSw 0 0 0 [] with srcAg := slot, addr := o, len := n, slice := sl }
    let v := s.violOf slot m 4 k
    match s.lockedReason slot 4 o n k with
    | 0 =>
      let c := s.winCheck slot 4 0 sl o n k
      if c.1 ≠ 0 then (s.violate { v with reason := c.1, window := c.2, key := s.keyOf slot c.2 }, 3)
      else if slot ≠ 84 ∧ csrFails (o / 4 * 4) then (s, 2) else (s, 0)
    | r => (s.violate { v with reason := r }, if slot = 84 ∧ r = vLocked then 2 else if csrFails (o / 4 * 4) then 2 else 3)

/-- The registers of a CSR_READ from index `i` on: the values so far, and a failure as reason and index. -/
def State.readRegs (s : State) (p : Path) (slot o w : Nat) (acc : List Byte) (i : Nat) : Nat → State × List Byte × Option (Nat × Nat)
  | 0 => (s, acc, none)
  | n + 1 =>
    let a := o + 4 * i
    match s.csrCheck slot a w 0 with
    | (s1, 0) =>
      let r := s1.csrRead p (a / 4 * 4)
      State.readRegs r.1 p slot o w (acc ++ leBytes w (r.2.toNat / 256 ^ (a % 4))) (i + 1) n
    | (s1, e) => (s1, acc, some (e, i))

/-- The registers of a CSR_WRITE: a failure stops at its register, and the earlier ones stand. -/
def State.writeRegs (s : State) (p : Path) (slot o : Nat) (i : Nat) : List Word → State × Option (Nat × Nat)
  | [] => (s, none)
  | v :: vs =>
    match s.csrCheck slot (o + 4 * i) 4 1 with
    | (s1, 0) => State.writeRegs (s1.csrWrite p (o + 4 * i) v) p slot o (i + 1) vs
    | (s1, e) => (s1, some (e, i))

/-- CSR_READ. One that a held write of its path precedes waits behind it (R85). PRESUMED (log entry 36). -/
def State.vendorRead (s : State) (eid tag off width n : Nat) : State :=
  s.request eid tag 0x7E 1 false fun t =>
    if 3 ≤ width then t.vendor eid tag 1 (vendorCc 1 1 0) []
    else if 256 < n then t.vendor eid tag 1 2 []
    else if n = 0 then t.vendor eid tag 1 0 []
    else if width < 2 ∧ n ≠ 1 then t.vendor eid tag 1 (vendorCc 1 1 0) []
    else if t.waitsBehind (.mctp eid) off then
      t.setLas fun l => { l with heldJobs := l.heldJobs ++ [(.mctp eid, endpointOf off, .csrRead eid tag off width n)] }
    else
      let r := t.readRegs (.mctp eid) 82 off (2 ^ width) [] 0 n
      match r.2.2 with
      | none => r.1.vendor eid tag 1 0 r.2.1
      | some (e, i) => r.1.vendor eid tag 1 (vendorCc 1 e i) []

/-- CSR_WRITE, from the owner alone (R353, R407). PRESUMED (log entry 36). -/
def State.vendorWrite (s : State) (eid sw tag off width : Nat) (vals : List Word) : State :=
  s.request eid tag 0x7E 2 false fun t =>
    let o := t.ownerAccept eid sw
    if !o.2 then t.vendor eid tag 2 3 []
    else if 3 ≤ width then o.1.vendor eid tag 2 (vendorCc 1 1 0) []
    else if 256 < vals.length then o.1.vendor eid tag 2 2 []
    else if width ≠ 2 ∧ vals ≠ [] then o.1.vendor eid tag 2 (vendorCc 1 1 0) []
    else
      let r := o.1.writeRegs (.mctp eid) 82 off 0 vals
      (match r.2 with
       | none => r.1.vendor eid tag 2 0 []
       | some (e, i) => r.1.vendor eid tag 2 (vendorCc 1 e i) []).writeDone

/-- LAST_XFER (R408). PRESUMED (log entry 36). -/
def State.lastXfer (s : State) (eid sw tag len off : Nat) (data : List Byte) : State :=
  s.request eid tag 0x7E 3 false fun t =>
    let o := t.ownerAccept eid sw
    if !o.2 then t.vendor eid tag 3 3 []
    else if len = 0 then o.1.vendor eid tag 3 0 []
    else if len < 4 ∨ 8184 < len then o.1.vendor eid tag 3 2 []
    else
      let n := len - 4
      if n = 0 then o.1.vendor eid tag 3 0 []
      else if 33554432 < off + n then o.1.vendor eid tag 3 2 []
      else if t.loadBufLocked then
        let m := { t.mctpMsg t.ownSw 0 0 0 [] with addr := loadBuf + off, len := n }
        (o.1.violate { (t.violOf 82 m 3 1) with reason := vLoadBuf }).vendor eid tag 3 (vendorCc 1 4 0) []
      else (o.1.insWrite (loadBuf + off) ((data ++ List.replicate n 0).take n) false).vendor eid tag 3 0 []

/-- SEC_RELAY: the record goes to the enclave unchanged, from the owner; in the recovery state only FLASH_WRITE does (R391, R409). -/
def State.secRelay (s : State) (eid sw tag : Nat) (r : SecRec) : State :=
  s.request eid tag 0x7E 4 (r.op == opFlash) fun t =>
    let o := if t.las.recovery then (t, true) else t.ownerAccept eid sw
    if !o.2 || t.sec.running.isSome then o.1.vendor eid tag 4 3 []
    else
      let t1 := o.1.secCmd r
      t1.vendor eid tag 4 0 (leBytes 4 (t1.reg R.SEC_CMD_STATUS).toNat)

/-- EVENT_REPLAY (R413). -/
def State.eventReplay (s : State) (eid tag first n : Nat) : State :=
  s.request eid tag 0x7E 5 false fun t =>
    if 32 < n then t.vendor eid tag 5 2 []
    else if n = 0 then t.vendor eid tag 5 0 []
    else if t.goneRec first then t.vendor eid tag 5 4 []
    else t.vendor eid tag 5 0 (t.logRecords first n)

/-- MODULE_INFO; in the recovery state STATE is RECOVERY and the causes of the images follow, which are left open. -/
def State.moduleInfo (s : State) (eid tag : Nat) : State :=
  s.request eid tag 0x7E 6 true fun t =>
    let w (k : Nat) : List Byte := leBytes 4 (t.reg k).toNat
    let body := w R.GLB_SWITCH ++ w R.GLB_FABRIC_ID ++ w R.GLB_SERIAL_LO ++ w R.GLB_SERIAL_HI ++ w R.GLB_ID ++ leBytes 8 t.activeId ++
      leBytes 1 t.lifecycle ++ leBytes 1 (bit t.las.recovery)
    if t.las.recovery then (t.vendor eid tag 6 0 (body ++ leBytes 2 t.freeVal)).usedFree else t.vendor eid tag 6 0 body

/-- RECOVERY_BOOT: the complex is started from the named image (R409). -/
def State.recoveryBoot (s : State) (eid tag img : Nat) : State :=
  if !s.mctpTurn eid tag then s
  else if !s.las.recovery then s.vendor eid tag 7 5 []
  else
    (((s.vendor eid tag 7 0 []).setLas fun l => { l with recovery := false, bootFailed := [] }).setFlt fun f => { f with encAlert := false }).bootFrom
      (img % 2)

/-! ### The debug session (spec/20 R510) -/

/-- Whether debug commands are accepted on a binding. -/
def State.dbgOn (s : State) (path : Nat) : Bool :=
  !s.las.recovery && (if path = 0 then s.on F.DBG_CFG_VDM_EN 0 else s.on F.DBG_CFG_I3C_EN 0)

def State.dbgIdle (s : State) : Nat := s.after (s.get F.DBG_CFG_IDLE_LIMIT 0 * 1024)

/-- The session opens or closes. -/
def State.setDbg (s : State) (d : Option (Nat × Nat)) : State :=
  (s.setMgt fun g => { g with dbg := d, dbgRun := if d.isSome then g.dbgRun else none }).put F.DBG_STATUS_SESSION 0 (bit d.isSome)

def State.dbgOpen (s : State) (path eid tag : Nat) : State :=
  if !s.mctpTurn eid tag then s
  else if !s.dbgOn path then s.vendor eid tag 8 5 []
  else if s.mgt.dbg.isSome then s.vendor eid tag 8 3 []
  else
    let s1 := (s.setDbg (some (eid, s.dbgIdle))).put F.DBG_STATUS_DEBUG 0 (s.get F.SEC_STATUS_DEBUG 0)
    s1.vendor eid tag 8 0 (leBytes 4 (s1.reg R.DBG_STATUS).toNat)

/-- Whether a command comes from the session's endpoint. -/
def State.dbgMine (s : State) (eid : Nat) : Bool := match s.mgt.dbg with | some d => d.1 == eid | none => false

def State.dbgClose (s : State) (path eid tag : Nat) : State :=
  if !s.mctpTurn eid tag then s
  else if !s.dbgOn path then s.vendor eid tag 10 5 []
  else if !s.dbgMine eid then s.vendor eid tag 10 3 []
  else (s.setDbg none).vendor eid tag 10 0 []

/-- No DBG_ACCESS has arrived for the idle limit. -/
def State.dbgTimeout (s : State) : State :=
  match s.mgt.dbg with
  | some d => if s.due d.2 then s.setDbg none else s
  | none => s

/-- A rejected access of the debug master: counted, with its first byte. -/
def State.dbgDeny (s : State) (addr : Nat) : State :=
  (((s.bump F.DBG_STATUS_DENIED 0 1).put F.DBG_DENY_ADDR_LO_ADDR 0 addr).put F.DBG_DENY_ADDR_HI_ADDR 0 (addr / 2 ^ 32)).put F.DBG_DENY_ADDR_HI_VALID 0 1

/-- The next piece of the request in progress leaves, within one 64 B line. -/
def State.dbgIssue (s : State) (d : DbgRun) : State :=
  let a := d.addr + d.done
  let n := min (d.len - d.done) (64 - a % 64)
  let id := 2 ^ 124 + s.mgt.seq
  let sp : Space := if d.sp = 1 then .obj else if d.sp = 2 then .rgn else .dpa
  let m : Msg :=
    { id := id, via := 84, kind := .memM2S, op := if d.write then (if n = 64 then .memWr else .memWrPtl) else .memRd, metaV := .none, srcSw := s.ownSw,
      srcAg := 84, dstSw := s.ownSw, dstAg := 72, slice := 0, cls := 0, colour := .green, stamp := s.tim.num, body := if d.write then slotsFor n else 1,
      hops := 0, space := sp, sid := d.ident, addr := a, len := n, pasid := none, tag := 0, data := if d.write then (d.data.drop d.done).take n else [],
      poison := false, status := .ok, devload := 0, be := false }
  (s.setMgt fun g => { g with seq := g.seq + 1, dbgRun := some { d with wait := id } }).ingress 84 .none m

/-- DBG_ACCESS: one request of agent 84, checked whole against its slot; in CSR space each word is one register access. PRESUMED (log entry 36). -/
def State.dbgAccess (s : State) (path eid tag : Nat) (write : Bool) (sp ident len addr : Nat) (data : List Byte) : State :=
  if !s.mctpTurn eid tag then s
  else if !s.dbgOn path then s.vendor eid tag 9 5 []
  else if !s.dbgMine eid || s.mgt.dbgRun.isSome then s.vendor eid tag 9 3 []
  else
    let s1 := s.setDbg (some (eid, s.dbgIdle))
    let k := bit write
    if sp = 0 ∨ 4 < sp then s1.vendor eid tag 9 5 []
    else if len = 0 then s1.vendor eid tag 9 0 []
    else if 4096 < len ∨ (sp = 4 ∧ len % 4 ≠ 0) then s1.vendor eid tag 9 2 []
    else
      let sl := s1.get F.BND_AGSL_SLICE (4 * 12)
      let m := { s1.mctpMsg s1.ownSw 0 0 0 [] with srcAg := 84, addr := addr, len := len, slice := sl, sid := ident }
      let v := s1.violOf 84 m sp k
      let lr := s1.lockedReason 84 sp addr len k
      let c := s1.winCheck 84 sp ident sl addr len k
      if lr ≠ 0 then ((s1.violate { v with reason := lr }).dbgDeny addr).vendor eid tag 9 (vendorCc 1 (if lr = vLocked then 2 else 3) 0) []
      else if c.1 ≠ 0 then
        ((s1.violate { v with reason := c.1, window := c.2, key := s1.keyOf 84 c.2 }).dbgDeny addr).vendor eid tag 9 (vendorCc 1 3 0) []
      else if sp = 4 then
        if addr % 4 ≠ 0 then s1.vendor eid tag 9 (vendorCc 1 1 0) []
        else if s1.waitsBehind .debug addr && !write then
          s1.setLas fun l => { l with heldJobs := l.heldJobs ++ [(.debug, endpointOf addr, .dbgAccess path eid tag write sp ident len addr data)] }
        else if write then
          let ws := (List.range (len / 4)).map fun i => BitVec.ofNat 32 (leNat ((data.drop (4 * i)).take 4))
          let r := s1.writeRegs .debug 84 addr 0 ws
          (match r.2 with
           | none => r.1.vendor eid tag 9 0 []
           | some (e, i) => r.1.vendor eid tag 9 (vendorCc 1 e i) []).writeDone
        else
          let r := s1.readRegs .debug 84 addr 4 [] 0 (len / 4)
          match r.2.2 with
          | none => r.1.vendor eid tag 9 0 r.2.1
          | some (e, i) => r.1.vendor eid tag 9 (vendorCc 1 e i) []
      else (s1.dbgIssue { tag := tag, write := write, sp := sp, ident := ident, addr := addr, len := len, done := 0, wait := 0,
                          data := if write then (data ++ List.replicate len 0).take len else [] }).settle

/-- An answer to the debug master: the next piece, the end of the access, or its rejection. The reason of an access that fails otherwise is left open. -/
def State.dbgAnswer (s : State) (m : Msg) : State :=
  match s.mgt.dbgRun, s.mgt.dbg with
  | some d, some (eid, _) =>
    if d.wait ≠ m.id then s
    else
      let n := min (d.len - d.done) (64 - (d.addr + d.done) % 64)
      let s1 := s.setMgt fun g => { g with dbgRun := none }
      if m.status = .access then (s1.dbgDeny (d.addr + d.done)).vendor eid d.tag 9 (vendorCc 1 3 0) []
      else if m.status ≠ .ok then (s1.vendor eid d.tag 9 (vendorCc 1 (s1.freeVal % 256) 0) []).usedFree
      else
        let d1 := { d with done := d.done + n, data := if d.write then d.data else d.data ++ m.data.take n }
        if d1.len ≤ d1.done then s1.vendor eid d.tag 9 0 (if d.write then [] else d1.data) else s1.dbgIssue d1
  | _, _ => s

/-! ### FM API commands (spec/12 R352, R353) -/

def State.fmAnswer (s : State) (eid cmd cc : Nat) (body : List Byte) : State := s.send (.mctp eid 7 cmd cc body)

/-- The recovery state serves no FM API command (R409). PRESUMED (log entry 36). -/
def State.fmServed (s : State) (eid cmd : Nat) (f : State → State) : State := if s.las.recovery then s.fmAnswer eid cmd 3 [] else f s

/-- A command that only the owner may give; anyone else is refused with Busy. PRESUMED (log entry 36). -/
def State.fmOwned (s : State) (eid sw cmd : Nat) (f : State → State) : State :=
  s.fmServed eid cmd fun t =>
    let o := t.ownerAccept eid sw
    if o.2 then f o.1 else t.fmAnswer eid cmd 6 []

/-- Physical Port Control: 0 asserts PERST, 1 releases it, 2 resets the PPB. -/
def State.fmPort (s : State) (eid sw n op : Nat) : State :=
  s.fmOwned eid sw 0x5102 fun t =>
    if 64 ≤ n ∨ 2 < op then t.fmAnswer eid 0x5102 2 []
    else
      let v := t.reg (R.EP_LINK_CMD + dPort n)
      let w := if op = 0 then F.EP_LINK_CMD_DISABLE.upd v 1 else if op = 1 then F.EP_LINK_CMD_DISABLE.upd v 0 else F.EP_LINK_CMD_HOT_RESET.upd v 1
      (t.portCmdWrite n w).fmAnswer eid 0x5102 0 []

def State.fmBind (s : State) (eid sw v : Nat) (b : Bound) : State :=
  s.fmOwned eid sw 0x5201 fun t => let r := t.bindCmd none v b; r.1.fmAnswer eid 0x5201 (if r.2 = 0 then 0 else 2) []

def State.fmUnbind (s : State) (eid sw v umode : Nat) : State :=
  s.fmOwned eid sw 0x5202 fun t => let r := t.unbindCmd none v umode; r.1.fmAnswer eid 0x5202 (if r.2 = 0 then 0 else 2) []

/-- Generate AER Event: the error is reported at the vPPB's upstream port. -/
def State.fmAer (s : State) (eid v err : Nat) : State :=
  s.fmServed eid 0x5203 fun t => match t.upOf v with
    | some u => (t.send (.ctl u 5 (v + 1024 * err))).fmAnswer eid 0x5203 0 []
    | none => t.fmAnswer eid 0x5203 2 []

/-- Send PPB CXL.io Config Request: a configuration request of agent 82 to the partner of a port; its completion answers the command. -/
def State.fmConfig (s : State) (eid n rg : Nat) (write : Bool) (val len : Nat) : State :=
  s.fmServed eid 0x5103 fun t =>
    if 64 ≤ n then t.fmAnswer eid 0x5103 2 []
    else
      let id := 2 ^ 123 + t.mgt.seq
      let m : Msg :=
        { t.mctpMsg t.ownSw 0 0 0 [] with id := id, kind := .io, op := if write then .cfgWr else .cfgRd, dstAg := n, body := 1 + bit write, sid := 0, addr := rg,
                                          len := len, data := if write then leBytes len val else [] }
      ((t.setMgt fun g => { g with seq := g.seq + 1, fmReqs := g.fmReqs ++ [(id, eid)] }).enqueue 82 m).settle

/-- An MLD command is tunnelled to an LD through the mailbox of the partner. PRESUMED (log entry 36). -/
def State.fmTunnel (s : State) (eid n ld : Nat) (body : List Byte) : State :=
  s.fmServed eid 0x5300 fun t =>
    if 64 ≤ n ∨ t.get F.BND_PARTNER_KIND (ent n) ≠ 3 ∨ t.get F.BND_PARTNER_LDS (ent n) ≤ ld then t.fmAnswer eid 0x5300 2 []
    else (t.send (.port n { t.mctpMsg t.ownSw 0 0 0 body with dstAg := n, sid := ld })).fmAnswer eid 0x5300 0 []

/-- A DCD command on an export object adds extents from `ext` on at the end of its list, or releases its last ones (R352). PRESUMED (log entry 36). -/
def State.fmDcd (s : State) (eid sw obj ext : Nat) (add : Bool) (n : Nat) : State :=
  s.fmOwned eid sw (if add then 0x5604 else 0x5605) fun t =>
    let cmd := if add then 0x5604 else 0x5605
    let first := t.staged F.INS_OBJ_CFG_FIRST (ent obj)
    let cnt := t.staged F.INS_OBJ_CFG_COUNT (ent obj)
    if 512 ≤ obj ∨ t.staged F.INS_OBJ_CFG_VALID (ent obj) = 0 ∨ (add ∧ (2048 < first + cnt + n ∨ 2048 < ext + n)) ∨ (!add ∧ cnt < n) then t.fmAnswer eid cmd 2 []
    else
      let t1 := if add then
          (t.each (List.range n) fun u i => u.put F.INS_EXT_PEXT (ent (first + cnt + i)) (ext + i)).put F.INS_OBJ_CFG_COUNT (ent obj) (cnt + n)
        else t.put F.INS_OBJ_CFG_COUNT (ent obj) (cnt - n)
      let t2 := t1.setLas fun l => { l with direct := if l.direct.contains .ins then l.direct else l.direct ++ [.ins] }
      (((t2.setBnd fun b => { b with dcdArm := true }).dcdTry).fmAnswer eid cmd 0 [])

/-! ### Messages that reach the Clicker complex and the debug master (spec/01 R25, R39, R40) -/

/-- The registers of an access of the management BAR, as words of the path. DEDUCED (log entry 11). -/
def State.barRead (s : State) (a : Nat) (acc : List Byte) (i : Nat) : Nat → State × List Byte
  | 0 => (s, acc)
  | n + 1 =>
    let r := s.csrRead .bar (a + 4 * i)
    State.barRead r.1 a (acc ++ leBytes 4 r.2.toNat) (i + 1) n

/-- An access of the management BAR (R10, R11): narrow reads and whole words are performed, the rest is answered with completer abort.
DEDUCED (log entry 11). -/
def State.barAccess (s : State) (m : Msg) : State :=
  let a := m.addr % 0x4000000
  let n := accessLen m
  let words := n % 4 == 0 && a % 4 == 0 && !(List.range (n / 4)).any fun i => csrFails (a + 4 * i)
  if m.op = .mWr then
    let s1 := if words then
        s.each (List.range (n / 4)) fun t i => t.csrWrite .bar (a + 4 * i) (BitVec.ofNat 32 (leNat ((m.data.drop (4 * i)).take 4)))
      else s
    (s1.accepted 82 m).writeDone
  else if words then
    let r := s.barRead a [] 0 (n / 4)
    r.1.respond 82 m .cplD .ok r.2 false 0
  else if (n = 1 ∨ n = 2) ∧ a % n = 0 ∧ !csrFails (a / 4 * 4) then
    let r := s.csrRead .bar (a / 4 * 4)
    r.1.respond 82 m .cplD .ok (leBytes n (r.2.toNat / 256 ^ (a % 4))) false 0
  else s.respond 82 m .cpl .ca [] false 0

/-- A message for the Clicker complex. -/
def State.clickerTakes (s : State) (m : Msg) : State :=
  if isResp m.op then
    match s.mgt.fmReqs.find? fun r => r.1 == m.id with
    | some (_, eid) =>
      (s.setMgt fun g => { g with fmReqs := g.fmReqs.filter fun r => r.1 != m.id }).fmAnswer eid 0x5103 (if m.status = .ok then 0 else 2) m.data
    | none => s.coreAnswer m
  else match m.op with
    | .mRd | .mWr => s.barAccess m
    | .cfgRd | .cfgWr | .atomicOp | .mRdLk => s.respond 82 m .cpl .ur [] false 0
    | .mctp => s.mctpArrive m
    | _ => s

/-- Whether a message must wait behind a held write of the management BAR (R85). -/
def State.clickerWaits (s : State) (m : Msg) : Bool := (m.op == .mRd) && s.waitsBehind .bar (m.addr % 0x4000000)

/-- The Clicker complex and the debug master take what the crossbar has delivered to them. -/
def State.clickerStep (s : State) : State :=
  let now := s.sole.crossing.filter fun e => (e.1 == 82 && !s.clickerWaits e.2) || e.1 == 84
  (s.setSole fun o => { o with crossing := o.crossing.filter fun e => !((e.1 == 82 && !s.clickerWaits e.2) || e.1 == 84) }).each now fun t e =>
    if e.1 = 82 then t.clickerTakes e.2 else t.dbgAnswer e.2

/-! ### Releases of R85 -/

/-- The accesses that waited behind held writes are performed, in their order. DEDUCED (log entry 4); DEDUCED (log entry 10). -/
def State.heldJobsRun (s : State) : State :=
  let now := s.las.heldJobs
  if s.las.heldStg.isEmpty then
    (s.setLas fun l => { l with heldJobs := [] }).each now fun t e => match e.2.2 with
      | .loReadSnapshot p off => t.pathRead p off
      | .csrRead eid tag off width n => t.vendorRead eid tag off width n
      | .dbgAccess path eid tag write sp ident len addr data => t.dbgAccess path eid tag write sp ident len addr data
      | _ => t
  else s

/-- The group being committed has been written, and the writes held for it are performed (R85). -/
def State.heldRelease (s : State) : State := (s.grpDone.heldWrites.heldJobsRun).writeDone

/-- A read of a path as a command: it waits behind a held write of its path. -/
def State.readCmd (s : State) (p : Path) (o : Nat) : State :=
  if s.waitsBehind p o then s.setLas fun l => { l with heldJobs := l.heldJobs ++ [(p, endpointOf o, .loReadSnapshot p o)] } else s.pathRead p o

/-- The commit ends, and what waited for it goes on (R80, R85). -/
def State.commitEnd (s : State) : State := (s.commitDone.heldWrites.heldJobsRun.heldArms).writeDone

end Sys2Proof.Machine
end

