-- ==== Sys2Proof/Machine/Units.lean ====
section
/-!
DEFINITION. The guards of the commands: a command of a unit or a requester the part does not have stops with a fault, and a register write of a unit goes to the
unit's own offset.
-/
namespace Sys2Proof.Machine
open Sys2Proof

/-- The outcome of a command. -/
abbrev Outcome := Host.Outcome State Fault Refusal

/-- An effect on units that exist; a fault otherwise. DESIGN CHOICE (log entry 2). -/
def State.within (s : State) (ok : Bool) (f : State → State) : Outcome := if ok then .next (f s) else .fault .noSuchUnit

/-- A command's requester: the management BAR, the debug master, one of the four Clicker cores, an MCTP endpoint by its one-byte EID (R18, spec/01
R23). The loader's writes are no command. DESIGN CHOICE (log entry 2). -/
def isPath (p : Path) : Bool :=
  match p with
  | .bar => true
  | .debug => true
  | .core c => decide (c < 4)
  | .mctp e => decide (e < 256)
  | .loader => false

/-- Lane banks, lanes, edge ports, Mornu links, home agent slices, Insole channels and Clicker cores (spec/01 R23). DESIGN CHOICE (log entry 2). -/
def isBank (b : Nat) : Bool := decide (b < 20)
/-- The lanes of a bank. DESIGN CHOICE (log entry 2). -/
def isLane (b l : Nat) : Bool := decide (b < 20) && decide (l < 16)
/-- The edge ports. DESIGN CHOICE (log entry 2). -/
def isPort (n : Nat) : Bool := decide (n < 64)
/-- The Mornu links. DESIGN CHOICE (log entry 2). -/
def isLink (m : Nat) : Bool := decide (m < 8)
/-- The home agent slices. DESIGN CHOICE (log entry 2). -/
def isHome (h : Nat) : Bool := decide (h < 4)
/-- The Insole channels. DESIGN CHOICE (log entry 2). -/
def isChan (c : Nat) : Bool := decide (c < 4)
/-- The Clicker cores. DESIGN CHOICE (log entry 2). -/
def isCore (c : Nat) : Bool := decide (c < 4)
/-- The modules of a fabric. DESIGN CHOICE (log entry 2). -/
def isSwitch (w : Nat) : Bool := decide (w < 64)

end Sys2Proof.Machine
end

