-- ==== Sys2Proof/Machine/CmdAccess.lean ====
section
/-!
DEFINITION. The commands of register access, the stitch clock, swaps and alignment (spec/00, spec/02).
-/
namespace Sys2Proof.Machine
open Sys2Proof

/-! ### Register access (R13 to R17) -/

/-- A write of a register that has no row of its own takes effect by the access code of each field (R13). -/
def execRegisterWrite (p : Path) (off : Nat) (v : Word) (s : State) : Outcome :=
  s.within (isPath p) fun t => t.pathWrite p off v

/-- A read of a register; that of a _LO takes the snapshot of its _HI for the path (R16). -/
def execLoReadSnapshot (p : Path) (off : Nat) (s : State) : Outcome :=
  s.within (isPath p) fun t => t.readCmd p off

/-- A write of a _LO is held for the path until its _HI is written (R17). -/
def execLoWriteHold (p : Path) (off : Nat) (v : Word) (s : State) : Outcome :=
  s.within (isPath p) fun t => t.pathWrite p off v

/-- A write of a _HI applies both words (R17). -/
def execHiWriteApply (p : Path) (off : Nat) (v : Word) (s : State) : Outcome :=
  s.within (isPath p) fun t => t.pathWrite p off v

/-- A write of a word of FLT_STICKY clears the bits written 1 (R435). -/
def execStickyBitClear (p : Path) (off : Nat) (v : Word) (s : State) : Outcome :=
  s.within (isPath p) fun t => t.pathWrite p off v

/-! ### Boundaries and swaps (R44 to R59) -/

/-- A stitch ends, and the work of the boundary is done (R47). -/
def execStitchBoundary (smp : Samples) (s : State) : Outcome :=
  .next (s.boundary smp)

/-- A write of GLB_STITCH_CTL: RUN starts the counter (R45). -/
def execStitchRun (p : Path) (v : Word) (s : State) : Outcome :=
  s.within (isPath p) fun t => t.pathWrite p R.GLB_STITCH_CTL v

/-- A write of LAST_SWAP_CTL: ARM arms a swap, or is refused (R55). -/
def execSwapArm (p : Path) (v : Word) (s : State) : Outcome :=
  s.within (isPath p) fun t => t.pathWrite p R.LAST_SWAP_CTL v

/-- A write of LAST_SWAP_CTL: DISARM cancels the swap before its lock point (R56). -/
def execSwapDisarm (p : Path) (v : Word) (s : State) : Outcome :=
  s.within (isPath p) fun t => t.pathWrite p R.LAST_SWAP_CTL v

/-- A masked block applies its staged values at its instant of the target boundary (R57). -/
def execSwapApply (g : Grp) (unit : Nat) (s : State) : Outcome :=
  s.within ((State.armRx.blocks g).contains unit) fun t => (t.swapApply g unit).writeDone

/-- A block receives the arm state over the Shank (R48, R49). -/
def execArmStateRx (g : Grp) (unit : Nat) (s : State) : Outcome :=
  s.within ((State.armRx.blocks g).contains unit) fun t => t.armRx g unit

/-- A block that received the arm state too late applies it at its first boundary after that (R49). -/
def execSwapLateApply (g : Grp) (unit : Nat) (s : State) : Outcome :=
  s.within ((State.armRx.blocks g).contains unit) fun t => (t.swapLate g unit).writeDone

/-! ### Alignment (R61 to R67) -/

/-- A stitch marker arrives on a Mornu link (R64). -/
def execStitchMarkerRx (m : Nat) (mk : Marker) (rootOfs : Int) (arrival : Int) (s : State) : Outcome :=
  s.within (isLink m) fun t => t.markerRx m mk rootOfs arrival

/-- Sixty-four stitches within 8 ns take ACQUIRE to ALIGNED (R67). -/
def execAlignAcquired (s : State) : Outcome :=
  .next ((s.alignAcquired).settle)

/-- Four stitches beyond 40 ns take ALIGNED to OUT (R67). -/
def execAlignLost (s : State) : Outcome :=
  .next ((s.alignLost).settle)

/-- The source is lost: HOLDOVER from ALIGNED, OUT from ACQUIRE (R67). -/
def execSourceLost (s : State) : Outcome :=
  .next ((s.sourceLost).settle)

/-- The holdover limit has passed: OUT (R67). -/
def execHoldoverExpiry (s : State) : Outcome :=
  .next ((s.holdExpiry).settle)

/-- A backup root takes over (R62). -/
def execBackupRootTakeover (s : State) : Outcome :=
  .next ((s.backupTakes).settle)

/-- A pulse of STITCH_IN under PIN (R66). -/
def execStitchInPulse (long : Bool) (period : Nat) (ofs : Int) (s : State) : Outcome :=
  .next (s.pinPulse long period ofs)

/-! ### Epochs (R53) -/

/-- An epoch ends and closes its periods (R53). -/
def execEpochEnd (e : Epoch) (s : State) : Outcome :=
  .next ((s.epochEnd e).writeDone)

end Sys2Proof.Machine
end

