-- ==== Sys2Proof/Machine/CmdInsole.lean ====
section
/-!
DEFINITION. The commands of the Insole: channels, tags, remap entries, migrations and shelves (spec/11).
-/
namespace Sys2Proof.Machine
open Sys2Proof

/-- Requests whose lookup was held are examined again at once: those of the home agents at their slice, the others at step 6. -/
def State.lookAgain (s : State) (l : List (Nat × Msg)) : State :=
  s.each l fun t e => if 76 ≤ e.1 ∧ e.1 ≤ 79 then t.homeIssue (e.1 - 76) e.2 else t.tierStep e.1 e.2

/-- A remap entry has been fetched (R309, R310). -/
def State.remapFilled (s : State) (rng gran out : Nat) : State :=
  let r := s.remapFill rng gran out
  (r.1.lookAgain r.2).writeDone

/-- A channel read returns to its client: 0 the pool, 1 the home path, 3 the patrol (R294, R295). -/
def State.insReadDone (s : State) (ch client out : Nat) : State :=
  match client with
  | 0 => (s.poolReadDone ch out).writeDone
  | 1 => (s.homeReadDone ch out).writeDone
  | 3 => (s.eccRead (s.scrubAddr ch) out).1.settle
  | _ => s

/-- The engine starts its next migration; that of a coherent granule goes on by migration reads (R290, R314). -/
def State.migrationStart (s : State) : State :=
  let s1 := s.migNext s.coherentGran
  let new := s1.ins.migs.filter fun g => !(s.ins.migs.any fun x => x.rng == g.rng && x.gran == g.gran)
  (s1.each new fun t g => t.migIssue g.rng g.gran).writeDone

/-- The writes of a migration's source are complete and its copy begins (R314). -/
def State.migrationDrained (s : State) (rng gran : Nat) : State := ((s.migDrained rng gran).migIssue rng gran).writeDone

/-- The copied data of a demotion or of a cleaning, as the one record it leaves the module in. -/
def State.migRecord (s : State) (g : Mig) : Msg :=
  let a := s.frameAddr g.frame 0
  { id := 2 ^ 110 + g.rng * 2 ^ 40 + g.gran, via := 83, kind := .memM2S, op := .memWr, metaV := .none, srcSw := s.ownSw, srcAg := 83,
    dstSw := s.ownSw, dstAg := s.rngPort g.rng, slice := 0, cls := 0, colour := .green, stamp := s.tim.num, body := 4096, hops := 0,
    space := .dpa, sid := 0, addr := s.backAddr g.rng g.gran, len := 65536, pasid := some (s.get F.INS_TR_CFG_LD (ent g.rng)), tag := g.gran,
    data := s.ins.mem.gets a 65536, poison := s.rangePoison a 65536, status := .ok, devload := 0, be := false }

/-- The lines of a promotion are written to its frame, those of `data` in order. DEDUCED (log entry 26). -/
def State.migFill (s : State) (g : Mig) (data : List Byte) (poison : Bool) : State :=
  s.each (List.range 1024) fun t i => t.insWrite (t.frameAddr g.frame (64 * i)) ((data.drop (64 * i)).take 64) poison

/-- Whether some channel is fenced: a 64 KiB frame has blocks on each, and a write to one of a fenced channel is not accepted (R315, R322). -/
def State.frameWriteFails (s : State) : Bool := [0, 1, 2, 3].any fun c => s.on F.INS_CH_STATUS_FENCED (4 * c)

/-- The copy of a granule that is not coherent ends, or has failed (R314, R315). -/
def State.migrationCopied (s : State) (rng gran : Nat) (ok : Bool) (data : List Byte) (poison : Bool) : State :=
  match s.mig? rng gran with
  | none => s
  | some g =>
    if !g.copying || g.coh then s
    else if !ok || !s.backBound rng || (g.kind == 0 && s.frameWriteFails) then (releaseHeld (s.migAbandon g)).writeDone
    else if g.kind = 0 then (releaseHeld ((s.migFill g data poison).migSwitch g)).writeDone
    else (releaseHeld ((s.send (.port (s.rngPort rng) (s.migRecord g))).migSwitch g)).writeDone

/-- The cleaning pass of a shelf ends once none of its write-backs runs: CLEAN, told to the Clicker or shown by an event (R319, R351).
DEDUCED (log entry 26). -/
def State.cleanEnd (s : State) (sh : Nat) : State :=
  if s.shelfState sh = 1 ∧ (s.ins.migs.all fun g => g.kind != 2 || s.rngShelf g.rng != sh) then
    let s1 := (s.setShelf sh 2).setIns fun i => { i with cleaning := i.cleaning.filter (· != sh) }
    let s2 := if s1.bndShelf sh = 1 then s1.shelfParking sh
      else s1.event clsBind 0xB sh 4 (s1.bndShelf sh + s1.get F.INS_SHELF_STATUS_DIRTY (ent sh) * 65536)
    (s2.gpfStep).writeDone
  else s

/-- The shelves. DESIGN CHOICE (log entry 2). -/
def isShelf (sh : Nat) : Bool := decide (sh < 64)

/-! ### Channels (R294 to R297, R321, R322) -/

/-- A channel serves one access under its weighted round robin (R296). -/
def execInsoleRequest (ch : Nat) (s : State) : Outcome :=
  s.within (isChan ch) fun t => (t.insServe ch).writeDone

/-- A read of a channel returns (R294). -/
def execInsoleReadDone (ch : Nat) (client : Nat) (out : Nat) (s : State) : Outcome :=
  s.within (isChan ch) fun t => t.insReadDone ch client out

/-- The start-up of the Insole ends, or stops at a channel that failed training (R321, R496). -/
def execInsoleStartupDone (trained : List Bool) (s : State) : Outcome :=
  .next ((s.insoleStarted trained).writeDone)

/-- A lasting fault of a channel (R322). -/
def execChannelFault (ch : Nat) (s : State) : Outcome :=
  s.within (isChan ch) fun t => (t.occ 96 ch).writeDone

/-! ### Tags and remap entries (R305, R309) -/

/-- A write of INS_TAG_WR: GO queues a tag write, or is refused (R305). -/
def execTagWriteGo (p : Path) (v : Word) (s : State) : Outcome :=
  s.within (isPath p) fun t => t.pathWrite p R.INS_TAG_WR v

/-- A line of tags arrives (R305). -/
def execTagCacheFillDone (line : Nat) (out : Nat) (s : State) : Outcome :=
  .next ((s.tagFilled line out).writeDone)

/-- A remap entry arrives from the table (R309, R310). -/
def execRemapFillDone (rng : Nat) (gran : Nat) (out : Nat) (s : State) : Outcome :=
  .next (s.remapFilled rng gran out)

/-! ### Migration (R312 to R317) -/

/-- The heat scan ends with its candidate lists (R312). -/
def execHeatScanEnd (s : State) : Outcome :=
  .next (s.scanDone)

/-- The engine starts a migration (R314). -/
def execMigrationStart (s : State) : Outcome :=
  .next (s.migrationStart)

/-- The source's outstanding writes are complete (R314, step 2). -/
def execMigrationWritesDrained (rng : Nat) (gran : Nat) (s : State) : Outcome :=
  .next (s.migrationDrained rng gran)

/-- Every copy write has been accepted, or the copy has failed (R314, R315). -/
def execMigrationCopyDone (rng : Nat) (gran : Nat) (ok : Bool) (data : List Byte) (poison : Bool) (s : State) : Outcome :=
  .next (s.migrationCopied rng gran ok data poison)

/-- A demoted frame is freed (R314, step 5). -/
def execFrameFree (frame : Nat) (s : State) : Outcome :=
  .next ((s.frameFreeDone frame).writeDone)

/-- A write of INS_GCMD: PROMOTE (R317). -/
def execGcmdPromote (p : Path) (v : Word) (s : State) : Outcome :=
  s.within (isPath p) fun t => t.pathWrite p R.INS_GCMD v

/-- A write of INS_GCMD: DEMOTE (R317). -/
def execGcmdDemote (p : Path) (v : Word) (s : State) : Outcome :=
  s.within (isPath p) fun t => t.pathWrite p R.INS_GCMD v

/-- A write of INS_GCMD: PIN (R317). -/
def execGcmdPin (p : Path) (v : Word) (s : State) : Outcome :=
  s.within (isPath p) fun t => t.pathWrite p R.INS_GCMD v

/-- A write of INS_GCMD: UNPIN (R317). -/
def execGcmdUnpin (p : Path) (v : Word) (s : State) : Outcome :=
  s.within (isPath p) fun t => t.pathWrite p R.INS_GCMD v

/-- A write of INS_GCMD: RESET (R317). -/
def execGcmdReset (p : Path) (v : Word) (s : State) : Outcome :=
  s.within (isPath p) fun t => t.pathWrite p R.INS_GCMD v

/-! ### Shelves (R318, R319) -/

/-- A write of INS_SHELF_CMD: CLEAN (R319). -/
def execShelfClean (p : Path) (v : Word) (s : State) : Outcome :=
  s.within (isPath p) fun t => t.pathWrite p R.INS_SHELF_CMD v

/-- A write of INS_SHELF_CMD: RELEASE (R318). -/
def execShelfRelease (p : Path) (v : Word) (s : State) : Outcome :=
  s.within (isPath p) fun t => t.pathWrite p R.INS_SHELF_CMD v

/-- The cleaning pass of a shelf ends (R319). -/
def execCleaningPassEnd (sh : Nat) (s : State) : Outcome :=
  s.within (isShelf sh) fun t => t.cleanEnd sh

end Sys2Proof.Machine
end

