-- ==== Sys2Proof/Machine/CmdBinding.lean ====
section
/-!
DEFINITION. The commands of binding, slices and the wake budget (spec/12).
-/
namespace Sys2Proof.Machine
open Sys2Proof

def isSlice (sl : Nat) : Bool := decide (sl < 512)
def isVppb (v : Nat) : Bool := decide (v < 1024)

/-! ### Discovery and binding (R325 to R331) -/

/-- Discovery of a partner ends (R325), with the policy bindings of R331. -/
def execDiscoveryComplete (n : Nat) (kind : Nat) (lds : Nat) (dcd : Bool) (xr : Bool) (sn : Option Nat) (vendor : Nat) (s : State) : Outcome :=
  s.within (isPort n) fun t => (t.firmware 0 (.discoveryComplete n kind lds dcd xr sn vendor) fun u => u.discoveryDone n ⟨kind, lds, dcd, xr, sn, vendor⟩).writeDone

/-- The discovery limit has passed (R325). -/
def execDiscoveryTimeout (n : Nat) (s : State) : Outcome :=
  s.within (isPort n) fun t => (t.discoveryTimeout n).settle

/-- A write of BND_BCMD: GO with OP BIND (R328). -/
def execBindCommand (p : Path) (v : Word) (s : State) : Outcome :=
  s.within (isPath p) fun t => t.pathWrite p R.BND_BCMD v

/-- A write of BND_BCMD: GO with OP UNBIND (R329). -/
def execUnbindCommand (p : Path) (v : Word) (s : State) : Outcome :=
  s.within (isPath p) fun t => t.pathWrite p R.BND_BCMD v

/-- The Management instant of a boundary: every checked bind applies (R328), and held headers go on (R324). -/
def execBindApply (s : State) : Outcome :=
  .next ((s.bindApply).writeDone)

/-- A binding is removed at the boundary its mode gives (R329). -/
def execUnbindApply (v : Nat) (hostDown : Bool) (s : State) : Outcome :=
  s.within (isVppb v) fun t => (t.unbindApply v hostDown).writeDone

/-! ### Slices (R336 to R339) -/

/-- A write of BND_SL_CMD: GO with OP RESET (R336). -/
def execSliceReset (p : Path) (v : Word) (s : State) : Outcome :=
  s.within (isPath p) fun t => t.pathWrite p R.BND_SL_CMD v

/-- A write of BND_SL_CMD: GO with OP REMOVE (R336). -/
def execSliceRemove (p : Path) (v : Word) (s : State) : Outcome :=
  s.within (isPath p) fun t => t.pathWrite p R.BND_SL_CMD v

/-- At its gate a slice enters DRAINING or SQUASHING (R336, R338). -/
def execSliceGate (sl : Nat) (s : State) : Outcome :=
  s.within (isSlice sl) fun t => (t.slGate sl).writeDone

/-- The drain limit has passed (R337). -/
def execSliceDrainTimeout (sl : Nat) (s : State) : Outcome :=
  s.within (isSlice sl) fun t => (t.slDrainTimeout sl).writeDone

/-- Nothing of the slice is outstanding: a RESET reopens it, a REMOVE closes it (R339). -/
def execSliceCmdEnd (sl : Nat) (s : State) : Outcome :=
  s.within (isSlice sl) fun t => (t.slEnd sl).writeDone

/-- The oldest frame of the accounting dump has been written (R455). -/
def execDumpFrameWriteDone (ok : Bool) (s : State) : Outcome :=
  .next ((s.dumpDone ok).writeDone)

/-! ### The wake budget and shelves (R349 to R351) -/

/-- The request at the head is granted when its cost fits (R349). -/
def execWakeGrant (s : State) : Outcome :=
  .next (s.wakeGrant)

/-- A write of BND_SHELF_CMD: PARK (R351). -/
def execShelfPark (p : Path) (v : Word) (s : State) : Outcome :=
  s.within (isPath p) fun t => t.pathWrite p R.BND_SHELF_CMD v

/-- A write of BND_SHELF_CMD: WAKE (R351). -/
def execShelfWake (p : Path) (v : Word) (s : State) : Outcome :=
  s.within (isPath p) fun t => t.pathWrite p R.BND_SHELF_CMD v

/-- A shelf has been idle for PARK_IDLE (R351). -/
def execShelfIdlePark (sh : Nat) (s : State) : Outcome :=
  s.within (isShelf sh) fun t => (t.firmware sh (.shelfIdlePark sh) fun u => u.shelfIdlePark sh).writeDone

/-- Every port has acknowledged the park (R351). -/
def execShelfParkAck (sh : Nat) (s : State) : Outcome :=
  s.within (isShelf sh) fun t => t.firmware sh (.shelfParkAck sh) fun u => u.shelfParkAck sh

/-- The park has not been acknowledged in time (R351). -/
def execShelfParkTimeout (sh : Nat) (s : State) : Outcome :=
  s.within (isShelf sh) fun t => t.shelfParkTimeout sh

/-- Every port of the shelf is BOUND again, and held requests go on (R351, R320). -/
def execShelfWakeDone (sh : Nat) (s : State) : Outcome :=
  s.within (isShelf sh) fun t => (t.firmware sh (.shelfWakeDone sh) fun u => u.shelfWakeDone sh).writeDone

/-- A wake has not ended in time, and held requests are completed with errors (R351, R320). -/
def execShelfWakeTimeout (sh : Nat) (s : State) : Outcome :=
  s.within (isShelf sh) fun t => (t.shelfWakeTimeout sh).writeDone

end Sys2Proof.Machine
end

