-- ==== Sys2Proof/Machine/CmdCobbler.lean ====
section
/-!
DEFINITION. The commands of the Cobbler (spec/12 R341 to R348).
-/
namespace Sys2Proof.Machine
open Sys2Proof

/-- A write of COB_QP_CTL: ENABLE (R343). -/
def execQpEnable (p : Path) (v : Word) (s : State) : Outcome :=
  s.within (isPath p) fun t => t.pathWrite p R.COB_QP_CTL v

/-- A write of COB_QP_CTL: DISABLE (R343). -/
def execQpDisable (p : Path) (v : Word) (s : State) : Outcome :=
  s.within (isPath p) fun t => t.pathWrite p R.COB_QP_CTL v

/-- A doorbell sets a submission tail or a completion head, or is ignored (R342). -/
def execCobDoorbell (qp : Nat) (head : Bool) (v : Nat) (s : State) : Outcome :=
  s.within (isSlice qp) fun t => t.doorbell qp head v

/-- A fetched descriptor is checked whole (R345), or its fetch has failed (R343). -/
def execDescriptorFetchDone (qp : Nat) (ok : Bool) (data : List Byte) (s : State) : Outcome :=
  s.within (isSlice qp) fun t => (t.descFetched qp ok data).settle

/-- A startable descriptor begins (R346). -/
def execDescriptorStart (s : State) : Outcome :=
  .next (s.descStart)

/-- A descriptor that has ended writes its completion entry (R347). -/
def execDescriptorComplete (qp : Nat) (ok : Bool) (s : State) : Outcome :=
  s.within (isSlice qp) fun t => (t.descComplete qp ok).writeDone

/-- A descriptor's no-progress timer expires (R346). -/
def execCobDescTimeout (qp : Nat) (s : State) : Outcome :=
  s.within (isSlice qp) fun t => t.descTimeout qp

end Sys2Proof.Machine
end

