-- ==== Sys2Proof/Machine/CmdCores.lean ====
section
/-!
DEFINITION. The commands of the Clicker cores and of the Shank network (spec/15 R416 to R427).
-/
namespace Sys2Proof.Machine
open Sys2Proof

/-- A core's load (R418, R420). -/
def execCoreDeviceLoad (c : Nat) (addr : Nat) (n : Nat) (acc : CoreAcc) (s : State) : Outcome :=
  s.within (isCore c) fun t => (t.coreLoad c addr n acc).writeDone

/-- A core's store (R418). -/
def execCoreDeviceStore (c : Nat) (addr : Nat) (n : Nat) (v : Word) (s : State) : Outcome :=
  s.within (isCore c) fun t => (t.coreStore c addr n v).writeDone

/-- A FENCE waits for what its sets name (R419). -/
def execCoreFence (c : Nat) (ow : Bool) (ir : Bool) (s : State) : Outcome :=
  s.within (isCore c) fun t => t.coreFence c ow ir

/-- A trap waits for the older stores before its handler (R421). -/
def execCoreTrap (c : Nat) (s : State) : Outcome :=
  s.within (isCore c) fun t => t.coreTrap c

/-- The response to a device store reaches the core (R418, R420). -/
def execDeviceStoreComplete (c : Nat) (err : Nat) (late : Bool) (s : State) : Outcome :=
  s.within (isCore c) fun t => (t.storeDone c err late).writeDone

/-- The response to a device load reaches the core (R420). -/
def execDeviceLoadComplete (c : Nat) (err : Nat) (v : Word) (late : Bool) (s : State) : Outcome :=
  s.within (isCore c) fun t => (t.loadDone c err v late).writeDone

/-- CLK_STO has expired for device accesses (R420). -/
def execDeviceAccessTimeout (c : Nat) (s : State) : Outcome :=
  s.within (isCore c) fun t => (t.accessTimeout c).settle

/-- A write of CLK_CORE_CTL: RESET (R421). -/
def execCoreReset (p : Path) (c : Nat) (v : Word) (s : State) : Outcome :=
  s.within (isPath p && isCore c) fun t => t.pathWrite p (R.CLK_CORE_CTL + 4 * c) v

/-- A write of CLK_CORE_CTL: HOLD (R421). -/
def execCoreHoldWrite (p : Path) (c : Nat) (v : Word) (s : State) : Outcome :=
  s.within (isPath p && isCore c) fun t => t.pathWrite p (R.CLK_CORE_CTL + 4 * c) v

/-- A bad Shank packet is sent again once, or is lost (R426). -/
def execShankParityError (x : Nat) (y : Nat) (cured : Bool) (s : State) : Outcome :=
  .next ((s.shankError x y cured).settle)

end Sys2Proof.Machine
end

