-- ==== Sys2Proof/Machine/CmdFabric.lean ====
section
/-!
DEFINITION. The commands of the fabric manager and of other modules' Clickers (spec/12 R352 to R354).
-/
namespace Sys2Proof.Machine
open Sys2Proof

/-- Bind vPPB of the FM API (R352). -/
def execFmBindVppb (eid : Nat) (sw : Nat) (v : Nat) (kind : Nat) (port : Nat) (obj : Nat) (slice : Nat) (s : State) : Outcome :=
  .next ((s.firmware 0 (.fmBindVppb eid sw v kind port obj slice) fun t => t.fmBind eid sw v ⟨kind, port, obj, slice⟩).writeDone)

/-- Unbind vPPB of the FM API (R352). -/
def execFmUnbindVppb (eid : Nat) (sw : Nat) (v : Nat) (umode : Nat) (s : State) : Outcome :=
  .next ((s.firmware 0 (.fmUnbindVppb eid sw v umode) fun t => t.fmUnbind eid sw v umode).writeDone)

/-- Generate AER Event of the FM API (R352). -/
def execFmGenerateAerEvent (eid : Nat) (sw : Nat) (v : Nat) (err : Nat) (s : State) : Outcome :=
  .next (s.firmware 0 (.fmGenerateAerEvent eid sw v err) fun t => t.fmAer eid v err)

/-- Send PPB CXL.io Config Request of the FM API (R352). -/
def execFmPpbConfigRequest (eid : Nat) (sw : Nat) (n : Nat) (reg : Nat) (write : Bool) (val : Nat) (len : Nat) (s : State) : Outcome :=
  .next ((s.firmware 0 (.fmPpbConfigRequest eid sw n reg write val len) fun t => t.fmConfig eid n reg write val len).writeDone)

/-- An MLD command is tunnelled to an LD (R352). -/
def execFmMldTunnel (eid : Nat) (sw : Nat) (n : Nat) (ld : Nat) (body : List Byte) (s : State) : Outcome :=
  .next (s.firmware 0 (.fmMldTunnel eid sw n ld body) fun t => t.fmTunnel eid n ld body)

/-- A DCD command changes the capacity of an export object (R352). -/
def execFmDcdCapacityChange (eid : Nat) (sw : Nat) (obj : Nat) (ext : Nat) (add : Bool) (n : Nat) (s : State) : Outcome :=
  .next ((s.firmware 0 (.fmDcdCapacityChange eid sw obj ext add n) fun t => t.fmDcd eid sw obj ext add n).writeDone)

/-- The owner's lease has run out (R353). -/
def execFmLeaseExpiry (s : State) : Outcome :=
  .next (s.leaseExpiry)

/-- A report arrives from another Clicker (R354). -/
def execRemoteReportRx (sw : Nat) (kind : Nat) (val : Nat) (s : State) : Outcome :=
  s.within (isSwitch sw) fun t => (t.reportRx sw kind val).writeDone

/-- Reports not acknowledged are sent again (R354). -/
def execRemoteReportRepeat (sw : Nat) (s : State) : Outcome :=
  s.within (isSwitch sw) fun t => (t.reportRepeat sw).writeDone

/-- A far Clicker acknowledges a report (R354). -/
def execRemoteReportAckRx (sw : Nat) (kind : Nat) (val : Nat) (s : State) : Outcome :=
  s.within (isSwitch sw) fun t => t.reportAcked sw kind val

/-- Physical Port Control of the FM API (R352). -/
def execFmPhysicalPortControl (eid : Nat) (sw : Nat) (n : Nat) (op : Nat) (s : State) : Outcome :=
  .next ((s.firmware 0 (.fmPhysicalPortControl eid sw n op) fun t => t.fmPort eid sw n op).writeDone)

end Sys2Proof.Machine
end

