-- ==== Sys2Proof/Machine/Firmware.lean ====
section
/-!
DEFINITION. Work of the Clicker firmware that waits for a warm restart and is done once the new firmware runs (spec/16 R439, R440).
-/
namespace Sys2Proof.Machine
open Sys2Proof

/-- Work that has waited is done: discovery and shelves (spec/12), SPDM (spec/14), and requests of the management path (spec/15). -/
def State.fwRun (s : State) (sh : Nat) (i : Instr) : State :=
  match i with
  | .discoveryComplete n kind lds dcd xr sn vendor => s.discoveryDone n ⟨kind, lds, dcd, xr, sn, vendor⟩
  | .shelfPark _ v => s.shelfCmd sh v
  | .shelfIdlePark sh => s.shelfIdlePark sh
  | .shelfParkAck sh => s.shelfParkAck sh
  | .shelfWakeDone sh => s.shelfWakeDone sh
  | .spdmGetVersion who => s.spdmGetVersion who
  | .spdmGetCapabilities who => s.spdmGetCaps who
  | .spdmNegotiateAlgorithms who => s.spdmAlgs who
  | .spdmGetCertificate who slot => s.spdmCert who slot
  | .spdmChallenge who slot => s.spdmChallenge who slot
  | .spdmGetMeasurements who idx => s.spdmMeas who idx
  | .spdmKeyExchange who slot id => s.spdmKeyEx who slot id
  | .spdmFinish who id => s.spdmFinish who id
  | .setEndpointId path eid tag new => s.setEid path eid tag new
  | .getEndpointId path eid tag => s.getEid path eid tag
  | .getMctpVersionSupport _ eid tag => s.getMctpVersion eid tag
  | .getMessageTypeSupport _ eid tag => s.getMctpTypes eid tag
  | .getVendorDefinedSupport _ eid tag => s.getMctpVendor eid tag
  | .routingInfoUpdate _ eid tag => s.routingUpdate eid tag
  | .lastXfer eid sw tag len off data => s.lastXfer eid sw tag len off data
  | .secRelay eid sw tag op nonce signer a b ok ids => s.secRelay eid sw tag ⟨op, nonce, signer, a, b, ok, ids⟩
  | .eventReplay eid tag first n => s.eventReplay eid tag first n
  | .moduleInfo eid tag => s.moduleInfo eid tag
  | .dbgOpen path eid tag => s.dbgOpen path eid tag
  | .dbgAccess path eid tag write sp ident len addr data => s.dbgAccess path eid tag write sp ident len addr data
  | .dbgClose path eid tag => s.dbgClose path eid tag
  | .fmBindVppb eid sw v kind port obj slice => s.fmBind eid sw v ⟨kind, port, obj, slice⟩
  | .fmUnbindVppb eid sw v umode => s.fmUnbind eid sw v umode
  | .fmGenerateAerEvent eid _ v err => s.fmAer eid v err
  | .fmPpbConfigRequest eid _ n reg write val len => s.fmConfig eid n reg write val len
  | .fmMldTunnel eid _ n ld body => s.fmTunnel eid n ld body
  | .fmDcdCapacityChange eid sw obj ext add n => s.fmDcd eid sw obj ext add n
  | .fmPhysicalPortControl eid sw n op => s.fmPort eid sw n op
  | _ => s

/-- The new firmware runs: shelves whose cleaning has ended meanwhile are parked, and what waited is done in its order. DEDUCED (log entry 39). -/
def State.fwResume (s : State) : State :=
  ((s.each (List.range 64) State.shelfParking).setMgt fun g => { g with fwJobs := [] }).each s.mgt.fwJobs fun t e => t.fwRun e.1 e.2

/-- Step 4 of a warm restart ends (R439). -/
def State.restartDone (s : State) : State := if s.restarting then s.restartLoaded.fwResume else s

end Sys2Proof.Machine
end

