-- ==== Sys2Proof/Machine/CmdFaults.lean ====
section
/-!
DEFINITION. The commands of faults, restart, flush and power-down (spec/16).
-/
namespace Sys2Proof.Machine
open Sys2Proof

/-- A fenced unit is released (R436). -/
def execUnitRelease (kind : Nat) (unit : Nat) (s : State) : Outcome :=
  .next ((s.unitRelease (unitOf kind unit)).writeDone)

/-! ### Warm restart (R439) -/

/-- A write of FLT_RESTART: GO (R439). -/
def execWarmRestart (p : Path) (v : Word) (s : State) : Outcome :=
  s.within (isPath p) fun t => t.pathWrite p R.FLT_RESTART v

/-- The restart image has been verified, or is refused (R439). -/
def execRestartVerifyDone (ok : Bool) (svn : Nat) (s : State) : Outcome :=
  .next (s.restartVerified ok svn)

/-- The new firmware has been loaded and the cores start (R439). -/
def execRestartLoadDone (s : State) : Outcome :=
  .next ((s.restartDone).writeDone)

/-- No CONFIRM: the previous image returns (R439). -/
def execRestartConfirmTimeout (s : State) : Outcome :=
  .next ((s.restartRevert).settle)

/-! ### Power-down (R443) -/

/-- A write of FLT_PWRDN_CTL: GO (R443). -/
def execPowerdownGo (p : Path) (v : Word) (s : State) : Outcome :=
  s.within (isPath p) fun t => t.pathWrite p R.FLT_PWRDN_CTL v

/-- A write of FLT_PWRDN_CTL: ABORT (R443). -/
def execPowerdownAbort (p : Path) (v : Word) (s : State) : Outcome :=
  s.within (isPath p) fun t => t.pathWrite p R.FLT_PWRDN_CTL v

/-- Nothing is left to drain (R443). -/
def execPwrdnDrainDone (s : State) : Outcome :=
  .next ((s.pdDrained).writeDone)

/-- The drain limit has passed (R443). -/
def execPwrdnDrainTimeout (s : State) : Outcome :=
  .next ((s.pdDrainTimeout).writeDone)

/-- The cleaning passes have ended (R443). -/
def execPwrdnCleanDone (s : State) : Outcome :=
  .next ((s.pdCleanDone).writeDone)

/-- The cleaning limit has passed (R443). -/
def execPwrdnCleanTimeout (s : State) : Outcome :=
  .next ((s.pdCleanTimeout).writeDone)

/-- GPF has ended: READY (R443). -/
def execPwrdnGpfDone (s : State) : Outcome :=
  .next ((s.pdGpfDone).writeDone)

/-! ### Global persistent flush (R442) -/

/-- A GPF Phase 1 request of a host (R442). -/
def execGpfPhase1Request (n : Nat) (s : State) : Outcome :=
  s.within (isPort n) fun t => t.gpfPhase1 n

/-- A GPF Phase 2 request of a host (R442). -/
def execGpfPhase2Request (n : Nat) (s : State) : Outcome :=
  s.within (isPort n) fun t => (t.gpfPhase2 n).writeDone

/-- The write-back has not ended within P2_MS (R442). -/
def execGpfP2Timeout (n : Nat) (s : State) : Outcome :=
  s.within (isPort n) fun t => (t.gpfTimeout n).settle

/-- A partner completes a forwarded request (R442). -/
def execGpfPartnerComplete (n : Nat) (s : State) : Outcome :=
  s.within (isPort n) fun t => t.gpfAnswer n

end Sys2Proof.Machine
end

