-- ==== Sys2Proof/Machine/CmdHome.lean ====
section
/-!
DEFINITION. The commands of the home agent slices (spec/09, spec/10).
-/
namespace Sys2Proof.Machine
open Sys2Proof

/-- A coherent request that has crossed to its slice reaches it (R256). -/
def State.coherentArrival (s : State) (h id ecc : Nat) : State :=
  match s.crossed? (76 + h) id with
  | some m =>
    if isReq m && m.op != .biConflict then (((s.uncross (76 + h) id).homeArrive h m ecc).homeSettle h).writeDone else s
  | none => s

/-- Whether a message answers a snoop. -/
def isSnoopRsp (o : Op) : Bool := match o with | .biRspI | .biRspS | .cacheRspI | .cacheRspS => true | _ => false

/-- A snoop response that has crossed to its slice (R248). -/
def State.snoopArrival (s : State) (h id : Nat) : State :=
  match s.crossed? (76 + h) id with
  | some m =>
    if isSnoopRsp m.op then (((s.uncross (76 + h) id).snoopRsp h m).homeSettle h).writeDone else s
  | none => s

/-- A BIConflict that has crossed to its slice (R276). -/
def State.conflictArrival (s : State) (h id : Nat) : State :=
  match s.crossed? (76 + h) id with
  | some m => if m.op = .biConflict then ((s.uncross (76 + h) id).biConflict h m).writeDone else s
  | none => s

/-! ### Messages (R247, R248, R256, R276) -/

/-- A coherent request reaches its slice, and is admitted or waits (R256). -/
def execCoherentRequestArrival (h : Nat) (id : Nat) (ecc : Nat) (s : State) : Outcome :=
  s.within (isHome h) fun t => t.coherentArrival h id ecc

/-- A fetched directory set is placed, or lost (R254, R262). -/
def execDirSetFetchDone (h : Nat) (rgn : Nat) (line : Nat) (out : Nat) (s : State) : Outcome :=
  s.within (isHome h) fun t => ((t.dirFetched h rgn line out).homeSettle h).writeDone

/-- A memory access of a tack ends (R247). -/
def execHaMemoryResponse (h : Nat) (rgn : Nat) (line : Nat) (s : State) : Outcome :=
  s.within (isHome h) fun t => ((t.homeMemRsp h rgn line).homeSettle h).writeDone

/-- A snoop response reaches its tack (R248). -/
def execSnoopResponseRx (h : Nat) (id : Nat) (s : State) : Outcome :=
  s.within (isHome h) fun t => t.snoopArrival h id

/-- A BIConflict is answered, at once or behind the open tack's response (R276). -/
def execBiconflictRx (h : Nat) (id : Nat) (s : State) : Outcome :=
  s.within (isHome h) fun t => t.conflictArrival h id

/-! ### Timers and queues (R260, R270, R272, R281 to R288) -/

/-- A tack's timer has expired (R283). -/
def execTackTimeout (h : Nat) (rgn : Nat) (line : Nat) (s : State) : Outcome :=
  s.within (isHome h) fun t => (t.tackTimeout h rgn line).writeDone

/-- A line's hold window ends (R272). -/
def execHoldWindowEnd (h : Nat) (rgn : Nat) (line : Nat) (s : State) : Outcome :=
  s.within (isHome h) fun t => (t.holdEnd h rgn line).writeDone

/-- A queue whose obstacle has cleared admits one waiting request (R270). -/
def execConflictQueueAdmit (h : Nat) (s : State) : Outcome :=
  s.within (isHome h) fun t => ((t.queueAdmit h).homeSettle h).writeDone

/-- Requests in EVICT receive eviction tacks, oldest stamp first (R260). -/
def execEvictionTackGrant (h : Nat) (s : State) : Outcome :=
  s.within (isHome h) fun t => (t.homeSettle h).writeDone

/-- A write of HA_CTL: RESUME_CLEAN, or its refusal (R265). -/
def execHaResumeClean (p : Path) (h : Nat) (v : Word) (s : State) : Outcome :=
  s.within (isPath p && isHome h) fun t => t.pathWrite p (R.HA_CTL + dHome h) v

/-- A write of HA_DEPART_CLR: GO returns an FPID, or is refused (R282). -/
def execHaDepartClear (p : Path) (h : Nat) (v : Word) (s : State) : Outcome :=
  s.within (isPath p && isHome h) fun t => t.pathWrite p (R.HA_DEPART_CLR + dHome h) v

/-- The walk for departed FPIDs ends (R281). -/
def execDepartureWalkEnd (h : Nat) (s : State) : Outcome :=
  s.within (isHome h) fun t => (t.walkDone h).writeDone

/-- A lost write is sent again over a route that is UP (R286). -/
def execLwtResend (id : Nat) (s : State) : Outcome :=
  .next ((s.lwtResend id).writeDone)

/-- The completion of a resent write frees its record (R286). -/
def execLwtResendComplete (id : Nat) (s : State) : Outcome :=
  .next ((s.lwtDone id).writeDone)

/-- Snoops flushed with a link are issued again once a route is UP (R288). -/
def execSnoopReissue (h : Nat) (s : State) : Outcome :=
  s.within (isHome h) fun t => (t.snoopReissue h).writeDone

end Sys2Proof.Machine
end

