-- ==== Sys2Proof/Machine/CmdLanes.lean ====
section
/-!
DEFINITION. The commands of lanes and lane banks (spec/04).
-/
namespace Sys2Proof.Machine
open Sys2Proof

/-- What lane changes of a Mornu bank bring about at its links: a lane that has left DATA is lost to its link, and links whose lanes have reached DATA
may end their training or go on with a lace (R172, R181). -/
def State.lanesFollow (s0 s : State) (b : Nat) : State :=
  if !isMornu b then s.settle
  else
    let left := (List.range 16).filter fun l => s0.laneState b l == lsData && s.laneState b l != lsData
    let came := (List.range 16).filter fun l => s0.laneState b l != lsData && s.laneState b l == lsData
    let s1 := s.each left fun t l => t.mlLaneLost (linkOfLane b l) (l % 8)
    (s1.each came fun t l => ((t.syncRx (linkOfLane b l)).mlTryInit (linkOfLane b l)).laceStep (linkOfLane b l)).settle

/-- Whether the training of a port may not leave out a lane, and one of its lanes has failed detection (R139). -/
def State.lanesMissing (s : State) (n : Nat) : Bool :=
  !s.on F.EP_DS_CFG_WIDTH_EN (dPort n) && (s.port n).attempt.isSome && (s.lanesOfPort n).any fun l => s.laneState (n / 4) l == lsIdle

/-- Detection on a lane succeeds; the first on an edge port takes its LTSSM out of Detect (R105, R138). -/
def State.detectDone (s : State) (b l : Nat) : State :=
  if s.laneState b l ≠ lsDetect then s
  else
    let s1 := s.laneDetected b l
    if isMornu b then s1
    else
      let n := s.portOfLane b l
      let s2 := s1.attemptStart n
      (if s2.lanesMissing n then s2.attemptFail n else s2).settle

/-- Detection on a lane has found nothing; an edge port whose lanes have all found nothing stays in Detect, which trains them again (R105, R138). -/
def State.detectTimeout (s : State) (b l : Nat) : State :=
  let s1 := s.laneUndetected b l
  if isMornu b || s1.laneState b l == s.laneState b l then s1
  else
    let n := s.portOfLane b l
    if s1.lanesMissing n then (s1.attemptFail n).settle
    else if (s1.port n).attempt.isNone && (s1.lanesOfPort n).all (fun k => decide (s1.laneState b k ≤ lsIdle)) then s1.portDetect n
    else s1

/-- The links and ports of a bank whose PLL is gone (R103, R123): link down on each port; a link of a bank that is not READY is DISABLED (R172). -/
def State.bankLinksDown (s : State) (b : Nat) : State :=
  if isMornu b then
    s.each [2 * (b - 16), 2 * (b - 16) + 1] fun t m =>
      if t.bankState b ≠ 3 ∧ (t.mlState m = mlTrain ∨ t.mlState m = mlInit) then t.mlStart m else t.mlLanesLost m
  else s.each (List.range 4) fun t i => t.ltssmDetect (4 * b + i)

/-- The links and ports of a bank whose PLL is back train again. -/
def State.bankTrains (s : State) (b : Nat) : State :=
  if isMornu b then
    s.each [2 * (b - 16), 2 * (b - 16) + 1] fun t m =>
      if t.mlState m = mlTrain then t.mlTrainOn m 0
      else if t.mlState m = mlRetrainSt then t.lanesTrain b ((List.range 8).map (bankLane m))
      else t
  else s.each (List.range 4) fun t i =>
    if t.hp (4 * b + i) = hpEmpty ∨ t.hp (4 * b + i) = hpTraining then t.portDetect (4 * b + i) else t

/-- The PLL of a READY bank loses lock (R123). -/
def State.pllUnlock (s : State) (b : Nat) : State :=
  if s.bankState b ≠ 3 ∨ (s.bank b).relocking ∨ (s.bank b).family.isSome then s else ((s.pllLost b).bankLinksDown b).writeDone

/-- The retry of a lost PLL ends (R123). -/
def State.pllRetried (s : State) (b : Nat) (locked : Bool) : State :=
  if !(s.bank b).relocking then s
  else
    let s1 := s.pllRelock b locked
    (if s1.bankState b ≠ 3 then s1.bankLinksDown b else if (s1.bank b).relocking then s1 else s1.bankTrains b).writeDone

/-- The power-up of a bank ends, or its PLL has not locked in step 3, or its calibration has failed in step 4 (R36, R121, R123; spec/19 R489). -/
def State.bankReady (s : State) (b : Nat) (pllOk calOk : Bool) : State :=
  if s.bankState b ≠ 2 then s
  else if !pllOk then (if (s.bank b).timer.any fun e => decide (e ≤ s.tim.bnd + 101) then (s.bankFault b 256).settle else s)
  else if !calOk then (if (s.bank b).timer.any fun e => decide (e ≤ s.tim.bnd + 1) then (s.bankFault b 276).settle else s)
  else if s.reachedO (s.bank b).timer then
    let s1 := (s.applyMissed b).bankUp b
    (if isMornu b then s1.each [2 * (b - 16), 2 * (b - 16) + 1] State.mlBankReady
     else s1.each (List.range 4) fun t i => t.portDetect (4 * b + i)).writeDone
  else s

/-! ### Lanes (R105 to R117) -/

/-- Receiver detection finds the far termination (R105); an edge port's attempt begins with it (R138). -/
def execLaneDetectDone (b : Nat) (l : Nat) (s : State) : Outcome :=
  s.within (isLane b l) fun t => t.detectDone b l

/-- No termination after 12 stitches (R105). -/
def execLaneDetectTimeout (b : Nat) (l : Nat) (s : State) : Outcome :=
  s.within (isLane b l) fun t => t.detectTimeout b l

/-- Clock recovery locks, and the lane adapts (R105, R117). -/
def execLaneCdrLock (b : Nat) (l : Nat) (ofs : Int) (s : State) : Outcome :=
  s.within (isLane b l) fun t => t.laneCdrLocked b l ofs

/-- The convergence metric has settled (R105). -/
def execLaneAdaptDone (b : Nat) (l : Nat) (s : State) : Outcome :=
  s.within (isLane b l) fun t => t.laneAdapted b l true

/-- Five hundred stitches of adaptation have elapsed (R105). -/
def execLaneAdaptTimeout (b : Nat) (l : Nat) (s : State) : Outcome :=
  s.within (isLane b l) fun t => t.laneAdapted b l false

/-- A training block arrives on a Mornu lane (R106, R107, R112). -/
def execTrainingBlockRx (b : Nat) (l : Nat) (blk : Nat) (mir : Bool) (own : Bool) (s : State) : Outcome :=
  s.within (isLane b l) fun t => t.lanesFollow (t.trainingBlock b l blk mir own) b

/-- A lane trains again 1,024 stitches after a map fault (R105). -/
def execLaneMapRetry (b : Nat) (l : Nat) (s : State) : Outcome :=
  s.within (isLane b l) fun t => t.laneRetry b l

/-- Alignment locks (R108, R109). -/
def execLaneBlockLock (b : Nat) (l : Nat) (s : State) : Outcome :=
  s.within (isLane b l) fun t => t.lanesFollow (t.laneBlockLock b l) b

/-- The sixteenth invalid header of a window: block lock is lost (R109, R110). -/
def execLaneBlockLockLoss (b : Nat) (l : Nat) (s : State) : Outcome :=
  s.within (isLane b l) fun t => t.lanesFollow (t.laneBlockLoss b l) b

/-- The CDR declares loss (R117). -/
def execLaneCdrLoss (b : Nat) (l : Nat) (s : State) : Outcome :=
  s.within (isLane b l) fun t => t.lanesFollow (t.laneCdrLoss b l) b

/-- A lane relocks within 16 stitches (R110, R117). -/
def execLaneRelock (b : Nat) (l : Nat) (s : State) : Outcome :=
  s.within (isLane b l) fun t => t.lanesFollow (t.laneRelock b l) b

/-- No relock within 16 stitches: the loss is lasting (R110, R117). -/
def execLaneRelockTimeout (b : Nat) (l : Nat) (s : State) : Outcome :=
  s.within (isLane b l) fun t => t.lanesFollow (t.laneRelockTimeout b l) b

/-- A relock has held for 1,024 stitches: the loss was transient (R110, R117). -/
def execLaneRelockStable (b : Nat) (l : Nat) (s : State) : Outcome :=
  s.within (isLane b l) fun t => t.laneRelockStable b l

/-! ### Adaptation and margins (R113 to R120) -/

/-- An update instant of the adaptation loops (R113). -/
def execAdaptUpdate (b : Nat) (l : Nat) (s : State) : Outcome :=
  s.within (isLane b l) fun t => t.adaptUpdate b l

/-- A write of LB_LANE_ADAPT: the freeze bits act at the next update instant (R114). -/
def execAdaptFreezeWrite (p : Path) (b : Nat) (l : Nat) (v : Word) (s : State) : Outcome :=
  s.within (isPath p && isLane b l) fun t => t.pathWrite p (R.LB_LANE_ADAPT + dLane b l) v

/-- A write of LB_LANE_ADAPT: SNAP copies every coefficient (R115). -/
def execCoefSnapshot (p : Path) (b : Nat) (l : Nat) (v : Word) (s : State) : Outcome :=
  s.within (isPath p && isLane b l) fun t => t.pathWrite p (R.LB_LANE_ADAPT + dLane b l) v

/-- A write of LB_LANE_MARGIN_CTL: START begins a scan, or is refused (R119, R120). -/
def execMarginScanStart (p : Path) (b : Nat) (l : Nat) (v : Word) (s : State) : Outcome :=
  s.within (isPath p && isLane b l) fun t => t.pathWrite p (R.LB_LANE_MARGIN_CTL + dLane b l) v

/-- The dwell of a scan's point ends (R118, R119). -/
def execMarginPointDone (b : Nat) (l : Nat) (pass : Bool) (s : State) : Outcome :=
  s.within (isLane b l) fun t => t.marginPoint b l pass

/-- A PCIe margining command of the host takes or leaves the monitor (R120). -/
def execHostMarginCommand (b : Nat) (l : Nat) (start : Bool) (s : State) : Outcome :=
  s.within (isLane b l) fun t => t.hostMargin b l start

/-! ### Banks (R103, R121 to R123) -/

/-- A write of LB_BANK_CTL: WAKE asks for the bank to be powered up (R121). -/
def execBankWake (p : Path) (b : Nat) (v : Word) (s : State) : Outcome :=
  s.within (isPath p && isBank b) fun t => t.pathWrite p (R.LB_BANK_CTL + dBank b) v

/-- A write of LB_BANK_CTL: PARK takes an idle bank to OFF, or is refused (R122). -/
def execBankPark (p : Path) (b : Nat) (v : Word) (s : State) : Outcome :=
  s.within (isPath p && isBank b) fun t => t.pathWrite p (R.LB_BANK_CTL + dBank b) v

/-- A bank is up 301 stitches after its grant, or its PLL or its calibration has failed (R121, R123; spec/19 R489). -/
def execBankReady (b : Nat) (pllOk calOk : Bool) (s : State) : Outcome :=
  s.within (isBank b) fun t => t.bankReady b pllOk calOk

/-- An accepted park has ended (R122). -/
def execBankParkDone (b : Nat) (s : State) : Outcome :=
  s.within (isBank b) fun t => t.bankParked b

/-- The PLL of a READY bank loses lock (R123). -/
def execBankPllUnlock (b : Nat) (s : State) : Outcome :=
  s.within (isBank b) fun t => t.pllUnlock b

/-- The retry of a lost PLL ends (R123). -/
def execBankRelockDone (b : Nat) (locked : Bool) (s : State) : Outcome :=
  s.within (isBank b) fun t => t.pllRetried b locked

/-- A write of LB_BANK_CTL: FAMILY retunes the PLL of a Mornu bank (R103). -/
def execFamilyChange (p : Path) (b : Nat) (v : Word) (s : State) : Outcome :=
  s.within (isPath p && isBank b) fun t => t.pathWrite p (R.LB_BANK_CTL + dBank b) v

/-- The retuned PLL has locked after 150 stitches, and both links train (R103). -/
def execFamilyRelockDone (b : Nat) (s : State) : Outcome :=
  s.within (isBank b) fun t => (t.familyDone b).settle

end Sys2Proof.Machine
end

