-- ==== Sys2Proof/Machine/CmdLast.lean ====
section
/-!
DEFINITION. The commands of the LAST block: loads, held accesses, firmware and boot images (spec/03).
-/
namespace Sys2Proof.Machine
open Sys2Proof

/-! ### Loads (R80 to R87) -/

/-- A write of LAST_LOAD_CTL: START begins a load, or is refused (R80, R81). -/
def execLoadStart (p : Path) (v : Word) (s : State) : Outcome :=
  s.within (isPath p) fun t => t.pathWrite p R.LAST_LOAD_CTL v

/-- A write of LAST_LOAD_CTL: ABORT ends a load before its commit (R81). -/
def execLoadAbort (p : Path) (v : Word) (s : State) : Outcome :=
  s.within (isPath p) fun t => t.pathWrite p R.LAST_LOAD_CTL v

/-- The header and the section table have been read and checked (R80, R86). -/
def execLoadFetchDone (srcErr : Option Nat) (s : State) : Outcome :=
  .next ((s.fetchDone srcErr).settle)

/-- The enclave has checked the signature, the SVN and the target (R73, R86). -/
def execLoadAuthDone (sigOk : Bool) (s : State) : Outcome :=
  .next ((s.authDone sigOk).writeDone)

/-- The bodies have been read and checked (R78, R86). -/
def execLoadCheckDone (srcErr : Option Nat) (digestOk : List Bool) (s : State) : Outcome :=
  .next ((s.checkDone srcErr digestOk).settle)

/-- A VERIFIED load enters COMMIT (R80, R84). -/
def execLoadCommitStart (s : State) : Outcome :=
  .next ((s.commitStart).writeDone)

/-- All groups have been committed (R80, R90). -/
def execLoadCommitDone (s : State) : Outcome :=
  .next (s.commitEnd)

/-- The group being committed has been written, and writes held for it are performed (R85). -/
def execHeldStgWriteRelease (s : State) : Outcome :=
  .next (s.heldRelease)

/-- The groups of a held arm have been committed, and the arm is checked and performed (R85). -/
def execHeldArmRelease (s : State) : Outcome :=
  .next ((s.heldArms).writeDone)

/-! ### Boot (R93 to R97) -/

/-- The enclave has verified a firmware image and starts it, or the attempt fails (R393); while MGMT_HOLD is set the complex stays in reset (R500). -/
def execFirmwareVerifyDone (ok : Bool) (svn : Nat) (s : State) : Outcome :=
  .next (if s.on F.GLB_RST_MGMT_HOLD 0 then s else (s.firmwareDone ok svn).writeDone)

/-- A write of LAST_BOOT: CONFIRM (R93). -/
def execBootConfirm (p : Path) (v : Word) (s : State) : Outcome :=
  s.within (isPath p) fun t => t.pathWrite p R.LAST_BOOT v

/-- No CONFIRM within 60 s (R93). -/
def execBootConfirmTimeout (s : State) : Outcome :=
  .next ((s.confirmTimeout).writeDone)

/-- A write of LAST_BOOT_PREF (R94). -/
def execBootPrefWrite (p : Path) (v : Word) (s : State) : Outcome :=
  s.within (isPath p) fun t => t.pathWrite p R.LAST_BOOT_PREF v

end Sys2Proof.Machine
end

