-- ==== Sys2Proof/Machine/CmdSecurity.lean ====
section
/-!
DEFINITION. The commands of the security enclave (spec/14).
-/
namespace Sys2Proof.Machine
open Sys2Proof

/-- The record of a security command (R391). -/
def secRecord (op nonce : Nat) (signer : Option Nat) (a b : Nat) (ok : Bool) (ids : List Nat) : SecRec := ⟨op, nonce, signer, a, b, ok, ids⟩

/-! ### Commands of the enclave mailbox (R385, R390 to R392, R94, R95) -/

/-- OWNER_CLAIM: SHIPPED to OWNED with a PROV token (R390). -/
def execOwnerClaim (nonce : Nat) (signer : Option Nat) (snOk : Bool) (ids : List Nat) (s : State) : Outcome :=
  .next ((s.secCmd (secRecord opClaim nonce signer 0 0 snOk ids)).settle)

/-- KEY_INSTALL adds an ACTIVE key entry (R391). -/
def execKeyInstall (nonce : Nat) (signer : Option Nat) (usage : Nat) (ids : List Nat) (s : State) : Outcome :=
  .next ((s.secCmd (secRecord opInstall nonce signer usage 0 true ids)).settle)

/-- KEY_REVOKE makes an entry REVOKED, unless a needed key would be missing (R391). -/
def execKeyRevoke (nonce : Nat) (signer : Option Nat) (entry : Nat) (s : State) : Outcome :=
  .next ((s.secCmd (secRecord opRevoke nonce signer entry 0 true [])).settle)

/-- SVN_RAISE raises a minimum SVN within its range (R391). -/
def execSvnRaise (nonce : Nat) (signer : Option Nat) (fw : Bool) (v : Nat) (s : State) : Outcome :=
  .next ((s.secCmd (secRecord opSvn nonce signer (bit fw) v true [])).settle)

/-- DEBUG_UNLOCK unlocks the debug master from the next boundary (R385). -/
def execDebugUnlock (nonce : Nat) (signer : Option Nat) (snOk : Bool) (s : State) : Outcome :=
  .next ((s.secCmd (secRecord opUnlock nonce signer 0 0 snOk [])).settle)

/-- DEBUG_LOCK locks the debug master from the next boundary (R385). -/
def execDebugLock (nonce : Nat) (s : State) : Outcome :=
  .next ((s.secCmd (secRecord opLock nonce none 0 0 true [])).settle)

/-- OWNER_RELEASE zeroes the owner's keys: SHIPPED (R390). -/
def execOwnerRelease (nonce : Nat) (signer : Option Nat) (s : State) : Outcome :=
  .next ((s.secCmd (secRecord opRelease nonce signer 0 0 true [])).settle)

/-- RETURN starts the sequence that zeroes keys and locked memory (R392). -/
def execReturn (nonce : Nat) (signer : Option Nat) (s : State) : Outcome :=
  .next ((s.secCmd (secRecord opReturn nonce signer 0 0 true [])).settle)

/-- The zero fill of RETURN has ended: RETURNED (R392). -/
def execReturnFillDone (s : State) : Outcome :=
  .next ((s.returnDone).settle)

/-- FLASH_WRITE verifies an image set and writes it to flash (R94). -/
def execFlashWrite (nonce : Nat) (img : Nat) (ok : Bool) (data : List Nat) (s : State) : Outcome :=
  .next ((s.secCmd (secRecord opFlash nonce none img 0 ok data)).settle)

/-- SELFTEST runs the known-answer tests (R399). -/
def execSelftest (nonce : Nat) (ok : Bool) (s : State) : Outcome :=
  .next ((s.secCmd (secRecord opTest nonce none 0 0 ok [])).settle)

/-- A continuous health test of the DRBG fails (R399). -/
def execHealthTestFail (s : State) : Outcome :=
  .next ((s.secFail).settle)

/-! ### SPDM (R395 to R397) -/

/-- GET_VERSION (R395). -/
def execSpdmGetVersion (who : Nat) (s : State) : Outcome :=
  .next (s.firmware 0 (.spdmGetVersion who) fun t => t.spdmGetVersion who)

/-- GET_CAPABILITIES (R395). -/
def execSpdmGetCapabilities (who : Nat) (s : State) : Outcome :=
  .next (s.firmware 0 (.spdmGetCapabilities who) fun t => t.spdmGetCaps who)

/-- NEGOTIATE_ALGORITHMS (R395). -/
def execSpdmNegotiateAlgorithms (who : Nat) (s : State) : Outcome :=
  .next (s.firmware 0 (.spdmNegotiateAlgorithms who) fun t => t.spdmAlgs who)

/-- GET_CERTIFICATE (R395). -/
def execSpdmGetCertificate (who : Nat) (slot : Nat) (s : State) : Outcome :=
  .next (s.firmware 0 (.spdmGetCertificate who slot) fun t => t.spdmCert who slot)

/-- CHALLENGE (R395). -/
def execSpdmChallenge (who : Nat) (slot : Nat) (s : State) : Outcome :=
  .next (s.firmware 0 (.spdmChallenge who slot) fun t => t.spdmChallenge who slot)

/-- GET_MEASUREMENTS (R396). -/
def execSpdmGetMeasurements (who : Nat) (idx : Nat) (s : State) : Outcome :=
  .next (s.firmware 0 (.spdmGetMeasurements who idx) fun t => t.spdmMeas who idx)

/-- KEY_EXCHANGE (R395). -/
def execSpdmKeyExchange (who : Nat) (slot : Nat) (id : Nat) (s : State) : Outcome :=
  .next (s.firmware 0 (.spdmKeyExchange who slot id) fun t => t.spdmKeyEx who slot id)

/-- FINISH (R395). -/
def execSpdmFinish (who : Nat) (id : Nat) (s : State) : Outcome :=
  .next (s.firmware 0 (.spdmFinish who id) fun t => t.spdmFinish who id)

/-- The digest of the active rule set is finished (R397). -/
def execEyeDigestDone (s : State) : Outcome :=
  .next (s.eyeDigestDone)

end Sys2Proof.Machine
end

