-- ==== Sys2Proof/Machine/CmdManage.lean ====
section
/-!
DEFINITION. The commands of the management endpoint: MCTP, vendor commands, debug access (spec/15).
-/
namespace Sys2Proof.Machine
open Sys2Proof

/-! ### MCTP control (R402 to R405) -/

/-- A packet arrives: reassembled, bridged or dropped (R403, R404). -/
def execMctpPacketRx (path : Nat) (src : Nat) (dst : Nat) (tag : Nat) (ty : Nat) (som : Bool) (eom : Bool) (body : List Byte) (s : State) : Outcome :=
  .next ((s.mctpPacket path src dst tag ty som eom body).writeDone)

/-- Set Endpoint ID (R403). -/
def execSetEndpointId (path : Nat) (eid : Nat) (tag : Nat) (new : Nat) (s : State) : Outcome :=
  .next (s.fwRequest eid tag (.setEndpointId path eid tag new) fun t => t.setEid path eid tag new)

/-- Get Endpoint ID (R402). -/
def execGetEndpointId (path : Nat) (eid : Nat) (tag : Nat) (s : State) : Outcome :=
  .next (s.fwRequest eid tag (.getEndpointId path eid tag) fun t => t.getEid path eid tag)

/-- Get MCTP Version Support (R402). -/
def execGetMctpVersionSupport (path : Nat) (eid : Nat) (tag : Nat) (s : State) : Outcome :=
  .next (s.fwRequest eid tag (.getMctpVersionSupport path eid tag) fun t => t.getMctpVersion eid tag)

/-- Get Message Type Support (R402). -/
def execGetMessageTypeSupport (path : Nat) (eid : Nat) (tag : Nat) (s : State) : Outcome :=
  .next (s.fwRequest eid tag (.getMessageTypeSupport path eid tag) fun t => t.getMctpTypes eid tag)

/-- Get Vendor Defined Message Support (R402). -/
def execGetVendorDefinedSupport (path : Nat) (eid : Nat) (tag : Nat) (s : State) : Outcome :=
  .next (s.fwRequest eid tag (.getVendorDefinedSupport path eid tag) fun t => t.getMctpVendor eid tag)

/-- Allocate Endpoint IDs grants the pool of the bridge (R404). -/
def execAllocateEndpointIds (path : Nat) (base : Nat) (n : Nat) (s : State) : Outcome :=
  .next (s.allocEids path base n)

/-- Routing Information Update (R402). -/
def execRoutingInfoUpdate (path : Nat) (eid : Nat) (tag : Nat) (s : State) : Outcome :=
  .next (s.fwRequest eid tag (.routingInfoUpdate path eid tag) fun t => t.routingUpdate eid tag)

/-! ### Vendor commands (R406 to R413) -/

/-- CSR_READ reads registers (R407). -/
def execCsrRead (eid : Nat) (tag : Nat) (off : Nat) (width : Nat) (n : Nat) (s : State) : Outcome :=
  .next ((s.vendorRead eid tag off width n).settle)

/-- CSR_WRITE writes registers, stopping at the first failure (R407). -/
def execCsrWrite (eid : Nat) (sw : Nat) (tag : Nat) (off : Nat) (width : Nat) (vals : List Word) (s : State) : Outcome :=
  .next ((s.vendorWrite eid sw tag off width vals).writeDone)

/-- LAST_XFER writes into the load buffer (R408). -/
def execLastXfer (eid : Nat) (sw : Nat) (tag : Nat) (len : Nat) (off : Nat) (data : List Byte) (s : State) : Outcome :=
  .next ((s.fwRequest eid tag (.lastXfer eid sw tag len off data) fun t => t.lastXfer eid sw tag len off data).settle)

/-- SEC_RELAY relays a record to the enclave (R391). -/
def execSecRelay (eid : Nat) (sw : Nat) (tag : Nat) (op : Nat) (nonce : Nat) (signer : Option Nat) (a : Nat) (b : Nat) (ok : Bool) (ids : List Nat) (s : State) : Outcome :=
  .next ((s.fwRequest eid tag (.secRelay eid sw tag op nonce signer a b ok ids) fun t => t.secRelay eid sw tag (secRecord op nonce signer a b ok ids)).settle)

/-- EVENT_REPLAY returns records of the event log, or GONE (R413). -/
def execEventReplay (eid : Nat) (tag : Nat) (first : Nat) (n : Nat) (s : State) : Outcome :=
  .next (s.fwRequest eid tag (.eventReplay eid tag first n) fun t => t.eventReplay eid tag first n)

/-- MODULE_INFO (R406). -/
def execModuleInfo (eid : Nat) (tag : Nat) (s : State) : Outcome :=
  .next (s.fwRequest eid tag (.moduleInfo eid tag) fun t => t.moduleInfo eid tag)

/-- RECOVERY_BOOT starts an image in the recovery state (R409). -/
def execRecoveryBoot (eid : Nat) (tag : Nat) (img : Nat) (s : State) : Outcome :=
  .next ((s.recoveryBoot eid tag img).writeDone)

/-! ### Debug access (R510) -/

/-- DBG_OPEN opens a session, or is answered with BUSY (R510). -/
def execDbgOpen (path : Nat) (eid : Nat) (tag : Nat) (s : State) : Outcome :=
  .next (s.fwRequest eid tag (.dbgOpen path eid tag) fun t => t.dbgOpen path eid tag)

/-- DBG_ACCESS makes one checked access of agent 84 (R510). -/
def execDbgAccess (path : Nat) (eid : Nat) (tag : Nat) (write : Bool) (sp : Nat) (ident : Nat) (len : Nat) (addr : Nat) (data : List Byte) (s : State) : Outcome :=
  .next ((s.fwRequest eid tag (.dbgAccess path eid tag write sp ident len addr data) fun t => t.dbgAccess path eid tag write sp ident len addr data).writeDone)

/-- DBG_CLOSE closes the session (R510). -/
def execDbgClose (path : Nat) (eid : Nat) (tag : Nat) (s : State) : Outcome :=
  .next (s.fwRequest eid tag (.dbgClose path eid tag) fun t => t.dbgClose path eid tag)

/-- A session has been idle for its limit (R510). -/
def execDbgIdleTimeout (s : State) : Outcome :=
  .next (s.dbgTimeout)

end Sys2Proof.Machine
end

