-- ==== Sys2Proof/Machine/CmdModule.lean ====
section
/-!
DEFINITION. The commands of the module: resets, start-up and the I3C target (spec/19).
-/
namespace Sys2Proof.Machine
open Sys2Proof

/-! ### Resets (R498 to R501) -/

/-- PERST_N has been low for 100 µs (R499). -/
def execPerstAssert (s : State) : Outcome :=
  .next (s.perstAssert)

/-- PERST_N is high (R499). -/
def execPerstRelease (s : State) : Outcome :=
  .next (s.perstRelease)

/-- A write of GLB_RST: MODULE (R499). -/
def execModuleResetCmd (p : Path) (v : Word) (s : State) : Outcome :=
  s.within (isPath p) fun t => t.pathWrite p R.GLB_RST v

/-- A write of GLB_RST: MGMT, or its refusal (R500). -/
def execMgmtReset (p : Path) (v : Word) (s : State) : Outcome :=
  s.within (isPath p) fun t => t.pathWrite p R.GLB_RST v

/-- A write of GLB_RST: MGMT_HOLD (R500). -/
def execMgmtHoldWrite (p : Path) (v : Word) (s : State) : Outcome :=
  s.within (isPath p) fun t => t.pathWrite p R.GLB_RST v

/-- The restart load after a management reset commits (R501). -/
def execMgmtRestartDone (s : State) : Outcome :=
  .next ((s.mgmtRestart).writeDone)

/-- The 1 ms of a module reset have passed (R499). -/
def execModuleResetPulseEnd (s : State) : Outcome :=
  .next (s.pulseEnd)

/-! ### Start-up (R488, R494 to R497) -/

/-- The Always-on reset is released (R494). -/
def execAlwaysOnResetRelease (s : State) : Outcome :=
  .next ((s.aonRelease).settle)

/-- The power-up self-tests end (R399, R497). -/
def execPowerUpSelfTestDone (ok : Bool) (s : State) : Outcome :=
  .next ((s.powerUpTests ok).settle)

/-- Cn_RST_N is released 100 ms after READY (R488). -/
def execCageResetRelease (b : Nat) (s : State) : Outcome :=
  s.within (decide (b < 16)) fun t => t.cageRelease b

/-- READY is sent once everything has settled (R495). -/
def execReadySend (s : State) : Outcome :=
  .next ((s.readySend).writeDone)

/-- READY is sent with PARTIAL at the limit (R495). -/
def execReadyLimitExpiry (s : State) : Outcome :=
  .next ((s.readyLimit).writeDone)

/-! ### The I3C target (R491) -/

/-- ENTDAA (R491). -/
def execI3cEntdaa (addr : Nat) (s : State) : Outcome :=
  .next (s.i3cEntdaa addr)

/-- RSTDAA (R491). -/
def execI3cRstdaa (s : State) : Outcome :=
  .next (s.i3cRstdaa)

/-- SETNEWDA (R491). -/
def execI3cSetnewda (addr : Nat) (s : State) : Outcome :=
  .next (s.i3cSetnewda addr)

/-- GETPID (R491). -/
def execI3cGetpid (s : State) : Outcome :=
  .next (s.i3cGet 0x8D s.provisionalId)

/-- GETBCR (R491). -/
def execI3cGetbcr (s : State) : Outcome :=
  .next (s.i3cGet 0x8E ((Config.device 1).toNat % 256))

/-- GETDCR (R491). -/
def execI3cGetdcr (s : State) : Outcome :=
  .next (s.i3cGet 0x8F ((Config.device 2).toNat % 256))

/-- GETMXDS (R491). -/
def execI3cGetmxds (s : State) : Outcome :=
  .next (s.i3cGet 0x94 ((Config.device 3).toNat % 65536))

/-- ENEC (R491). -/
def execI3cEnec (s : State) : Outcome :=
  .next (s.i3cIbi true)

/-- DISEC (R491). -/
def execI3cDisec (s : State) : Outcome :=
  .next (s.i3cIbi false)

/-- SETMRL (R491). -/
def execI3cSetmrl (n : Nat) (s : State) : Outcome :=
  .next (s.i3cLimit true n)

/-- SETMWL (R491). -/
def execI3cSetmwl (n : Nat) (s : State) : Outcome :=
  .next (s.i3cLimit false n)

/-- Hot-Join is requested (R491). -/
def execI3cHotJoin (s : State) : Outcome :=
  .next (s.i3cHotJoin)

end Sys2Proof.Machine
end

