-- ==== Sys2Proof/Machine/CmdMornu.lean ====
section
/-!
DEFINITION. The commands of the Mornu links and the fabric's routes (spec/06).
-/
namespace Sys2Proof.Machine
open Sys2Proof

/-- A flit received, and what arrives complete with it: each message enters through the link's agent (R163, R185). -/
def State.flitArrive (s : State) (m : Nat) (ok : Bool) (corr unc : Nat) (h : FlitHdr) (ids : List Nat) (msgs : List Msg) : State :=
  let r := s.flitRx m ok corr unc h ids msgs
  (r.1.each r.2 fun t x => t.ingress (64 + m) .none x).writeDone

/-- A fence message passes step 7 of its virtual channel (R186). -/
def State.fenceArrive (s : State) (m : Nat) (x : Msg) : State :=
  if s.mlState m = mlUpSt ∧ x.op = .fence ∧ x.kind = .fence then (s.ingress (64 + m) .none (s.landedMsg m x)).writeDone else s

/-! ### Flits (R159 to R171) -/

/-- A lane marker arrives, and the lane is deskewed by it (R159). -/
def execLaneMarkerRx (m : Nat) (lane : Nat) (gcnt : Nat) (skew : Nat) (s : State) : Outcome :=
  s.within (isLink m && decide (lane < 8)) fun t => ((t.laneMarker m lane gcnt skew).laceStep m).settle

/-- A flit arrives (R162 to R165, R169). -/
def execFlitRx (m : Nat) (ok : Bool) (corr : Nat) (unc : Nat) (h : FlitHdr) (ids : List Nat) (msgs : List Msg) (s : State) : Outcome :=
  s.within (isLink m) fun t => t.flitArrive m ok corr unc h ids msgs

/-- A flit boundary of the transmitter (R161, R204). -/
def execFlitTx (m : Nat) (s : State) : Outcome :=
  s.within (isLink m) fun t => (t.flitTx m).writeDone

/-- The replay timer expires (R166). -/
def execReplayTimerExpiry (m : Nat) (s : State) : Outcome :=
  s.within (isLink m) fun t => (t.replayExpiry m).settle

/-- A spilled flit returns from the Insole (R171). -/
def execSpillReadback (m : Nat) (seq : Nat) (ok : Bool) (s : State) : Outcome :=
  s.within (isLink m) fun t => (t.spillBack m seq ok).writeDone

/-! ### Initialisation (R172 to R177) -/

/-- An INIT message arrives (R175). -/
def execInitRx (m : Nat) (im : InitMsg) (s : State) : Outcome :=
  s.within (isLink m) fun t => (t.initRx m im).writeDone

/-- The retry after a peer mismatch (R172). -/
def execInitRetryTimer (m : Nat) (s : State) : Outcome :=
  s.within (isLink m) fun t => t.initRetryEnd m

/-- A CRED message gives the size of a pool (R169). -/
def execCredRx (m : Nat) (pool : Nat) (size : Nat) (s : State) : Outcome :=
  s.within (isLink m) fun t => t.credRx m pool size

/-- LINKDOWN arrives (R172). -/
def execLinkdownRx (m : Nat) (s : State) : Outcome :=
  s.within (isLink m) fun t => (t.linkdownRx m).settle

/-! ### Lace and unlace (R181 to R183) -/

/-- LACE_REQ arrives (R181, R183). -/
def execLaceReqRx (m : Nat) (arg : Nat) (s : State) : Outcome :=
  s.within (isLink m) fun t => t.laceReq m arg

/-- LACE_READY arrives (R181). -/
def execLaceReadyRx (m : Nat) (arg : Nat) (s : State) : Outcome :=
  s.within (isLink m) fun t => t.laceReady m arg

/-- UNLACE_REQ arrives (R182, R183). -/
def execUnlaceReqRx (m : Nat) (arg : Nat) (s : State) : Outcome :=
  s.within (isLink m) fun t => t.unlaceReq m arg

/-- UNLACE_ACK arrives (R182, R183). -/
def execUnlaceAckRx (m : Nat) (arg : Nat) (s : State) : Outcome :=
  s.within (isLink m) fun t => t.unlaceAck m arg

/-- LACE_ABORT arrives (R181, R183). -/
def execLaceAbortRx (m : Nat) (arg : Nat) (s : State) : Outcome :=
  s.within (isLink m) fun t => t.laceAbort m arg

/-! ### Routes (R186) -/

/-- A FENCE message arrives over a link (R186). -/
def execFenceRx (m : Nat) (msg : Msg) (s : State) : Outcome :=
  s.within (isLink m) fun t => t.fenceArrive m msg

/-- FENCE_DONE arrives, and traffic returns to the primary (R186). -/
def execFenceDoneRx (sw : Nat) (fid : Nat) (s : State) : Outcome :=
  s.within (isSwitch sw) fun t => (t.fenceDone sw fid).writeDone

/-- FLUSHED arrives for the primary's session, and traffic moves to the alternate (R186). -/
def execFlushedRx (sw : Nat) (session : Nat) (s : State) : Outcome :=
  s.within (isSwitch sw) fun t => (t.flushedRx sw session).writeDone

/-! ### States of a link (R172 to R179) -/

/-- A write of ML_LINK_CMD: RETRAIN (R172). -/
def execMlRetrain (p : Path) (m : Nat) (v : Word) (s : State) : Outcome :=
  s.within (isPath p && isLink m) fun t => t.pathWrite p (R.ML_LINK_CMD + dLink m) v

/-- A write of ML_LINK_CMD: DISABLE (R172). -/
def execMlDisable (p : Path) (m : Nat) (v : Word) (s : State) : Outcome :=
  s.within (isPath p && isLink m) fun t => t.pathWrite p (R.ML_LINK_CMD + dLink m) v

/-- A training attempt ends at its limit (R173). -/
def execMlTrainTimeout (m : Nat) (s : State) : Outcome :=
  s.within (isLink m) fun t => t.mlTrainTimeout m

/-- The grace period ends (R177). -/
def execGraceExpiry (m : Nat) (s : State) : Outcome :=
  s.within (isLink m) fun t => (t.graceExpiry m).writeDone

/-- All held traffic has been completed (R179). -/
def execMlFlushDone (m : Nat) (s : State) : Outcome :=
  s.within (isLink m) fun t => (t.mlFlushDone m).writeDone

/-- A write of ML_LACE_CTL: GO starts a lace, or is refused (R181, R183). -/
def execLaceGo (p : Path) (m : Nat) (v : Word) (s : State) : Outcome :=
  s.within (isPath p && isLink m) fun t => t.pathWrite p (R.ML_LACE_CTL + dLink m) v

/-- A write of ML_LACE_CTL: GO starts an unlace, or is refused (R182, R183). -/
def execUnlaceGo (p : Path) (m : Nat) (v : Word) (s : State) : Outcome :=
  s.within (isPath p && isLink m) fun t => t.pathWrite p (R.ML_LACE_CTL + dLink m) v

/-- A lace has not switched within 4,096 stitches (R181). -/
def execLaceTimeout (m : Nat) (s : State) : Outcome :=
  s.within (isLink m) fun t => t.laceTimeout m

/-- FLUSHED has not arrived in time, and traffic moves to the alternate (R186). -/
def execRouteFailoverTimeout (sw : Nat) (s : State) : Outcome :=
  s.within (isSwitch sw) fun t => (t.routeTimeout sw).writeDone

/-- FENCE_DONE has not arrived within 256 stitches (R186). -/
def execFenceRetryTimeout (sw : Nat) (s : State) : Outcome :=
  s.within (isSwitch sw) fun t => t.fenceRetry sw

end Sys2Proof.Machine
end

