-- ==== Sys2Proof/Machine/CmdPorts.lean ====
section
/-!
DEFINITION. The commands of the edge ports (spec/05).
-/
namespace Sys2Proof.Machine
open Sys2Proof

/-- The vPPB of a place of a virtual switch whose upstream port is `n`. -/
def State.vppbAt (s : State) (n vs k : Nat) : Option Nat :=
  if vs < 64 ∧ s.on F.BND_VSW_VALID (4 * vs) ∧ s.get F.BND_VSW_UPORT (4 * vs) = n ∧ k < s.get F.BND_VSW_COUNT (4 * vs) then
    some (s.get F.BND_VSW_FIRST (4 * vs) + k)
  else none

/-- A secondary bus reset on a vPPB's bridge (R145). -/
def State.secondaryReset (s : State) (n vs k : Nat) : State := match s.vppbAt n vs k with | some v => s.busReset v | none => s

/-- Migrations whose backing is lost are abandoned (spec/11 R315). -/
def State.migsLost (s : State) (n : Nat) : State :=
  s.each (s.ins.migs.filter fun g => s.rngPort g.rng == n) fun t g => releaseHeld (t.migAbandon g)

/-- A loss is declared at its boundary: the port, its bindings, migrations, and what the Vamp bridge and the enclave hold for it (R147, R330, R370, R394). -/
def State.lossDeclared (s : State) (n : Nat) : State :=
  if s.lossReady n then
    ((((s.lossAll n).migsLost n).vampLoss n).setSec fun x => { x with ideKeys := x.ideKeys.filter fun e => e.1 != n }).writeDone
  else s

/-- An integrity failure on a stream, whose keys the enclave drops (R153). -/
def State.ideFailed (s : State) (n stream : Nat) : State :=
  let live := if stream = 0 then s.get F.EP_IDE_STATUS_LINK_STATE (dPort n) == 1 else (s.get F.EP_IDE_STATUS_SEL_ACTIVE (dPort n)).testBit (stream - 1)
  if live then ((s.ideMacFail n stream).setSec fun x => { x with ideKeys := x.ideKeys.filter fun e => !(e.1 == n && e.2 == stream) }).settle else s

/-! ### Training (R136 to R141) -/

/-- The link reaches L0 at its target rate (R138, R150). -/
def execPortLinkUp (n : Nat) (rate : Nat) (width : Nat) (flit : Bool) (ver : Nat) (protos : Nat) (fmt : Nat) (lds : Nat) (bi : Bool) (s : State) : Outcome :=
  s.within (isPort n) fun t => (t.linkUpAll n ⟨rate, width, flit, ver, protos, fmt, lds, bi⟩).writeDone

/-- An attempt has not reached L0 within its limit (R138). -/
def execPortTrainTimeout (n : Nat) (s : State) : Outcome :=
  s.within (isPort n) fun t => (t.attemptTimeout n).settle

/-- The LTSSM enters Detect (R138, R147). -/
def execPortLtssmDetect (n : Nat) (s : State) : Outcome :=
  s.within (isPort n) fun t => (t.ltssmDetect n).settle

/-- A link in L0 enters Recovery (R139, R147). -/
def execPortRecoveryEntry (n : Nat) (s : State) : Outcome :=
  s.within (isPort n) fun t => t.portRecovery n

/-- A window of 1,024 stitches of recoveries ends (R139). -/
def execRecoveryWindowEnd (n : Nat) (s : State) : Outcome :=
  s.within (isPort n) fun t => (t.recoveryWindow n).settle

/-- XR_ENABLE and XR_LOPT_EN are written (R136). -/
def execXrEnableWrite (n : Nat) (en : Bool) (lopt : Bool) (s : State) : Outcome :=
  s.within (isPort n) fun t => t.xrWrite n en lopt

/-- An attempt at 128.0 GT/s fails (R137). -/
def execXrAttemptFail (n : Nat) (s : State) : Outcome :=
  s.within (isPort n) fun t => t.xrFail n

/-- A write of EP_LINK_CMD: RETRAIN (R141). -/
def execPortRetrain (p : Path) (n : Nat) (v : Word) (s : State) : Outcome :=
  s.within (isPath p && isPort n) fun t => t.pathWrite p (R.EP_LINK_CMD + dPort n) v

/-! ### Resets (R145, R146) -/

/-- A write of EP_LINK_CMD: HOT_RESET, or its refusal (R145). -/
def execPortHotReset (p : Path) (n : Nat) (v : Word) (s : State) : Outcome :=
  s.within (isPath p && isPort n) fun t => t.pathWrite p (R.EP_LINK_CMD + dPort n) v

/-- A write of EP_LINK_CMD: DISABLE holds the link in Disabled (R145). -/
def execPortDisable (p : Path) (n : Nat) (v : Word) (s : State) : Outcome :=
  s.within (isPath p && isPort n) fun t => t.pathWrite p (R.EP_LINK_CMD + dPort n) v

/-- A hot reset arrives from the host (R145). -/
def execHotResetReceived (n : Nat) (s : State) : Outcome :=
  s.within (isPort n) fun t => (t.hotReset n).writeDone

/-- A secondary bus reset on a vPPB (R145). -/
def execSecondaryBusReset (n : Nat) (vs : Nat) (k : Nat) (s : State) : Outcome :=
  s.within (isPort n) fun t => t.secondaryReset n vs k

/-! ### Outstanding requests (R142 to R144) -/

/-- A completion arrives from the partner (R142). -/
def execNpCompletionRx (n : Nat) (msg : Msg) (s : State) : Outcome :=
  s.within (isPort n) fun t => (t.npArrive n msg).writeDone

/-- EP_CPL_TO has run out for a request of the module's own agents (R143). -/
def execSwitchCplTimeout (n : Nat) (id : Nat) (s : State) : Outcome :=
  s.within (isPort n) fun t => (t.cplTimeout n id).writeDone

/-! ### Loss and insertion (R147 to R150) -/

/-- The loss timer has run out (R147). -/
def execHpLossTimeout (n : Nat) (s : State) : Outcome :=
  s.within (isPort n) fun t => t.lossTimeout n

/-- The first boundary after a loss cause declares the loss (R147). -/
def execLinkLossDeclare (n : Nat) (s : State) : Outcome :=
  s.within (isPort n) fun t => t.lossDeclared n

/-- Everything outstanding has been completed (R148, R150). -/
def execLinkLossComplete (n : Nat) (s : State) : Outcome :=
  s.within (isPort n) fun t => t.lossComplete n

/-- The readiness wait elapses (R150). -/
def execHpWaitExpiry (n : Nat) (s : State) : Outcome :=
  s.within (isPort n) fun t => t.hpWaitEnd n false

/-- A DRS message ends the readiness wait (R150). -/
def execDrsReceived (n : Nat) (s : State) : Outcome :=
  s.within (isPort n) fun t => t.hpWaitEnd n true

/-! ### IDE (R151 to R154) -/

/-- IDE_KM programs and starts a stream's keys (R152 to R154, R394). -/
def execIdeKeyProg (n : Nat) (stream : Nat) (ok : Bool) (s : State) : Outcome :=
  s.within (isPort n) fun t => (t.ideKeyProg n stream ok).settle

/-- No secure stream at the establishment limit (R152). -/
def execIdeEstTimeout (n : Nat) (s : State) : Outcome :=
  s.within (isPort n) fun t => (t.ideLimit n).settle

/-- An integrity check failure (R153). -/
def execIdeMacFail (n : Nat) (stream : Nat) (s : State) : Outcome :=
  s.within (isPort n) fun t => t.ideFailed n stream

/-- The refresh interval of the requester's keys has passed (R154, R394). -/
def execIdeRekeyTimer (n : Nat) (s : State) : Outcome :=
  s.within (isPort n) fun t => t.ideRekey n

end Sys2Proof.Machine
end

