-- ==== Sys2Proof/Machine/CmdPower.lean ====
section
/-!
DEFINITION. The commands of the power entry (spec/18).
-/
namespace Sys2Proof.Machine
open Sys2Proof

/-! ### Feeds and the controller (R459 to R473) -/

/-- A feed enters its window (R459). -/
def execFeedWindowEnter (feed : Nat) (s : State) : Outcome :=
  s.within (decide (feed < 2)) fun t => t.feedEnter feed

/-- A feed leaves its window (R459, R460). -/
def execFeedWindowLeave (feed : Nat) (s : State) : Outcome :=
  s.within (decide (feed < 2)) fun t => (t.feedLeave feed).settle

/-- Bias appears (R463). -/
def execBiasPresent (s : State) : Outcome :=
  .next (s.biasPresent)

/-- Bias has been absent for 1,000 ms (R463). -/
def execBiasLoss (s : State) : Outcome :=
  .next (s.biasLoss)

/-- The insertion delay has elapsed (R464). -/
def execInsertionDelayExpiry (s : State) : Outcome :=
  .next (s.insertionEnd)

/-- PM_EN rises (R463, R470). -/
def execPmEnRise (s : State) : Outcome :=
  .next (s.pmEnRise)

/-- PM_EN has been low for 100 µs (R463). -/
def execPmEnLow (s : State) : Outcome :=
  .next (s.pmEnLow)

/-- PM_EN has been low for 100 ms with a feed in its window (R470). -/
def execLatchClear (s : State) : Outcome :=
  .next (s.latchClear)

/-- The cool-down ends (R470). -/
def execCooldownEnd (s : State) : Outcome :=
  .next (s.cooldownEnd)

/-- Power good (R466). -/
def execPowerGood (s : State) : Outcome :=
  .next (s.powerGood)

/-- The regulators are enabled 1 ms after power good (R466, R494). -/
def execRegulatorEnable (s : State) : Outcome :=
  .next (s.regulatorEnable)

/-- Power good is lost in ON: a breaker trip (R466). -/
def execPowerGoodLost (s : State) : Outcome :=
  .next (s.powerGoodLost)

/-- The pass FET's current exceeds 24 A (R467). -/
def execFastTrip (s : State) : Outcome :=
  .next (s.fetTrip ocFast)

/-- The breaker timer has reached 1 ms (R468). -/
def execBreakerTrip (s : State) : Outcome :=
  .next (s.fetTrip ocBreaker)

/-- The SOA timer has reached 10 ms (R469). -/
def execSoaTrip (s : State) : Outcome :=
  .next (s.fetTrip ocSoa)

/-- No power good 40 ms after the ramp began (R469). -/
def execRampTimeout (s : State) : Outcome :=
  .next (s.rampTimeout)

/-- The pass FET exceeds 150 °C (R469). -/
def execFetOvertemp (s : State) : Outcome :=
  .next (s.fetTrip ocFetOt)

/-- An ORing FET turns off on reverse current (R461, R462). -/
def execReverseCurrentTurnoff (feed : Nat) (s : State) : Outcome :=
  s.within (decide (feed < 2)) fun t => (t.reverseOff feed).settle

/-! ### The PWR block (R475 to R481) -/

/-- A write of PWR_CFG: NV_COMMIT (R481). -/
def execNvCommit (p : Path) (v : Word) (s : State) : Outcome :=
  s.within (isPath p) fun t => t.pathWrite p R.PWR_CFG v

/-- A write of PWR_PIN_PEAK: CLR (R479). -/
def execPeakClear (p : Path) (v : Word) (s : State) : Outcome :=
  s.within (isPath p) fun t => t.pathWrite p R.PWR_PIN_PEAK v

/-- Every margin has stayed above M_HIGH for 1,024 stitches (R475). -/
def execAvsRegularLower (s : State) : Outcome :=
  .next (s.avsLower)

/-- A domain's margin falls below M_CRIT (R475, R476). -/
def execAvsUrgentRaise (d : Nat) (margin : Nat) (s : State) : Outcome :=
  s.within (decide (d < 4)) fun t => t.avsUrgent margin

end Sys2Proof.Machine
end

