-- ==== Sys2Proof/Machine/CmdSole.lean ====
section
/-!
DEFINITION. The commands of the Sole: arrivals, cell times, waiting messages and queues (spec/01, spec/07, spec/08).
-/
namespace Sys2Proof.Machine
open Sys2Proof

/-- The agents whose requests enter by a command: edge ports and internal agents (spec/01 R24). -/
def isSource (n : Nat) : Bool := decide (n < 64) || (decide (72 ≤ n) && decide (n ≤ 84))

/-- A blocked port answers a request of its own partner as for a lost link, straight back (spec/05 R148, R152). -/
def State.blockedArrive (s : State) (n : Nat) (m0 : Msg) : State :=
  let m := { m0 with via := n, srcSw := s.ownSw, srcAg := n }
  let back (t : State) (op : Op) (st : Status) (d : List Byte) (p : Bool) : State := t.send (.port n (t.response n m op st d p 0))
  match m.op with
  | .memRd | .memRdData => back s .memData .ok (poisonLine 64) true
  | .memWr | .memWrPtl => back ((s.occ 704 n).memLostNotice n m.id) .cmp .ok [] false
  | .memInv | .memInvNT | .memClnEvct => back s .cmp .ok [] false
  | .mRd | .mRdLk | .atomicOp => back s .cpl .ca [] false
  | .rdCurr | .rdOwn | .rdShared | .rdAny => back s .cacheData .ok (poisonLine 64) true
  | .rdOwnNoData | .cacheOther => back s .goErr .ok [] false
  | .itoMWr | .wrCur | .wrInv | .wrInvPtl | .dirtyEvict | .cleanEvict | .cleanEvictNoData => back s .goWritePullDrop .ok [] false
  | .mWr => s.postedDrop n m
  | _ => s

/-- Whether the link of a port has not negotiated the protocol of a message (spec/05 R131, R155): a link-layer error (R132). -/
def State.notNegotiated (s : State) (n : Nat) (m : Msg) : Bool :=
  match m.kind with
  | .memM2S | .memS2M => !s.on F.EP_CXL_STATUS_MEM (dPort n)
  | .cacheD2H | .cacheH2D => !s.on F.EP_CXL_STATUS_CACHE (dPort n)
  | .bi => !s.on F.EP_CXL_STATUS_BI (dPort n)
  | _ => false

/-- A request arrives at an edge port whose link is up, or is originated by an internal agent (R28). One of a protocol that the link has not
negotiated is a link-layer error, and the link retrains (spec/05 R132). -/
def State.requestArrival (s : State) (n : Nat) (r : Route) (m : Msg) : State :=
  if n < 64 then
    if !s.portUp n then s
    else if s.notNegotiated n m then s.portRecovery n
    else if isReq m && s.on F.EP_IDE_STATUS_BLOCKED (dPort n) && !blockedPass m then (s.blockedArrive n m).settle
    else (s.arrive n r m).writeDone
  else (s.arrive n r m).writeDone

/-- A cell time, with what the internal agents do in it (R198): the Cobbler's next accesses, and the messages that have reached the Clicker complex and
the debug master. -/
def State.cellTimeAll (s : State) (ecc : List Nat) : State := (((s.cellTime ecc).cobStep).clickerStep).writeDone

/-- A request arrives at an edge port or from an internal agent, and its ingress examination runs (R28). -/
def execRequestArrival (n : Nat) (r : Route) (msg : Msg) (s : State) : Outcome :=
  s.within (isSource n) fun t => t.requestArrival n r msg

/-- A message of a class waiting at step 7 takes its cells once they are free (R196). -/
def execCellAllocateWaiting (c : Nat) (s : State) : Outcome :=
  .next ((s.allocWaiting c).writeDone)

/-- A deferred red request is enqueued once Q is below HARD (R208). -/
def execRedDeferRelease (id : Nat) (s : State) : Outcome :=
  .next ((s.releaseRed id).writeDone)

/-- A message waiting for an active queue slot claims one (R217). -/
def execActiveSlotClaim (s : State) : Outcome :=
  .next ((s.claimWaiting).writeDone)

/-- The state of an idle queue arrives from the Insole (R216, R218). -/
def execQueueStateFetchDone (q : Nat) (out : Nat) (s : State) : Outcome :=
  .next ((s.queueFetched q out).writeDone)

/-- A cell time passes (R198). -/
def execCellTime (ecc : List Nat) (s : State) : Outcome :=
  .next (s.cellTimeAll ecc)

/-- The averages are updated every 64 cell times (R205). -/
def execCongestionAvgUpdate (s : State) : Outcome :=
  .next (s.avgTick)

end Sys2Proof.Machine
end

