-- ==== Sys2Proof/Machine/CmdVamp.lean ====
section
/-!
DEFINITION. The commands of the Vamp bridge (spec/13) and of the violation ring (spec/14 R386).
-/
namespace Sys2Proof.Machine
open Sys2Proof

/-- A message that has crossed to the Vamp bridge and is of a kind, taken by the bridge for an effect. -/
def State.vampTakes (s : State) (id : Nat) (kind : Msg → Bool) (f : State → Msg → State) : State :=
  match s.crossed? 80 id with
  | some m => if kind m then (f (s.uncross 80 id) m).writeDone else s
  | none => s

/-- Whether a message comes from a host, toward a vPPB's function, or from a device at a held port. -/
def fromHost (m : Msg) : Bool := decide (m.sid < 1024)

/-- Whether an outbound request has no row of its own. -/
def outPlain (o : Op) : Bool := match o with | .mRdLk | .unlock | .cfgRd | .cfgWr => false | _ => true

/-- A posted message of a device can be taken: the bridge has room for it (R369). -/
def State.inRoom (s : State) (m : Msg) : Bool := s.inqRoom (m.sid - 1024)

/-- A device message of a kind (R368). -/
def State.vampMessage (s : State) (id kind rtid tag : Nat) : State :=
  s.vampTakes id (fun m => m.op == .msg && !fromHost m && s.inRoom m) fun t m => t.vampMsg kind m rtid tag

/-- A posted write is accepted at its target (R369). -/
def State.noticeRx (s : State) (id : Nat) : State := s.setSole fun o => { o with posted := o.posted.filter fun p => p.1 != id }

/-! ### Requests and completions (R360 to R367) -/

/-- A host request to a presented function (R360). -/
def execVampOutboundRequest (id : Nat) (s : State) : Outcome :=
  .next (s.vampTakes id (fun m => isReq m && fromHost m && outPlain m.op) State.vampOut)

/-- A device request (R361). -/
def execVampInboundRequest (id : Nat) (s : State) : Outcome :=
  .next (s.vampTakes id (fun m => isReq m && !fromHost m && m.op != .msg && (m.op != .mWr || s.inRoom m)) State.vampIn)

/-- A completion returns to the bridge (R360). -/
def execVampCompletion (id : Nat) (s : State) : Outcome :=
  .next (s.vampTakes id (fun m => isResp m.op) State.vampCpl)

/-- A locked read of a host takes the semaphore, or waits (R366). -/
def execVampMrdlk (id : Nat) (s : State) : Outcome :=
  .next (s.vampTakes id (fun m => m.op == .mRdLk && fromHost m) State.vampOut)

/-- An Unlock of a host (R366). -/
def execVampUnlock (id : Nat) (s : State) : Outcome :=
  .next (s.vampTakes id (fun m => m.op == .unlock && fromHost m) State.vampUnlock)

/-- A lock has been held VAMP_LOCK_TO stitches (R367). -/
def execVampLockTimeout (n : Nat) (s : State) : Outcome :=
  s.within (isPort n) fun t => (t.lockTimeout n).writeDone

/-! ### Messages of devices (R368, R369) -/

/-- Assert_INTx or Deassert_INTx (R368). -/
def execVampIntxMessage (id : Nat) (rtid : Nat) (pin : Nat) (on : Bool) (s : State) : Outcome :=
  .next (s.vampMessage id vqIntx rtid (2 * pin + bit on))

/-- An error message (R368). -/
def execVampErrMessage (id : Nat) (rtid : Nat) (sev : Nat) (s : State) : Outcome :=
  .next (s.vampMessage id vqErr rtid sev)

/-- PM_PME or a vendor-defined message (R368). -/
def execVampForwardMessage (id : Nat) (rtid : Nat) (s : State) : Outcome :=
  .next (s.vampMessage id vqFwd rtid 0)

/-- A message that is consumed and counted (R368). -/
def execVampConsumedMessage (id : Nat) (s : State) : Outcome :=
  .next (s.vampMessage id vqEat 0 0)

/-- The first waiting message of a device is released (R369). -/
def execVampMessageRelease (n : Nat) (s : State) : Outcome :=
  s.within (isPort n) fun t => (t.vampRelease n).writeDone

/-- An acceptance notice of a far module arrives (R369). -/
def execAcceptanceNoticeRx (id : Nat) (s : State) : Outcome :=
  .next (s.noticeRx id)

/-! ### Prefetch, timeouts, configuration (R359, R364, R372) -/

/-- A prefetched line has outlived AGE (R364). -/
def execPfLineAgeExpiry (w : Nat) (slice : Nat) (addr : Nat) (s : State) : Outcome :=
  .next ((s.pfAged w slice addr).settle)

/-- A tracking entry's timer has expired (R372). -/
def execVampNpTimeout (no : Nat) (s : State) : Outcome :=
  .next ((s.vampNpTimeout no).writeDone)

/-- A configuration write to a presented function (R359). -/
def execVampConfigWrite (id : Nat) (what : Nat) (k : Nat) (s : State) : Outcome :=
  .next (s.vampTakes id (fun m => m.op == .cfgWr && fromHost m) fun t m => t.vampCfgWrite m what k)

/-- A configuration read of a presented function (R359). -/
def execVampConfigRead (id : Nat) (what : Nat) (k : Nat) (s : State) : Outcome :=
  .next (s.vampTakes id (fun m => m.op == .cfgRd && fromHost m) fun t m => t.vampCfgRead m what k)

/-- A queued violation record is written to the ring (R386). -/
def execViolationRecordWrite (s : State) : Outcome :=
  .next ((s.violWrite).settle)

end Sys2Proof.Machine
end

