-- ==== Sys2Proof/Machine/Dispatch.lean ====
section
/-!
DEFINITION. The dispatch of commands to their meanings: one arm per row of spec/opcode_table.json.
-/
namespace Sys2Proof.Machine
open Sys2Proof

/-- The effect of a command on everything but the queue. -/
def exec (i : Instr) (s : State) : Host.Outcome State Fault Refusal :=
  match i with
  | .registerWrite p off v => Sys2Proof.Machine.execRegisterWrite p off v s
  | .loReadSnapshot p off => Sys2Proof.Machine.execLoReadSnapshot p off s
  | .loWriteHold p off v => Sys2Proof.Machine.execLoWriteHold p off v s
  | .hiWriteApply p off v => Sys2Proof.Machine.execHiWriteApply p off v s
  | .stickyBitClear p off v => Sys2Proof.Machine.execStickyBitClear p off v s
  | .stitchBoundary smp => Sys2Proof.Machine.execStitchBoundary smp s
  | .stitchRun p v => Sys2Proof.Machine.execStitchRun p v s
  | .swapArm p v => Sys2Proof.Machine.execSwapArm p v s
  | .swapDisarm p v => Sys2Proof.Machine.execSwapDisarm p v s
  | .swapApply g unit => Sys2Proof.Machine.execSwapApply g unit s
  | .armStateRx g unit => Sys2Proof.Machine.execArmStateRx g unit s
  | .swapLateApply g unit => Sys2Proof.Machine.execSwapLateApply g unit s
  | .stitchMarkerRx m mk rootOfs arrival => Sys2Proof.Machine.execStitchMarkerRx m mk rootOfs arrival s
  | .alignAcquired => Sys2Proof.Machine.execAlignAcquired s
  | .alignLost => Sys2Proof.Machine.execAlignLost s
  | .sourceLost => Sys2Proof.Machine.execSourceLost s
  | .holdoverExpiry => Sys2Proof.Machine.execHoldoverExpiry s
  | .backupRootTakeover => Sys2Proof.Machine.execBackupRootTakeover s
  | .stitchInPulse long period ofs => Sys2Proof.Machine.execStitchInPulse long period ofs s
  | .epochEnd e => Sys2Proof.Machine.execEpochEnd e s
  | .loadStart p v => Sys2Proof.Machine.execLoadStart p v s
  | .loadAbort p v => Sys2Proof.Machine.execLoadAbort p v s
  | .loadFetchDone srcErr => Sys2Proof.Machine.execLoadFetchDone srcErr s
  | .loadAuthDone sigOk => Sys2Proof.Machine.execLoadAuthDone sigOk s
  | .loadCheckDone srcErr digestOk => Sys2Proof.Machine.execLoadCheckDone srcErr digestOk s
  | .loadCommitStart => Sys2Proof.Machine.execLoadCommitStart s
  | .loadCommitDone => Sys2Proof.Machine.execLoadCommitDone s
  | .heldStgWriteRelease => Sys2Proof.Machine.execHeldStgWriteRelease s
  | .heldArmRelease => Sys2Proof.Machine.execHeldArmRelease s
  | .firmwareVerifyDone ok svn => Sys2Proof.Machine.execFirmwareVerifyDone ok svn s
  | .bootConfirm p v => Sys2Proof.Machine.execBootConfirm p v s
  | .bootConfirmTimeout => Sys2Proof.Machine.execBootConfirmTimeout s
  | .bootPrefWrite p v => Sys2Proof.Machine.execBootPrefWrite p v s
  | .laneDetectDone b l => Sys2Proof.Machine.execLaneDetectDone b l s
  | .laneDetectTimeout b l => Sys2Proof.Machine.execLaneDetectTimeout b l s
  | .laneCdrLock b l ofs => Sys2Proof.Machine.execLaneCdrLock b l ofs s
  | .laneAdaptDone b l => Sys2Proof.Machine.execLaneAdaptDone b l s
  | .laneAdaptTimeout b l => Sys2Proof.Machine.execLaneAdaptTimeout b l s
  | .trainingBlockRx b l blk mir own => Sys2Proof.Machine.execTrainingBlockRx b l blk mir own s
  | .laneMapRetry b l => Sys2Proof.Machine.execLaneMapRetry b l s
  | .laneBlockLock b l => Sys2Proof.Machine.execLaneBlockLock b l s
  | .laneBlockLockLoss b l => Sys2Proof.Machine.execLaneBlockLockLoss b l s
  | .laneCdrLoss b l => Sys2Proof.Machine.execLaneCdrLoss b l s
  | .laneRelock b l => Sys2Proof.Machine.execLaneRelock b l s
  | .laneRelockTimeout b l => Sys2Proof.Machine.execLaneRelockTimeout b l s
  | .laneRelockStable b l => Sys2Proof.Machine.execLaneRelockStable b l s
  | .adaptUpdate b l => Sys2Proof.Machine.execAdaptUpdate b l s
  | .adaptFreezeWrite p b l v => Sys2Proof.Machine.execAdaptFreezeWrite p b l v s
  | .coefSnapshot p b l v => Sys2Proof.Machine.execCoefSnapshot p b l v s
  | .marginScanStart p b l v => Sys2Proof.Machine.execMarginScanStart p b l v s
  | .marginPointDone b l pass => Sys2Proof.Machine.execMarginPointDone b l pass s
  | .hostMarginCommand b l start => Sys2Proof.Machine.execHostMarginCommand b l start s
  | .bankWake p b v => Sys2Proof.Machine.execBankWake p b v s
  | .bankPark p b v => Sys2Proof.Machine.execBankPark p b v s
  | .bankReady b pllOk calOk => Sys2Proof.Machine.execBankReady b pllOk calOk s
  | .bankParkDone b => Sys2Proof.Machine.execBankParkDone b s
  | .bankPllUnlock b => Sys2Proof.Machine.execBankPllUnlock b s
  | .bankRelockDone b locked => Sys2Proof.Machine.execBankRelockDone b locked s
  | .familyChange p b v => Sys2Proof.Machine.execFamilyChange p b v s
  | .portLinkUp n rate width flit ver protos fmt lds bi => Sys2Proof.Machine.execPortLinkUp n rate width flit ver protos fmt lds bi s
  | .portTrainTimeout n => Sys2Proof.Machine.execPortTrainTimeout n s
  | .portLtssmDetect n => Sys2Proof.Machine.execPortLtssmDetect n s
  | .portRecoveryEntry n => Sys2Proof.Machine.execPortRecoveryEntry n s
  | .recoveryWindowEnd n => Sys2Proof.Machine.execRecoveryWindowEnd n s
  | .xrEnableWrite n en lopt => Sys2Proof.Machine.execXrEnableWrite n en lopt s
  | .xrAttemptFail n => Sys2Proof.Machine.execXrAttemptFail n s
  | .portRetrain p n v => Sys2Proof.Machine.execPortRetrain p n v s
  | .portHotReset p n v => Sys2Proof.Machine.execPortHotReset p n v s
  | .portDisable p n v => Sys2Proof.Machine.execPortDisable p n v s
  | .hotResetReceived n => Sys2Proof.Machine.execHotResetReceived n s
  | .secondaryBusReset n vs k => Sys2Proof.Machine.execSecondaryBusReset n vs k s
  | .npCompletionRx n msg => Sys2Proof.Machine.execNpCompletionRx n msg s
  | .switchCplTimeout n id => Sys2Proof.Machine.execSwitchCplTimeout n id s
  | .hpLossTimeout n => Sys2Proof.Machine.execHpLossTimeout n s
  | .linkLossDeclare n => Sys2Proof.Machine.execLinkLossDeclare n s
  | .linkLossComplete n => Sys2Proof.Machine.execLinkLossComplete n s
  | .hpWaitExpiry n => Sys2Proof.Machine.execHpWaitExpiry n s
  | .drsReceived n => Sys2Proof.Machine.execDrsReceived n s
  | .ideKeyProg n stream ok => Sys2Proof.Machine.execIdeKeyProg n stream ok s
  | .ideEstTimeout n => Sys2Proof.Machine.execIdeEstTimeout n s
  | .ideMacFail n stream => Sys2Proof.Machine.execIdeMacFail n stream s
  | .ideRekeyTimer n => Sys2Proof.Machine.execIdeRekeyTimer n s
  | .laneMarkerRx m lane gcnt skew => Sys2Proof.Machine.execLaneMarkerRx m lane gcnt skew s
  | .flitRx m ok corr unc h ids msgs => Sys2Proof.Machine.execFlitRx m ok corr unc h ids msgs s
  | .flitTx m => Sys2Proof.Machine.execFlitTx m s
  | .replayTimerExpiry m => Sys2Proof.Machine.execReplayTimerExpiry m s
  | .spillReadback m seq ok => Sys2Proof.Machine.execSpillReadback m seq ok s
  | .initRx m im => Sys2Proof.Machine.execInitRx m im s
  | .initRetryTimer m => Sys2Proof.Machine.execInitRetryTimer m s
  | .credRx m pool size => Sys2Proof.Machine.execCredRx m pool size s
  | .linkdownRx m => Sys2Proof.Machine.execLinkdownRx m s
  | .laceReqRx m arg => Sys2Proof.Machine.execLaceReqRx m arg s
  | .laceReadyRx m arg => Sys2Proof.Machine.execLaceReadyRx m arg s
  | .unlaceReqRx m arg => Sys2Proof.Machine.execUnlaceReqRx m arg s
  | .unlaceAckRx m arg => Sys2Proof.Machine.execUnlaceAckRx m arg s
  | .laceAbortRx m arg => Sys2Proof.Machine.execLaceAbortRx m arg s
  | .fenceRx m msg => Sys2Proof.Machine.execFenceRx m msg s
  | .fenceDoneRx sw fid => Sys2Proof.Machine.execFenceDoneRx sw fid s
  | .flushedRx sw session => Sys2Proof.Machine.execFlushedRx sw session s
  | .mlRetrain p m v => Sys2Proof.Machine.execMlRetrain p m v s
  | .mlDisable p m v => Sys2Proof.Machine.execMlDisable p m v s
  | .mlTrainTimeout m => Sys2Proof.Machine.execMlTrainTimeout m s
  | .graceExpiry m => Sys2Proof.Machine.execGraceExpiry m s
  | .mlFlushDone m => Sys2Proof.Machine.execMlFlushDone m s
  | .laceGo p m v => Sys2Proof.Machine.execLaceGo p m v s
  | .unlaceGo p m v => Sys2Proof.Machine.execUnlaceGo p m v s
  | .laceTimeout m => Sys2Proof.Machine.execLaceTimeout m s
  | .routeFailoverTimeout sw => Sys2Proof.Machine.execRouteFailoverTimeout sw s
  | .fenceRetryTimeout sw => Sys2Proof.Machine.execFenceRetryTimeout sw s
  | .requestArrival n r msg => Sys2Proof.Machine.execRequestArrival n r msg s
  | .cellAllocateWaiting c => Sys2Proof.Machine.execCellAllocateWaiting c s
  | .redDeferRelease id => Sys2Proof.Machine.execRedDeferRelease id s
  | .activeSlotClaim => Sys2Proof.Machine.execActiveSlotClaim s
  | .queueStateFetchDone q out => Sys2Proof.Machine.execQueueStateFetchDone q out s
  | .cellTime ecc => Sys2Proof.Machine.execCellTime ecc s
  | .congestionAvgUpdate => Sys2Proof.Machine.execCongestionAvgUpdate s
  | .coherentRequestArrival h id ecc => Sys2Proof.Machine.execCoherentRequestArrival h id ecc s
  | .dirSetFetchDone h rgn line out => Sys2Proof.Machine.execDirSetFetchDone h rgn line out s
  | .haMemoryResponse h rgn line => Sys2Proof.Machine.execHaMemoryResponse h rgn line s
  | .snoopResponseRx h id => Sys2Proof.Machine.execSnoopResponseRx h id s
  | .biconflictRx h id => Sys2Proof.Machine.execBiconflictRx h id s
  | .tackTimeout h rgn line => Sys2Proof.Machine.execTackTimeout h rgn line s
  | .holdWindowEnd h rgn line => Sys2Proof.Machine.execHoldWindowEnd h rgn line s
  | .conflictQueueAdmit h => Sys2Proof.Machine.execConflictQueueAdmit h s
  | .evictionTackGrant h => Sys2Proof.Machine.execEvictionTackGrant h s
  | .haResumeClean p h v => Sys2Proof.Machine.execHaResumeClean p h v s
  | .haDepartClear p h v => Sys2Proof.Machine.execHaDepartClear p h v s
  | .departureWalkEnd h => Sys2Proof.Machine.execDepartureWalkEnd h s
  | .lwtResend id => Sys2Proof.Machine.execLwtResend id s
  | .lwtResendComplete id => Sys2Proof.Machine.execLwtResendComplete id s
  | .snoopReissue h => Sys2Proof.Machine.execSnoopReissue h s
  | .insoleRequest ch => Sys2Proof.Machine.execInsoleRequest ch s
  | .insoleReadDone ch client out => Sys2Proof.Machine.execInsoleReadDone ch client out s
  | .tagWriteGo p v => Sys2Proof.Machine.execTagWriteGo p v s
  | .remapFillDone rng gran out => Sys2Proof.Machine.execRemapFillDone rng gran out s
  | .heatScanEnd => Sys2Proof.Machine.execHeatScanEnd s
  | .migrationStart => Sys2Proof.Machine.execMigrationStart s
  | .migrationWritesDrained rng gran => Sys2Proof.Machine.execMigrationWritesDrained rng gran s
  | .migrationCopyDone rng gran ok data poison => Sys2Proof.Machine.execMigrationCopyDone rng gran ok data poison s
  | .frameFree frame => Sys2Proof.Machine.execFrameFree frame s
  | .gcmdPromote p v => Sys2Proof.Machine.execGcmdPromote p v s
  | .gcmdDemote p v => Sys2Proof.Machine.execGcmdDemote p v s
  | .gcmdPin p v => Sys2Proof.Machine.execGcmdPin p v s
  | .gcmdUnpin p v => Sys2Proof.Machine.execGcmdUnpin p v s
  | .gcmdReset p v => Sys2Proof.Machine.execGcmdReset p v s
  | .shelfClean p v => Sys2Proof.Machine.execShelfClean p v s
  | .shelfRelease p v => Sys2Proof.Machine.execShelfRelease p v s
  | .cleaningPassEnd sh => Sys2Proof.Machine.execCleaningPassEnd sh s
  | .insoleStartupDone trained => Sys2Proof.Machine.execInsoleStartupDone trained s
  | .channelFault ch => Sys2Proof.Machine.execChannelFault ch s
  | .discoveryComplete n kind lds dcd xr sn vendor => Sys2Proof.Machine.execDiscoveryComplete n kind lds dcd xr sn vendor s
  | .discoveryTimeout n => Sys2Proof.Machine.execDiscoveryTimeout n s
  | .bindCommand p v => Sys2Proof.Machine.execBindCommand p v s
  | .unbindCommand p v => Sys2Proof.Machine.execUnbindCommand p v s
  | .bindApply => Sys2Proof.Machine.execBindApply s
  | .unbindApply v hostDown => Sys2Proof.Machine.execUnbindApply v hostDown s
  | .sliceReset p v => Sys2Proof.Machine.execSliceReset p v s
  | .sliceRemove p v => Sys2Proof.Machine.execSliceRemove p v s
  | .sliceGate sl => Sys2Proof.Machine.execSliceGate sl s
  | .sliceDrainTimeout sl => Sys2Proof.Machine.execSliceDrainTimeout sl s
  | .sliceCmdEnd sl => Sys2Proof.Machine.execSliceCmdEnd sl s
  | .dumpFrameWriteDone ok => Sys2Proof.Machine.execDumpFrameWriteDone ok s
  | .qpEnable p v => Sys2Proof.Machine.execQpEnable p v s
  | .qpDisable p v => Sys2Proof.Machine.execQpDisable p v s
  | .cobDoorbell qp head v => Sys2Proof.Machine.execCobDoorbell qp head v s
  | .descriptorFetchDone qp ok data => Sys2Proof.Machine.execDescriptorFetchDone qp ok data s
  | .descriptorStart => Sys2Proof.Machine.execDescriptorStart s
  | .descriptorComplete qp ok => Sys2Proof.Machine.execDescriptorComplete qp ok s
  | .cobDescTimeout qp => Sys2Proof.Machine.execCobDescTimeout qp s
  | .wakeGrant => Sys2Proof.Machine.execWakeGrant s
  | .shelfPark p v => Sys2Proof.Machine.execShelfPark p v s
  | .shelfWake p v => Sys2Proof.Machine.execShelfWake p v s
  | .shelfIdlePark sh => Sys2Proof.Machine.execShelfIdlePark sh s
  | .shelfParkAck sh => Sys2Proof.Machine.execShelfParkAck sh s
  | .shelfParkTimeout sh => Sys2Proof.Machine.execShelfParkTimeout sh s
  | .shelfWakeDone sh => Sys2Proof.Machine.execShelfWakeDone sh s
  | .shelfWakeTimeout sh => Sys2Proof.Machine.execShelfWakeTimeout sh s
  | .fmBindVppb eid sw v kind port obj slice => Sys2Proof.Machine.execFmBindVppb eid sw v kind port obj slice s
  | .fmUnbindVppb eid sw v umode => Sys2Proof.Machine.execFmUnbindVppb eid sw v umode s
  | .fmGenerateAerEvent eid sw v err => Sys2Proof.Machine.execFmGenerateAerEvent eid sw v err s
  | .fmPpbConfigRequest eid sw n reg write val len => Sys2Proof.Machine.execFmPpbConfigRequest eid sw n reg write val len s
  | .fmMldTunnel eid sw n ld body => Sys2Proof.Machine.execFmMldTunnel eid sw n ld body s
  | .fmDcdCapacityChange eid sw obj ext add n => Sys2Proof.Machine.execFmDcdCapacityChange eid sw obj ext add n s
  | .fmLeaseExpiry => Sys2Proof.Machine.execFmLeaseExpiry s
  | .remoteReportRx sw kind val => Sys2Proof.Machine.execRemoteReportRx sw kind val s
  | .remoteReportRepeat sw => Sys2Proof.Machine.execRemoteReportRepeat sw s
  | .remoteReportAckRx sw kind val => Sys2Proof.Machine.execRemoteReportAckRx sw kind val s
  | .vampOutboundRequest id => Sys2Proof.Machine.execVampOutboundRequest id s
  | .vampInboundRequest id => Sys2Proof.Machine.execVampInboundRequest id s
  | .vampCompletion id => Sys2Proof.Machine.execVampCompletion id s
  | .vampMrdlk id => Sys2Proof.Machine.execVampMrdlk id s
  | .vampUnlock id => Sys2Proof.Machine.execVampUnlock id s
  | .vampLockTimeout n => Sys2Proof.Machine.execVampLockTimeout n s
  | .vampIntxMessage id rtid pin on => Sys2Proof.Machine.execVampIntxMessage id rtid pin on s
  | .vampErrMessage id rtid sev => Sys2Proof.Machine.execVampErrMessage id rtid sev s
  | .vampForwardMessage id rtid => Sys2Proof.Machine.execVampForwardMessage id rtid s
  | .vampConsumedMessage id => Sys2Proof.Machine.execVampConsumedMessage id s
  | .vampMessageRelease n => Sys2Proof.Machine.execVampMessageRelease n s
  | .acceptanceNoticeRx id => Sys2Proof.Machine.execAcceptanceNoticeRx id s
  | .pfLineAgeExpiry w slice addr => Sys2Proof.Machine.execPfLineAgeExpiry w slice addr s
  | .vampNpTimeout no => Sys2Proof.Machine.execVampNpTimeout no s
  | .vampConfigWrite id what k => Sys2Proof.Machine.execVampConfigWrite id what k s
  | .vampConfigRead id what k => Sys2Proof.Machine.execVampConfigRead id what k s
  | .violationRecordWrite => Sys2Proof.Machine.execViolationRecordWrite s
  | .ownerClaim nonce signer snOk ids => Sys2Proof.Machine.execOwnerClaim nonce signer snOk ids s
  | .keyInstall nonce signer usage ids => Sys2Proof.Machine.execKeyInstall nonce signer usage ids s
  | .keyRevoke nonce signer entry => Sys2Proof.Machine.execKeyRevoke nonce signer entry s
  | .svnRaise nonce signer fw v => Sys2Proof.Machine.execSvnRaise nonce signer fw v s
  | .debugUnlock nonce signer snOk => Sys2Proof.Machine.execDebugUnlock nonce signer snOk s
  | .debugLock nonce => Sys2Proof.Machine.execDebugLock nonce s
  | .ownerRelease nonce signer => Sys2Proof.Machine.execOwnerRelease nonce signer s
  | .returnModule nonce signer => Sys2Proof.Machine.execReturn nonce signer s
  | .returnFillDone => Sys2Proof.Machine.execReturnFillDone s
  | .flashWrite nonce img ok data => Sys2Proof.Machine.execFlashWrite nonce img ok data s
  | .selftest nonce ok => Sys2Proof.Machine.execSelftest nonce ok s
  | .healthTestFail => Sys2Proof.Machine.execHealthTestFail s
  | .spdmGetVersion who => Sys2Proof.Machine.execSpdmGetVersion who s
  | .spdmGetCapabilities who => Sys2Proof.Machine.execSpdmGetCapabilities who s
  | .spdmNegotiateAlgorithms who => Sys2Proof.Machine.execSpdmNegotiateAlgorithms who s
  | .spdmGetCertificate who slot => Sys2Proof.Machine.execSpdmGetCertificate who slot s
  | .spdmChallenge who slot => Sys2Proof.Machine.execSpdmChallenge who slot s
  | .spdmGetMeasurements who idx => Sys2Proof.Machine.execSpdmGetMeasurements who idx s
  | .spdmKeyExchange who slot id => Sys2Proof.Machine.execSpdmKeyExchange who slot id s
  | .spdmFinish who id => Sys2Proof.Machine.execSpdmFinish who id s
  | .eyeDigestDone => Sys2Proof.Machine.execEyeDigestDone s
  | .mctpPacketRx path src dst tag ty som eom body => Sys2Proof.Machine.execMctpPacketRx path src dst tag ty som eom body s
  | .setEndpointId path eid tag new => Sys2Proof.Machine.execSetEndpointId path eid tag new s
  | .getEndpointId path eid tag => Sys2Proof.Machine.execGetEndpointId path eid tag s
  | .getMctpVersionSupport path eid tag => Sys2Proof.Machine.execGetMctpVersionSupport path eid tag s
  | .getMessageTypeSupport path eid tag => Sys2Proof.Machine.execGetMessageTypeSupport path eid tag s
  | .getVendorDefinedSupport path eid tag => Sys2Proof.Machine.execGetVendorDefinedSupport path eid tag s
  | .allocateEndpointIds path base n => Sys2Proof.Machine.execAllocateEndpointIds path base n s
  | .routingInfoUpdate path eid tag => Sys2Proof.Machine.execRoutingInfoUpdate path eid tag s
  | .csrRead eid tag off width n => Sys2Proof.Machine.execCsrRead eid tag off width n s
  | .csrWrite eid sw tag off width vals => Sys2Proof.Machine.execCsrWrite eid sw tag off width vals s
  | .lastXfer eid sw tag len off data => Sys2Proof.Machine.execLastXfer eid sw tag len off data s
  | .secRelay eid sw tag op nonce signer a b ok ids => Sys2Proof.Machine.execSecRelay eid sw tag op nonce signer a b ok ids s
  | .eventReplay eid tag first n => Sys2Proof.Machine.execEventReplay eid tag first n s
  | .moduleInfo eid tag => Sys2Proof.Machine.execModuleInfo eid tag s
  | .recoveryBoot eid tag img => Sys2Proof.Machine.execRecoveryBoot eid tag img s
  | .dbgOpen path eid tag => Sys2Proof.Machine.execDbgOpen path eid tag s
  | .dbgAccess path eid tag write sp ident len addr data => Sys2Proof.Machine.execDbgAccess path eid tag write sp ident len addr data s
  | .dbgClose path eid tag => Sys2Proof.Machine.execDbgClose path eid tag s
  | .dbgIdleTimeout => Sys2Proof.Machine.execDbgIdleTimeout s
  | .coreDeviceLoad c addr n acc => Sys2Proof.Machine.execCoreDeviceLoad c addr n acc s
  | .coreDeviceStore c addr n v => Sys2Proof.Machine.execCoreDeviceStore c addr n v s
  | .coreFence c ow ir => Sys2Proof.Machine.execCoreFence c ow ir s
  | .coreTrap c => Sys2Proof.Machine.execCoreTrap c s
  | .deviceStoreComplete c err late => Sys2Proof.Machine.execDeviceStoreComplete c err late s
  | .deviceAccessTimeout c => Sys2Proof.Machine.execDeviceAccessTimeout c s
  | .coreReset p c v => Sys2Proof.Machine.execCoreReset p c v s
  | .coreHoldWrite p c v => Sys2Proof.Machine.execCoreHoldWrite p c v s
  | .shankParityError x y cured => Sys2Proof.Machine.execShankParityError x y cured s
  | .unitRelease kind unit => Sys2Proof.Machine.execUnitRelease kind unit s
  | .warmRestart p v => Sys2Proof.Machine.execWarmRestart p v s
  | .restartVerifyDone ok svn => Sys2Proof.Machine.execRestartVerifyDone ok svn s
  | .restartLoadDone => Sys2Proof.Machine.execRestartLoadDone s
  | .restartConfirmTimeout => Sys2Proof.Machine.execRestartConfirmTimeout s
  | .powerdownGo p v => Sys2Proof.Machine.execPowerdownGo p v s
  | .powerdownAbort p v => Sys2Proof.Machine.execPowerdownAbort p v s
  | .pwrdnDrainDone => Sys2Proof.Machine.execPwrdnDrainDone s
  | .pwrdnDrainTimeout => Sys2Proof.Machine.execPwrdnDrainTimeout s
  | .pwrdnCleanDone => Sys2Proof.Machine.execPwrdnCleanDone s
  | .pwrdnCleanTimeout => Sys2Proof.Machine.execPwrdnCleanTimeout s
  | .pwrdnGpfDone => Sys2Proof.Machine.execPwrdnGpfDone s
  | .gpfPhase1Request n => Sys2Proof.Machine.execGpfPhase1Request n s
  | .gpfPhase2Request n => Sys2Proof.Machine.execGpfPhase2Request n s
  | .gpfP2Timeout n => Sys2Proof.Machine.execGpfP2Timeout n s
  | .gpfPartnerComplete n => Sys2Proof.Machine.execGpfPartnerComplete n s
  | .feedWindowEnter feed => Sys2Proof.Machine.execFeedWindowEnter feed s
  | .feedWindowLeave feed => Sys2Proof.Machine.execFeedWindowLeave feed s
  | .biasPresent => Sys2Proof.Machine.execBiasPresent s
  | .biasLoss => Sys2Proof.Machine.execBiasLoss s
  | .insertionDelayExpiry => Sys2Proof.Machine.execInsertionDelayExpiry s
  | .pmEnRise => Sys2Proof.Machine.execPmEnRise s
  | .pmEnLow => Sys2Proof.Machine.execPmEnLow s
  | .latchClear => Sys2Proof.Machine.execLatchClear s
  | .cooldownEnd => Sys2Proof.Machine.execCooldownEnd s
  | .powerGood => Sys2Proof.Machine.execPowerGood s
  | .regulatorEnable => Sys2Proof.Machine.execRegulatorEnable s
  | .powerGoodLost => Sys2Proof.Machine.execPowerGoodLost s
  | .fastTrip => Sys2Proof.Machine.execFastTrip s
  | .breakerTrip => Sys2Proof.Machine.execBreakerTrip s
  | .soaTrip => Sys2Proof.Machine.execSoaTrip s
  | .rampTimeout => Sys2Proof.Machine.execRampTimeout s
  | .fetOvertemp => Sys2Proof.Machine.execFetOvertemp s
  | .reverseCurrentTurnoff feed => Sys2Proof.Machine.execReverseCurrentTurnoff feed s
  | .nvCommit p v => Sys2Proof.Machine.execNvCommit p v s
  | .peakClear p v => Sys2Proof.Machine.execPeakClear p v s
  | .avsRegularLower => Sys2Proof.Machine.execAvsRegularLower s
  | .avsUrgentRaise d margin => Sys2Proof.Machine.execAvsUrgentRaise d margin s
  | .perstAssert => Sys2Proof.Machine.execPerstAssert s
  | .perstRelease => Sys2Proof.Machine.execPerstRelease s
  | .moduleResetCmd p v => Sys2Proof.Machine.execModuleResetCmd p v s
  | .mgmtReset p v => Sys2Proof.Machine.execMgmtReset p v s
  | .mgmtHoldWrite p v => Sys2Proof.Machine.execMgmtHoldWrite p v s
  | .mgmtRestartDone => Sys2Proof.Machine.execMgmtRestartDone s
  | .cageResetRelease b => Sys2Proof.Machine.execCageResetRelease b s
  | .readySend => Sys2Proof.Machine.execReadySend s
  | .readyLimitExpiry => Sys2Proof.Machine.execReadyLimitExpiry s
  | .i3cEntdaa addr => Sys2Proof.Machine.execI3cEntdaa addr s
  | .i3cRstdaa => Sys2Proof.Machine.execI3cRstdaa s
  | .i3cSetnewda addr => Sys2Proof.Machine.execI3cSetnewda addr s
  | .i3cGetpid => Sys2Proof.Machine.execI3cGetpid s
  | .i3cGetbcr => Sys2Proof.Machine.execI3cGetbcr s
  | .i3cGetdcr => Sys2Proof.Machine.execI3cGetdcr s
  | .i3cGetmxds => Sys2Proof.Machine.execI3cGetmxds s
  | .i3cEnec => Sys2Proof.Machine.execI3cEnec s
  | .i3cDisec => Sys2Proof.Machine.execI3cDisec s
  | .i3cSetmrl n => Sys2Proof.Machine.execI3cSetmrl n s
  | .i3cSetmwl n => Sys2Proof.Machine.execI3cSetmwl n s
  | .i3cHotJoin => Sys2Proof.Machine.execI3cHotJoin s
  | .alwaysOnResetRelease => Sys2Proof.Machine.execAlwaysOnResetRelease s
  | .powerUpSelfTestDone ok => Sys2Proof.Machine.execPowerUpSelfTestDone ok s
  | .moduleResetPulseEnd => Sys2Proof.Machine.execModuleResetPulseEnd s
  | .familyRelockDone b => Sys2Proof.Machine.execFamilyRelockDone b s
  | .tagCacheFillDone line out => Sys2Proof.Machine.execTagCacheFillDone line out s
  | .deviceLoadComplete c err v late => Sys2Proof.Machine.execDeviceLoadComplete c err v late s
  | .fmPhysicalPortControl eid sw n op => Sys2Proof.Machine.execFmPhysicalPortControl eid sw n op s

end Sys2Proof.Machine
end

