-- ==== Sys2Proof/WellFormed.lean ====
section
/-!
DEFINITION. Well-formed commands: a command names a requester and units that the part has (spec/00 R18, spec/01 R23).
-/
namespace Sys2Proof

/-- A requester of register accesses: the management BAR, the debug master, one of the four Clicker cores, or an MCTP endpoint by its one-byte
identifier (spec/00 R18). The loader's own writes are part of its commit, not commands. -/
def Path.isRequester (p : Path) : Bool :=
  match p with
  | .bar => true
  | .debug => true
  | .core c => decide (c < 4)
  | .mctp e => decide (e < 256)
  | .loader => false

/-- The blocks that hold a copy of the arm state for a group (spec/01 R36, spec/02 R48): the 20 lane banks, of which the 16 of the edge hold the
EP group and the 4 of the links the ML group, the 4 home agent slices, and one block for every other group. -/
def Grp.hasUnit (g : Grp) (unit : Nat) : Bool :=
  match g with
  | .lb => decide (unit < 20)
  | .ep => decide (unit < 16)
  | .ml => decide (16 ≤ unit) && decide (unit < 20)
  | .ha => decide (unit < 4)
  | _ => decide (unit < 1)

/-- Whether the units that a command names exist: 20 lane banks of 16 lanes, 64 edge ports, 8 links of 8 lanes, 4 home agent slices, 4 channels, 4 cores,
512 slices and queue pairs, 1,024 vPPBs, 64 shelves, 2 feeds, 4 core-rail domains, 64 switches (spec/00 R6, spec/01 R23, spec/11, spec/18).
DESIGN CHOICE (log entry 2). -/
def Instr.wf (i : Instr) : Bool :=
  match i with
  | .registerWrite p _ _ => p.isRequester
  | .loReadSnapshot p _ => p.isRequester
  | .loWriteHold p _ _ => p.isRequester
  | .hiWriteApply p _ _ => p.isRequester
  | .stickyBitClear p _ _ => p.isRequester
  | .stitchBoundary _ => true
  | .stitchRun p _ => p.isRequester
  | .swapArm p _ => p.isRequester
  | .swapDisarm p _ => p.isRequester
  | .swapApply g unit => g.hasUnit unit
  | .armStateRx g unit => g.hasUnit unit
  | .swapLateApply g unit => g.hasUnit unit
  | .stitchMarkerRx m _ _ _ => decide (m < 8)
  | .alignAcquired => true
  | .alignLost => true
  | .sourceLost => true
  | .holdoverExpiry => true
  | .backupRootTakeover => true
  | .stitchInPulse _ _ _ => true
  | .epochEnd _ => true
  | .loadStart p _ => p.isRequester
  | .loadAbort p _ => p.isRequester
  | .loadFetchDone _ => true
  | .loadAuthDone _ => true
  | .loadCheckDone _ _ => true
  | .loadCommitStart => true
  | .loadCommitDone => true
  | .heldStgWriteRelease => true
  | .heldArmRelease => true
  | .firmwareVerifyDone _ _ => true
  | .bootConfirm p _ => p.isRequester
  | .bootConfirmTimeout => true
  | .bootPrefWrite p _ => p.isRequester
  | .laneDetectDone b l => decide (b < 20) && decide (l < 16)
  | .laneDetectTimeout b l => decide (b < 20) && decide (l < 16)
  | .laneCdrLock b l _ => decide (b < 20) && decide (l < 16)
  | .laneAdaptDone b l => decide (b < 20) && decide (l < 16)
  | .laneAdaptTimeout b l => decide (b < 20) && decide (l < 16)
  | .trainingBlockRx b l _ _ _ => decide (b < 20) && decide (l < 16)
  | .laneMapRetry b l => decide (b < 20) && decide (l < 16)
  | .laneBlockLock b l => decide (b < 20) && decide (l < 16)
  | .laneBlockLockLoss b l => decide (b < 20) && decide (l < 16)
  | .laneCdrLoss b l => decide (b < 20) && decide (l < 16)
  | .laneRelock b l => decide (b < 20) && decide (l < 16)
  | .laneRelockTimeout b l => decide (b < 20) && decide (l < 16)
  | .laneRelockStable b l => decide (b < 20) && decide (l < 16)
  | .adaptUpdate b l => decide (b < 20) && decide (l < 16)
  | .adaptFreezeWrite p b l _ => p.isRequester && decide (b < 20) && decide (l < 16)
  | .coefSnapshot p b l _ => p.isRequester && decide (b < 20) && decide (l < 16)
  | .marginScanStart p b l _ => p.isRequester && decide (b < 20) && decide (l < 16)
  | .marginPointDone b l _ => decide (b < 20) && decide (l < 16)
  | .hostMarginCommand b l _ => decide (b < 20) && decide (l < 16)
  | .bankWake p b _ => p.isRequester && decide (b < 20)
  | .bankPark p b _ => p.isRequester && decide (b < 20)
  | .bankReady b _ _ => decide (b < 20)
  | .bankParkDone b => decide (b < 20)
  | .bankPllUnlock b => decide (b < 20)
  | .bankRelockDone b _ => decide (b < 20)
  | .familyChange p b _ => p.isRequester && decide (b < 20)
  | .portLinkUp n _ _ _ _ _ _ _ _ => decide (n < 64)
  | .portTrainTimeout n => decide (n < 64)
  | .portLtssmDetect n => decide (n < 64)
  | .portRecoveryEntry n => decide (n < 64)
  | .recoveryWindowEnd n => decide (n < 64)
  | .xrEnableWrite n _ _ => decide (n < 64)
  | .xrAttemptFail n => decide (n < 64)
  | .portRetrain p n _ => p.isRequester && decide (n < 64)
  | .portHotReset p n _ => p.isRequester && decide (n < 64)
  | .portDisable p n _ => p.isRequester && decide (n < 64)
  | .hotResetReceived n => decide (n < 64)
  | .secondaryBusReset n _ _ => decide (n < 64)
  | .npCompletionRx n _ => decide (n < 64)
  | .switchCplTimeout n _ => decide (n < 64)
  | .hpLossTimeout n => decide (n < 64)
  | .linkLossDeclare n => decide (n < 64)
  | .linkLossComplete n => decide (n < 64)
  | .hpWaitExpiry n => decide (n < 64)
  | .drsReceived n => decide (n < 64)
  | .ideKeyProg n _ _ => decide (n < 64)
  | .ideEstTimeout n => decide (n < 64)
  | .ideMacFail n _ => decide (n < 64)
  | .ideRekeyTimer n => decide (n < 64)
  | .laneMarkerRx m lane _ _ => decide (m < 8) && decide (lane < 8)
  | .flitRx m _ _ _ _ _ _ => decide (m < 8)
  | .flitTx m => decide (m < 8)
  | .replayTimerExpiry m => decide (m < 8)
  | .spillReadback m _ _ => decide (m < 8)
  | .initRx m _ => decide (m < 8)
  | .initRetryTimer m => decide (m < 8)
  | .credRx m _ _ => decide (m < 8)
  | .linkdownRx m => decide (m < 8)
  | .laceReqRx m _ => decide (m < 8)
  | .laceReadyRx m _ => decide (m < 8)
  | .unlaceReqRx m _ => decide (m < 8)
  | .unlaceAckRx m _ => decide (m < 8)
  | .laceAbortRx m _ => decide (m < 8)
  | .fenceRx m _ => decide (m < 8)
  | .fenceDoneRx sw _ => decide (sw < 64)
  | .flushedRx sw _ => decide (sw < 64)
  | .mlRetrain p m _ => p.isRequester && decide (m < 8)
  | .mlDisable p m _ => p.isRequester && decide (m < 8)
  | .mlTrainTimeout m => decide (m < 8)
  | .graceExpiry m => decide (m < 8)
  | .mlFlushDone m => decide (m < 8)
  | .laceGo p m _ => p.isRequester && decide (m < 8)
  | .unlaceGo p m _ => p.isRequester && decide (m < 8)
  | .laceTimeout m => decide (m < 8)
  | .routeFailoverTimeout sw => decide (sw < 64)
  | .fenceRetryTimeout sw => decide (sw < 64)
  | .requestArrival n _ _ => (decide (n < 64) || decide (72 ≤ n) && decide (n ≤ 84))
  | .cellAllocateWaiting _ => true
  | .redDeferRelease _ => true
  | .activeSlotClaim => true
  | .queueStateFetchDone _ _ => true
  | .cellTime _ => true
  | .congestionAvgUpdate => true
  | .coherentRequestArrival h _ _ => decide (h < 4)
  | .dirSetFetchDone h _ _ _ => decide (h < 4)
  | .haMemoryResponse h _ _ => decide (h < 4)
  | .snoopResponseRx h _ => decide (h < 4)
  | .biconflictRx h _ => decide (h < 4)
  | .tackTimeout h _ _ => decide (h < 4)
  | .holdWindowEnd h _ _ => decide (h < 4)
  | .conflictQueueAdmit h => decide (h < 4)
  | .evictionTackGrant h => decide (h < 4)
  | .haResumeClean p h _ => p.isRequester && decide (h < 4)
  | .haDepartClear p h _ => p.isRequester && decide (h < 4)
  | .departureWalkEnd h => decide (h < 4)
  | .lwtResend _ => true
  | .lwtResendComplete _ => true
  | .snoopReissue h => decide (h < 4)
  | .insoleRequest ch => decide (ch < 4)
  | .insoleReadDone ch _ _ => decide (ch < 4)
  | .tagWriteGo p _ => p.isRequester
  | .remapFillDone _ _ _ => true
  | .heatScanEnd => true
  | .migrationStart => true
  | .migrationWritesDrained _ _ => true
  | .migrationCopyDone _ _ _ _ _ => true
  | .frameFree _ => true
  | .gcmdPromote p _ => p.isRequester
  | .gcmdDemote p _ => p.isRequester
  | .gcmdPin p _ => p.isRequester
  | .gcmdUnpin p _ => p.isRequester
  | .gcmdReset p _ => p.isRequester
  | .shelfClean p _ => p.isRequester
  | .shelfRelease p _ => p.isRequester
  | .cleaningPassEnd sh => decide (sh < 64)
  | .insoleStartupDone _ => true
  | .channelFault ch => decide (ch < 4)
  | .discoveryComplete n _ _ _ _ _ _ => decide (n < 64)
  | .discoveryTimeout n => decide (n < 64)
  | .bindCommand p _ => p.isRequester
  | .unbindCommand p _ => p.isRequester
  | .bindApply => true
  | .unbindApply v _ => decide (v < 1024)
  | .sliceReset p _ => p.isRequester
  | .sliceRemove p _ => p.isRequester
  | .sliceGate sl => decide (sl < 512)
  | .sliceDrainTimeout sl => decide (sl < 512)
  | .sliceCmdEnd sl => decide (sl < 512)
  | .dumpFrameWriteDone _ => true
  | .qpEnable p _ => p.isRequester
  | .qpDisable p _ => p.isRequester
  | .cobDoorbell qp _ _ => decide (qp < 512)
  | .descriptorFetchDone qp _ _ => decide (qp < 512)
  | .descriptorStart => true
  | .descriptorComplete qp _ => decide (qp < 512)
  | .cobDescTimeout qp => decide (qp < 512)
  | .wakeGrant => true
  | .shelfPark p _ => p.isRequester
  | .shelfWake p _ => p.isRequester
  | .shelfIdlePark sh => decide (sh < 64)
  | .shelfParkAck sh => decide (sh < 64)
  | .shelfParkTimeout sh => decide (sh < 64)
  | .shelfWakeDone sh => decide (sh < 64)
  | .shelfWakeTimeout sh => decide (sh < 64)
  | .fmBindVppb _ _ _ _ _ _ _ => true
  | .fmUnbindVppb _ _ _ _ => true
  | .fmGenerateAerEvent _ _ _ _ => true
  | .fmPpbConfigRequest _ _ _ _ _ _ _ => true
  | .fmMldTunnel _ _ _ _ _ => true
  | .fmDcdCapacityChange _ _ _ _ _ _ => true
  | .fmLeaseExpiry => true
  | .remoteReportRx sw _ _ => decide (sw < 64)
  | .remoteReportRepeat sw => decide (sw < 64)
  | .remoteReportAckRx sw _ _ => decide (sw < 64)
  | .vampOutboundRequest _ => true
  | .vampInboundRequest _ => true
  | .vampCompletion _ => true
  | .vampMrdlk _ => true
  | .vampUnlock _ => true
  | .vampLockTimeout n => decide (n < 64)
  | .vampIntxMessage _ _ _ _ => true
  | .vampErrMessage _ _ _ => true
  | .vampForwardMessage _ _ => true
  | .vampConsumedMessage _ => true
  | .vampMessageRelease n => decide (n < 64)
  | .acceptanceNoticeRx _ => true
  | .pfLineAgeExpiry _ _ _ => true
  | .vampNpTimeout _ => true
  | .vampConfigWrite _ _ _ => true
  | .vampConfigRead _ _ _ => true
  | .violationRecordWrite => true
  | .ownerClaim _ _ _ _ => true
  | .keyInstall _ _ _ _ => true
  | .keyRevoke _ _ _ => true
  | .svnRaise _ _ _ _ => true
  | .debugUnlock _ _ _ => true
  | .debugLock _ => true
  | .ownerRelease _ _ => true
  | .returnModule _ _ => true
  | .returnFillDone => true
  | .flashWrite _ _ _ _ => true
  | .selftest _ _ => true
  | .healthTestFail => true
  | .spdmGetVersion _ => true
  | .spdmGetCapabilities _ => true
  | .spdmNegotiateAlgorithms _ => true
  | .spdmGetCertificate _ _ => true
  | .spdmChallenge _ _ => true
  | .spdmGetMeasurements _ _ => true
  | .spdmKeyExchange _ _ _ => true
  | .spdmFinish _ _ => true
  | .eyeDigestDone => true
  | .mctpPacketRx _ _ _ _ _ _ _ _ => true
  | .setEndpointId _ _ _ _ => true
  | .getEndpointId _ _ _ => true
  | .getMctpVersionSupport _ _ _ => true
  | .getMessageTypeSupport _ _ _ => true
  | .getVendorDefinedSupport _ _ _ => true
  | .allocateEndpointIds _ _ _ => true
  | .routingInfoUpdate _ _ _ => true
  | .csrRead _ _ _ _ _ => true
  | .csrWrite _ _ _ _ _ _ => true
  | .lastXfer _ _ _ _ _ _ => true
  | .secRelay _ _ _ _ _ _ _ _ _ _ => true
  | .eventReplay _ _ _ _ => true
  | .moduleInfo _ _ => true
  | .recoveryBoot _ _ _ => true
  | .dbgOpen _ _ _ => true
  | .dbgAccess _ _ _ _ _ _ _ _ _ => true
  | .dbgClose _ _ _ => true
  | .dbgIdleTimeout => true
  | .coreDeviceLoad c _ _ _ => decide (c < 4)
  | .coreDeviceStore c _ _ _ => decide (c < 4)
  | .coreFence c _ _ => decide (c < 4)
  | .coreTrap c => decide (c < 4)
  | .deviceStoreComplete c _ _ => decide (c < 4)
  | .deviceAccessTimeout c => decide (c < 4)
  | .coreReset p c _ => p.isRequester && decide (c < 4)
  | .coreHoldWrite p c _ => p.isRequester && decide (c < 4)
  | .shankParityError _ _ _ => true
  | .unitRelease _ _ => true
  | .warmRestart p _ => p.isRequester
  | .restartVerifyDone _ _ => true
  | .restartLoadDone => true
  | .restartConfirmTimeout => true
  | .powerdownGo p _ => p.isRequester
  | .powerdownAbort p _ => p.isRequester
  | .pwrdnDrainDone => true
  | .pwrdnDrainTimeout => true
  | .pwrdnCleanDone => true
  | .pwrdnCleanTimeout => true
  | .pwrdnGpfDone => true
  | .gpfPhase1Request n => decide (n < 64)
  | .gpfPhase2Request n => decide (n < 64)
  | .gpfP2Timeout n => decide (n < 64)
  | .gpfPartnerComplete n => decide (n < 64)
  | .feedWindowEnter feed => decide (feed < 2)
  | .feedWindowLeave feed => decide (feed < 2)
  | .biasPresent => true
  | .biasLoss => true
  | .insertionDelayExpiry => true
  | .pmEnRise => true
  | .pmEnLow => true
  | .latchClear => true
  | .cooldownEnd => true
  | .powerGood => true
  | .regulatorEnable => true
  | .powerGoodLost => true
  | .fastTrip => true
  | .breakerTrip => true
  | .soaTrip => true
  | .rampTimeout => true
  | .fetOvertemp => true
  | .reverseCurrentTurnoff feed => decide (feed < 2)
  | .nvCommit p _ => p.isRequester
  | .peakClear p _ => p.isRequester
  | .avsRegularLower => true
  | .avsUrgentRaise d _ => decide (d < 4)
  | .perstAssert => true
  | .perstRelease => true
  | .moduleResetCmd p _ => p.isRequester
  | .mgmtReset p _ => p.isRequester
  | .mgmtHoldWrite p _ => p.isRequester
  | .mgmtRestartDone => true
  | .cageResetRelease b => decide (b < 16)
  | .readySend => true
  | .readyLimitExpiry => true
  | .i3cEntdaa _ => true
  | .i3cRstdaa => true
  | .i3cSetnewda _ => true
  | .i3cGetpid => true
  | .i3cGetbcr => true
  | .i3cGetdcr => true
  | .i3cGetmxds => true
  | .i3cEnec => true
  | .i3cDisec => true
  | .i3cSetmrl _ => true
  | .i3cSetmwl _ => true
  | .i3cHotJoin => true
  | .alwaysOnResetRelease => true
  | .powerUpSelfTestDone _ => true
  | .moduleResetPulseEnd => true
  | .familyRelockDone b => decide (b < 20)
  | .tagCacheFillDone _ _ => true
  | .deviceLoadComplete c _ _ _ => decide (c < 4)
  | .fmPhysicalPortControl _ _ _ _ => true

end Sys2Proof
end

