-- ==== Sys2Proof/Safety.lean ====
section
/-!
DEFINITION. What the claims call a sound state and a sound step: the canonical forms of the stores, and what no command takes back.
-/
namespace Sys2Proof.Machine
open Sys2Proof

/-- Keys strictly rising from a bound. -/
def risingFrom {α : Type} : Nat → Tab α → Bool
  | _, [] => true
  | b, (k, _) :: rest => decide (b ≤ k) && risingFrom (k + 1) rest

/-- Every store of the state is in its one canonical form, so that equal machines are equal data: the registers and the active copies of the swap groups
(keys rising, no word at its reset value), the Insole's bytes (addresses rising, no blank byte), and the tables of lanes, banks, ports, links, routes and
home agent slices (keys rising). -/
def State.canonical (s : State) : Prop :=
  s.regs.wf ∧ s.act.wf ∧ s.ins.mem.wf ∧ risingFrom 0 s.lanes ∧ risingFrom 0 s.banks ∧ risingFrom 0 s.ports ∧ risingFrom 0 s.links ∧
    risingFrom 0 s.routes ∧ risingFrom 0 s.homes

/-- What R463 to R471 keep of the power entry controller: it is in one of its six states; the regulators run only in ON; an ORing FET conducts only with
its feed in its window; in RAMP and ON the insertion delay has elapsed, PM_EN is high and a feed is in its window; without bias no feed counts; a latch or
a cool-down belongs to LATCHED. -/
def PwrSt.sound (p : PwrSt) : Prop :=
  p.ctl ≤ 5 ∧ (p.regsOn = true → p.ctl = 4) ∧ (p.orA = true → p.feedA = true) ∧ (p.orB = true → p.feedB = true) ∧
    (p.ctl = 3 ∨ p.ctl = 4 → p.insDone = true ∧ p.pmEn = true ∧ (p.feedA = true ∨ p.feedB = true)) ∧
    (p.ctl = 0 → p.feedA = false ∧ p.feedB = false) ∧ (p.latch = true ∨ p.cool = true → p.ctl = 5)

/-- What no command takes back: an output, a used free value, a command that waits. The outputs are listed latest first. -/
def State.Follows (s t : State) : Prop := s.out <:+ t.out ∧ s.freeCtr ≤ t.freeCtr ∧ t.pending = s.pending

/-- Nothing is left of earlier commands that the end of a command would take up: no header held at ingress, no request to examine again, no fence to
take effect. -/
abbrev State.Quiet (s : State) : Prop := s.bnd.heldIn = [] ∧ s.ins.again = [] ∧ s.flt.fenceQ = []

/-- No access of the CSR space waits: no write is held behind a commit, and no commit is under way. -/
abbrev State.Open (s : State) : Prop := s.las.heldStg = [] ∧ s.las.heldJobs = [] ∧ s.las.heldArm = [] ∧ s.las.committing = none

/-- The registers whose writes start an operation: the others only store. -/
def commandRegs : List Nat := [
  R.GLB_STITCH_CTL, R.GLB_RST, R.PWR_CFG, R.PWR_PIN_PEAK, R.LB_BANK_CFG, R.LB_BANK_CTL, R.LB_LANE_ADAPT, R.LB_LANE_MARGIN_CTL,
   R.EP_LINK_CMD, R.ML_LINK_CMD, R.ML_LACE_CTL, R.HA_CTL, R.HA_DEPART_CLR, R.INS_GCMD, R.INS_SHELF_CMD, R.INS_TAG_WR, R.BND_BCMD,
   R.BND_SL_CMD, R.BND_SHELF_CMD, R.CLK_CORE_CTL, R.FLT_PWRDN_CTL, R.FLT_RESTART, R.FLT_STICKY, R.LAST_LOAD_CTL, R.LAST_BOOT,
   R.LAST_BOOT_PREF, R.LAST_SWAP_CTL, R.COB_QP_CTL, R.COB_QP_DB]

/-- Only the power entry controller and the registers of the PWR block, 1 MiB from 0x10_0000, may differ. -/
def State.OnlyPower (s t : State) : Prop :=
  t = { s with regs := t.regs, pwr := t.pwr } ∧ ∀ k, (k < 0x100000 ∨ 0x200000 ≤ k) → t.reg k = s.reg k

/-- Only the I3C part of the module's state and the outputs may differ. -/
def State.OnlySideband (s t : State) : Prop :=
  t = { s with
    mdl := { s.mdl with dynAddr := t.mdl.dynAddr, hotJoin := t.mdl.hotJoin, ibi := t.mdl.ibi, mrl := t.mdl.mrl, mwl := t.mdl.mwl }, out := t.out }

/-- Only the attestation part of the enclave's state, the work that waits for a warm restart, the outputs and the free values' counter may differ. -/
def State.OnlyAttestation (s t : State) : Prop :=
  t = { s with
    sec := { s.sec with conns := t.sec.conns, sessions := t.sec.sessions, digBusy := t.sec.digBusy, digest := t.sec.digest, digWait := t.sec.digWait }
    mgt := { s.mgt with fwJobs := t.mgt.fwJobs }
    out := t.out, freeCtr := t.freeCtr }

/-- Only the MCTP control part of the management state, the work that waits for a warm restart, the outputs, the free values' counter, CLK_MCTP_STATUS and CLK_MCTP_CNT may differ. -/
def State.OnlyControl (s t : State) : Prop :=
  t = { s with
    mgt := { s.mgt with open_ := t.mgt.open_, vdmSet := t.mgt.vdmSet, poolReq := t.mgt.poolReq, i3cPool := t.mgt.i3cPool, fwJobs := t.mgt.fwJobs }
    regs := t.regs, out := t.out, freeCtr := t.freeCtr } ∧ ∀ k, k ≠ R.CLK_MCTP_STATUS → k ≠ R.CLK_MCTP_CNT → t.reg k = s.reg k

/-- Only core `c`'s own state and its status word may differ. -/
def State.OnlyCore (c : Nat) (s t : State) : Prop :=
  t = { s with mgt := { s.mgt with cores := t.mgt.cores }, regs := t.regs } ∧ (∀ k, k ≠ c → t.core k = s.core k) ∧
    ∀ k, k ≠ R.CLK_CORE_STATUS + 4 * c → t.reg k = s.reg k

/-- The command completes, and the state it leaves has the property. -/
def Leaves (c : Instr) (s : State) (P : State → Prop) : Prop := ∃ t, exec c s = .next t ∧ P t

end Sys2Proof.Machine
end

