-- ==== Sys2Proof/Certificates/Slice0/Obligations.lean ====
section
/-!
DEFINITION. The statements of this model, one Prop each.
-/
open Sys2Proof Sys2Proof.Machine

/-- A step of a state whose queue begins with a command is exec of that command on the state with the rest of the queue. The queue is the model's own (log
entry 1). -/
def Obligations.StepRunsFront : Prop :=
  ∀ (s : State) (c : Instr) (rest : List Instr), s.pending = c :: rest → step s = exec c { s with pending := rest }

/-- On an empty queue a step leaves the state as it is. The model's choice (log entry 1): time passes only by commands. -/
def Obligations.EmptyQueueIdles : Prop :=
  ∀ (s : State), s.pending = [] → step s = .next s

/-- At reset every store is in its canonical form, the power entry controller is sound, and no command waits. -/
def Obligations.ResetInvariants : Prop :=
  (State.reset.canonical) ∧
  (State.reset.pwr.sound) ∧
  (State.reset.pending = [])

/-- From every state whose registers, active copies, Insole bytes and unit tables are in their canonical forms, a step leaves them in canonical form, so
that equal machines stay equal data. -/
def Obligations.StepKeepsCanonical : Prop :=
  ∀ (s t : State), s.canonical → step s = .next t → t.canonical

/-- From every state whose controller is in one of its six states, with the regulators on only in ON, an ORing FET conducting only with its feed in its
window, RAMP and ON entered only with the delay elapsed, PM_EN high and a feed in its window, no feed counted without bias, and latch and cool-down
only in LATCHED, every step leaves the controller so (R461, R463, R464, R466, R470). -/
def Obligations.StepKeepsPowerController : Prop :=
  ∀ (s t : State), s.pwr.sound → step s = .next t → t.pwr.sound

/-- A command that completes keeps the outputs sent before it, never returns a free value that was used, and leaves the queue as it is. -/
def Obligations.NothingTakenBack : Prop :=
  ∀ (c : Instr) (s t : State), exec c s = .next t → s.out <:+ t.out ∧ s.freeCtr ≤ t.freeCtr ∧ t.pending = s.pending

/-- Every command whose units and requester the part has answers a next state, in every state; any other faults with noSuchUnit. That a command naming a
unit that does not exist faults is the model's choice (log entry 2). -/
def Obligations.WellFormedCompletes : Prop :=
  (∀ (c : Instr) (s : State), c.wf = true → ∃ t, exec c s = .next t) ∧
  (∀ (c : Instr) (s : State), c.wf = false → exec c s = .fault .noSuchUnit)

/-- With no header held at ingress, no request to examine again and no fence to take effect, the end of a command leaves the state as it is. That held
things are taken up at the end of the command that releases them is the model's (log entry 4). -/
def Obligations.EndOfCommand : Prop :=
  (∀ (s : State), s.bnd.heldIn = [] → s.ins.again = [] → s.flt.fenceQ = [] → s.writeDone = s) ∧
  (∀ (s : State), s.flt.fenceQ = [] → s.settle = s)

/-- Reading the _LO of a pair answers its word and captures the word of its _HI for the path; a later read of _HI by that path answers the captured word;
no other read changes it, so that it lasts until the path's next read of that _LO; a read of _HI without it answers the live word (R16). -/
def Obligations.LowReadTakesSnapshot : Prop :=
  (∀ (s : State) (p : Path) (o k k2 : Nat) (d d2 : RegDef), s.keyAt p o = some (d, k) → s.keyAt p (o + 4) = some (d2, k2) → isLo d = true → isHi d =
     false → (s.csrRead p o).2 = s.viewWord p d k ∧ keyed (s.csrRead p o).1.acs.snaps p k = some (s.viewWord p d2 k2)) ∧
  (∀ (s : State) (p : Path) (o k : Nat) (d : RegDef) (w : Word), s.keyAt p o = some (d, k) → isHi d = true → keyed s.acs.snaps p (k - 4) = some w →
     s.csrRead p o = (s, w)) ∧
  (∀ (s : State) (p : Path) (o k : Nat) (d : RegDef), s.keyAt p o = some (d, k) → isHi d = true → keyed s.acs.snaps p (k - 4) = none → s.csrRead p o =
     (s, s.viewWord p d k)) ∧
  (∀ (s : State) (p q : Path) (o k : Nat), (∀ d, s.keyAt q o = some (d, k) → isLo d = true → q ≠ p) → keyed (s.csrRead q o).1.acs.snaps p k = keyed
     s.acs.snaps p k)

/-- Writing the _LO of a writable pair only holds the word, a second one replaces it; writing the _HI applies the held word and then its own and lets go
of the held one; without a held word it writes the _HI alone (R17). -/
def Obligations.PairWrites : Prop :=
  (∀ (s : State) (p : Path) (o k : Nat) (d : RegDef) (v : Word), s.keyAt p o = some (d, k) → isLo d = true → d.writable = true → s.csrWrite p o v =
     (s.setAcs fun a => { a with holds := (p, k, v) :: unkeyed a.holds p k }) ∧ keyed (s.csrWrite p o v).acs.holds p k = some v) ∧
  (∀ (s : State) (p : Path) (o k k0 : Nat) (d d0 : RegDef) (v lo : Word), s.keyAt p o = some (d, k) → s.keyAt p (o - 4) = some (d0, k0) → isLo d =
     false → isHi d = true → keyed s.acs.holds p (k - 4) = some lo → s.csrWrite p o v = (((s.setAcs fun a =>
     { a with holds := unkeyed a.holds p (k - 4) }).wordHeld p d0 k0 lo).wordHeld p d k v)) ∧
  (∀ (s : State) (p : Path) (o k : Nat) (d : RegDef) (v : Word), s.keyAt p o = some (d, k) → isLo d = false → isHi d = true → keyed s.acs.holds p (k -
     4) = none → s.csrWrite p o v = s.wordHeld p d k v)

/-- A line of slice n lies in directory set d = n × 2,097,152 + idx with the index of R251; the set occupies 256 bytes from DPA 0x1_0000_0000 + d × 256,
on channel d mod 4; an entry that is found for a line holds that line's key. -/
def Obligations.DirectorySets : Prop :=
  (∀ (n rgn line d : Nat), line < 2 ^ 32 → d = n * 2097152 + ((line % 2 ^ 21 ^^^ (line / 2 ^ 21) <<< 10 ^^^ rgn <<< 11) &&& 0x1FFFFF) → setAddr n
     (setIdx rgn line) = 0x100000000 + d * 256 ∧ chanOf (setAddr n (setIdx rgn line)) = d % 4) ∧
  (∀ (s : State) (n rgn line : Nat) (e : DirEntry), s.entry? n rgn line = some e → e.rgn = rgn ∧ e.line = line)

/-- After a write of bytes from an address, each of them reads back, every other address reads as before, and the canonical form is kept; a cleared range
reads as zeros. That memory nothing has written reads as zero follows the start-up fill (R321). -/
def Obligations.MemoryBytes : Prop :=
  (∀ (m : Mem) (a j : Nat) (bs : List Byte), (m.sets a bs).get j = if a ≤ j ∧ j < a + bs.length then bs.getD (j - a) 0 else m.get j) ∧
  (∀ (m : Mem) (a : Nat) (bs : List Byte), m.wf = true → (m.sets a bs).wf = true) ∧
  (∀ (a : Nat), Mem.get [] a = 0)

/-- Putting a value into a field changes the bits of that field alone: the field reads the value cut to its width, and no field that lies in another word,
in other bits of the word, or in the active copies reads differently. -/
def Obligations.RegisterFields : Prop :=
  (∀ (s : State) (f : Fld) (d v : Nat), f.acc ≠ .stg → f.lsb + f.width ≤ 32 → (s.put f d v).get f d = v % 2 ^ f.width) ∧
  (∀ (s : State) (f g : Fld) (d e v : Nat), (g.off + e ≠ f.off + d ∨ g.lsb + g.width ≤ f.lsb ∨ f.lsb + f.width ≤ g.lsb ∨ g.acc = .stg) → (s.put f d
     v).get g e = s.get g e)

/-- In COPY mode the active staged fields take the staged values and the staged copy keeps them; in EXCHANGE mode the staged copy takes what was active,
and a second exchange restores both (R57). -/
def Obligations.StagedCopies : Prop :=
  (∀ (s : State) (k : Nat), (s.applyKey false k).act.get k = ((s.act.get k &&& ~~~ stgMask k) ||| (s.regs.get k &&& stgMask k)) ∧ (s.applyKey false
     k).regs = s.regs) ∧
  (∀ (s : State) (k : Nat), (s.applyKey true k).act.get k = ((s.act.get k &&& ~~~ stgMask k) ||| (s.regs.get k &&& stgMask k)) ∧ (s.applyKey true
     k).regs.get k = ((s.regs.get k &&& ~~~ stgMask k) ||| (s.act.get k &&& stgMask k))) ∧
  (∀ (s : State) (k j : Nat), ((s.applyKey true k).applyKey true k).act.get j = s.act.get j ∧ ((s.applyKey true k).applyKey true k).regs.get j =
     s.regs.get j) ∧
  (∀ (s : State) (x : Bool) (k j : Nat), j ≠ k → (s.applyKey x k).act.get j = s.act.get j ∧ (s.applyKey x k).regs.get j = s.regs.get j)

/-- While a path's VIEW_ACTIVE is set its reads show the active values in the staged fields of a word and the live values in the others; otherwise the
live word; the bit of another path changes nothing for it (R60). -/
def Obligations.ViewedReads : Prop :=
  (∀ (s : State) (p : Path) (d : RegDef) (k : Nat), s.viewsActive p = true → s.viewWord p d k = ((s.liveWord d k &&& ~~~ d.maskOf (· = .stg)) |||
     (s.act.get k &&& d.maskOf (· = .stg)))) ∧
  (∀ (s : State) (p : Path) (d : RegDef) (k : Nat), s.viewsActive p = false → s.viewWord p d k = s.liveWord d k) ∧
  (∀ (s : State) (p q : Path) (v : Nat), p.code ≠ q.code → (s.put F.LAST_VIEW_CTL_VIEW_ACTIVE (ent q.code) v).viewsActive p = s.viewsActive p)

/-- An occurrence whose sticky bit is set, or will be at the coming boundary, changes nothing, but for the two sources that fence a window (R431); the
first one of a unit-less source other than EYE_VIOL writes its log record, will be readable at the boundary, and raises its FAULT event. -/
def Obligations.OccurrenceWhileSet : Prop :=
  (∀ (s : State) (n inst : Nat) (u : Option FUnit), s.pendingBit n = true → perWindow n = false → s.occAt n inst u = s) ∧
  (∀ (s : State) (n inst : Nat), s.pendingBit n = false → (n < 1152 ∨ 1237 < n) → s.occAt n inst none = ((s.faultLog 0 n 0).setFlt fun t =>
     { t with occs := t.occs ++ [n] }).setMgt fun g =>
     { g with events := g.events ++ [⟨0, faultBlk n inst, inst, n, 0, decide (s.reaction n = 0)⟩] })

/-- The enclave checks the nonce, then the signature, then the lifecycle state, then the arguments: each command ends with the error of the first that
fails, a failed signature with SEC_AUTH_FAIL, and a new nonce is drawn (R391). The nonce's value is free. That the mailbox interrupts the cores at the
end of a command is the model's reading (log entry 33). -/
def Obligations.EnclaveOrder : Prop :=
  (∀ (s : State) (r : SecRec), r.nonce ≠ s.nonce → s.secRun r = s.secDone 3 1) ∧
  (∀ (s : State) (r : SecRec), r.nonce = s.nonce → s.signedBy r = false → s.secRun r = (s.occAt 16 0 none).secDone 3 2) ∧
  (∀ (s : State) (r : SecRec), r.nonce = s.nonce → s.signedBy r = true → s.stateForbids r.op = true → s.secRun r = s.secDone 3 3) ∧
  (∀ (s : State) (r : SecRec), r.nonce = s.nonce → s.signedBy r = true → s.stateForbids r.op = false → s.argError r ≠ 0 → s.secRun r = s.secDone 3
     (s.argError r)) ∧
  (∀ (s : State) (st err : Nat), s.secDone st err = ((((s.put F.SEC_CMD_STATUS_STATE 0 st).put F.SEC_CMD_STATUS_ERR 0 err).setSec fun x =>
     { x with running := none }).drawNonce).mailboxIrq)

/-- An access that touches a byte of the enclave area of the Insole or of the SEC block outside its limited window has reason LOCKED, for every slot but
85 and for the debug master but in RETURNED; a write that touches the Last load buffer while a load from it is in FETCH through COMMIT has reason
LOADBUF; slot 85 and the debug master in RETURNED reach the first two; ingress rejects such a request with that reason whatever the windows of its
slot say (R384). -/
def Obligations.LockedRegions : Prop :=
  (∀ (s : State) (slot sp a n k x : Nat), slot ≠ 85 → (¬ (slot = 84 ∧ s.get F.SEC_STATUS_LIFECYCLE 0 = 2)) → a ≤ x → x < a + n → ((sp = 3 ∧ 0x40000000
     ≤ x ∧ x < 0x41000000) ∨ (sp = 4 ∧ 0x1301000 ≤ x ∧ x < 0x1400000)) → s.lockedReason slot sp a n k = vLocked) ∧
  (∀ (s : State) (slot a n k x : Nat) (l : Load), (slot ≠ 84 ∨ s.on F.SEC_STATUS_DEBUG 0 = true) → (k = 1 ∨ k = 3) → s.las.load = some l → l.src = 0 →
     1 ≤ s.get F.LAST_LOAD_STATUS_STATE 0 → s.get F.LAST_LOAD_STATUS_STATE 0 ≤ 5 → a ≤ x → x < a + n → 0x12000000 ≤ x → x < 0x14000000 → a + n ≤
     0x40000000 → s.lockedReason slot 3 a n k = vLoadBuf) ∧
  (∀ (s : State) (slot sp a n k : Nat), (slot = 85 ∨ (slot = 84 ∧ s.get F.SEC_STATUS_LIFECYCLE 0 = 2 ∧ s.on F.SEC_STATUS_DEBUG 0 = true)) → (sp = 4 ∨
     0x14000000 ≤ a) → s.lockedReason slot sp a n k = 0) ∧
  (∀ (s : State) (ag k : Nat) (r : Route) (m : Msg) (sp : Nat), accessKind m = some k → (sp = (if ag < 64 then (if r == .mgmt then 4 else 0) else
     spaceNo m.space)) → s.lockedReason ag sp m.addr (accessLen m) k ≠ 0 → s.examine3 ag r m = s.reject ag m
     { s.violOf ag m sp k with reason := s.lockedReason ag sp m.addr (accessLen m) k })

/-- A write of a register without a row of its own and without staged fields stores its word and answers; a read of a _LO takes the snapshot of its _HI
for the path, and a read of that _HI answers it; a write of a _LO is held; a write of its _HI applies both words; a write of FLT_STICKY clears; a
write of GLB_STITCH_CTL with RUN sets RUN. Nothing else changes. -/
def Obligations.RegisterAccess : Prop :=
  (∀ (s : State) (p : Path) (off : Nat) (v : Word) (d : RegDef) (k : Nat), p.isRequester = true → s.Open → s.keyAt p off = some (d, k) → csrFails off =
     false → isLo d = false → isHi d = false → s.bankOff k = none → commandRegs.contains d.off = false → d.maskOf (· = .stg) = 0 → exec
     (.registerWrite p off v) s = .next (((s.storeWord d k v).writeDone).send (.csr p true 0))) ∧
  (∀ (s : State) (p : Path) (off : Nat) (d d2 : RegDef) (k k2 : Nat), p.isRequester = true → s.Open → csrFails off = false → s.keyAt p off = some (d,
     k) → s.keyAt p (off + 4) = some (d2, k2) → isLo d = true → isHi d = false → d.off ≠ R.PMC_CTR_LO → exec (.loReadSnapshot p off) s = .next
     ((s.setAcs fun a => { a with snaps := (p, k, s.viewWord p d2 k2) :: unkeyed a.snaps p k }).send (.csr p true (s.viewWord p d k)))) ∧
  (∀ (s : State) (p : Path) (off : Nat) (d : RegDef) (k : Nat) (w : Word), p.isRequester = true → s.Open → csrFails off = false → s.keyAt p off = some
     (d, k) → isHi d = true → keyed s.acs.snaps p (k - 4) = some w → exec (.loReadSnapshot p off) s = .next (s.send (.csr p true w))) ∧
  (∀ (s : State) (p : Path) (off : Nat) (v : Word) (d : RegDef) (k : Nat), p.isRequester = true → s.Open → s.Quiet → csrFails off = false → s.keyAt p
     off = some (d, k) → isLo d = true → d.writable = true → exec (.loWriteHold p off v) s = .next ((s.setAcs fun a =>
     { a with holds := (p, k, v) :: unkeyed a.holds p k }).send (.csr p true 0))) ∧
  (∀ (s : State) (p : Path) (off : Nat) (v : Word) (d d0 : RegDef) (k k0 : Nat) (lo : Word), p.isRequester = true → s.Open → csrFails off = false →
     s.keyAt p off = some (d, k) → s.keyAt p (off - 4) = some (d0, k0) → isLo d = false → isHi d = true → keyed s.acs.holds p (k - 4) = some lo →
     exec (.hiWriteApply p off v) s = .next (((((s.setAcs fun a => { a with holds := unkeyed a.holds p (k - 4) }).wordHeld p d0 k0 lo).wordHeld p d
     k v).writeDone).send (.csr p true 0))) ∧
  (∀ (s : State) (p : Path) (off : Nat) (v : Word) (w : Nat), p.isRequester = true → s.Open → w < 70 → off = R.FLT_STICKY + 4 * w → exec
     (.stickyBitClear p off v) s = .next (((s.stickyClear p w v).writeDone).send (.csr p true 0))) ∧
  (∀ (s : State) (p : Path) (v : Word) (s1 : State), p.isRequester = true → s.Open → F.GLB_STITCH_CTL_RUN.of v = 1 → s1 = (s.storeAt R.GLB_STITCH_CTL
     v).put F.GLB_STITCH_CTL_RUN 0 1 → s1.step? ≠ 3 → exec (.stitchRun p v) s = .next ((s1.writeDone).send (.csr p true 0)))

/-- ARM with an acceptable target and mask arms the swap; DISARM before the lock point cancels it; a masked block that holds the arm state applies its
group at the target boundary, and is listed as done; a block receives the arm state once; a late block applies it at its first boundary after receipt. -/
def Obligations.SwapCommands : Prop :=
  (∀ (s : State) (p : Path) (v : Word) (s1 : State), p.isRequester = true → s.Open → F.LAST_SWAP_CTL_ARM.of v = 1 → F.LAST_SWAP_CTL_DISARM.of v = 0 →
     s.armBlocked (F.LAST_SWAP_CTL_MASK.of v) = false → s1 = s.storeAt R.LAST_SWAP_CTL v → s1.armError = 0 → exec (.swapArm p v) s = .next
     (((((s1.setArm (some
     { target := s1.swapTgt, mask := s1.get F.LAST_SWAP_CTL_MASK 0, fabric := s1.on F.LAST_SWAP_CTL_SCOPE 0, exchange := s1.on F.LAST_SWAP_CTL_MODE 0, held := [], fresh := [], done := [], failed := [], wasMixed := s1.on F.LAST_ID_STATUS_MIXED 0 })).setSwapErr
     0).setSwap 1).writeDone).send (.csr p true 0))) ∧
  (∀ (s : State) (p : Path) (v : Word) (s1 : State) (a : Arm), p.isRequester = true → s.Open → F.LAST_SWAP_CTL_ARM.of v = 0 → F.LAST_SWAP_CTL_DISARM.of
     v = 1 → s1 = s.storeAt R.LAST_SWAP_CTL v → s1.tim.arm = some a → s1.tim.num + 1 < a.target → exec (.swapDisarm p v) s = .next (((((s1.setArm
     none).setSwapErr 0).setSwap 0).writeDone).send (.csr p true 0))) ∧
  (∀ (s : State) (g : Grp) (unit : Nat) (a : Arm), g.hasUnit unit = true → s.tim.arm = some a → s.on F.GLB_STITCH_CTL_RUN 0 = true → s.nextNum.1 =
     a.target → a.fabric = false → s.on F.LAST_SWAP_STATUS_LATE 0 = false → a.mask.testBit g.bitNo = true → (g.bitNo, unit) ∈ a.held → (g.bitNo,
     unit) ∉ a.done → g ≠ .lb → g ≠ .ep → g ≠ .ml → s.groupOk g = true → exec (.swapApply g unit) s = .next (((((s.applyKeys g a.exchange (unitHas g
     unit)).groupHook s g).setTim fun t => { t with arm := t.arm.map fun x => { x with done := x.done ++ [(g.bitNo, unit)] } })).writeDone)) ∧
  (∀ (s : State) (g : Grp) (unit : Nat) (a : Arm), g.hasUnit unit = true → s.tim.arm = some a → a.mask.testBit g.bitNo = true → (g.bitNo, unit) ∉
     a.held → exec (.armStateRx g unit) s = .next (s.setTim fun t =>
     { t with arm := some { a with held := a.held ++ [(g.bitNo, unit)], fresh := a.fresh ++ [(g.bitNo, unit)] } })) ∧
  (∀ (s : State) (g : Grp) (unit : Nat) (a : Arm), g.hasUnit unit = true → s.tim.arm = some a → s.on F.LAST_SWAP_STATUS_LATE 0 = true → (g.bitNo, unit)
     ∉ a.fresh → exec (.swapLateApply g unit) s = .next (((((s.applyBlock g unit).swapFinish).releaseIn).drainAgain).writeDone))

/-- A marker on a link that carries traffic is remembered with its arrival; 64 stitches within 8 ns take ACQUIRE to ALIGNED, 4 beyond 40 ns take ALIGNED
to OUT, a lost source takes ALIGNED to HOLDOVER with the hold limit running, and its expiry takes HOLDOVER to OUT; a backup whose count has run out
becomes root; a valid pulse of the pin is remembered and gives the phase; the end of the firmware epoch interrupts the four cores, and that of the
heat epoch starts a heat scan. -/
def Obligations.AlignmentCommands : Prop :=
  (∀ (s : State) (m : Nat) (mk : Marker) (rootOfs arrival : Int), m < 8 → s.flows m = true → s.tim.running = true → (s.stSrc == srcAuto && s.on
     F.GLB_STITCH_STATUS_UPLINK_VALID 0 && s.get F.GLB_STITCH_STATUS_UPLINK 0 == m) = false → exec (.stitchMarkerRx m mk rootOfs arrival) s = .next
     (s.setTim fun t => { t with marks := t.marks.set m ({ mk with txOfs := arrival - mk.txOfs }, t.bnd), seen := insNat t.seen m })) ∧
  (∀ (s : State), s.astate = 2 → 64 ≤ s.tim.okRun → s.flt.fenceQ = [] → exec .alignAcquired s = .next (((((s).put F.GLB_STITCH_STATUS_STATE 0 3).put
     F.GLB_STITCH_STATUS_DRIFT 0 0).event clsTiming 0 0 1 (3 + 8 * 2)).setTim fun t => { t with badRun := 0 })) ∧
  (∀ (s : State), s.astate = 3 → 4 ≤ s.tim.badRun → exec .alignLost s = .next ((((((((s).put F.GLB_STITCH_STATUS_STATE 0 5).put
     F.GLB_STITCH_STATUS_DRIFT 0 0).event clsTiming 0 0 1 (5 + 8 * 3)).setTim fun t => { t with hold := none }).occAt 2 0 none).settle))) ∧
  (∀ (s : State), s.srcLost = true → s.astate = 3 → s.get F.GLB_STITCH_HOLD_LIMIT 0 ≠ 0 → exec .sourceLost s = .next ((((((((s).put
     F.GLB_STITCH_STATUS_STATE 0 4).put F.GLB_STITCH_STATUS_DRIFT 0 0).event clsTiming 0 0 1 (4 + 8 * 3)).setTim fun t =>
     { t with hold := some (s.after (s.get F.GLB_STITCH_HOLD_LIMIT 0)) }).occAt 3 0 none).settle))) ∧
  (∀ (s : State), s.astate = 4 → s.dueO s.tim.hold = true → exec .holdoverExpiry s = .next ((((((((s).put F.GLB_STITCH_STATUS_STATE 0 5).put
     F.GLB_STITCH_STATUS_DRIFT 0 0).event clsTiming 0 0 1 (5 + 8 * 4)).setTim fun t => { t with hold := none }).occAt 2 0 none).settle))) ∧
  (∀ (s : State) (i : Nat), s.backupNo = some i → s.stSrc = srcAuto → 1024 * i ≤ s.tim.backupRun → s.flt.fenceQ = [] → exec .backupRootTakeover s =
     .next (s.setTim fun t => { t with actingRoot := true })) ∧
  (∀ (s : State) (long : Bool) (period : Nat) (ofs x : Int), s.stSrc = srcPin → s.tim.running = true → 2558 ≤ period → period ≤ 2562 → long = false → x
     = (ofs + signed 16 (s.get F.GLB_STITCH_PINADJ_DELAY 0)) % 20480 → exec (.stitchInPulse long period ofs) s = .next ((s.setTim fun t =>
     { t with pinSeen := true }).setPhase (if x < 10240 then -x else 20480 - x))) ∧
  (∀ (s : State) (e : Epoch), e = .fw → s.tim.epochEnds.contains .fw = true → exec (.epochEnd e) s = .next (((s.setTim fun t =>
     { t with epochEnds := t.epochEnds.filter (· != .fw) }).each (List.range 4) fun t c => t.put F.CLK_IRQ_PEND_EPOCH (4 * c) 1).writeDone)) ∧
  (∀ (s : State) (e : Epoch), e = .heat → s.tim.epochEnds.contains .heat = true → s.on F.INS_TIER_STATUS_SCANNING 0 = false → exec (.epochEnd e) s =
     .next (((((s.setTim fun t => { t with epochEnds := t.epochEnds.filter (· != .heat) }).setIns fun i => { i with started := 0 }).setIns fun i =>
     { i with scanEnd := some i.counting, counting := 1 - i.counting }).put F.INS_TIER_STATUS_SCANNING 0 1).writeDone)) ∧
  (∀ (s : State) (smp : Samples) (s1 s2 s3 : State), s.on F.GLB_STITCH_CTL_RUN 0 = true → s.tim.epochEnds = [] → s.tim.arm = none → (s1 = (((s.setMgt
     fun g => { g with events := [] }).numberTurn s.nextNum.1 s.nextNum.2).soleTurn)) → s2 = (s1.homeTurn.insoleTurn.mgmtTurn s.tim.num
     s.mgt.events).aonTurn smp s.flt.occs.length → (s3 = s2.bankTurn (((List.range 8).filter s2.flows).map fun m => (m, (s2.setTim fun t =>
     { t with seen := s.tim.seen }).markerFor m))) → exec (.stitchBoundary smp) s = .next ((((s3.epochTurn (!s.tim.running)
     s.nextNum.2).swapFinish).releaseIn.drainAgain).settle))

/-- START from IDLE, COMMITTED or FAILED opens FETCH with the source and a cleared code; ABORT before COMMIT fails with ABORTED, and in AUTH lets security
commands that waited for the checks run; a state whose checks pass goes on to the next: AUTH, CHECK, VERIFIED; VERIFIED enters COMMIT where no armed
swap shares a group and the base still holds; the commit's end is COMMITTED, a runtime load's staged identity and the event. -/
def Obligations.LoadCommands : Prop :=
  (∀ (s : State) (p : Path) (v : Word) (s1 : State), p.isRequester = true → s.Open → F.LAST_LOAD_CTL_START.of v = 1 → (s.loadState = 0 ∨ s.loadState =
     6 ∨ s.loadState = 7) → s1 = s.storeAt R.LAST_LOAD_CTL v → s1.get F.LAST_LOAD_CTL_SRC 0 ≠ 0 → exec (.loadStart p v) s = .next (((s1.loadBegin
     (s1.get F.LAST_LOAD_CTL_SRC 0)).writeDone).send (.csr p true 0))) ∧
  (∀ (s : State) (p : Path) (v : Word) (s3 : State), p.isRequester = true → s.Open → F.LAST_LOAD_CTL_START.of v = 0 → F.LAST_LOAD_CTL_ABORT.of v = 1 →
     1 ≤ s.loadState → s.loadState ≤ 4 → s3 = (s.storeAt R.LAST_LOAD_CTL v).loadFail ⟨19, 0, 0, none⟩ → exec (.loadAbort p v) s = .next (((if
     s.loadState = 2 then s3.secNext else s3).writeDone).send (.csr p true 0))) ∧
  (∀ (s : State) (srcErr : Option Nat) (l : Load), s.las.load = some l → s.loadState = 1 → s.fetchErr l.src l.boot = none → srcErr = none → exec
     (.loadFetchDone srcErr) s = .next (((s.updLoad fun x =>
     { x with len := s.imgLen l.src, partImg := s.imgN l.src 6 2 == 2, buildId := s.imgN l.src 0x10 8, baseId := s.imgN l.src 0x18 8, svn := s.imgN l.src 0x28 4, groups := if s.imgN l.src 6 2 == 2 then allGrps.filter fun g => (s.sects l.src).any fun z => sectGrp z.ty == some g else allGrps, digests := ((s.sects l.src).filter fun z => structural z.ty).map (·.digest) }).setLoadState
     2).settle)) ∧
  (∀ (s : State) (sigOk : Bool) (l : Load), s.las.load = some l → s.loadState = 2 → s.authErr l.src l.boot sigOk = none → s.sec.waiting = [] → exec
     (.loadAuthDone sigOk) s = .next ((s.setLoadState 3).writeDone)) ∧
  (∀ (s : State) (srcErr : Option Nat) (digestOk : List Bool) (l : Load) (structWrites : List RecWrite) (staged : List (Grp × List RecWrite)),
     s.las.load = some l → s.loadState = 3 → srcErr = none → s.checkBodies l.src digestOk = (none, structWrites, staged) → baseErr l l.startId =
     none → (l.partImg = true ∨ l.boot = true ∨ l.digests = s.las.structDigests) → exec (.loadCheckDone srcErr digestOk) s = .next (((s.updLoad fun
     x => { x with structural := structWrites, staged := staged }).setLoadState 4).settle)) ∧
  (∀ (s : State) (l : Load), s.las.load = some l → s.loadState = 4 → s.armShares l = false → (baseErr l (if s.on F.LAST_ID_STATUS_MIXED 0 then none
     else some s.activeId) = none) → l.boot = false → exec .loadCommitStart s = .next (((s.setLoadState 5).setLas fun x =>
     { x with committing := l.groups.head? }).writeDone)) ∧
  (∀ (s : State) (l : Load), s.las.load = some l → s.loadState = 5 → l.boot = false → l.groups ≠ [] → exec .loadCommitDone s = .next
     (((((((((s.commitAll 15).setStagedId l.buildId).setLoadState 6).loadEvent 6 0 l.buildId).setLas fun x =>
     { x with load := none, committing := none, lastGroups := l.groups }).heldWrites).heldJobsRun).heldArms).writeDone))

/-- The end of a group's commit performs the writes held for it; an arm whose groups are committed is performed; firmware that passes its checks runs with
60 s for CONFIRM; CONFIRM ends the wait and clears the tries; the end of the wait without it fails the attempt and the other image boots; a write of
PREFER names the preferred image. -/
def Obligations.HeldAndBootCommands : Prop :=
  (∀ (s : State) (l : Load) (g : Grp), s.las.load = some l → s.las.committing = some g → exec .heldStgWriteRelease s = .next (((((s.commitGrp l
     g).updLoad fun x => { x with doneGrps := x.doneGrps ++ [g] }).setLas fun x =>
     { x with committing := l.groups.find? fun k => k != g && !l.doneGrps.contains k }).heldWrites.heldJobsRun).writeDone)) ∧
  (∀ (s : State) (p : Path) (v : Word), s.las.heldArm = [(p, v)] → s.armBlocked (F.LAST_SWAP_CTL_MASK.of v) = false → exec .heldArmRelease s = .next
     (((((s.setLas fun l => { l with heldArm := [] }).storeAt R.LAST_SWAP_CTL v).armNow)).writeDone)) ∧
  (∀ (s : State) (ok : Bool) (svn : Nat) (s1 : State), s.on F.GLB_RST_MGMT_HOLD 0 = false → s.las.fwRunning = false → s.las.recovery = false → ok =
     true → s.get F.SEC_FW_SVN_MIN_SVN 0 ≤ svn → s.on F.SEC_STATUS_SELFTEST_OK 0 = true → s.secError = false → (s1 = ((s.put F.SEC_FW_SVN_SVN 0
     svn).setLas fun l => { l with fwRunning := true, confirm := some (s.after 58593750) }).each (List.range 4) fun t c => t.put
     F.CLK_CORE_STATUS_STATE (4 * c) (if t.on F.CLK_CORE_CTL_HOLD (4 * c) then 0 else 1)) → s1.step? = 2 → exec (.firmwareVerifyDone ok svn) s =
     .next ((s1.setStep 3).writeDone)) ∧
  (∀ (s : State) (p : Path) (v : Word) (s1 : State), p.isRequester = true → s.Open → F.LAST_BOOT_CONFIRM.of v = 1 → (s1 = ((s.setLas fun l =>
     { l with tries := 0, confirm := none }).put F.LAST_BOOT_TRIES 0 0).setFlt fun f => { f with restartTo := none }) → s1.get
     F.FLT_RESTART_STATUS_STATE 0 ≠ 3 → exec (.bootConfirm p v) s = .next ((s1.writeDone).send (.csr p true 0))) ∧
  (∀ (s : State) (e : Nat), s.las.confirm = some e → s.due e = true → exec .bootConfirmTimeout s = .next (s.bootFail.writeDone)) ∧
  (∀ (s : State) (p : Path) (v : Word), p.isRequester = true → s.Open → exec (.bootPrefWrite p v) s = .next ((((s.storeAt R.LAST_BOOT_PREF v).setLas
     fun l => { l with prefImage := F.LAST_BOOT_PREF_PREFER.of v }).writeDone).send (.csr p true 0)))

/-- A lane bank's receiver goes DETECT, CDR, ADAPT, ORIENT, ALIGN, TUNE, DATA on its events: a detected partner, a lock within the bank's range, settled
adaptation or its 500 stitches, the sixteenth marker of one polarity, a block lock. A time limit without a partner leaves the lane IDLE; the retry of
a fabric lane starts detection again. -/
def Obligations.LaneTraining : Prop :=
  (∀ (s : State) (b l : Nat), b < 20 → l < 16 → 16 ≤ b → s.laneState b l = 2 → exec (.laneDetectDone b l) s = .next (((s.laneTo b l 3).put
     F.LB_LANE_STATUS_DETECTED (dLane b l) 1).setLane b l fun x => { x with timer := none })) ∧
  (∀ (s : State) (b l : Nat), b < 20 → l < 16 → 16 ≤ b → s.laneState b l = 2 → s.dueO (s.lane b l).timer = true → exec (.laneDetectTimeout b l) s =
     .next ((s.laneDown b l 1).put F.LB_LANE_STATUS_DETECTED (dLane b l) 0)) ∧
  (∀ (s : State) (b l : Nat) (ofs : Int), b < 20 → l < 16 → s.laneState b l = 3 → (s.cdrRange b).1 ≤ ofs → ofs ≤ (s.cdrRange b).2 → -32768 ≤ ofs → ofs
     ≤ 32767 → (s.lane b l).relock = none → exec (.laneCdrLock b l ofs) s = .next (((s.laneAdapt b l).put F.LB_LANE_STATUS_CDR_LOCK (dLane b l)
     1).put F.LB_LANE_CDR_FREQ_OFS (dLane b l) (unsigned 16 ofs))) ∧
  (∀ (s : State) (b l : Nat), b < 20 → l < 16 → s.laneState b l = 4 → exec (.laneAdaptDone b l) s = .next ((s.laneTo b l 5).setLane b l fun x =>
     { x with timer := none, matches_ := 0 })) ∧
  (∀ (s : State) (b l : Nat), b < 20 → l < 16 → s.laneState b l = 4 → s.dueO (s.lane b l).timer = true → exec (.laneAdaptTimeout b l) s = .next
     ((s.laneTo b l 5).setLane b l fun x => { x with timer := none, matches_ := 0 })) ∧
  (∀ (s : State) (b l blk : Nat) (mir own : Bool), b < 20 → l < 16 → 16 ≤ b → s.laneState b l = 5 → blkOk blk = true → blkMatch blk = true → (s.lane b
     l).mirrored = mir → (s.lane b l).matches_ + 1 < 16 → exec (.trainingBlockRx b l blk mir own) s = .next (s.lanesFollow (s.setLane b l fun y =>
     { y with matches_ := (s.lane b l).matches_ + 1, mirrored := mir }) b)) ∧
  (∀ (s : State) (b l : Nat), b < 20 → l < 16 → s.laneState b l = 1 → s.dueO (s.lane b l).retry = true → s.bankState b = 3 → (s.bank b).relocking =
     false → (s.bank b).family = none → (s.lane b l).fenced = false → exec (.laneMapRetry b l) s = .next (s.laneDetect b l)) ∧
  (∀ (s : State) (b l : Nat), b < 20 → l < 16 → 16 ≤ b → s.laneState b l = 6 → (s.lane b l).relock = none → exec (.laneBlockLock b l) s = .next
     (s.lanesFollow ((s.laneTo b l 7).put F.LB_LANE_STATUS_BLOCK_LOCK (dLane b l) 1) b))

/-- A fabric lane in DATA that loses block lock goes back to ALIGN and has 16 stitches to relock; one that loses clock recovery goes to CDR; a relock in
time returns to DATA and opens the 1024-stitch window, whose end counts a relock; a relock limit that passes makes the loss lasting. Adaptation writes
only what is not frozen; SNAP copies the coefficients; a margin scan runs from DATA only, one point at a time. -/
def Obligations.LaneLosses : Prop :=
  (∀ (s : State) (b l : Nat), b < 20 → l < 16 → 16 ≤ b → s.laneState b l = 8 → exec (.laneBlockLockLoss b l) s = .next (s.lanesFollow (State.laneLoss
     (((((s.laneTo b l 6).put F.LB_LANE_STATUS_BLOCK_LOCK (dLane b l) 0).bump F.LB_LANE_ERR_BAD_HDR (dLane b l) 16).count b 8 l 0 16)) b l .block)
     b)) ∧
  (∀ (s : State) (b l : Nat), b < 20 → l < 16 → 3 ≤ s.laneState b l → exec (.laneCdrLoss b l) s = .next (s.lanesFollow (State.laneLoss ((((s.laneTo b l
     3).put F.LB_LANE_STATUS_CDR_LOCK (dLane b l) 0).put F.LB_LANE_STATUS_BLOCK_LOCK (dLane b l) 0).setLane b l fun x => { x with timer := none }) b
     l .cdr) b)) ∧
  (∀ (s : State) (b l e : Nat), b < 20 → l < 16 → s.laneState b l = 6 → (s.lane b l).relock = some (.block, e) → s.due e = false → exec (.laneRelock b
     l) s = .next (s.lanesFollow (((s.laneTo b l 8).put F.LB_LANE_STATUS_BLOCK_LOCK (dLane b l) 1).setLane b l fun x =>
     { x with relock := none, stable := some (.block, s.after 1024) }) b)) ∧
  (∀ (s : State) (b l : Nat) (k : Relock) (e : Nat), b < 20 → l < 16 → (s.lane b l).relock = some (k, e) → s.due e = true → exec (.laneRelockTimeout b
     l) s = .next (s.lanesFollow ((s.setLane b l fun x => { x with relock := none, stable := none }).occ (if k = .block then 1600 else 1280) (16 * b
     + l)) b)) ∧
  (∀ (s : State) (b l : Nat) (k : Relock) (e : Nat), b < 20 → l < 16 → (s.lane b l).stable = some (k, e) → s.due e = true → exec (.laneRelockStable b
     l) s = .next ((s.bump F.LB_LANE_ERR_RELOCKS (dLane b l) 1).setLane b l fun x => { x with stable := none })) ∧
  (∀ (s : State) (b l : Nat) (r : State × List Nat), b < 20 → l < 16 → 4 ≤ s.laneState b l → s.on F.LB_LANE_ADAPT_FREEZE_CTLE (dLane b l) = true → r =
     s.usedFree.usedFree.freeBytes (s.dfeTaps b l) → exec (.adaptUpdate b l) s = .next (r.1.setLane b l fun x =>
     { x with dfe := if s.on F.LB_LANE_ADAPT_FREEZE_DFE (dLane b l) then x.dfe else r.2 })) ∧
  (∀ (s : State) (p : Path) (b l : Nat) (v : Word), p.isRequester = true → s.Open → b < 20 → l < 16 → s.bankState b = 3 → F.LB_LANE_ADAPT_SNAP.of v = 0
     → exec (.adaptFreezeWrite p b l v) s = .next (((s.storeAt (R.LB_LANE_ADAPT + dLane b l) v).writeDone).send (.csr p true 0))) ∧
  (∀ (s : State) (p : Path) (b l : Nat) (v : Word), p.isRequester = true → s.Open → b < 20 → l < 16 → s.bankState b = 3 → F.LB_LANE_ADAPT_SNAP.of v = 1
     → exec (.coefSnapshot p b l v) s = .next ((((s.storeAt (R.LB_LANE_ADAPT + dLane b l) v).coefSnap b l).writeDone).send (.csr p true 0))) ∧
  (∀ (s : State) (p : Path) (b l : Nat) (v : Word) (s1 s2 : State) (mode k : Nat), p.isRequester = true → s.Open → b < 20 → l < 16 → s.bankState b = 3
     → F.LB_LANE_MARGIN_CTL_START.of v = 1 → s1 = s.storeAt (R.LB_LANE_MARGIN_CTL + dLane b l) v → (s1.lane b l).scan = none → s1.on
     F.LB_LANE_MARGIN_STATUS_HOST (dLane b l) = false → mode = s1.get F.LB_LANE_MARGIN_CTL_MODE (dLane b l) → nextDir mode 0 = some k → s1.laneState
     b l = 8 → (s2 = s1.each ((List.range 4).filter fun j => mode.testBit j) fun t j => t.put (marginFld j) (dLane b l) 0) → exec (.marginScanStart
     p b l v) s = .next (((((s2.put F.LB_LANE_MARGIN_STATUS_STATE (dLane b l) 1).put F.LB_LANE_MARGIN_STATUS_ERR (dLane b l) 0).setLane b l fun x =>
     { x with scan := some (k, 1) }).writeDone).send (.csr p true 0))) ∧
  (∀ (s : State) (b l : Nat) (pass : Bool) (k n : Nat), b < 20 → l < 16 → (s.lane b l).scan = some (k, n) → pass = true → n < marginLimit k → exec
     (.marginPointDone b l pass) s = .next ((s.put (marginFld k) (dLane b l) n).setLane b l fun x => { x with scan := some (k, n + 1) })) ∧
  (∀ (s : State) (b l : Nat) (pass : Bool) (k n : Nat), b < 20 → l < 16 → (s.lane b l).scan = some (k, n) → (pass = false ∨ n = marginLimit k) →
     nextDir (s.get F.LB_LANE_MARGIN_CTL_MODE (dLane b l)) (k + 1) = none → exec (.marginPointDone b l pass) s = .next (((s.put (marginFld k) (dLane
     b l) (if pass then n else n - 1)).put F.LB_LANE_MARGIN_STATUS_STATE (dLane b l) 2).setLane b l fun x => { x with scan := none })) ∧
  (∀ (s : State) (b l : Nat) (start : Bool), b < 20 → l < 16 → start = true → (s.lane b l).scan = none → exec (.hostMarginCommand b l start) s = .next
     (s.put F.LB_LANE_MARGIN_STATUS_HOST (dLane b l) 1))

/-- WAKE of an enabled bank that is OFF queues it under the wake budget; PARK of an idle READY bank parks it for 10 stitches; a bank in WAKE whose
calibration succeeds becomes READY after the writes it missed; the loss of a READY bank's PLL takes its links down and tries the PLL again; a change
of family relocks it. -/
def Obligations.BankCommands : Prop :=
  (∀ (s : State) (p : Path) (b : Nat) (v : Word) (s1 : State), p.isRequester = true → s.Open → b < 20 → s.bankState b = 0 → F.LB_BANK_CTL_WAKE.of v = 1
     → F.LB_BANK_CTL_PARK.of v = 0 → s1 = (s.setReg (R.LB_BANK_CTL + dBank b) (s.reg (R.LB_BANK_CTL + dBank b))).miss b (.write
     ⟨p, R.LB_BANK_CTL + dBank b, R.LB_BANK_CTL + dBank b, v, 0x100⟩) → s1.bankEn b = true → s1.bankState b = 0 → exec (.bankWake p b v) s = .next
     ((((s1.setBankState b 1).wakeAdd b).writeDone).send (.csr p true 0))) ∧
  (∀ (s : State) (p : Path) (b : Nat) (v : Word) (s1 : State), p.isRequester = true → s.Open → b < 20 → s.bankState b = 3 → F.LB_BANK_CTL_WAKE.of v = 0
     → F.LB_BANK_CTL_PARK.of v = 1 → s1 = s.familyWrite b v → s1.bankState b = 3 → s1.bankIdle b = true → exec (.bankPark p b v) s = .next
     ((((s1.setBankState b 4).setBank b fun x => { x with timer := some (s1.after 10), stable := none }).writeDone).send (.csr p true 0))) ∧
  (∀ (s : State) (b : Nat) (pllOk calOk : Bool) (s1 : State), b < 20 → 16 ≤ b → pllOk = true → calOk = true → s.bankState b = 2 → s.reachedO (s.bank
     b).timer = true → s1 = (s.applyMissed b).bankUp b → exec (.bankReady b pllOk calOk) s = .next (((s1.mlBankReady (2 * (b - 16))).mlBankReady (2
     * (b - 16) + 1)).writeDone)) ∧
  (∀ (s : State) (b : Nat), b < 20 → s.bankState b = 4 → exec (.bankParkDone b) s = .next (((s.lanesOff b).setBankState b 0).setBank b fun x =>
     { x with timer := none })) ∧
  (∀ (s : State) (b : Nat), b < 20 → s.bankState b = 3 → (s.bank b).relocking = false → (s.bank b).family = none → (s.bank b).stable = none → exec
     (.bankPllUnlock b) s = .next ((State.bankLinksDown (((s.bankLanesIdle b).pllLock b 0).setBank b fun x =>
     { x with relocking := true, timer := some (s.after 250), stable := none }) b).writeDone)) ∧
  (∀ (s : State) (b : Nat) (locked : Bool) (s1 : State), b < 20 → (s.bank b).relocking = true → s1 = s.pllRelock b locked → s1.bankState b = 3 →
     (s1.bank b).relocking = false → exec (.bankRelockDone b locked) s = .next ((s1.bankTrains b).writeDone)) ∧
  (∀ (s : State) (p : Path) (b : Nat) (v : Word) (s1 s2 : State) (r : Nat), p.isRequester = true → s.Open → b < 20 → 16 ≤ b → s.bankState b = 3 →
     F.LB_BANK_CTL_WAKE.of v = 0 → F.LB_BANK_CTL_PARK.of v = 0 → s1 = s.storeAt (R.LB_BANK_CTL + dBank b) v → s1.get F.LB_BANK_CTL_FAMILY (dBank b)
     ≠ s.get F.LB_BANK_CTL_FAMILY (dBank b) → (s2 = ((s1.put F.LB_BANK_STATUS_PLL_LOCK_A (dBank b) 0).setBank b fun x =>
     { x with family := some (s.after 150) }).bankLanesIdle b) → (r = (if s1.get F.LB_BANK_CTL_FAMILY (dBank b) = 0 then 0 else 1)) → exec
     (.familyChange p b v) s = .next (((((((s2.put F.ML_LINK_STATUS_RATE (dLink (2 * (b - 16))) r).mlLanesLost (2 * (b - 16))).put
     F.ML_LINK_STATUS_RATE (dLink (2 * (b - 16) + 1)) r).mlLanesLost (2 * (b - 16) + 1))).writeDone).send (.csr p true 0))) ∧
  (∀ (s : State) (b : Nat) (s1 s2 : State), b < 20 → s.reachedO (s.bank b).family = true → (s1 = (s.put F.LB_BANK_STATUS_PLL_LOCK_A (dBank b)
     1).setBank b fun x => { x with family := none }) → s1.mlState (2 * (b - 16)) = 1 → s2 = s1.mlTrainOn (2 * (b - 16)) 0 → s2.mlState (2 * (b -
     16) + 1) = 1 → exec (.familyRelockDone b) s = .next ((s2.mlTrainOn (2 * (b - 16) + 1) 0).settle))

/-- An acceptable link up of a port in TRAINING counts the insertion and starts the wait; an attempt past its limit fails; a live link that falls to
Detect starts the loss; entering Recovery counts and starts the loss limit; XR negotiation and its failure; RETRAIN, HOT_RESET and DISABLE of
EP_LINK_CMD. -/
def Obligations.PortTraining : Prop :=
  (∀ (s : State) (n rate width : Nat) (flit : Bool) (ver protos fmt lds : Nat) (bi : Bool) (u : LinkUp) (s1 s2 s3 : State), n < 64 → u =
     ⟨rate, width, flit, ver, protos, fmt, lds, bi⟩ → s.linkUpOk n u = true → s.hp n = 1 → (s.port n).lossAt = none → width = (s.lanesOfPort
     n).length → s.portMode n ≠ 7 → (s1 = (s.linkUpRegs n u).each (s.lanesOfPort n) fun t l => if t.laneState (n / 4) l = lsTune ∨ t.laneState (n /
     4) l = lsAlign then t.laneTo (n / 4) l lsData else t) → (s2 = ((s1.put F.EP_LINK_STATUS_ATTEMPTS (dPort n) 0).put F.EP_XR_STATUS_ACTIVE (dPort
     n) (bit (rate == 6 && ver == 3))).setPort n fun p =>
     { p with attempt := none, aim := rate, everUp := true, loss := none, speedChange := none }) → s3 = ((s2.put F.EP_HP_STATUS_PRESENT (dPort n)
     1).bump F.EP_HP_STATUS_INSERTS (dPort n) 1).put F.EP_XR_STATUS_FAILS (dPort n) 0 → exec (.portLinkUp n rate width flit ver protos fmt lds bi) s
     = .next ((((s3.setPort n fun p => { p with wait := some (s.after (s.get F.EP_HP_WAIT_WAIT (dPort n))), xrBar := false }).hpTo n 2).ideLinkUp
     n).writeDone)) ∧
  (∀ (s : State) (n : Nat), n < 64 → s.dueO (s.port n).attempt = true → s.hp n = 1 → exec (.portTrainTimeout n) s = .next ((s.attemptFail n).settle)) ∧
  (∀ (s : State) (n : Nat), n < 64 → 2 ≤ s.hp n → s.hp n ≤ 5 → exec (.portLtssmDetect n) s = .next ((((s.setLtssm n 0).put F.EP_LINK_STATUS_DL_UP
     (dPort n) 0).setPort n fun p => { p with lossAt := some (p.lossAt.getD s.tim.bnd), loss := none }).settle)) ∧
  (∀ (s : State) (n lim : Nat), n < 64 → s.portUp n = true → lim = s.get F.EP_HP_LOSS_LIMIT (dPort n) → exec (.portRecoveryEntry n) s = .next
     (((s.setLtssm n 3).setPort n fun p =>
     { p with recoveries := p.recoveries + 1, loss := if lim = 0 then none else some (s.after lim), advertise128 := p.xrEnable && s.on F.EP_LINK_CTL_XR_POLICY (dPort n) }).count
     (n / 4) 3 (n % 4) 0 1)) ∧
  (∀ (s : State) (n lim : Nat), n < 64 → s.tim.num % 1024 = 0 → lim = s.get F.EP_DS_CFG_RCV_LIMIT (dPort n) → lim ≠ 0 → lim < (s.port n).recoveries → 2
     ≤ s.hp n → s.hp n ≤ 5 → exec (.recoveryWindowEnd n) s = .next (((s.setPort n fun p => { p with recoveries := 0 }).downshift n 2).settle)) ∧
  (∀ (s : State) (n : Nat) (en lopt : Bool), n < 64 → en = true → upMode (s.portMode n) = false → s.on F.EP_LINK_CTL_XR_POLICY (dPort n) = true →
     s.xrOk n = true → s.on F.EP_XR_STATUS_PARTNER_CAP (dPort n) = true → (s.port n).xrBar = false → exec (.xrEnableWrite n en lopt) s = .next
     (((((s.put F.EP_XR_STATUS_LOCAL_EN (dPort n) 1).setPort n fun p => { p with xrEnable := true, xrLopt := lopt }).put F.EP_XR_STATUS_PARTNER_EN
     (dPort n) 1).setPort n fun p =>
     { p with advertise128 := true, speedChange := some 6, attempt := some (s.after (s.get F.EP_DS_CFG_TRAIN_LIMIT (dPort n) * 256)) }).send (.ctl n
     1 6))) ∧
  (∀ (s : State) (n : Nat), n < 64 → s.on F.EP_XR_STATUS_LOCAL_EN (dPort n) = true → 2 ≤ s.hp n → s.hp n ≤ 5 → (s.port n).xrBar = false → s.on
     F.EP_LINK_CTL_XR_POLICY (dPort n) = true → exec (.xrAttemptFail n) s = .next ((((((s.put F.EP_LINK_STATUS_RATE (dPort n) 5).put
     F.EP_XR_STATUS_FAILED (dPort n) 1).bump F.EP_XR_STATUS_FAILS (dPort n) 1).put F.EP_LINK_STATUS_DS_REASON (dPort n) 3).put F.EP_XR_STATUS_ACTIVE
     (dPort n) 0).setPort n fun p =>
 { p with speedChange := none, attempt := none, xrBar := true })) ∧
  (∀ (s : State) (p : Path) (n : Nat) (v : Word) (s1 : State), p.isRequester = true → s.Open → n < 64 → s.bankState (n / 4) = 3 →
     F.EP_LINK_CMD_RETRAIN.of v = 1 → F.EP_LINK_CMD_HOT_RESET.of v = 0 → s1 = s.storeAt (R.EP_LINK_CMD + dPort n) v → s1.on F.EP_LINK_CMD_DISABLE
     (dPort n) = s.on F.EP_LINK_CMD_DISABLE (dPort n) → exec (.portRetrain p n v) s = .next (((s1.portRetrain n).writeDone).send (.csr p true 0))) ∧
  (∀ (s : State) (p : Path) (n : Nat) (v : Word) (s1 : State), p.isRequester = true → s.Open → n < 64 → s.bankState (n / 4) = 3 →
     F.EP_LINK_CMD_RETRAIN.of v = 0 → F.EP_LINK_CMD_HOT_RESET.of v = 1 → s1 = s.storeAt (R.EP_LINK_CMD + dPort n) v → s1.on F.EP_LINK_CMD_DISABLE
     (dPort n) = s.on F.EP_LINK_CMD_DISABLE (dPort n) → exec (.portHotReset p n v) s = .next (((s1.portHotReset n).writeDone).send (.csr p true 0))) ∧
  (∀ (s : State) (p : Path) (n : Nat) (v : Word) (s1 : State), p.isRequester = true → s.Open → n < 64 → s.bankState (n / 4) = 3 →
     F.EP_LINK_CMD_RETRAIN.of v = 0 → F.EP_LINK_CMD_HOT_RESET.of v = 0 → s1 = s.storeAt (R.EP_LINK_CMD + dPort n) v → s.on F.EP_LINK_CMD_DISABLE
     (dPort n) = false → s1.on F.EP_LINK_CMD_DISABLE (dPort n) = true → exec (.portDisable p n v) s = .next (((s1.portDisable n).writeDone).send
     (.csr p true 0)))

/-- A hot reset from a host abandons the port's own requests and resets what is bound behind it; a secondary bus reset resets one vPPB; a completion of an
outstanding non-posted request goes back to its source; one that does not come in time answers with a timeout; the loss limit starts the loss, which
the next boundary declares; a lost port without anything outstanding becomes empty. -/
def Obligations.PortResets : Prop :=
  (∀ (s : State) (n : Nat) (s1 : State), n < 64 → (s.portMode n = 1 ∨ s.portMode n = 5 ∨ s.portMode n = 7) → s1 = (s.portStale n).departClear (s.ownSw
     * 64 + n) → exec (.hotResetReceived n) s = .next ((s1.each (s1.boundList.filter fun e => s1.upOf e.1 == some n) fun t e => if e.2.kind = 1 then
     (t.portStale e.2.port).send (.ctl e.2.port 0 0) else if e.2.kind = 2 then t.send (.ctl e.2.port 2 e.2.obj) else t).writeDone)) ∧
  (∀ (s : State) (n vs k v : Nat) (b : Bound), n < 64 → s.vppbAt n vs k = some v → s.bound? v = some b → b.kind = 1 → exec (.secondaryBusReset n vs k)
     s = .next ((s.portStale b.port).send (.ctl b.port 0 0))) ∧
  (∀ (s : State) (n : Nat) (msg : Msg) (e : NpEntry) (s1 : State), n < 64 → ((s.port n).np.find? (fun e => e.msg.id == msg.id) = some e) → s.dueO
     e.timer = false → s1 = s.npDrop n msg.id → exec (.npCompletionRx n msg) s = .next ((s1.step7 n e.msg.via
     { e.msg with kind := respKind e.msg.kind, op := msg.op, srcSw := s.ownSw, srcAg := n, dstSw := e.msg.srcSw, dstAg := e.msg.srcAg, colour := .green, body := slotsFor msg.data.length, len := msg.data.length, data := msg.data, poison := msg.poison, status := msg.status, devload := msg.devload, metaV := msg.metaV, via := e.msg.via }).writeDone)) ∧
  (∀ (s : State) (n id : Nat) (e : NpEntry) (s1 : State), n < 64 → ((s.port n).np.find? (fun e => e.msg.id == id) = some e) → s.dueO e.timer = true →
     (s.port n).lossAt = none → s1 = ((s.npDrop n id).bump F.EP_NP_STATUS_TO_COUNT (dPort n) 1).occ 576 n → exec (.switchCplTimeout n id) s = .next
     ((s1.respond n e.msg (match (e.msg.op : Op) with | .memRd | .memRdData => .memData | .memWr | .memWrPtl => .cmp | _ => .cpl) .timeout [] false
     0).writeDone)) ∧
  (∀ (s : State) (n : Nat), n < 64 → s.dueO (s.port n).loss = true → 2 ≤ s.hp n → s.hp n ≤ 5 → (s.port n).lossAt = none → exec (.hpLossTimeout n) s =
     .next (s.setPort n fun p => { p with loss := none, lossAt := some (s.tim.bnd - 1) })) ∧
  (∀ (s : State) (n b : Nat), n < 64 → (s.port n).lossAt = some b → b < s.tim.bnd → 2 ≤ s.hp n → s.hp n ≤ 5 → exec (.linkLossDeclare n) s = .next
     (((((s.lossAll n).migsLost n).vampLoss n).setSec fun x => { x with ideKeys := x.ideKeys.filter fun e => e.1 != n }).writeDone)) ∧
  (∀ (s : State) (n : Nat) (s1 : State), n < 64 → s.hp n = 6 → (s.port n).np = [] → s.queuedTo n = [] → s1 = (s.bump F.EP_HP_STATUS_REMOVALS (dPort n)
     1).hpTo n 0 → s.ltssm n ≠ 7 → exec (.linkLossComplete n) s = .next (s1.portDetect n))

/-- The wait's end, or a DRS message where it is accepted, starts discovery with its limit; a key programmed on a live port secures its stream and
restarts the rekey timer; a secured link that is not established in time raises its occurrence; a failed MAC of an active stream drops its keys; the
rekey timer programs every stream of the port again. -/
def Obligations.PortDiscoveryAndIde : Prop :=
  (∀ (s : State) (n : Nat), n < 64 → s.hp n = 2 → s.dueO (s.port n).wait = true → exec (.hpWaitExpiry n) s = .next ((s.setPort n fun p =>
     { p with wait := none, disc := some (s.after (s.get F.BND_CFG_DISC_LIMIT 0)) }).hpTo n 3)) ∧
  (∀ (s : State) (n : Nat), n < 64 → s.hp n = 2 → s.on F.EP_HP_CFG_DRS_EN (dPort n) = true → exec (.drsReceived n) s = .next ((s.setPort n fun p =>
     { p with wait := none, disc := some (s.after (s.get F.BND_CFG_DISC_LIMIT 0)) }).hpTo n 3)) ∧
  (∀ (s : State) (n stream : Nat) (ok : Bool), n < 64 → ok = true → stream = 0 → s.get F.EP_IDE_CFG_LINK_POLICY (dPort n) ≠ 0 → s.secError = false →
     s.lifecycle ≠ lcReturned → s.sec.returning = none → s.on F.EP_LINK_STATUS_DL_UP (dPort n) = true → s.get F.EP_IDE_STATUS_LINK_STATE (dPort n) ≠
     1 → exec (.ideKeyProg n stream ok) s = .next ((State.rekeyStart ((((s.put F.EP_IDE_STATUS_LINK_STATE (dPort n) 1).setPort n fun p =>
     { p with est := none, estOnce := true }).syncBlocked n).setSec fun x =>
     { x with ideKeys := if x.ideKeys.contains (n, 0) then x.ideKeys else x.ideKeys ++ [(n, 0)] }) n).settle)) ∧
  (∀ (s : State) (n : Nat), n < 64 → s.dueO (s.port n).est = true → s.get F.EP_IDE_STATUS_LINK_STATE (dPort n) ≠ 1 → exec (.ideEstTimeout n) s = .next
     (((s.setPort n fun p => { p with est := none }).occ 768 n).settle)) ∧
  (∀ (s : State) (n stream a : Nat), n < 64 → stream ≠ 0 → a = s.get F.EP_IDE_STATUS_SEL_ACTIVE (dPort n) → a.testBit (stream - 1) = true → exec
     (.ideMacFail n stream) s = .next ((((s.put F.EP_IDE_STATUS_SEL_ACTIVE (dPort n) (a - 2 ^ (stream - 1))).bump F.EP_IDE_ERR_MAC_FAIL (dPort n)
     1).setSec fun x => { x with ideKeys := x.ideKeys.filter fun e => !(e.1 == n && e.2 == stream) }).settle)) ∧
  (∀ (s : State) (n : Nat) (mine : List Nat), n < 64 → s.dueO (s.port n).rekey = true → (mine = (s.sec.ideKeys.filter fun e => e.1 == n).map (·.2)) →
     exec (.ideRekeyTimer n) s = .next (State.rekeyStart ((s.each mine fun t st => t.ideKeyProg n st true).setPort n fun p =>
     { p with rekey := none }) n))

/-- A marker within the deskew range joins its lane; one beyond it is a fault and a retrain; a good flit of a link that is UP is counted, its credit
returned taken and its messages enter the switch; a link sends a replay first, then what its control messages and credits allow; LINKDOWN opens the
grace, with a CAUSE that the spec does not state (a free value); the replay timer starts a replay; INIT and CRED messages are taken in their states
alone. -/
def Obligations.FabricReceive : Prop :=
  (∀ (s : State) (m lane gcnt skew : Nat), m < 8 → lane < 8 → s.mlaneState m lane = 8 → skew ≤ 16 → lane ∉ (s.link m).deskewed → exec (.laneMarkerRx m
     lane gcnt skew) s = .next (((((s.setLink m fun x => { x with deskewed := x.deskewed ++ [lane], gcnt := gcnt }).syncRx m).mlTryInit m).laceStep
     m).settle)) ∧
  (∀ (s : State) (m : Nat) (ok : Bool) (corr unc : Nat) (h : FlitHdr) (ids : List Nat) (msgs : List Msg) (s0 : State), m < 8 → s0 = ((s.bump
     F.ML_FEC_CNT_CORR (dLink m) corr).bump F.ML_ERR_CNT2_FEC_UNCORR (dLink m) unc).count (bankOfLink m) 6 (m % 2) 0 corr → s.mlState m = 3 → ok =
     true → unc = 0 → h.ftype ≠ 1 → h.ftype ≤ 2 → h.crpool = 15 → h.ackv = false → h.nak = false → s0.mlState m = 3 → exec (.flitRx m ok corr unc h
     ids msgs) s = .next (s0.writeDone)) ∧
  (∀ (s : State) (m v : Nat) (b : Bool), m < 8 → s.mlState m = 3 → s.ctlDue m = [] → (s.link m).unacked = [] → 0 < s.window m → s.spillOk m = true →
     s.vcChoice m = some (v, b) → exec (.flitTx m) s = .next ((s.dataTx m v b).writeDone)) ∧
  (∀ (s : State) (m e : Nat), m < 8 → (s.link m).timer = some e → e ≤ s.soleClk → (s.link m).unacked ≠ [] → s.mlState m = 3 → exec (.replayTimerExpiry
     m) s = .next (((s.bump F.ML_ERR_CNT1_TIMER_REPLAYS (dLink m) 1).replayStart m).settle)) ∧
  (∀ (s : State) (m seq : Nat) (ok : Bool), m < 8 → ((s.link m).unacked.any (fun f => f.seq == seq && f.kept == .spilled) = true) → ok = true → s.sysOk
     (spillAddr m seq) = true → exec (.spillReadback m seq ok) s = .next ((s.setLink m fun l =>
     { l with unacked := l.unacked.map fun f => if f.seq == seq then { f with kept := .readBack } else f }).writeDone)) ∧
  (∀ (s : State) (m : Nat) (im : InitMsg), m < 8 → s.mlState m = 2 → (s.link m).initRetry = none → im.resume = false → s.peerMismatch m im = false →
     exec (.initRx m im) s = .next ((s.handshake m im).writeDone)) ∧
  (∀ (s : State) (m : Nat), m < 8 → s.mlState m = 2 → s.dueO (s.link m).initRetry = true → exec (.initRetryTimer m) s = .next (s.mlFreshInit m)) ∧
  (∀ (s : State) (m pool size : Nat), m < 8 → s.mlState m = 2 → pool ≤ 8 → exec (.credRx m pool size) s = .next ((s.setLink m fun l =>
     { l with farSize := l.farSize.set pool size }).syncCred m)) ∧
  (∀ (s : State) (m g : Nat), m < 8 → s.mlState m = 3 → (s.link m).pendSet = none → g = s.get F.ML_LINK_CTL_GRACE (dLink m) → g ≠ 0 → exec (.linkdownRx
     m) s = .next (((((s.usedFree.mlTo m 4 15).setLink m fun l =>
     { l with seen := false, farRx := 0, chosen := 15, timer := none, cause := s.freeVal % 256, grace := some (s.after g) }).lanesTrain (bankOfLink
     m) ((List.range 8).map (bankLane m)))).settle))

/-- A LACE request that passes its checks begins the change under the tag; both readies move the link to the new lane set; an UNLACE request is answered
and switches at once; an accepted acknowledgement switches the requester; an abort of the pending tag or the time limit fails the change; GO with a
valid target begins it, and while one is pending GO is refused with BUSY. -/
def Obligations.LaceCommands : Prop :=
  (∀ (s : State) (m arg : Nat), m < 8 → (s.link m).pendSet = none → s.laceCheck m (ctlSet arg) false = 0 → exec (.laceReqRx m arg) s = .next
     (s.laceBegin m (ctlSet arg) (ctlTag arg) false false)) ∧
  (∀ (s : State) (m arg : Nat), m < 8 → (s.link m).pendSet = some (ctlSet arg) → (s.link m).laceTag = ctlTag arg → (s.link m).unlacing = false → exec
     (.laceReadyRx m arg) s = .next ((s.setLink m fun l => { l with laceRx := true }).laceStep m)) ∧
  (∀ (s : State) (m arg : Nat), m < 8 → ((s.mlState m = 3 ∧ s.lset m = ctlSet arg ∧ s.get F.ML_LACE_STATUS_TAG (dLink m) = ctlTag arg) = False) →
     (s.link m).pendSet = none → s.laceCheck m (ctlSet arg) true = 0 → exec (.unlaceReqRx m arg) s = .next ((State.laceBegin (s.setLink m fun l =>
     { l with lctl := l.lctl ++ [(8, ctlSet arg * 256 + ctlTag arg * 4096 + 0 + 0 * 2 ^ 20)] }) m (ctlSet arg) (ctlTag arg) true false).laceSwitch m
     (ctlSet arg))) ∧
  (∀ (s : State) (m arg : Nat), m < 8 → (s.link m).unlacing = true → (s.link m).laceOwn = true → (s.link m).laceTag = ctlTag arg → arg / 65536 % 2 = 0
     → exec (.unlaceAckRx m arg) s = .next (s.laceSwitch m (ctlSet arg))) ∧
  (∀ (s : State) (m arg v : Nat), m < 8 → (s.link m).pendSet = some v → (s.link m).laceTag = ctlTag arg → exec (.laceAbortRx m arg) s = .next
     (s.laceFail m (ctlReason arg))) ∧
  (∀ (s : State) (p : Path) (m : Nat) (v : Word) (s1 : State) (tgt tag : Nat), p.isRequester = true → s.Open → m < 8 → s.bankState (16 + m / 2) = 3 →
     F.ML_LACE_CTL_GO.of v = 1 → s1 = s.storeAt (R.ML_LACE_CTL + dLink m) v → (s1.link m).pendSet = none → s1.get F.ML_LACE_CTL_CMD (dLink m) = 1 →
     tgt = s1.get F.ML_LACE_CTL_TGT_LSET (dLink m) → s1.laceCheck m tgt false = 0 → tag = (s1.link m).laceTag + 1 - 16 * (((s1.link m).laceTag + 1)
     / 16) → exec (.laceGo p m v) s = .next (((s1.laceBegin m tgt tag false true).writeDone).send (.csr p true 0))) ∧
  (∀ (s : State) (p : Path) (m : Nat) (v : Word) (s1 : State) (tgt tag : Nat), p.isRequester = true → s.Open → m < 8 → s.bankState (16 + m / 2) = 3 →
     F.ML_LACE_CTL_GO.of v = 1 → s1 = s.storeAt (R.ML_LACE_CTL + dLink m) v → (s1.link m).pendSet = none → s1.get F.ML_LACE_CTL_CMD (dLink m) = 2 →
     tgt = s1.get F.ML_LACE_CTL_TGT_LSET (dLink m) → s1.laceCheck m tgt true = 0 → tag = (s1.link m).laceTag + 1 - 16 * (((s1.link m).laceTag + 1) /
     16) → exec (.unlaceGo p m v) s = .next (((s1.laceBegin m tgt tag true true).writeDone).send (.csr p true 0))) ∧
  (∀ (s : State) (m : Nat), m < 8 → s.dueO (s.link m).laceTo = true → (s.link m).laceOwn = true → exec (.laceTimeout m) s = .next ((s.laceFail m
     7).repeatCtl m 9 ((s.link m).laceTag * 4096 + 7 * 2 ^ 20) 16))

/-- RETRAIN of an UP link opens the grace; DISABLE flushes it or starts it again; a training attempt past its limit trains the widest set found; the end
of the grace flushes; the end of a flush restarts the link, tells the peer and moves its routes; a FENCE enters, a FENCE_DONE of the pending fence
ends the alternate route, a FLUSHED of the session ends the wait; a route that waits too long while its alternate is UP raises its occurrence; a fence
is sent again. -/
def Obligations.FabricRoutes : Prop :=
  (∀ (s : State) (m : Nat) (msg : Msg), m < 8 → s.mlState m = 3 → msg.op = .fence → msg.kind = .fence → exec (.fenceRx m msg) s = .next ((s.ingress (64
     + m) .none (s.landedMsg m msg)).writeDone)) ∧
  (∀ (s : State) (sw fid e : Nat), sw < 64 → (s.route sw).fence = some (fid, e) → s.mlState (s.get F.SOLE_ROUTE_PRIMARY (4 * sw)) = 3 → exec
     (.fenceDoneRx sw fid) s = .next ((s.setRoute sw fun r => { r with onAlt := false, fence := none }).writeDone)) ∧
  (∀ (s : State) (sw session e : Nat), sw < 64 → session = s.session (s.get F.SOLE_ROUTE_PRIMARY (4 * sw)) → (s.route sw).wait = some e → exec
     (.flushedRx sw session) s = .next ((s.setRoute sw fun x => { x with wait := none }).writeDone)) ∧
  (∀ (s : State) (p : Path) (m : Nat) (v : Word) (s1 : State), p.isRequester = true → s.Open → m < 8 → s.bankState (16 + m / 2) = 3 →
     F.ML_LINK_CMD_RETRAIN.of v = 1 → s1 = s.storeAt (R.ML_LINK_CMD + dLink m) v → s1.on F.ML_LINK_CMD_DISABLE (dLink m) = s.on
     F.ML_LINK_CMD_DISABLE (dLink m) → exec (.mlRetrain p m v) s = .next (((s1.mlRetrain m 255).writeDone).send (.csr p true 0))) ∧
  (∀ (s : State) (p : Path) (m : Nat) (v : Word) (s1 s2 : State), p.isRequester = true → s.Open → m < 8 → s.bankState (16 + m / 2) = 3 →
     F.ML_LINK_CMD_RETRAIN.of v = 0 → s1 = s.storeAt (R.ML_LINK_CMD + dLink m) v → s.on F.ML_LINK_CMD_DISABLE (dLink m) = false → s1.on
     F.ML_LINK_CMD_DISABLE (dLink m) = true → s2 = s1.mlDown m → s2.mlState m = 4 → exec (.mlDisable p m v) s = .next (((s2.mlFlush
     m).writeDone).send (.csr p true 0))) ∧
  (∀ (s : State) (m mask : Nat), m < 8 → s.mlState m = 1 → s.dueO (s.link m).attempt = true → (mask = ((List.range 8).filter fun l => s.mlaneState m
     (s.linkLane m l) == lsData).foldl (fun a l => a + 2 ^ l) 0) → exec (.mlTrainTimeout m) s = .next ((s.mlTrainOn m ((widestSet mask (s.minWidth
     m)).getD 0)).setMdl fun x => { x with tried := insNat x.tried m })) ∧
  (∀ (s : State) (m : Nat), m < 8 → s.mlState m = 4 → s.dueO (s.link m).grace = true → exec (.graceExpiry m) s = .next ((s.mlFlush m).writeDone)) ∧
  (∀ (s : State) (m far : Nat) (s2 s3 : State), m < 8 → s.mlState m = 5 → (s.link m).landed = [] → (s.link m).fenceHeld = false → far = s.get
     F.ML_PEER_FAR_SWITCH (dLink m) → (s2 = ((s.mlStart m).setLink m fun l => { l with flushEnd := none, rep := [] }).each (List.range 8) fun t k =>
     if k != m && t.mlState k == mlUpSt && t.on F.ML_PEER_VALID (dLink k) && t.get F.ML_PEER_FAR_SWITCH (dLink k) == far then t.repeatCtl k 0x0B (m
     + s.session m * 65536) 64 else t) → (s3 = s2.each (s2.primaryOf m) fun t w => t.routeLeft m w) → exec (.mlFlushDone m) s = .next ((s3.each
     (s3.altOf m) fun t w => t.altLeft w).writeDone)) ∧
  (∀ (s : State) (sw : Nat), sw < 64 → s.dueO (s.route sw).wait = true → s.mlState (s.get F.SOLE_ROUTE_ALT (4 * sw)) = 3 → exec (.routeFailoverTimeout
     sw) s = .next (((s.setRoute sw fun r => { r with wait := none }).occ 192 (s.get F.SOLE_ROUTE_PRIMARY (4 * sw))).writeDone)) ∧
  (∀ (s : State) (sw fid e : Nat), sw < 64 → (s.route sw).fence = some (fid, e) → s.due e = true → s.mlState (s.get F.SOLE_ROUTE_ALT (4 * sw)) = 3 →
     exec (.fenceRetryTimeout sw) s = .next (s.fenceSend sw))

/-- A well-formed request of a negotiated protocol enters from an edge port that is up, or from an internal agent; one of a protocol not negotiated makes
the link retrain (R132); a request enters with its source and hop count set; a waiting request that finds cells is taken in, a deferred red one below
the hard limit is placed, one that finds an active slot claims it; a fetched queue state is ready; every cell time advances the crossbar, Cobbler and
Clicker; the averages move every 64 cell times. -/
def Obligations.CrossbarCommands : Prop :=
  (∀ (s : State) (n : Nat) (r : Route) (msg : Msg), n < 64 → s.portUp n = true → s.notNegotiated n msg = false → s.on F.EP_IDE_STATUS_BLOCKED (dPort n)
     = false → malformed n { msg with via := n, hops := 0, srcSw := s.ownSw, srcAg := n } = false → exec (.requestArrival n r msg) s = .next
     (((s.count (n / 4) 1 (n % 4) msg.slice ((bodyBytes msg + 63) / 64)).ingress n r
     { msg with via := n, hops := 0, srcSw := s.ownSw, srcAg := n }).writeDone)) ∧
  (∀ (s : State) (n : Nat) (r : Route) (msg : Msg), n < 64 → s.portUp n = true → s.notNegotiated n msg = true → exec (.requestArrival n r msg) s =
     .next (s.portRecovery n)) ∧
  (∀ (s : State) (n : Nat) (r : Route) (msg : Msg), 72 ≤ n → n ≤ 84 → exec (.requestArrival n r msg) s = .next ((s.ingress n r
     { msg with via := n, hops := 0, srcSw := s.ownSw, srcAg := n }).writeDone)) ∧
  (∀ (s : State) (c : Nat) (x : Queued) (ch : Charge) (t : State), (firstWaiting (s.sole.waiting.filter fun x => x.msg.cls == c) = some x) → s.source
     x.msg = some ch → ((s.setSole fun o => { o with waiting := o.waiting.erase x }).claimSlot x.qidx = some t) → exec (.cellAllocateWaiting c) s =
     .next (((t.takeIn x ch).drainBehind).writeDone)) ∧
  (∀ (s : State) (id : Nat) (x : Queued), (s.sole.deferred.find? (fun x => x.msg.id == id) = some x) → s.qOf x.egress x.msg.cls < s.hardOf x.msg.cls →
     exec (.redDeferRelease id) s = .next ((((s.setSole fun o => { o with deferred := o.deferred.erase x }).place x).syncBuf.drainBehind).writeDone)) ∧
  (∀ (s : State) (x : Queued) (t : State), firstWaiting s.sole.slotWait = some x → s.claimSlot x.qidx = some t → exec .activeSlotClaim s = .next
     ((((s.setSole fun o => { o with slotWait := o.slotWait.erase x }).place x).syncSlots.drainBehind).writeDone)) ∧
  (∀ (s : State) (q out : Nat), q ∈ s.sole.fetching → out ≤ 1 → s.sysOk (queueAddr q) = true → exec (.queueStateFetchDone q out) s = .next
     ((((s.setSole fun o => { o with fetching := o.fetching.filter (· != q) }).svcDone 3 (queueAddr q)).setQueue q fun x =>
     { x with ready := true }).writeDone)) ∧
  (∀ (s : State) (ecc : List Nat) (s1 : State), s1 = s.cellTime ecc → exec (.cellTime ecc) s = .next (((s1.cobStep).clickerStep).writeDone)) ∧
  (∀ (s : State), s.tim.cells % 64 = 0 → exec .congestionAvgUpdate s = .next (s.updateAvg))

/-- A coherent request that has crossed to its home agent is admitted; the end of a directory fetch continues every tack of the set; a memory or snoop
response is taken by its tack; a BIConflict is answered; a tack past its limit is closed on the answers it has; the end of a hold releases the line;
the conflict queues admit; RESUME_CLEAN and a cleared departure change what they name. -/
def Obligations.HomeCommands : Prop :=
  (∀ (s : State) (h id ecc : Nat) (m : Msg), h < 4 → s.crossed? (76 + h) id = some m → isReq m = true → m.op ≠ .biConflict → exec
     (.coherentRequestArrival h id ecc) s = .next ((((s.uncross (76 + h) id).homeArrive h m ecc).homeSettle h).writeDone)) ∧
  (∀ (s : State) (h rgn line out : Nat) (s1 s2 : State) (ts : List Tack), h < 4 → s.fetching h (setIdx rgn line) = true → s.answers (setAddr h (setIdx
     rgn line)) = true → out = 0 → s1 = s.svcDone 2 (setAddr h (setIdx rgn line)) → (ts = (s1.home h).tacks.filter fun t => t.st == .dirf && setIdx
     t.rgn t.line == setIdx rgn line) → (s2 = s1.each ts fun u t => u.updTack h t.rgn t.line fun t => { t with st := .lookup }) → exec
     (.dirSetFetchDone h rgn line out) s = .next (((s2.each ts fun u t => u.homeStart h t.rgn t.line).homeSettle h).writeDone)) ∧
  (∀ (s : State) (h rgn line k : Nat) (m : Msg), h < 4 → ((∀ c < 4, ∀ a ∈ (s.chan c).homeDone, ¬ (a.h = h ∧ a.rgn = rgn ∧ a.line = line))) →
     (s.sole.crossing.find? (fun e => e.1 == 76 + h && e.2.kind == .memS2M && e.2.sid == rgn && e.2.tag == line) = some (k, m)) → exec
     (.haMemoryResponse h rgn line) s = .next ((((s.uncross (76 + h) m.id).homeMemDone h rgn line (m.op == .cmp) m.data m.poison (m.status == .ok)
     m.devload).homeSettle h).writeDone)) ∧
  (∀ (s : State) (h id : Nat) (m : Msg), h < 4 → s.crossed? (76 + h) id = some m → isSnoopRsp m.op = true → exec (.snoopResponseRx h id) s = .next
     ((((s.uncross (76 + h) id).snoopRsp h m).homeSettle h).writeDone)) ∧
  (∀ (s : State) (h id : Nat) (m : Msg), h < 4 → s.crossed? (76 + h) id = some m → m.op = .biConflict → exec (.biconflictRx h id) s = .next
     (((s.uncross (76 + h) id).biConflict h m).writeDone)) ∧
  (∀ (s : State) (h rgn line : Nat) (t t2 : Tack) (s1 : State), h < 4 → s.tack? h rgn line = some t → s.dueO t.timer = true → t.toSnoop = [] → t.memWr
     = 0 → t.memRd = false → t.migration = false → isWriteOp t.op = false → s1 = (s.bump F.HA_TO_STATUS_TIMEOUTS (dHome h) 1).occ 80 h → s1.tack? h
     rgn line = some t → t2 = { t with toSnoop := [], reissue := [], memRd := false, memWr := 0, timer := none, data := t.lineData } → exec
     (.tackTimeout h rgn line) s = .next ((((s1.updTack h rgn line fun _ => t2).homeClose h t2).homeSettle h).writeDone)) ∧
  (∀ (s : State) (h rgn line : Nat), h < 4 → exec (.holdWindowEnd h rgn line) s = .next (((s.setHome h fun x =>
     { x with holds := x.holds.filter fun e => !(e.1 == rgn && e.2.1 == line && decide (e.2.2 ≤ s.homeClk)) }).homeSettle h).writeDone))

/-- The conflict queues admit their next waiting request; an eviction tack is granted the set; RESUME_CLEAN with no tack leaves the degraded state; a
cleared departure returns when it has been walked; the walk's end treats every entry that names a departed sharer; a late write is sent again over a
link that is up and forgotten at its response; a suspended snoop is sent again. -/
def Obligations.HomeQueues : Prop :=
  (∀ (s : State) (h : Nat) (w : Wait), h < 4 → s.resNext h = some w → exec (.conflictQueueAdmit h) s = .next ((((s.setHome h fun x =>
     { x with resQ := x.resQ.erase w }).homeAdmit h w.msg 0).homeSettle h).writeDone)) ∧
  (∀ (s : State) (h : Nat) (w : Tack) (s1 : State), h < 4 → s.evictWaiting h = [w] → s1 = s.evictOne h w → exec (.evictionTackGrant h) s = .next
     (((s1.each (s1.evictWaiting h) fun t k => if t.waysUsed h (setIdx k.rgn k.line) < 16 then t.homeRun h k.rgn k.line else t).syncHome
     h).writeDone)) ∧
  (∀ (s : State) (p : Path) (h : Nat) (v : Word) (s1 : State), p.isRequester = true → s.Open → h < 4 → F.HA_CTL_RESUME_CLEAN.of v = 1 → s1 = s.storeAt
     (R.HA_CTL + dHome h) v → (s1.home h).tacks = [] → exec (.haResumeClean p h v) s = .next (((((s1.put F.HA_STATUS_DEGRADED_ALL (dHome h)
     0).setHome h fun x => { x with degraded := [] }).syncHome h).writeDone).send (.csr p true 0))) ∧
  (∀ (s : State) (p : Path) (h : Nat) (v : Word) (s1 : State) (f : Nat), p.isRequester = true → s.Open → h < 4 → F.HA_DEPART_CLR_GO.of v = 1 → s1 =
     s.storeAt (R.HA_DEPART_CLR + dHome h) v → f = s1.get F.HA_DEPART_CLR_FPID (dHome h) → f ∈ (s1.home h).departed → f ∈ (s1.home h).walked → exec
     (.haDepartClear p h v) s = .next (((((s1.setHome h fun x => { x with clearOk := x.clearOk ++ [f] }).departReturn h).syncHome h).writeDone).send
     (.csr p true 0))) ∧
  (∀ (s : State) (h : Nat), h < 4 → (s.home h).walking ≠ [] → s.reached (s.home h).walkEnd = true → ((s.home h).dir.filter (fun e => !e.ovf && (s.tack?
     h e.rgn e.line).isNone && e.sharers.any (s.home h).walking.contains) = []) → exec (.departureWalkEnd h) s = .next ((((s.setHome h fun y =>
     { y with walked := y.walked ++ y.walking, walking := y.gathered.take 64, gathered := y.gathered.drop 64, walkEnd := s.after 16384 }).departReturn
     h).homeSettle h).writeDone)) ∧
  (∀ (s : State) (id : Nat) (r : LostWrite) (m : Nat), (s.lwt.find? (fun r => r.msg.id == id && !r.resent) = some r) → s.linkFor r.msg.dstSw = some m →
     s.mlState m = 3 → exec (.lwtResend id) s = .next (((s.setLwt fun l => l.map fun x => if x == r then { x with resent := true } else x).step7Now
     76 (64 + m) { r.msg with via := 76 }).writeDone)) ∧
  (∀ (s : State) (id : Nat) (r : LostWrite) (m : Msg), (s.lwt.find? (fun r => r.msg.id == id && r.resent) = some r) → s.crossed? 76 id = some m →
     isResp m.op = true → exec (.lwtResendComplete id) s = .next (((((s.uncross 76 id).setLwt fun l => l.erase r).syncLwt.bump
     F.HA_LWT_STATUS_RESENT 0 1).drainBehind).writeDone)) ∧
  (∀ (s : State) (h : Nat) (t : Tack) (f : Nat), h < 4 → (s.home h).tacks = [t] → (t.reissue.filter (fun f => t.toSnoop.contains f && s.canSnoop h t f)
     = [f]) → exec (.snoopReissue h) s = .next ((((s.updTack h t.rgn t.line fun t => { t with reissue := t.reissue.filter (· != f) }).snoopOne h
     t.rgn t.line f)).writeDone))

/-- A channel serves the next port of its round; a pool read that is done answers with the bytes in memory and their poison; a trained start-up fills the
areas and goes on to step 5; a channel fault raises its occurrence; a tag write joins the update queue; a fetched tag line colours the accesses that
wait; a fetched remap entry is entered and the requests held for it looked up again. -/
def Obligations.InsoleMemory : Prop :=
  (∀ (s : State) (ch k : Nat) (m : Msg) (turns : List Nat), ch < 4 → (s.sole.crossing.find? (fun e => e.1 == 72 + ch) = some (k, m)) → s.insPick
     [true, !(s.chan ch).home.isEmpty, !(s.chan ch).svc.isEmpty] (s.chan ch).turns = some (0, turns) → isRead m.op = true → exec (.insoleRequest ch)
     s = .next (((((((s.setChan ch fun c => { c with turns := turns }).uncross (72 + ch) m.id).setChan ch fun c =>
     { c with reads := c.reads ++ [m] }).count (cbChan ch) 1 0 0 (units64 m.len)).account m.slice 4 (units64 m.len))).writeDone)) ∧
  (∀ (s : State) (ch client out : Nat) (m : Msg) (rest : List Msg) (s1 s2 : State), ch < 4 → client = 0 → (s.chan ch).reads = m :: rest → (s1 =
     s.setChan ch fun c => { c with reads := rest }) → s1.answers m.addr = true → out = 0 → s2 = s1.mirrorRead m.addr → exec (.insoleReadDone ch
     client out) s = .next ((s2.respond (72 + ch) m (if m.kind = .io then .cplD else .memData) .ok (s2.ins.mem.gets m.addr m.len) (s.rangePoison
     m.addr m.len) (s2.insDevLoad rest.length)).writeDone)) ∧
  (∀ (s : State) (trained : List Bool) (s1 : State), s.step? = 4 → s.on F.GLB_START_STATUS_STOPPED 0 = false → (∀ c < 4, trained.getD c true = true) →
     (s1 = s.each (List.range 4) fun t c => t.put F.INS_CH_STATUS_TRAINED (4 * c) 1) → exec (.insoleStartupDone trained) s = .next
     (((((((s1.zeroFill.setLwt fun _ => []).setIns fun i => { i with ready := true }).syncLwt.setStep 5).setMdl fun m =>
     { m with bootWake := true, readyTo := some (s.after (s.get F.GLB_START_CFG_READY_LIMIT 0)) }))).writeDone)) ∧
  (∀ (s : State) (ch : Nat), ch < 4 → exec (.channelFault ch) s = .next ((s.occAt (96 + ch) ch (fenceUnit (96 + ch))).writeDone)) ∧
  (∀ (s : State) (p : Path) (v : Word) (s1 : State) (a : Nat), p.isRequester = true → s.Open → F.INS_TAG_WR_GO.of v = 1 → s1 = s.storeAt R.INS_TAG_WR v
     → a = s1.get F.INS_TAG_ADDR_LO_DPA 0 * 4096 + s1.get F.INS_TAG_ADDR_HI_DPA 0 * 2 ^ 32 → s1.inPool a = true → s1.get F.INS_PEXT_STATE (ent
     (extentOf a)) ≠ 1 → exec (.tagWriteGo p v) s = .next (((s1.setIns fun i =>
     { i with tagQ := i.tagQ ++ [(a / 4096, F.INS_TAG_WR_TAG.of v)] }).writeDone).send (.csr p true 0))) ∧
  (∀ (s : State) (line out : Nat) (w : TagWait) (a : Nat) (s1 : State), (s.sec.tagWait.filter (fun w => w.line == line) = [w]) → a = 0x14000000 + 64 *
     line → (s1 = (s.setSec fun x => { x with tagWait := x.tagWait.filter fun w => w.line != line }).svcDone 5 a) → s1.answers a = true → out = 0 →
     exec (.tagCacheFillDone line out) s = .next ((((s1.mirrorRead a).tagIn line).colourTags w.agent w.msg w.viol w.dpa w.old).writeDone)) ∧
  (∀ (s : State) (rng gran out : Nat) (f : Nat × Nat × Nat × Msg) (a : Nat) (s1 : State) (e : Remap), (s.ins.fills.filter (fun f => f.1 == rng && f.2.1
     == gran) = [f]) → a = remapAddr (s.remapIdx rng gran) → (s1 = (s.setIns fun i =>
     { i with fills := i.fills.filter fun f => !(f.1 == rng && f.2.1 == gran) }).svcDone 4 a) → s1.answers a = true → out = 0 → Remap.ofWord
     (s1.memN a 8) = some e → exec (.remapFillDone rng gran out) s = .next (((s1.remapIn (s.remapIdx rng gran) { e with v := true }).lookAgain
     [f.2.2]).writeDone))

/-- The end of a heat scan rates every granule and lists the candidates; a migration starts on the first that can be promoted, with a free frame; it
copies when the writes before it are done; a promotion that is copied fills its frame and switches; a frame is freed when no old read remains; the
granule commands promote, demote, pin, unpin and reset. -/
def Obligations.TieringCommands : Prop :=
  (∀ (s : State) (p : Nat) (ids : List Nat) (s1 : State) (cand hot cold : List (Nat × Nat × Nat)), s.ins.scanEnd = some p → (ids = s.touched.filter fun
     i => (s.granOf i).isSome) → (s1 = s.each ids fun t i => t.remapSet i (scanOne p (s.get F.INS_TIER_CFG_DECAY 0) (t.remapAt i))) → (cand =
     ids.filterMap fun i => (s1.granOf i).map fun g => ((s1.remapAt i).heat, g.1, g.2)) → (hot = (cand.filter fun c => s1.canPromote c.2.1
     c.2.2).foldl (fun l c => insertBy (fun x y => decide (y.1 < x.1)) c l) []) → (cold = (cand.filter fun c => s1.canDemote c.2.1 c.2.2).foldl (fun
     l c => insertBy (fun x y => decide (x.1 < y.1)) c l) []) → exec .heatScanEnd s = .next ((s1.setIns fun i =>
     { i with scanEnd := none, promo := hot.take 4096, demo := cold.take 4096 }).put F.INS_TIER_STATUS_SCANNING 0 0)) ∧
  (∀ (s : State) (h r g f : Nat) (rest : List (Nat × Nat × Nat)) (s1 : State), s.on F.INS_TIER_STATUS_SCANNING 0 = false → s.ins.started < s.get
     F.INS_TIER_CFG_MIG_BUDGET 0 → ((s.ins.migs.filter fun g => g.kind != 2).length < s.get F.INS_TIER_CFG_MIG_OPEN 0) → (s.ins.promo.dropWhile (fun
     c => !s.canPromote c.2.1 c.2.2) = (h, r, g) :: rest) → s.frameFree? = some f → (s1 = ((s.setIns fun i => { i with promo := rest }).migStart r g
     0 f false (s.coherentGran r g)).setIns fun i => { i with started := i.started + 1 }) → exec .migrationStart s = .next ((s1.each
     (s1.ins.migs.filter fun g => !(s.ins.migs.any fun x => x.rng == g.rng && x.gran == g.gran)) fun t g => t.migIssue g.rng g.gran).writeDone)) ∧
  (∀ (s : State) (rng gran : Nat), s.outstanding (s.remapIdx rng gran) true = 0 → exec (.migrationWritesDrained rng gran) s = .next (((s.setIns fun i
     => { i with migs := i.migs.map fun g => if g.rng == rng && g.gran == gran then { g with copying := true } else g }).migIssue rng
     gran).writeDone)) ∧
  (∀ (s : State) (rng gran : Nat) (ok : Bool) (data : List Byte) (poison : Bool) (g : Mig), s.mig? rng gran = some g → g.copying = true → g.coh = false
     → ok = true → s.backBound rng = true → g.kind = 0 → s.frameWriteFails = false → exec (.migrationCopyDone rng gran ok data poison) s = .next
     ((releaseHeld ((s.migFill g data poison).migSwitch g)).writeDone)) ∧
  (∀ (s : State) (frame : Nat), frame ∈ s.ins.freeing → (∀ e ∈ s.ins.oldReads, e.2 ≠ frame) → exec (.frameFree frame) s = .next ((((s.setIns fun i =>
     { i with freeing := i.freeing.filter (· != frame) }).setIns fun i => { i with frames := i.frames.filter (· != frame) }).syncFrames).writeDone)) ∧
  (∀ (s : State) (p : Path) (v : Word) (rng gran : Nat) (s1 : State) (r : Remap) (f : Nat), p.isRequester = true → s.Open → F.INS_GCMD_GO.of v = 1 →
     F.INS_GCMD_OP.of v = 0 → rng = F.INS_GCMD_RNG.of v → s1 = s.storeAt R.INS_GCMD v → gran = s1.get F.INS_GCMD_GRAN_GRANULE 0 → s1.granOk rng gran
     = true → r = s1.remapAt (s1.remapIdx rng gran) → r.st = 0 → s1.shelfState (s1.rngShelf rng) ≠ 3 → s1.shelfState (s1.rngShelf rng) ≠ 4 →
     s1.backBound rng = true → s1.frameFree? = some f → exec (.gcmdPromote p v) s = .next ((((s1.migStart rng gran 0 f true (s1.coherentGran rng
     gran)).gcmdStatus 1 0 rng gran).migIssue rng gran).writeDone.send (.csr p true 0))) ∧
  (∀ (s : State) (p : Path) (v : Word) (rng gran : Nat) (s1 : State) (r : Remap), p.isRequester = true → s.Open → F.INS_GCMD_GO.of v = 1 →
     F.INS_GCMD_OP.of v = 1 → rng = F.INS_GCMD_RNG.of v → s1 = s.storeAt R.INS_GCMD v → gran = s1.get F.INS_GCMD_GRAN_GRANULE 0 → s1.granOk rng gran
     = true → r = s1.remapAt (s1.remapIdx rng gran) → r.st = 1 → r.d = true → s1.shelfState (s1.rngShelf rng) ≠ 3 → s1.shelfState (s1.rngShelf rng)
     ≠ 4 → s1.backBound rng = true → exec (.gcmdDemote p v) s = .next ((((s1.migStart rng gran 1 0 true (s1.coherentGran rng gran)).gcmdStatus 1 0
     rng gran).migIssue rng gran).writeDone.send (.csr p true 0))) ∧
  (∀ (s : State) (p : Path) (v : Word) (rng gran : Nat) (s1 : State) (r : Remap), p.isRequester = true → s.Open → F.INS_GCMD_GO.of v = 1 →
     F.INS_GCMD_OP.of v = 2 → rng = F.INS_GCMD_RNG.of v → s1 = s.storeAt R.INS_GCMD v → gran = s1.get F.INS_GCMD_GRAN_GRANULE 0 → s1.granOk rng gran
     = true → r = s1.remapAt (s1.remapIdx rng gran) → r.st ≤ 1 → exec (.gcmdPin p v) s = .next ((((s1.remapSet (s1.remapIdx rng gran)
     { r with pin := true }).gcmdStatus 2 0 rng gran).migIssue rng gran).writeDone.send (.csr p true 0))) ∧
  (∀ (s : State) (p : Path) (v : Word) (rng gran : Nat) (s1 : State) (r : Remap), p.isRequester = true → s.Open → F.INS_GCMD_GO.of v = 1 →
     F.INS_GCMD_OP.of v = 3 → rng = F.INS_GCMD_RNG.of v → s1 = s.storeAt R.INS_GCMD v → gran = s1.get F.INS_GCMD_GRAN_GRANULE 0 → s1.granOk rng gran
     = true → r = s1.remapAt (s1.remapIdx rng gran) → r.st ≤ 1 → exec (.gcmdUnpin p v) s = .next ((((s1.remapSet (s1.remapIdx rng gran)
     { r with pin := false }).gcmdStatus 2 0 rng gran).migIssue rng gran).writeDone.send (.csr p true 0))) ∧
  (∀ (s : State) (p : Path) (v : Word) (rng gran : Nat) (s1 : State) (r : Remap), p.isRequester = true → s.Open → F.INS_GCMD_GO.of v = 1 →
     F.INS_GCMD_OP.of v = 4 → rng = F.INS_GCMD_RNG.of v → s1 = s.storeAt R.INS_GCMD v → gran = s1.get F.INS_GCMD_GRAN_GRANULE 0 → s1.granOk rng gran
     = true → r = s1.remapAt (s1.remapIdx rng gran) → r.st = 0 → r.d = false → exec (.gcmdReset p v) s = .next ((((s1.remapSet (s1.remapIdx rng
     gran) { r with st := 0, d := false, heat := 0 }).gcmdStatus 2 0 rng gran).migIssue rng gran).writeDone.send (.csr p true 0)))

/-- CLEAN of a NORMAL shelf begins the cleaning of its dirty cached granules; RELEASE of a cleaning or clean shelf makes it NORMAL; a cleaning pass with
nothing left makes it CLEAN. -/
def Obligations.ShelfCleaning : Prop :=
  (∀ (s : State) (p : Path) (v : Word) (sh : Nat) (ids : List Nat), p.isRequester = true → s.Open → sh = s.sel p F.INS_SHSEL_SHELF →
     F.INS_SHELF_CMD_CLEAN.of v = 1 → F.INS_SHELF_CMD_RELEASE.of v = 0 → s.shelfState sh = 0 → (ids = (s.dirtyIdx fun r => s.rngShelf r ==
     sh).filter fun i => (s.remapAt i).st == 1) → exec (.shelfClean p v) s = .next (((((((s.setShelf sh 1).put F.INS_SHELF_STATUS_DIRTY (ent sh)
     0).setIns fun i => { i with cleaning := insNat i.cleaning sh }).each ids fun t i =>
     match t.granOf i with | some (r, g) => t.migStart r g 2 0 false false | none => t)).writeDone).send (.csr p true 0))) ∧
  (∀ (s : State) (p : Path) (v : Word) (sh : Nat), p.isRequester = true → s.Open → sh = s.sel p F.INS_SHSEL_SHELF → F.INS_SHELF_CMD_CLEAN.of v = 0 →
     F.INS_SHELF_CMD_RELEASE.of v = 1 → (s.shelfState sh = 1 ∨ s.shelfState sh = 2) → exec (.shelfRelease p v) s = .next ((((s.setShelf sh 0).setIns
     fun i => { i with cleaning := i.cleaning.filter (· != sh) }).writeDone).send (.csr p true 0))) ∧
  (∀ (s : State) (sh : Nat) (s1 : State), sh < 64 → s.shelfState sh = 1 → (∀ g ∈ s.ins.migs, g.kind = 2 → s.rngShelf g.rng ≠ sh) → (s1 = (s.setShelf sh
     2).setIns fun i => { i with cleaning := i.cleaning.filter (· != sh) }) → s1.bndShelf sh ≠ 1 → exec (.cleaningPassEnd sh) s = .next (((s1.event
     clsBind 0xB sh 4 (s1.bndShelf sh + s1.get F.INS_SHELF_STATUS_DIRTY (ent sh) * 65536)).gpfStep).writeDone))

/-- Discovery records the partner and its state; discovery past its limit leaves the port UNBOUND with an occurrence; a BIND that passes its checks is
pending and applies after the boundary, setting the target and BOUND; an UNBIND is pending and removes the binding when the host's side is down or the
mode says so. -/
def Obligations.BindingCommands : Prop :=
  (∀ (s : State) (n kind lds : Nat) (dcd xr : Bool) (sn : Option Nat) (vendor : Nat) (s1 : State), n < 64 → s.hp n = 3 → s.get F.EP_HP_CFG_POLICY
     (dPort n) = 0 → s.get F.EP_IDE_CFG_LINK_POLICY (dPort n) = 0 → upMode (s.portMode n) = false → xr = false → (s1 = ((s.partnerSet n
     ⟨kind, lds, dcd, false, sn, vendor⟩).setPort n fun x => { x with disc := none }).put F.EP_XR_STATUS_PARTNER_CAP (dPort n) 0) → s.restarting =
     false → exec (.discoveryComplete n kind lds dcd xr sn vendor) s = .next ((s1.hpTo n 5).writeDone)) ∧
  (∀ (s : State) (n : Nat), n < 64 → s.hp n = 3 → s.dueO (s.port n).disc = true → exec (.discoveryTimeout n) s = .next ((((s.setPort n fun x =>
     { x with disc := none }).hpTo n 5).occ 832 n).settle)) ∧
  (∀ (s : State) (p : Path) (v : Word) (vp : Nat) (s1 : State) (b : Bound), p.isRequester = true → s.Open → vp = s.sel p F.BND_VSEL_VPPB → s1 =
     s.storeAt (R.BND_BCMD + ent vp) v → F.BND_BCMD_GO.of v = 1 → F.BND_BCMD_OP.of v = 0 → b =
     ⟨F.BND_BCMD_KIND.of v, F.BND_BCMD_PORT.of v, F.BND_BCMD_LD_OBJ.of v, F.BND_BCMD_SLICE.of v⟩ → s1.bindBusy (some p) = false → s1.bindReason vp b
     = 0 → exec (.bindCommand p v) s = .next ((((s1.setBnd fun x =>
     { x with binds := x.binds ++ [⟨s1.tim.bnd, some p, vp, b.kind, b.port, b.obj, b.slice⟩] }).bcmdStatus (some p) vp 1 0).writeDone).send (.csr p
     true 0))) ∧
  (∀ (s : State) (p : Path) (v : Word) (vp : Nat) (s1 : State) (b : Bound), p.isRequester = true → s.Open → vp = s.sel p F.BND_VSEL_VPPB → s1 =
     s.storeAt (R.BND_BCMD + ent vp) v → F.BND_BCMD_GO.of v = 1 → F.BND_BCMD_OP.of v = 1 → s1.bindBusy (some p) = false → s1.bound? vp = some b → (∀
     u ∈ s1.bnd.unbinds, u.vppb ≠ vp) → F.BND_BCMD_UMODE.of v ≠ 1 → exec (.unbindCommand p v) s = .next ((((s1.setBnd fun x =>
     { x with unbinds := x.unbinds ++ [⟨s1.tim.bnd, some p, vp, F.BND_BCMD_UMODE.of v⟩] }).bcmdStatus (some p) vp 1 0).writeDone).send (.csr p true
     0))) ∧
  (∀ (s : State) (c : BindCmd) (s1 : State), s.bnd.binds = [c] → s.since c.since = true → c.kind = 3 → (s1 = s.setBnd fun x =>
     { x with binds := x.binds.filter fun c => !s.since c.since }) → exec .bindApply s = .next ((((((s1.put F.BND_VPPB_BIND_TARGET (ent c.vppb)
     (Bound.mk c.kind c.port c.obj c.slice).word).put F.BND_VPPB_BIND_BOUND (ent c.vppb) 1).bcmdStatus c.path c.vppb 2 0).bindEvent c.vppb 0
     false)).writeDone)) ∧
  (∀ (s : State) (v : Nat) (hostDown : Bool) (u : Unbind), v < 1024 → (s.bnd.unbinds.find? (fun u => u.vppb == v) = some u) → s.since u.since = true →
     (u.umode = 2 ∨ hostDown = true) → exec (.unbindApply v hostDown) s = .next ((((((s.setBnd fun x =>
     { x with unbinds := x.unbinds.filter fun u => u.vppb != v }).unbind v (u.umode == 2)).bcmdStatus u.path v 2 0).bindEvent v 0 true)).writeDone))

/-- A slice command that passes its checks is PENDING; at its gate it runs, draining under its limit or squashing; a drain that does not end in time falls
back to squash; with nothing outstanding it ends in OPEN or CLOSED; a frame is written out or lost; the oldest wake request of an ended stitch is
granted when the tokens suffice. -/
def Obligations.SliceCommands : Prop :=
  (∀ (s : State) (p : Path) (v : Word) (sl : Nat) (s1 : State) (target : Nat), p.isRequester = true → s.Open → sl = s.sel p F.BND_SSEL_SLICE → s1 =
     s.storeAt (R.BND_SL_CMD + ent sl) v → F.BND_SL_CMD_GO.of v = 1 → F.BND_SL_CMD_OP.of v = 0 → F.BND_SL_CMD_SCOPE.of v = 0 → target = s.get
     F.BND_SL_TGT_LO_TGT (ent sl) + s.get F.BND_SL_TGT_HI_TGT (ent sl) * 2 ^ 32 → s.slCheck sl false target = 0 → exec (.sliceReset p v) s = .next
     ((((((s1.setBnd fun b =>
     { b with slCmds := b.slCmds ++ [⟨s.tim.bnd, sl, false, F.BND_SL_CMD_MODE.of v == 1, none, false, none, false⟩] }).slStatus sl 1 0).put
     F.BND_SL_CMD_STATUS_SQUASHED (ent sl) 0)).writeDone).send (.csr p true 0))) ∧
  (∀ (s : State) (p : Path) (v : Word) (sl : Nat) (s1 : State) (target : Nat), p.isRequester = true → s.Open → sl = s.sel p F.BND_SSEL_SLICE → s1 =
     s.storeAt (R.BND_SL_CMD + ent sl) v → F.BND_SL_CMD_GO.of v = 1 → F.BND_SL_CMD_OP.of v = 1 → F.BND_SL_CMD_SCOPE.of v = 0 → target = s.get
     F.BND_SL_TGT_LO_TGT (ent sl) + s.get F.BND_SL_TGT_HI_TGT (ent sl) * 2 ^ 32 → s.slCheck sl false target = 0 → exec (.sliceRemove p v) s = .next
     ((((((s1.setBnd fun b =>
     { b with slCmds := b.slCmds ++ [⟨s.tim.bnd, sl, true, F.BND_SL_CMD_MODE.of v == 1, none, false, none, false⟩] }).slStatus sl 1 0).put
     F.BND_SL_CMD_STATUS_SQUASHED (ent sl) 0)).writeDone).send (.csr p true 0))) ∧
  (∀ (s : State) (sl : Nat) (c : SlCmd) (s1 : State), sl < 512 → (s.bnd.slCmds.find? (fun c => c.slice == sl && !c.running) = some c) → c.target = none
     → s.since c.since = true → c.squash = false → (s1 = (s.setBnd fun b =>
     { b with slCmds := b.slCmds.map fun x => if x.slice == sl then { c with running := true, since := s.tim.bnd, timer := some (s.after (s.get F.BND_SL_CFG_DRAIN (ent sl))) } else x }).slStatus
     sl 2 0) → s1.qpState sl ≠ qpEnabled → exec (.sliceGate sl) s = .next ((s1.setSl sl slDraining).writeDone)) ∧
  (∀ (s : State) (sl : Nat) (c : SlCmd), sl < 512 → (s.bnd.slCmds.find? (fun c => c.slice == sl && c.running && s.dueO c.timer) = some c) → s.get
     F.BND_SL_STATUS_OUT (ent sl) ≠ 0 → exec (.sliceDrainTimeout sl) s = .next (((((s.setBnd fun b =>
     { b with slCmds := b.slCmds.map fun x => if x.slice == sl then { x with timer := none, fell := true } else x }).put
     F.BND_SL_CMD_STATUS_SQUASHED (ent sl) 1)).slSquash sl).writeDone)) ∧
  (∀ (s : State) (sl : Nat) (c : SlCmd), sl < 512 → (s.bnd.slCmds.find? (fun c => c.slice == sl && c.running && s.since c.since) = some c) → s.get
     F.BND_SL_STATUS_OUT (ent sl) = 0 → c.remove = true → exec (.sliceCmdEnd sl) s = .next ((((((s.setBnd fun b =>
     { b with slCmds := b.slCmds.filter fun x => x.slice != sl }).slStatus sl 3 0).setSl sl slClosed).report 2 sl).event clsBind 0xB sl 2 (sl + bit
     c.fell * 512 + 1024)).writeDone)) ∧
  (∀ (s : State) (sl : Nat) (c : SlCmd), sl < 512 → (s.bnd.slCmds.find? (fun c => c.slice == sl && c.running && s.since c.since) = some c) → s.get
     F.BND_SL_STATUS_OUT (ent sl) = 0 → c.remove = false → exec (.sliceCmdEnd sl) s = .next ((((((((s.setBnd fun b =>
     { b with slCmds := b.slCmds.filter fun x => x.slice != sl }).slStatus sl 3 0).qpDisable sl).acctReset sl).setSl sl slOpen)).event clsBind 0xB
     sl 2 (sl + bit c.fell * 512 + 0)).writeDone)) ∧
  (∀ (s : State) (ok : Bool) (f : Frame) (rest : List Frame) (a : Nat) (s1 : State), s.cnt.bufs = f :: rest → a = f.base + frameBytes * f.slot → (s1 =
     (s.setCnt fun c => { c with bufs := rest }).syncDump) → ok = true → s.dumpOk f a = true → f.host = false → exec (.dumpFrameWriteDone ok) s =
     .next (((s1.each (List.range 512) fun t sl => t.sysWrite (a + 128 + 128 * sl) (leBytes 128 (f.record sl))).sysWrite a (leBytes 128 (f.header
     s.ownSw))).writeDone)) ∧
  (∀ (s : State) (st k : Nat) (rest : List (Nat × Nat)), s.bnd.wakeQ = (st, k) :: rest → st < s.tim.num → k < 20 → s.wakeCost k ≤ s.get
     F.BND_WAKE_STATUS_TOKENS 0 → exec .wakeGrant s = .next (((((s.setBnd fun b => { b with wakeQ := rest }).syncWake).put F.BND_WAKE_STATUS_TOKENS
     0 (s.get F.BND_WAKE_STATUS_TOKENS 0 - s.wakeCost k)).bankGrant k)))

/-- PARK of an active shelf begins its cleaning; WAKE of a parked one queues it; an idle shelf parks itself; the acknowledgement parks it, or queues a
wake that came meanwhile; the limits restore ACTIVE or PARKED with the error; a wake that is done is counted and releases what was held. -/
def Obligations.ShelfCommands : Prop :=
  (∀ (s : State) (p : Path) (v : Word) (sh : Nat), p.isRequester = true → s.Open → sh = s.sel p F.BND_SHSEL_SHELF → F.BND_SHELF_CMD_PARK.of v = 1 →
     F.BND_SHELF_CMD_WAKE.of v = 0 → s.bndShelf sh = 0 → s.restarting = false → exec (.shelfPark p v) s = .next (((((s.shelfErr sh 0).setBndShelf sh
     1).shelfClean sh).writeDone).send (.csr p true 0))) ∧
  (∀ (s : State) (p : Path) (v : Word) (sh : Nat), p.isRequester = true → s.Open → sh = s.sel p F.BND_SHSEL_SHELF → F.BND_SHELF_CMD_PARK.of v = 0 →
     F.BND_SHELF_CMD_WAKE.of v = 1 → s.bndShelf sh = 3 → s.restarting = false → exec (.shelfWake p v) s = .next ((((((s.shelfErr sh 0).setBndShelf
     sh 4).setShelf sh 4).wakeAdd (20 + sh)).writeDone).send (.csr p true 0))) ∧
  (∀ (s : State) (sh idle : Nat), sh < 64 → idle = s.get F.BND_SHELF_TIME_PARK_IDLE (ent sh) * 1024 → s.bndShelf sh = 0 → s.on F.BND_SHELF_CFG_PARK_EN
     (ent sh) = true → 0 < idle → (∀ n ∈ s.shelfPorts sh, (s.port n).lastReq + idle ≤ s.tim.bnd) → s.restarting = false → exec (.shelfIdlePark sh) s
     = .next ((((s.shelfErr sh 0).setBndShelf sh 1).shelfClean sh).writeDone)) ∧
  (∀ (s : State) (sh : Nat) (s1 : State), sh < 64 → s.bndShelf sh = 2 → s1 = ((s.setBndShelf sh 3).shelfTimer sh false).shelfParked sh → sh ∉
     s1.bnd.pendWake → s.restarting = false → exec (.shelfParkAck sh) s = .next (s1)) ∧
  (∀ (s : State) (sh : Nat), sh < 64 → s.bndShelf sh = 2 → s.dueO (s.bnd.shelfTo.find sh) = true → exec (.shelfParkTimeout sh) s = .next
     (((((s.shelfTimer sh false).shelfErr sh 2).setBndShelf sh 0).shelfRelease sh).setBnd fun b =>
     { b with pendWake := b.pendWake.filter (· != sh) })) ∧
  (∀ (s : State) (sh : Nat) (s1 : State), sh < 64 → s.bndShelf sh = 5 → (∀ n ∈ s.shelfPorts sh, s.hp n = 4) → s1 = ((s.shelfTimer sh false).setBndShelf
     sh 0).bump F.BND_SHELF_STATUS_WAKES (ent sh) 1 → s.restarting = false → exec (.shelfWakeDone sh) s = .next ((releaseHeld (s1.shelfAwake sh
     s1.coherentGran)).writeDone)) ∧
  (∀ (s : State) (sh : Nat) (r : State × List Msg), sh < 64 → s.bndShelf sh = 5 → s.dueO (s.bnd.shelfTo.find sh) = true → r = ((((s.shelfTimer sh
     false).shelfErr sh 3).setBndShelf sh 3).occ 384 sh).shelfWakeFailed sh → exec (.shelfWakeTimeout sh) s = .next ((r.1.each r.2 fun t m => if 76
     ≤ m.srcAg ∧ m.srcAg ≤ 79 ∧ m.srcSw = t.ownSw then t.homeSelf (m.srcAg - 76) m.sid m.tag (m.op == .memWr) else t.failBack 83 m).writeDone))

/-- ENABLE of a VALID queue pair zeroes its heads and tails, DISABLE disables it; a doorbell within the ring of an enabled pair of an OPEN slice moves its
tail or head, any other is counted; a fetched descriptor joins the queue; the next ready descriptor of the pair whose turn it is starts; a descriptor
that has ended writes its completion; one past its limit ends with TIMEOUT. -/
def Obligations.CobblerCommands : Prop :=
  (∀ (s : State) (p : Path) (v : Word) (q : Nat), p.isRequester = true → s.Open → q = s.sel p F.COB_QSEL_QP → F.COB_QP_CTL_ENABLE.of v = 1 →
     F.COB_QP_CTL_DISABLE.of v = 0 → s.on F.COB_QP_CFG_VALID (ent q) = true → exec (.qpEnable p v) s = .next (((((((s.put F.COB_QP_STATE_SQ_HEAD
     (ent q) 0).setCob fun c => { c with tails := c.tails.set q 0, cqTails := c.cqTails.set q 0, phase := c.phase.set q false }).setQp q
     qpEnabled).syncCob q)).writeDone).send (.csr p true 0))) ∧
  (∀ (s : State) (p : Path) (v : Word) (q : Nat), p.isRequester = true → s.Open → q = s.sel p F.COB_QSEL_QP → F.COB_QP_CTL_ENABLE.of v = 0 →
     F.COB_QP_CTL_DISABLE.of v = 1 → exec (.qpDisable p v) s = .next (((s.setQp q qpDisabled).writeDone).send (.csr p true 0))) ∧
  (∀ (s : State) (qp : Nat) (head : Bool) (v : Nat), qp < 512 → head = false → v < s.sqSize qp → s.qpState qp = 1 → s.slState qp = 1 → exec
     (.cobDoorbell qp head v) s = .next ((s.setCob fun c => { c with tails := c.tails.set qp v }).syncCob qp)) ∧
  (∀ (s : State) (qp : Nat) (head : Bool) (v : Nat), qp < 512 → head = true → v < s.cqSize qp → s.qpState qp = 1 → s.slState qp = 1 → exec
     (.cobDoorbell qp head v) s = .next ((s.setCob fun c => { c with cqHeads := c.cqHeads.set qp v }).syncCob qp)) ∧
  (∀ (s : State) (qp : Nat) (ok : Bool) (data : List Byte) (k : Nat), qp < 512 → s.fetchable qp = true → ok = true → s.ringDpa qp = false → k = s.get
     F.COB_QP_STATE_SQ_HEAD (ent qp) → exec (.descriptorFetchDone qp ok data) s = .next ((((s.setCob fun c =>
     { c with descs := c.descs ++ [s.descOf qp k (leNat (data.take 64))], seq := c.seq + 1 }).put F.COB_QP_STATE_SQ_HEAD (ent qp) ((k + 1) %
     s.sqSize qp)).syncCob qp).settle)) ∧
  (∀ (s : State) (q : Nat) (d : Desc) (before : List Desc), ((s.cob.descs.filter fun d => d.st == .running).length < s.get F.COB_CFG_MAX_OPEN 0) →
     s.qpTurn = some q → s.nextReady q = some (d, before) → d.op ≠ 0 → exec .descriptorStart s = .next ((State.updDesc (s.setCob fun c =>
     { c with rr := q }) d.no fun d => if d.op = 0 then { d with st := .ended } else
     { d with st := .running, timer := some (s.after (s.get F.COB_TO_LIMIT 0)) }).syncCob q)) ∧
  (∀ (s : State) (qp : Nat) (ok : Bool) (d : Desc) (a : Nat) (s1 : State) (t : Nat), qp < 512 → (s.cob.descs.find? (fun d => d.qp == qp && d.st ==
     .ended && decide (d.postAt ≤ s.tim.bnd)) = some d) → s.qpState qp ≠ qpError → s.cqFull qp = false → ok = true → s.ringDpa qp = true → a =
     s.cqBase qp + 16 * s.cob.cqTails.getD qp 0 → s.answers a = true → a + 16 ≤ insBytes → d.status = csSuccess → d.notify = false → (s1 =
     ((s.setCob fun c => { c with descs := c.descs.filter fun e => e.no != d.no }).sanEnd d).insWrite a (leBytes 16 (s.cqEntry d)) false) → t =
     (s.cob.cqTails.getD qp 0 + 1) % s.cqSize qp → exec (.descriptorComplete qp ok) s = .next (((((s1.setCob fun c =>
     { c with cqTails := c.cqTails.set qp t, phase := if t = 0 then c.phase.set qp (!(c.phase.getD qp false)) else c.phase }).bump F.COB_CNT_DONE 0
     1).count cbCob 2 0 qp 1).syncCob qp).writeDone)) ∧
  (∀ (s : State) (qp : Nat) (d : Desc), qp < 512 → (s.cob.descs.find? (fun d => d.qp == qp && d.st == .running && s.dueO d.timer) = some d) → exec
     (.cobDescTimeout qp) s = .next (s.descEnd d csTimeout))

/-- A command of the owner of the switch renews its lease and acts: a bind or unbind answers with the check's result, port control writes EP_LINK_CMD,
capacity changes the object; event generation, configuration requests and tunnels need no ownership; the end of the lease frees the switch; a remote
report is kept for the boundary and acknowledged, repeated until it is, and forgotten then. -/
def Obligations.FabricManagerCommands : Prop :=
  (∀ (s : State) (eid sw v kind port obj slice : Nat) (t : State) (r : State × Nat), s.ownerAccept eid sw = (t, true) → r = t.bindCmd none v
     ⟨kind, port, obj, slice⟩ → s.restarting = false → s.las.recovery = false → exec (.fmBindVppb eid sw v kind port obj slice) s = .next
     ((r.1.fmAnswer eid 0x5201 (if r.2 = 0 then 0 else 2) []).writeDone)) ∧
  (∀ (s : State) (eid sw v umode : Nat) (t : State) (r : State × Nat), s.ownerAccept eid sw = (t, true) → r = t.unbindCmd none v umode → s.restarting =
     false → s.las.recovery = false → exec (.fmUnbindVppb eid sw v umode) s = .next ((r.1.fmAnswer eid 0x5202 (if r.2 = 0 then 0 else 2)
     []).writeDone)) ∧
  (∀ (s : State) (eid sw v err u : Nat), s.upOf v = some u → s.restarting = false → s.las.recovery = false → exec (.fmGenerateAerEvent eid sw v err) s
     = .next ((s.send (.ctl u 5 (v + 1024 * err))).fmAnswer eid 0x5203 0 [])) ∧
  (∀ (s : State) (eid sw n reg : Nat) (write : Bool) (val len id : Nat) (m : Msg), n < 64 → id = 2 ^ 123 + s.mgt.seq → write = false → m =
     { s.mctpMsg s.ownSw 0 0 0 [] with id := id, kind := .io, op := .cfgRd, dstAg := n, body := 1 + 0, sid := 0, addr := reg, len := len, data := [] }
     → s.restarting = false → s.las.recovery = false → exec (.fmPpbConfigRequest eid sw n reg write val len) s = .next ((((s.setMgt fun g =>
     { g with seq := g.seq + 1, fmReqs := g.fmReqs ++ [(id, eid)] }).enqueue 82 m).settle).writeDone)) ∧
  (∀ (s : State) (eid sw n ld : Nat) (body : List Byte), n < 64 → s.get F.BND_PARTNER_KIND (ent n) = 3 → ld < s.get F.BND_PARTNER_LDS (ent n) →
     s.restarting = false → s.las.recovery = false → exec (.fmMldTunnel eid sw n ld body) s = .next ((s.send (.port n
     { s.mctpMsg s.ownSw 0 0 0 body with dstAg := n, sid := ld })).fmAnswer eid 0x5300 0 [])) ∧
  (∀ (s : State) (eid sw obj ext : Nat) (add : Bool) (n : Nat) (t s1 : State) (cnt : Nat), s.ownerAccept eid sw = (t, true) → add = false → cnt =
     t.staged F.INS_OBJ_CFG_COUNT (ent obj) → obj < 512 → t.staged F.INS_OBJ_CFG_VALID (ent obj) ≠ 0 → n ≤ cnt → (s1 = (t.put F.INS_OBJ_CFG_COUNT
     (ent obj) (cnt - n)).setLas fun l => { l with direct := if l.direct.contains .ins then l.direct else l.direct ++ [.ins] }) → s.restarting =
     false → s.las.recovery = false → exec (.fmDcdCapacityChange eid sw obj ext add n) s = .next ((((s1.setBnd fun b =>
     { b with dcdArm := true }).dcdTry).fmAnswer eid 0x5605 0 []).writeDone)) ∧
  (∀ (s : State), s.on F.BND_FM_OWNED 0 = true → s.dueO s.bnd.lease = true → exec .fmLeaseExpiry s = .next (((s.put F.BND_FM_OWNED 0 0).setBnd fun b =>
     { b with lease := none }).ownerEvent (s.get F.BND_FM_OWNER_EID 0) (s.get F.BND_FM_OWNER_SW 0) false)) ∧
  (∀ (s : State) (sw kind val : Nat) (s1 : State), sw < 64 → (s1 = s.setBnd fun b =>
     { b with reportsRx := if b.reportsRx.contains (kind, val) then b.reportsRx else b.reportsRx ++ [(kind, val)] }) → exec (.remoteReportRx sw kind
     val) s = .next ((s1.enqueue 82 (s1.reportMsg sw kind val true)).writeDone)) ∧
  (∀ (s : State) (sw : Nat) (due : List Report) (s1 : State), sw < 64 → (due = s.bnd.reports.filter fun r => r.sw == sw && s.reached r.next) → (s1 =
     s.setBnd fun b => { b with reports := b.reports.map fun r => if r.sw == sw && s.reached r.next then { r with next := s.after 256 } else r }) →
     exec (.remoteReportRepeat sw) s = .next ((s1.each due fun t r => t.enqueue 82 (t.reportMsg r.sw r.kind r.val false)).writeDone)) ∧
  (∀ (s : State) (sw kind val : Nat), sw < 64 → exec (.remoteReportAckRx sw kind val) s = .next (s.setBnd fun b =>
     { b with reports := b.reports.filter fun r => !(r.sw == sw && r.kind == kind && r.val == val) })) ∧
  (∀ (s : State) (eid sw n op : Nat) (t : State), s.ownerAccept eid sw = (t, true) → n < 64 → op = 0 → s.restarting = false → s.las.recovery = false →
     exec (.fmPhysicalPortControl eid sw n op) s = .next (((t.portCmdWrite n (F.EP_LINK_CMD_DISABLE.upd (t.reg (R.EP_LINK_CMD + dPort n))
     1)).fmAnswer eid 0x5102 0 []).writeDone))

/-- A request of a host passes to the function bound at its vPPB unless a lock holds it; a device's request passes through the window that matches; a
message of a device discards the lines prefetched for it; a completion is matched with its track or counted late; a locked read takes the same way; an
unlock releases the lock of its requester; a lock past its limit breaks; an acceptance notice takes its write off the list; aged prefetch lines are
discarded. -/
def Obligations.VampRequests : Prop :=
  (∀ (s : State) (id : Nat) (m : Msg) (s1 : State) (f : Nat), s.crossed? 80 id = some m → isReq m = true → fromHost m = true → outPlain m.op = true →
     s1 = s.uncross 80 id → s1.fnOf m.sid = some f → s1.lockBroken (s1.fnPort f) m = false → s1.lockedOut (s1.fnPort f) m = false → exec
     (.vampOutboundRequest id) s = .next ((s1.outCore m f).writeDone)) ∧
  (∀ (s : State) (id : Nat) (m : Msg) (s1 : State) (w : Nat), s.crossed? 80 id = some m → isReq m = true → fromHost m = false → m.op = .mWr → s.inRoom
     m = true → s1 = s.uncross 80 id → s1.inMatch (m.sid - 1024) m = some w → s1.winFenced w = false → exec (.vampInboundRequest id) s = .next
     ((s1.inMsg ⟨m.sid - 1024, if s1.on F.VAMP_WIN_CFG_MSG (ent w) then vqMsi else vqWrite, m, w⟩).writeDone)) ∧
  (∀ (s : State) (id : Nat) (m : Msg) (s1 : State) (t : VTrack), s.crossed? 80 id = some m → isResp m.op = true → s1 = s.uncross 80 id →
     (s1.vmp.tracks.find? (fun t => vampId t.tag == m.id) = some t) → s1.due t.timer = false → t.detached = false → m.status = .ok → t.extra = 0 →
     exec (.vampCompletion id) s = .next (((s1.trackAnswer t .ok (m.data.take t.req.len) m.poison).trackEnd t).writeDone)) ∧
  (∀ (s : State) (id : Nat) (m : Msg) (s1 : State) (f : Nat), s.crossed? 80 id = some m → m.op = .mRdLk → fromHost m = true → s1 = s.uncross 80 id →
     s1.fnOf m.sid = some f → s1.lockBroken (s1.fnPort f) m = false → s1.lockedOut (s1.fnPort f) m = false → exec (.vampMrdlk id) s = .next
     ((s1.outCore m f).writeDone)) ∧
  (∀ (s : State) (id : Nat) (m : Msg) (s1 : State) (f : Nat) (k : VLock), s.crossed? 80 id = some m → m.op = .unlock → fromHost m = true → s1 =
     s.uncross 80 id → s1.fnOf m.sid = some f → s1.lockBroken (s1.fnPort f) m = false → s1.lock? (s1.fnPort f) = some k → s1.lockedOut (s1.fnPort f)
     m = false → exec (.vampUnlock id) s = .next ((s1.lockRelease (s1.fnPort f)).writeDone)) ∧
  (∀ (s : State) (n : Nat) (k : VLock), n < 64 → s.lock? n = some k → s.due k.timer = true → exec (.vampLockTimeout n) s = .next ((s.lockBreak n
     true).writeDone)) ∧
  (∀ (s : State) (id rtid pin : Nat) (on : Bool) (m : Msg) (s1 : State) (f : Nat), s.crossed? 80 id = some m → m.op = .msg → fromHost m = false →
     s.inRoom m = true → s1 = s.uncross 80 id → s1.fnsAt (m.sid - 1024) rtid = [f] → exec (.vampIntxMessage id rtid pin on) s = .next
     (((s1.devLinesGone (m.sid - 1024)).inMsg ⟨m.sid - 1024, vqIntx, { m with tag := 2 * pin + bit on }, f⟩).writeDone)) ∧
  (∀ (s : State) (id rtid sev : Nat) (m : Msg) (s1 : State) (f : Nat), s.crossed? 80 id = some m → m.op = .msg → fromHost m = false → s.inRoom m = true
     → s1 = s.uncross 80 id → s1.fnsAt (m.sid - 1024) rtid = [f] → exec (.vampErrMessage id rtid sev) s = .next (((s1.devLinesGone (m.sid -
     1024)).inMsg ⟨m.sid - 1024, vqErr, { m with tag := sev }, f⟩).writeDone)) ∧
  (∀ (s : State) (id rtid : Nat) (m : Msg) (s1 : State) (f : Nat), s.crossed? 80 id = some m → m.op = .msg → fromHost m = false → s.inRoom m = true →
     s1 = s.uncross 80 id → s1.fnsAt (m.sid - 1024) rtid = [f] → exec (.vampForwardMessage id rtid) s = .next (((s1.devLinesGone (m.sid -
     1024)).inMsg ⟨m.sid - 1024, vqFwd, { m with tag := 0 }, f⟩).writeDone)) ∧
  (∀ (s : State) (id : Nat) (m : Msg) (s1 : State), s.crossed? 80 id = some m → m.op = .msg → fromHost m = false → s.inRoom m = true → s1 = s.uncross
     80 id → exec (.vampConsumedMessage id) s = .next (((s1.devLinesGone (m.sid - 1024)).inMsg
     ⟨m.sid - 1024, vqEat, { m with tag := 0 }, 0⟩).writeDone))

/-- The next message of a port is released when no accepted write is outstanding; a track past its limit answers with a completer abort and its
occurrence; a write of a BAR or of the command register changes the binding; a read is answered from it; the oldest queued violation is written to its
record, shown in the registers and reported. -/
def Obligations.VampEnds : Prop :=
  (∀ (s : State) (n : Nat) (q : VMsg) (t : State), n < 64 → s.inUnaccepted n = false → s.inTake n = some (q, t) → exec (.vampMessageRelease n) s =
     .next ((State.inWrites t.vmp.inq.length (t.msgEffect q) n).writeDone)) ∧
  (∀ (s : State) (id : Nat), exec (.acceptanceNoticeRx id) s = .next (s.setSole fun o => { o with posted := o.posted.filter fun p => p.1 != id })) ∧
  (∀ (s : State) (w slice addr : Nat), exec (.pfLineAgeExpiry w slice addr) s = .next ((s.pfDiscard fun l => l.win == w && l.slice == slice && l.addr
     == addr && s.due (l.born + s.get F.VAMP_PF_CFG_AGE 0)).settle)) ∧
  (∀ (s : State) (no : Nat) (t : VTrack) (s1 : State), (s.vmp.tracks.find? (fun t => t.tag == no && s.due t.timer) = some t) → t.detached = false → s1
     = s.trackAnswer t .ca [] false → exec (.vampNpTimeout no) s = .next (((s1.occAt (1088 + t.port) t.win (if t.win < 2048 then some (.win t.win)
     else none)).trackEnd t).writeDone)) ∧
  (∀ (s : State) (id what k : Nat) (m : Msg) (s1 : State) (f w bar : Nat) (high : Bool), s.crossed? 80 id = some m → m.op = .cfgWr → fromHost m = true
     → s1 = s.uncross 80 id → s1.fnOf m.sid = some f → what = cfBar → s1.barWin f k = some (w, high) → bar = s1.get F.VAMP_WIN_CFG_BAR (ent w) →
     exec (.vampConfigWrite id what k) s = .next (((s1.setVbind m.sid fun b =>
     { b with bars := b.bars.set bar (barBase (b.bars.getD bar 0) (s1.winSize w) (leNat (m.data.take 4)) high) }).respond 80 m .cpl .ok [] false
     0).writeDone)) ∧
  (∀ (s : State) (id what k : Nat) (m : Msg) (s1 : State) (f w : Nat), s.crossed? 80 id = some m → m.op = .cfgRd → fromHost m = true → s1 = s.uncross
     80 id → s1.fnOf m.sid = some f → what = cfBar → s1.barWin f k = some (w, true) → exec (.vampConfigRead id what k) s = .next ((s1.respond 80 m
     .cplD .ok (leBytes 4 ((s1.vbind m.sid).bars.getD (s1.get F.VAMP_WIN_CFG_BAR (ent w)) 0 / 2 ^ 32)) false 0).writeDone)) ∧
  (∀ (s : State) (v : Viol) (rest : List Viol) (s1 s2 : State), s.sec.violQ = v :: rest → (s1 = (((s.setSec fun x => { x with violQ := rest }).put
     F.EYE_VIOL_STATUS_QUEUED 0 rest.length).sysWrite (0x3C000000 + 64 * (v.seq % 1048576)) (leBytes 64 v.word))) → s2 = (s1.put
     F.EYE_VIOL_LAST_LO_ADDR 0 v.addr).put F.EYE_VIOL_LAST_HI_ADDR 0 (v.addr / 2 ^ 32) → exec .violationRecordWrite s = .next ((State.occAt
     ((((((s2.put F.EYE_VIOL_LAST_INFO_REASON 0 v.reason).put F.EYE_VIOL_LAST_INFO_KIND 0 v.kind).put F.EYE_VIOL_LAST_INFO_SLOT 0 v.slot).put
     F.EYE_VIOL_LAST_INFO_SLICE 0 v.slice).event 1 0xD v.slot v.reason (v.seq % 2 ^ 32 + v.slot * 2 ^ 32))) (1152 + v.slot) v.slot (slotUnit
     v.slot)).settle))

/-- A security command that finds none running, the nonce, a good signature, the lifecycle state it needs and good arguments does its work, ends with
status 2 and no error, and draws a new nonce: OWNER_CLAIM adds the owner's key and enters OWNED; KEY_INSTALL adds an entry; KEY_REVOKE makes one
REVOKED; SVN_RAISE raises the minimum; the debug commands take effect at the next boundary; OWNER_RELEASE zeroes the owner's entries and enters
SHIPPED; FLASH_WRITE writes the flash device not booted from; SELFTEST sets its flag. RETURN runs on. Which party's key must sign and which arguments
are good are the model's reading (log entry 33). -/
def Obligations.SecurityCommands : Prop :=
  (∀ (s : State) (nonce : Nat) (signer : Option Nat) (snOk : Bool) (ids : List Nat) (s1 : State) (e : Nat), s1 = s.put F.SEC_CMD_OP 0 1 →
     s1.sec.running = none → s1.sec.waiting = [] → s1.verifying = false → nonce = s1.nonce → s1.signedBy (secRecord opClaim nonce signer 0 0 snOk
     ids) = true → s1.lifecycle = 0 → snOk = true → ids.length = 12 → s1.keyFree = some e → exec (.ownerClaim nonce signer snOk ids) s = .next
     (((((s1.keyAdd e 4 ids).setSec fun x => { x with ownerKey := true }).setLifecycle 1).secDone 2 0).settle)) ∧
  (∀ (s : State) (nonce : Nat) (signer : Option Nat) (usage : Nat) (ids : List Nat) (s1 : State) (e : Nat), s1 = s.put F.SEC_CMD_OP 0 2 →
     s1.sec.running = none → s1.sec.waiting = [] → s1.verifying = false → nonce = s1.nonce → s1.signedBy (secRecord opInstall nonce signer usage 0
     true ids) = true → s1.lifecycle = 1 → ids.length = 12 → s1.keyFree = some e → usage < 16 → exec (.keyInstall nonce signer usage ids) s = .next
     (((s1.keyAdd e usage ids).secDone 2 0).settle)) ∧
  (∀ (s : State) (nonce : Nat) (signer : Option Nat) (entry : Nat) (s1 : State), s1 = s.put F.SEC_CMD_OP 0 3 → s1.sec.running = none → s1.sec.waiting =
     [] → s1.verifying = false → nonce = s1.nonce → s1.signedBy (secRecord opRevoke nonce signer entry 0 true []) = true → entry < 32 → s1.keyState
     entry = 1 → s1.keyLeft entry 2 = true → s1.keyLeft entry 0 = true → s1.keyLeft entry 1 = true → exec (.keyRevoke nonce signer entry) s = .next
     (((s1.put F.SEC_KEY_INFO_STATE (ent entry) 2).secDone 2 0).settle)) ∧
  (∀ (s : State) (nonce : Nat) (signer : Option Nat) (fw : Bool) (v : Nat) (s1 : State), s1 = s.put F.SEC_CMD_OP 0 4 → s1.sec.running = none →
     s1.sec.waiting = [] → s1.verifying = false → nonce = s1.nonce → s1.signedBy (secRecord opSvn nonce signer (bit fw) v true []) = true → fw =
     true → s1.get F.SEC_FW_SVN_MIN_SVN 0 ≤ v → v ≤ s1.get F.SEC_FW_SVN_SVN 0 → exec (.svnRaise nonce signer fw v) s = .next (((s1.put
     F.SEC_FW_SVN_MIN_SVN 0 v).secDone 2 0).settle)) ∧
  (∀ (s : State) (nonce : Nat) (signer : Option Nat) (fw : Bool) (v : Nat) (s1 : State), s1 = s.put F.SEC_CMD_OP 0 4 → s1.sec.running = none →
     s1.sec.waiting = [] → s1.verifying = false → nonce = s1.nonce → s1.signedBy (secRecord opSvn nonce signer (bit fw) v true []) = true → fw =
     false → s1.get F.LAST_SVN_MIN_MIN 0 ≤ v → v ≤ s1.get F.LAST_SVN_SVN 0 → exec (.svnRaise nonce signer fw v) s = .next (((s1.put
     F.LAST_SVN_MIN_MIN 0 v).secDone 2 0).settle)) ∧
  (∀ (s : State) (nonce : Nat) (signer : Option Nat) (snOk : Bool) (s1 : State), s1 = s.put F.SEC_CMD_OP 0 5 → s1.sec.running = none → s1.sec.waiting =
     [] → s1.verifying = false → nonce = s1.nonce → s1.signedBy (secRecord opUnlock nonce signer 0 0 snOk []) = true → s1.lifecycle ≠ 2 → snOk =
     true → exec (.debugUnlock nonce signer snOk) s = .next (((s1.setSec fun x => { x with dbgPend := some true }).secDone 2 0).settle)) ∧
  (∀ (s : State) (nonce : Nat) (s1 : State), s1 = s.put F.SEC_CMD_OP 0 6 → s1.sec.running = none → s1.sec.waiting = [] → s1.verifying = false → nonce =
     s1.nonce → s1.lifecycle ≠ 2 → exec (.debugLock nonce) s = .next (((s1.setSec fun x => { x with dbgPend := some false }).secDone 2 0).settle)) ∧
  (∀ (s : State) (nonce : Nat) (signer : Option Nat) (s1 : State), s1 = s.put F.SEC_CMD_OP 0 7 → s1.sec.running = none → s1.sec.waiting = [] →
     s1.verifying = false → nonce = s1.nonce → s1.signedBy (secRecord opRelease nonce signer 0 0 true []) = true → s1.lifecycle = 1 → exec
     (.ownerRelease nonce signer) s = .next ((((((s1.each s1.sec.owners State.keyZero).setSec fun x => { x with ownerKey := false }).put
     F.SEC_KEY_INFO_STATE (ent 2) 1).setLifecycle 0).secDone 2 0).settle)) ∧
  (∀ (s : State) (nonce img : Nat) (ok : Bool) (data : List Nat) (s1 : State), s1 = s.put F.SEC_CMD_OP 0 9 → s1.sec.running = none → s1.sec.waiting =
     [] → s1.verifying = false → nonce = s1.nonce → ok = true → s1.secError = false → img % 2 ≠ s1.get F.LAST_BOOT_IMAGE 0 → exec (.flashWrite nonce
     img ok data) s = .next (((s1.flashSet (img % 2) data).secDone 2 0).settle)) ∧
  (∀ (s : State) (nonce : Nat) (ok : Bool) (s1 : State), s1 = s.put F.SEC_CMD_OP 0 10 → s1.sec.running = none → s1.sec.waiting = [] → s1.verifying =
     false → nonce = s1.nonce → ok = true → exec (.selftest nonce ok) s = .next ((((s1.put F.SEC_STATUS_SELFTEST_OK 0 1).syncApproved).secDone 2
     0).settle)) ∧
  (∀ (s : State) (nonce : Nat) (signer : Option Nat) (s1 : State), s1 = s.put F.SEC_CMD_OP 0 8 → s1.sec.running = none → s1.sec.waiting = [] →
     s1.verifying = false → nonce = s1.nonce → s1.signedBy (secRecord opReturn nonce signer 0 0 true []) = true → s1.lifecycle ≠ 2 → exec
     (.returnModule nonce signer) s = .next (((((s1.put F.SEC_CMD_STATUS_STATE 0 1).put F.SEC_CMD_STATUS_ERR 0 0).setSec (fun x =>
     { x with running := some 8 })).setSec (fun x => { x with returning := some s1.tim.bnd })).settle)) ∧
  (∀ (s : State) (b : Nat) (s1 s2 : State), s.sec.returning = some b → s.reached (b + 4100) = true → (s1 = ((s.clearMem 0x40000000 0x1000000).setSec
     fun x => { x with returning := none, dbgEver := true, dbgPend := none })) → s2 = (s1.put F.SEC_STATUS_DEBUG 0 1).setLifecycle 2 → s.on
     F.SEC_STATUS_DEBUG 0 = true → s2.sec.running = some 8 → exec .returnFillDone s = .next ((s2.secDone 2 0).settle)) ∧
  (∀ (s : State), exec .healthTestFail s = .next ((State.occAt (((((s.put F.SEC_STATUS_ERROR 0 1).ideAllInsecure).syncApproved).setFlt fun f =>
     { f with encAlert := true })) 18 0 none).settle))

/-- Outside the error state, the recovery state and a warm restart, a request that comes in its order is answered to its requester: the version, the
capabilities, the one suite, a chain, a challenge of a slot that has one, a measurement, a new session, the end of its handshake; the digest's end
answers the request that waited for block 10. The order, the response codes and the digest values are the model's (log entry 34). -/
def Obligations.Attestation : Prop :=
  (∀ (s : State) (who : Nat), s.secError = false → 0 ≤ s.sec.conns.getD who 0 → s.restarting = false → s.las.recovery = false → exec (.spdmGetVersion
     who) s = .next ((s.setConn who 1).spdm who 0x04 0 [0x12])) ∧
  (∀ (s : State) (who : Nat), s.secError = false → 1 ≤ s.sec.conns.getD who 0 → s.restarting = false → s.las.recovery = false → exec
     (.spdmGetCapabilities who) s = .next ((s.setConn who (max 2 (s.sec.conns.getD who 0))).spdm who 0x61 0 (leBytes 4 0x2D6))) ∧
  (∀ (s : State) (who : Nat), s.secError = false → 2 ≤ s.sec.conns.getD who 0 → s.restarting = false → s.las.recovery = false → exec
     (.spdmNegotiateAlgorithms who) s = .next ((s.setConn who 3).spdm who 0x63 0 (leBytes 4 0x80 ++ leBytes 4 2 ++ leBytes 2 0x10 ++ leBytes 2 2))) ∧
  (∀ (s : State) (who slot : Nat), s.secError = false → 3 ≤ s.sec.conns.getD who 0 → s.slotOk slot = true → s.restarting = false → s.las.recovery =
     false → exec (.spdmGetCertificate who slot) s = .next ((s.spdm who 0x02 0 (leBytes 1 slot ++ leBytes 8 s.freeVal)).usedFree)) ∧
  (∀ (s : State) (who slot : Nat), s.secError = false → 3 ≤ s.sec.conns.getD who 0 → s.slotOk slot = true → s.restarting = false → s.las.recovery =
     false → exec (.spdmChallenge who slot) s = .next ((s.spdm who 0x03 0 (leBytes 1 slot ++ leBytes 8 s.freeVal)).usedFree)) ∧
  (∀ (s : State) (who idx : Nat), s.secError = false → 3 ≤ s.sec.conns.getD who 0 → s.lifecycle ≠ 2 → 1 ≤ idx → idx ≤ 11 → idx ≠ 10 → s.restarting =
     false → s.las.recovery = false → exec (.spdmGetMeasurements who idx) s = .next (s.spdm who 0x60 0 (leBytes 1 idx ++ leBytes 12 (s.measure
     idx)))) ∧
  (∀ (s : State) (who slot id : Nat), s.secError = false → 3 ≤ s.sec.conns.getD who 0 → s.sec.sessions.length < 16 → s.slotOk slot = true →
     ((s.sec.sessions.any fun e => e.1 == id) = false) → s.restarting = false → s.las.recovery = false → exec (.spdmKeyExchange who slot id) s =
     .next (((s.setSec fun x => { x with sessions := x.sessions ++ [(id, false)] }).spdm who 0x64 0 (leBytes 4 id ++ leBytes 8 s.freeVal)).usedFree)) ∧
  (∀ (s : State) (who id : Nat), s.secError = false → 3 ≤ s.sec.conns.getD who 0 → ((s.sec.sessions.any fun e => e.1 == id && !e.2) = true) →
     s.restarting = false → s.las.recovery = false → exec (.spdmFinish who id) s = .next ((s.setSec fun x =>
     { x with sessions := x.sessions.map fun e => if e.1 == id then (id, true) else e }).spdm who 0x65 0 (leBytes 4 id))) ∧
  (∀ (s : State) (who d : Nat) (s1 : State), s.sec.digBusy = true → s.sec.digWait = [(who, false)] → d = digestOf 10 s.ruleSet → (s1 = s.setSec fun x
     => { x with digBusy := false, digest := some d, digWait := [] }) → s1.lifecycle ≠ 2 → exec .eyeDigestDone s = .next (s1.spdm who 0x60 0
     (leBytes 1 10 ++ leBytes 8 d)))

/-- A packet for an endpoint identifier of the pool is bridged toward its module; one message of a supported type in a single packet becomes an
outstanding request of its source; the control requests are answered at their turn outside a warm restart, Set Endpoint ID taking the identifier; an
allocation of at least 64 identifiers gives the pool its base. Command codes and bodies are the model's (log entry 35). -/
def Obligations.ManagementControl : Prop :=
  (∀ (s : State) (path src dst tag ty : Nat) (som eom : Bool) (body : List Byte) (w : Nat), s.bindingOn path = true → dst ≠ 0 → dst ≠ s.ownEid path →
     s.poolSw dst = some w → exec (.mctpPacketRx path src dst tag ty som eom body) s = .next ((s.mctpBridge path w src dst tag body).writeDone)) ∧
  (∀ (s : State) (path src dst tag ty : Nat) (som eom : Bool) (body : List Byte) (s1 : State), s.bindingOn path = true → s.restarting = false → (dst =
     0 ∨ dst = s.ownEid path) → som = true → eom = true → ty ∈ [0, 5, 6, 7, 0x7E] → body.length ≤ 8192 → (s1 = s.setMgt fun g =>
     { g with reasm := g.reasm.filter fun r => !(r.src == src && r.tag == tag) }) → ((s1.mgt.open_.filter fun e => e.1 == src).length < 8) → exec
     (.mctpPacketRx path src dst tag ty som eom body) s = .next ((s1.setMgt fun g => { g with open_ := g.open_ ++ [(src, tag)] }).writeDone)) ∧
  (∀ (s : State) (path eid tag new : Nat), s.mctpTurn eid tag = true → s.bindingOn path = true → new % 256 ≠ 0 → new % 256 ≠ 255 → path = 1 →
     s.restarting = false → exec (.setEndpointId path eid tag new) s = .next ((s.put F.CLK_MCTP_STATUS_I3C_EID 0 new).answer eid tag 0 1 0
     [0, BitVec.ofNat 8 new])) ∧
  (∀ (s : State) (path eid tag new : Nat), s.mctpTurn eid tag = true → s.bindingOn path = true → new % 256 ≠ 0 → new % 256 ≠ 255 → path = 0 →
     s.mgt.vdmSet = true → s.restarting = false → exec (.setEndpointId path eid tag new) s = .next (((s.put F.CLK_MCTP_STATUS_VDM_EID 0 new).setMgt
     fun g => { g with vdmSet := true }).answer eid tag 0 1 0 [0, BitVec.ofNat 8 new])) ∧
  (∀ (s : State) (path eid tag : Nat), s.mctpTurn eid tag = true → s.restarting = false → exec (.getEndpointId path eid tag) s = .next (s.answer eid
     tag 0 2 0 [BitVec.ofNat 8 (s.ownEid path), BitVec.ofNat 8 (16 * bit (s.on F.CLK_MCTP_CFG_BRIDGE_EN 0)), 0])) ∧
  (∀ (s : State) (path eid tag : Nat), s.mctpTurn eid tag = true → s.restarting = false → exec (.getMctpVersionSupport path eid tag) s = .next
     ((s.answer eid tag 0 4 0 (1 :: leBytes 4 s.freeVal)).usedFree)) ∧
  (∀ (s : State) (path eid tag : Nat), s.mctpTurn eid tag = true → s.restarting = false → exec (.getMessageTypeSupport path eid tag) s = .next
     (s.answer eid tag 0 5 0 [5, 0, 5, 6, 7, 0x7E])) ∧
  (∀ (s : State) (path eid tag : Nat), s.mctpTurn eid tag = true → s.restarting = false → exec (.getVendorDefinedSupport path eid tag) s = .next
     ((s.answer eid tag 0 6 0 ([0xFF, 0, 0x2D, 0x5A] ++ leBytes 2 s.freeVal)).usedFree)) ∧
  (∀ (s : State) (path base n : Nat), 64 ≤ n → path = 0 → s.mgt.poolReq = true → exec (.allocateEndpointIds path base n) s = .next (((s.setMgt fun g =>
     { g with poolReq := false }).put F.CLK_MCTP_STATUS_POOL_BASE 0 base).put F.CLK_MCTP_STATUS_POOL_VALID 0 1)) ∧
  (∀ (s : State) (path base n : Nat), 64 ≤ n → path = 1 → s.on F.CLK_MCTP_STATUS_POOL_VALID 0 = false → exec (.allocateEndpointIds path base n) s =
     .next (((s.setMgt fun g => { g with i3cPool := true }).put F.CLK_MCTP_STATUS_POOL_BASE 0 base).put F.CLK_MCTP_STATUS_POOL_VALID 0 1)) ∧
  (∀ (s : State) (path eid tag : Nat), s.mctpTurn eid tag = true → s.restarting = false → exec (.routingInfoUpdate path eid tag) s = .next (s.answer
     eid tag 0 9 0 []))

/-- Outside recovery and a warm restart a vendor command at its turn does its work and is answered: a read of one register, a write of one by the owner, a
transfer into the load buffer, a security command relayed, the log records asked for, the module's identity. Recovery boot leaves recovery; a debug
session opens, accesses a register, closes, and ends at its idle limit. Codes are the model's (log entry 36). -/
def Obligations.ManagementVendor : Prop :=
  (∀ (s : State) (eid tag off width n : Nat) (s1 : State), s.mctpTurn eid tag = true → s.las.recovery = false → width = 2 → n = 1 → s.waitsBehind
     (.mctp eid) off = false → s.csrCheck 82 off 4 0 = (s1, 0) → exec (.csrRead eid tag off width n) s = .next (((s1.csrRead (.mctp eid) (off / 4 *
     4)).1.vendor eid tag 1 0 (leBytes 4 ((s1.csrRead (.mctp eid) (off / 4 * 4)).2.toNat / 256 ^ (off % 4)))).settle)) ∧
  (∀ (s : State) (eid sw tag off width : Nat) (vals : List Word) (s1 s2 : State) (v : Word), s.mctpTurn eid tag = true → s.las.recovery = false → s.on
     F.BND_FM_OWNED 0 = true → s.get F.BND_FM_OWNER_EID 0 = eid → s.get F.BND_FM_OWNER_SW 0 = sw → (s1 = s.setBnd fun b =>
     { b with lease := s.leaseEnd }) → width = 2 → vals = [v] → s1.csrCheck 82 off 4 1 = (s2, 0) → exec (.csrWrite eid sw tag off width vals) s =
     .next ((((s2.csrWrite (.mctp eid) off v).vendor eid tag 2 0 []).writeDone).writeDone)) ∧
  (∀ (s : State) (eid sw tag len off : Nat) (data : List Byte) (s1 : State), s.mctpTurn eid tag = true → s.las.recovery = false → s.on F.BND_FM_OWNED 0
     = true → s.get F.BND_FM_OWNER_EID 0 = eid → s.get F.BND_FM_OWNER_SW 0 = sw → (s1 = s.setBnd fun b => { b with lease := s.leaseEnd }) → 4 < len
     → len ≤ 8184 → off + (len - 4) ≤ 33554432 → s.loadBufLocked = false → s.restarting = false → exec (.lastXfer eid sw tag len off data) s = .next
     (((s1.insWrite (loadBuf + off) ((data ++ List.replicate (len - 4) 0).take (len - 4)) false).vendor eid tag 3 0 []).settle)) ∧
  (∀ (s : State) (eid sw tag op nonce : Nat) (signer : Option Nat) (a b : Nat) (ok : Bool) (ids : List Nat) (s1 s2 : State), s.mctpTurn eid tag = true
     → s.las.recovery = false → s.on F.BND_FM_OWNED 0 = true → s.get F.BND_FM_OWNER_EID 0 = eid → s.get F.BND_FM_OWNER_SW 0 = sw → (s1 = s.setBnd
     fun b => { b with lease := s.leaseEnd }) → s.sec.running = none → s2 = s1.secCmd (secRecord op nonce signer a b ok ids) → s.restarting = false
     → exec (.secRelay eid sw tag op nonce signer a b ok ids) s = .next ((s2.vendor eid tag 4 0 (leBytes 4 (s2.reg R.SEC_CMD_STATUS).toNat)).settle)) ∧
  (∀ (s : State) (eid tag first n : Nat), s.mctpTurn eid tag = true → s.las.recovery = false → 1 ≤ n → n ≤ 32 → s.goneRec first = false → s.restarting
     = false → exec (.eventReplay eid tag first n) s = .next (s.vendor eid tag 5 0 (s.logRecords first n))) ∧
  (∀ (s : State) (eid tag : Nat), s.mctpTurn eid tag = true → s.las.recovery = false → s.restarting = false → exec (.moduleInfo eid tag) s = .next
     (s.vendor eid tag 6 0 (leBytes 4 (s.reg R.GLB_SWITCH).toNat ++ leBytes 4 (s.reg R.GLB_FABRIC_ID).toNat ++ leBytes 4 (s.reg
     R.GLB_SERIAL_LO).toNat ++ leBytes 4 (s.reg R.GLB_SERIAL_HI).toNat ++ leBytes 4 (s.reg R.GLB_ID).toNat ++ leBytes 8 s.activeId ++ leBytes 1
     s.lifecycle ++ leBytes 1 0))) ∧
  (∀ (s : State) (eid tag img : Nat), s.mctpTurn eid tag = true → s.las.recovery = true → exec (.recoveryBoot eid tag img) s = .next (((((s.vendor eid
     tag 7 0 []).setLas fun l => { l with recovery := false, bootFailed := [] }).setFlt fun f => { f with encAlert := false }).bootFrom (img %
     2)).writeDone)) ∧
  (∀ (s : State) (path eid tag : Nat) (s1 : State), s.mctpTurn eid tag = true → s.dbgOn path = true → s.mgt.dbg = none → s1 = (s.setDbg (some (eid,
     s.dbgIdle))).put F.DBG_STATUS_DEBUG 0 (s.get F.SEC_STATUS_DEBUG 0) → s.restarting = false → exec (.dbgOpen path eid tag) s = .next (s1.vendor
     eid tag 8 0 (leBytes 4 (s1.reg R.DBG_STATUS).toNat))) ∧
  (∀ (s : State) (path eid tag : Nat) (write : Bool) (sp ident len addr : Nat) (data : List Byte) (s1 : State), s.mctpTurn eid tag = true → s.dbgOn
     path = true → s.dbgMine eid = true → s.mgt.dbgRun = none → s1 = s.setDbg (some (eid, s.dbgIdle)) → (sp = 1 ∨ sp = 2 ∨ sp = 3) → 1 ≤ len → len ≤
     4096 → s1.lockedReason 84 sp addr len (bit write) = 0 → (s1.winCheck 84 sp ident (s1.get F.BND_AGSL_SLICE 48) addr len (bit write)).1 = 0 →
     s.restarting = false → exec (.dbgAccess path eid tag write sp ident len addr data) s = .next (((s1.dbgIssue
     { tag := tag, write := write, sp := sp, ident := ident, addr := addr, len := len, done := 0, wait := 0, data := if write then (data ++ List.replicate len 0).take len else [] }).settle).writeDone)) ∧
  (∀ (s : State) (path eid tag : Nat) (write : Bool) (sp ident len addr : Nat) (data : List Byte) (s1 s2 : State), s.mctpTurn eid tag = true → s.dbgOn
     path = true → s.dbgMine eid = true → s.mgt.dbgRun = none → s1 = s.setDbg (some (eid, s.dbgIdle)) → sp = 4 → len = 4 → addr % 4 = 0 → write =
     false → s1.lockedReason 84 sp addr len 0 = 0 → (s1.winCheck 84 4 ident (s1.get F.BND_AGSL_SLICE 48) addr 4 0).1 = 0 → s1.waitsBehind .debug
     addr = false → s1.csrCheck 84 addr 4 0 = (s2, 0) → s.restarting = false → exec (.dbgAccess path eid tag write sp ident len addr data) s = .next
     (((s2.csrRead .debug (addr / 4 * 4)).1.vendor eid tag 9 0 (leBytes 4 ((s2.csrRead .debug (addr / 4 * 4)).2.toNat / 256 ^ (addr %
     4)))).writeDone)) ∧
  (∀ (s : State) (path eid tag : Nat), s.mctpTurn eid tag = true → s.dbgOn path = true → s.dbgMine eid = true → s.restarting = false → exec (.dbgClose
     path eid tag) s = .next ((s.setDbg none).vendor eid tag 10 0 [])) ∧
  (∀ (s : State) (d : Nat × Nat), s.mgt.dbg = some d → s.due d.2 = true → exec .dbgIdleTimeout s = .next (s.setDbg none))

/-- A running core that waits for nothing loads from and stores to the mailbox and the SRAM at once, puts a device store in its buffer and a device load
in its list; an AMO, LR or SC at the CSR space faults; it takes a fence or a trap; the end of a store has its effect; an expired access is reported
and its late answer only counted; RESET and HOLD empty the core's buffers. Where the effect of a store takes place is the model's (log entry 37). -/
def Obligations.CoreAccesses : Prop :=
  (∀ (s : State) (c addr n : Nat) (acc : CoreAcc), c < 4 → s.coreRuns c = true → s.coreWaits c = false → addr < 0x10000 → exec (.coreDeviceLoad c addr
     n acc) s = .next ((s.setCore c fun x => { x with result := BitVec.ofNat 32 (leNat (s.mgt.mbox.gets addr n)) }).writeDone)) ∧
  (∀ (s : State) (c addr n : Nat) (acc : CoreAcc), c < 4 → s.coreRuns c = true → s.coreWaits c = false → 0x10000000 ≤ addr → addr < 0x14000000 → acc =
     .load → exec (.coreDeviceLoad c addr n acc) s = .next ((((s.setCore c fun x => { x with loads := x.loads ++ [⟨addr, n, false, none⟩] }).count
     cbClk 2 c 0 1).corePump c).writeDone)) ∧
  (∀ (s : State) (c addr n : Nat) (acc : CoreAcc), c < 4 → s.coreRuns c = true → s.coreWaits c = false → 0x10000000 ≤ addr → addr < 0x14000000 → acc ≠
     .load → exec (.coreDeviceLoad c addr n acc) s = .next ((s.loadFault c addr).writeDone)) ∧
  (∀ (s : State) (c addr n : Nat) (acc : CoreAcc), c < 4 → s.coreRuns c = true → s.coreWaits c = false → 0x4000000000 ≤ addr → exec (.coreDeviceLoad c
     addr n acc) s = .next ((s.loadFault c addr).writeDone)) ∧
  (∀ (s : State) (c addr n : Nat) (v : Word), c < 4 → s.coreRuns c = true → s.coreWaits c = false → (((s.core c).sb.filter fun t => !t.complete).length
     < 16) → 0x8000000 ≤ addr → addr < 0x8200000 → exec (.coreDeviceStore c addr n v) s = .next ((s.setMgt fun g =>
     { g with sram := g.sram.sets (addr - 0x8000000) (leBytes n v.toNat) }).writeDone)) ∧
  (∀ (s : State) (c addr n : Nat) (v : Word), c < 4 → s.coreRuns c = true → s.coreWaits c = false → (((s.core c).sb.filter fun t => !t.complete).length
     < 16) → 0x10000000 ≤ addr → addr < 0x14000000 → exec (.coreDeviceStore c addr n v) s = .next ((((s.setCore c fun x =>
     { x with sb := x.sb ++ [{ addr := addr, n := n, data := v, device := true, ea := s.eaOf addr, accepted := false, timer := none }] }).count
     cbClk 3 c 0 1).corePump c).writeDone)) ∧
  (∀ (s : State) (c : Nat) (ow ir : Bool), c < 4 → s.coreRuns c = true → s.coreWaits c = false → exec (.coreFence c ow ir) s = .next ((s.setCore c fun
     x => { x with fence := some (ow, ir) }).corePump c)) ∧
  (∀ (s : State) (c : Nat), c < 4 → s.coreRuns c = true → exec (.coreTrap c) s = .next ((s.setCore c fun x => { x with trap := true }).corePump c)) ∧
  (∀ (s : State) (c err : Nat) (late : Bool) (x : CStore), c < 4 → late = false → (s.core c).dropped = [] → ((s.core c).sb.find? (fun t => t.device &&
     t.accepted) = some x) → s.storeCause x err = 0 → exec (.deviceStoreComplete c err late) s = .next ((State.corePump ((s.setCore c fun y =>
     { y with sb := dropStore y.sb }).storeEffect c x) c).writeDone)) ∧
  (∀ (s : State) (c err : Nat) (late : Bool) (x : CStore) (xs : List CStore), c < 4 → late = true → (s.core c).expired = x :: xs → exec
     (.deviceStoreComplete c err late) s = .next ((((s.setCore c fun y => { y with expired := xs }).storeEffect c x).bump F.CLK_STERR_INFO_LATE (4 *
     c) 1).writeDone)) ∧
  (∀ (s : State) (c err : Nat) (v : Word) (late : Bool) (l : CLoad) (w o : Nat), c < 4 → late = false → (s.core c).loads.find? (·.out) = some l →
     s.coreTarget l.addr = .remote w o → err = 0 → exec (.deviceLoadComplete c err v late) s = .next ((((s.setCore c fun y =>
     { y with loads := dropLoad y.loads }).setCore c fun y => { y with result := v }).corePump c).writeDone)) ∧
  (∀ (s : State) (c err : Nat) (v : Word) (late : Bool) (l : CLoad) (o : Nat) (s1 : State) (r : State × Word), c < 4 → late = false → (s.core
     c).loads.find? (·.out) = some l → s.coreTarget l.addr = .csr o → s.waitsBehind (.core c) o = false → csrCause o l.n false = 0 → (s1 = s.setCore
     c fun y => { y with loads := dropLoad y.loads }) → r = s1.csrRead (.core c) (o / 4 * 4) → exec (.deviceLoadComplete c err v late) s = .next
     (((r.1.setCore c fun y => { y with result := BitVec.ofNat 32 (r.2.toNat / 256 ^ (o % 4) % 256 ^ l.n) }).corePump c).writeDone)) ∧
  (∀ (s : State) (c : Nat) (x : CStore), c < 4 → ((s.core c).sb.find? (fun t => t.device && t.accepted && t.timer.any fun t => decide (t ≤ s.mgmtClk))
     = some x) → exec (.deviceAccessTimeout c) s = .next ((((s.setCore c fun y =>
     { y with sb := y.sb.erase x, expired := y.expired ++ [x] }).storeError c x.addr 1).corePump c).settle)) ∧
  (∀ (s : State) (p : Path) (c : Nat) (v : Word) (s1 : State), p.isRequester = true → s.Open → c < 4 → F.CLK_CORE_CTL_RESET.of v = 1 → s1 = s.storeAt
     (R.CLK_CORE_CTL + 4 * c) v → s1.on F.CLK_CORE_CTL_HOLD (4 * c) = false → s1.las.fwRunning = true → exec (.coreReset p c v) s = .next
     ((((s1.coreReset c).put F.CLK_CORE_STATUS_STATE (4 * c) 1).writeDone).send (.csr p true 0))) ∧
  (∀ (s : State) (p : Path) (c : Nat) (v : Word) (s1 : State), p.isRequester = true → s.Open → c < 4 → F.CLK_CORE_CTL_RESET.of v = 0 → s1 = s.storeAt
     (R.CLK_CORE_CTL + 4 * c) v → s.on F.CLK_CORE_CTL_HOLD (4 * c) = false → s1.on F.CLK_CORE_CTL_HOLD (4 * c) = true → exec (.coreHoldWrite p c v)
     s = .next ((((s1.coreReset c).put F.CLK_CORE_STATUS_STATE (4 * c) 0).writeDone).send (.csr p true 0))) ∧
  (∀ (s : State) (x y : Nat) (cured : Bool), cured = true → exec (.shankParityError x y cured) s = .next ((s.bump F.CLK_SHANK_STATUS_RETRIES 0
     1).settle)) ∧
  (∀ (s : State) (x y : Nat) (cured : Bool), cured = false → exec (.shankParityError x y cured) s = .next ((State.occAt (((s.put
     F.CLK_SHANK_STATUS_FAIL_X 0 x).put F.CLK_SHANK_STATUS_FAIL_Y 0 y).put F.CLK_SHANK_STATUS_FAIL_VALID 0 1) 19 0 none).settle))

/-- A unit at its instant of release leaves its fence with the log record; a warm restart is verified, loaded with its confirmation limit and the work
that waited for it, and reverted at the limit; power-down starts and ends at boundaries, goes on when a step is done or its limit has passed; a GPF
phase of a host is forwarded, answered when every partner has. -/
def Obligations.FaultUnits : Prop :=
  (∀ (s : State) (kind unit n : Nat), unitOf kind unit ∈ s.flt.released → s.fenceOver (unitOf kind unit) = true → (s.flt.fences.find? (fun e => e.1 ==
     unitOf kind unit) = some (unitOf kind unit, n)) → exec (.unitRelease kind unit) s = .next ((((s.faultLog 4 n 0).setFlt fun f =>
     { f with fences := f.fences.filter (fun e => e.1 != unitOf kind unit), released := f.released.filter (· != unitOf kind unit) }).applyRelease
     (unitOf kind unit)).writeDone)) ∧
  (∀ (s : State) (p : Path) (v : Word) (s1 : State), p.isRequester = true → s.Open → F.FLT_RESTART_GO.of v = 1 → s.restartState = 0 → s1 = s.storeAt
     R.FLT_RESTART v → exec (.warmRestart p v) s = .next ((((s1.setRestart 1).setFlt fun f =>
     { f with restartImg := s1.get F.FLT_RESTART_IMAGE 0, restartPrev := s.get F.LAST_BOOT_IMAGE 0, reverting := false }).writeDone).send (.csr p
     true 0))) ∧
  (∀ (s : State) (ok : Bool) (svn : Nat), s.restartState = 1 → ok = true → s.get F.SEC_FW_SVN_MIN_SVN 0 ≤ svn → s.on F.SEC_STATUS_SELFTEST_OK 0 = true
     → s.secError = false → exec (.restartVerifyDone ok svn) s = .next ((s.setRestart 2).setFlt fun f => { f with restartSvn := svn })) ∧
  (∀ (s : State) (ok : Bool) (svn : Nat), s.restartState = 1 → ok = false → exec (.restartVerifyDone ok svn) s = .next ((s.setRestart 0).put
     F.FLT_RESTART_STATUS_REFUSED 0 1)) ∧
  (∀ (s s2 : State), s.restarting = true → s.flt.reverting = false → (s2 = ((((s.put F.LAST_BOOT_IMAGE 0 s.flt.restartImg).put F.SEC_FW_SVN_SVN 0
     s.flt.restartSvn).setLas fun l => { l with fwRunning := true }).setFlt fun f =>
     { f with restartSvn := s.get F.SEC_FW_SVN_SVN 0, reverting := false, restartTo := some (s.after 58593750) })) → exec .restartLoadDone s = .next
     (((((s2.each (List.range 4) fun t c => t.put F.CLK_CORE_STATUS_STATE (4 * c) (if t.on F.CLK_CORE_CTL_HOLD (4 * c) then 0 else 1)).setRestart
     3).fwResume).writeDone))) ∧
  (∀ (s : State), s.restartState = 3 → s.dueO s.flt.restartTo = true → exec .restartConfirmTimeout s = .next ((State.occAt (((s.setRestart 2).put
     F.FLT_RESTART_STATUS_REVERTED 0 1).setFlt fun f => { f with restartTo := none, reverting := true }) 28 0 none).settle)) ∧
  (∀ (s : State) (p : Path) (v : Word), p.isRequester = true → s.Open → F.FLT_PWRDN_CTL_GO.of v = 1 → F.FLT_PWRDN_CTL_ABORT.of v = 0 → s.flt.pdStart =
     false → (s.pdStep = 0 ∨ 6 ≤ s.pdStep) → exec (.powerdownGo p v) s = .next (((s.setFlt fun f => { f with pdStart := true }).writeDone).send
     (.csr p true 0))) ∧
  (∀ (s : State) (p : Path) (v : Word), p.isRequester = true → s.Open → F.FLT_PWRDN_CTL_GO.of v = 0 → F.FLT_PWRDN_CTL_ABORT.of v = 1 → 1 ≤ s.pdStep →
     s.pdStep ≤ 5 → exec (.powerdownAbort p v) s = .next (((s.setFlt fun f => { f with pdAbort := true }).writeDone).send (.csr p true 0))) ∧
  (∀ (s : State), s.pdStep = 2 → s.drained = true → exec .pwrdnDrainDone s = .next (((((s.setPd 3).setFlt fun f =>
     { f with pdTimer := some (s.after (s.get F.FLT_PWRDN_CFG_CLEAN_LIMIT 0 * 1024)) }).cleanBehind (List.range 64))).writeDone)) ∧
  (∀ (s : State), s.pdStep = 2 → s.reachedO s.flt.pdTimer = true → s.drained = false → exec .pwrdnDrainTimeout s = .next ((((s.put
     F.FLT_PWRDN_STATUS_DRAIN_TO 0 1).dirtyLeft (s.dirtyIdx fun _ => true)).pdClean).writeDone)) ∧
  (∀ (s : State), s.pdStep = 3 → (s.dirtyIdx (fun _ => true) = []) → s.ins.cleaning = [] → exec .pwrdnCleanDone s = .next ((s.pdGpf 1).writeDone)) ∧
  (∀ (s : State), s.pdStep = 3 → s.reachedO s.flt.pdTimer = true → exec .pwrdnCleanTimeout s = .next ((((s.put F.FLT_PWRDN_STATUS_CLEAN_TO 0
     1).dirtyLeft (s.dirtyIdx fun _ => true)).pdCleaned).writeDone)) ∧
  (∀ (s : State) (ls : List Nat), s.pdStep = 4 → s.flt.pdPhase = 2 → s.flt.pdWait = [] → s.flt.pdFail = false → (ls = (List.range 8).filter fun m =>
     !s.on F.ML_LINK_CMD_DISABLE (dLink m)) → exec .pwrdnGpfDone s = .next ((State.setFlt ((s.each ls fun t m => t.mlCmdWrite m 2).setPd 5) fun f =>
     { f with pdDisabled := ls, pdWait := [], pdTimer := none }).writeDone)) ∧
  (∀ (s : State) (n : Nat), n < 64 → upMode (s.portMode n) = true → s.portUp n = true → s.hostPartners n = [] → exec (.gpfPhase1Request n) s = .next
     (s.send (.ctl n 10 5))) ∧
  (∀ (s : State) (n : Nat), n < 64 → upMode (s.portMode n) = true → s.portUp n = true → s.gpfClean n = true → s.hostPartners n = [] → exec
     (.gpfPhase2Request n) s = .next ((s.send (.ctl n 10 6)).writeDone)) ∧
  (∀ (s : State) (n : Nat) (e : Nat × Nat) (s1 : State), n < 64 → (s.flt.gpfBack.find? (fun e => e.1 == n) = some e) → s.due e.2 = true → (s1 =
     (s.dirtyLeft (s.dirtyRanges (s.hostPartners n))).setFlt fun f => { f with gpfBack := f.gpfBack.erase e }) → exec (.gpfP2Timeout n) s = .next
     (((s1.occAt 27 0 none).gpfForward n 2).settle)) ∧
  (∀ (s : State) (n h ph : Nat), n < 64 → s.flt.gpfReqs = [(h, ph, [n])] → exec (.gpfPartnerComplete n) s = .next ((s.setFlt fun f =>
     { f with gpfReqs := [], pdWait := f.pdWait.filter (· != n) }).send (.ctl h 10 (4 + ph))))

/-- While the cores are held and the new image is loaded, work of the firmware changes nothing but its own queue: the end of a discovery, the park of an
idle shelf, an SPDM request, a fabric manager's command and a vendor command that had arrived before all join it in order; a vendor command that
arrives then is lost and counted in REASM_DROP. -/
def Obligations.RestartDefers : Prop :=
  (∀ (s : State) (n kind lds : Nat) (dcd xr : Bool) (sn : Option Nat) (vendor : Nat), n < 64 → s.restarting = true → exec (.discoveryComplete n kind
     lds dcd xr sn vendor) s = .next ((s.setMgt fun g =>
     { g with fwJobs := g.fwJobs ++ [(0, .discoveryComplete n kind lds dcd xr sn vendor)] }).writeDone)) ∧
  (∀ (s : State) (sh : Nat), sh < 64 → s.restarting = true → exec (.shelfIdlePark sh) s = .next ((s.setMgt fun g =>
     { g with fwJobs := g.fwJobs ++ [(sh, .shelfIdlePark sh)] }).writeDone)) ∧
  (∀ (s : State) (who : Nat), s.restarting = true → exec (.spdmGetVersion who) s = .next ((s.setMgt fun g =>
     { g with fwJobs := g.fwJobs ++ [(0, .spdmGetVersion who)] }))) ∧
  (∀ (s : State) (eid sw v kind port obj slice : Nat), s.restarting = true → exec (.fmBindVppb eid sw v kind port obj slice) s = .next ((s.setMgt fun g
     => { g with fwJobs := g.fwJobs ++ [(0, .fmBindVppb eid sw v kind port obj slice)] }).writeDone)) ∧
  (∀ (s : State) (eid tag first n : Nat), (eid, tag) ∈ s.mgt.open_ → s.restarting = true → exec (.eventReplay eid tag first n) s = .next ((s.setMgt fun
     g => { g with fwJobs := g.fwJobs ++ [(0, .eventReplay eid tag first n)] }))) ∧
  (∀ (s : State) (eid tag first n : Nat), (eid, tag) ∉ s.mgt.open_ → s.restarting = true → exec (.eventReplay eid tag first n) s = .next (s.bump
     F.CLK_MCTP_CNT_REASM_DROP 0 1))

/-- Each event moves the controller as its states say: the first feed in its window enters INSERT with its timer started; the end of the delay with PM_EN
high enters RAMP, power good ON; the loss of the last feed turns off with cause 1; PM_EN low turns off with cause 2 and goes back to INSERT; a trip
enters LATCHED with latch, cool-down, cause and count; loss of bias leaves NOBIAS with cause 8 where the FET was on. -/
def Obligations.PowerController : Prop :=
  (∀ (s : State) (feed : Nat), feed = 0 → s.pwr.ctl = 1 → s.pwr.feedA = false → s.pwr.feedB = false → exec (.feedWindowEnter feed) s = .next ((s.setPwr
     fun _ => { s.pwr with ctl := 2, feedA := true, insRun := true, insDone := false }).syncPwr)) ∧
  (∀ (s : State) (feed : Nat), feed = 1 → s.pwr.ctl = 1 → s.pwr.feedA = false → s.pwr.feedB = false → exec (.feedWindowEnter feed) s = .next ((s.setPwr
     fun _ => { s.pwr with ctl := 2, feedB := true, insRun := true, insDone := false }).syncPwr)) ∧
  (∀ (s : State) (feed : Nat) (s1 : State), feed = 0 → s.pwr.feedA = true → s.pwr.regsOn = true → s1 = s.occAt 21 0 none → s1.pwr.ctl = 4 →
     s1.pwr.feedB = false → exec (.feedWindowLeave feed) s = .next (((s1.setPwr fun _ =>
     { s1.pwr with ctl := 1, regsOn := false, recCause := 1, feedA := false, orA := false, insRun := false, insDone := false }).syncPwr).settle)) ∧
  (∀ (s : State) (feed : Nat) (s1 : State), feed = 1 → s.pwr.feedB = true → s.pwr.regsOn = true → s1 = s.occAt 22 0 none → s1.pwr.ctl = 4 →
     s1.pwr.feedA = false → exec (.feedWindowLeave feed) s = .next (((s1.setPwr fun _ =>
     { s1.pwr with ctl := 1, regsOn := false, recCause := 1, feedB := false, orB := false, insRun := false, insDone := false }).syncPwr).settle)) ∧
  (∀ (s : State), s.pwr.ctl = 0 → s.pwr.feedA = false → s.pwr.feedB = false → exec .biasPresent s = .next ((s.setPwr fun _ =>
     { s.pwr with ctl := 1, latch := false, cool := false }).syncPwr)) ∧
  (∀ (s : State), exec .biasLoss s = .next ((s.setPwr fun _ =>
     { s.pwr with ctl := 0, feedA := false, feedB := false, orA := false, orB := false, insRun := false, insDone := false, latch := false, cool := false, regsOn := false, recCause := if s.pwr.fetOn then 8 else s.pwr.recCause }).syncPwr)) ∧
  (∀ (s : State), s.pwr.insRun = true → s.pwr.ctl = 2 → (s.pwr.feedA = true ∨ s.pwr.feedB = true) → s.pwr.pmEn = true → exec .insertionDelayExpiry s =
     .next ((s.setPwr fun _ => { s.pwr with ctl := 3, insDone := true }).syncPwr)) ∧
  (∀ (s : State), s.pwr.ctl = 2 → (s.pwr.feedA = true ∨ s.pwr.feedB = true) → s.pwr.insDone = true → exec .pmEnRise s = .next ((s.setPwr fun _ =>
     { s.pwr with ctl := 3, pmEn := true }).syncPwr)) ∧
  (∀ (s : State), s.pwr.ctl = 4 → (s.pwr.feedA = true ∨ s.pwr.feedB = true) → exec .pmEnLow s = .next ((s.setPwr fun _ =>
     { s.pwr with ctl := 2, pmEn := false, regsOn := false, recCause := 2, insDone := true }).syncPwr)) ∧
  (∀ (s : State), s.pwr.pmEn = false → s.pwr.feedA = true → s.pwr.ctl = 5 → s.pwr.cool = false → exec .latchClear s = .next ((s.setPwr fun _ =>
     { s.pwr with ctl := 2, latch := false }).syncPwr)) ∧
  (∀ (s : State), s.pwr.ctl = 5 → s.pwr.latch = true → exec .cooldownEnd s = .next ((s.setPwr fun _ => { s.pwr with cool := false }).syncPwr)) ∧
  (∀ (s : State), s.pwr.ctl = 3 → exec .powerGood s = .next ((s.setPwr fun _ => { s.pwr with ctl := 4 }).syncPwr)) ∧
  (∀ (s : State), s.pwr.ctl = 4 → s.pwr.regsOn = false → exec .regulatorEnable s = .next (((s.setPwr fun p => { p with regsOn := true }).dieReset
     0).setMdl fun m => { m with aonHeld := true })) ∧
  (∀ (s : State), s.pwr.ctl = 4 → exec .powerGoodLost s = .next ((s.setPwr fun _ =>
     { s.pwr with ctl := 5, regsOn := false, latch := true, cool := true, recCause := 3, recTrips := min 65535 (s.pwr.recTrips + 1) }).syncPwr)) ∧
  (∀ (s : State), (s.pwr.ctl = 3 ∨ s.pwr.ctl = 4) → exec .fastTrip s = .next ((s.setPwr fun _ =>
     { s.pwr with ctl := 5, regsOn := false, latch := true, cool := true, recCause := 4, recTrips := min 65535 (s.pwr.recTrips + 1) }).syncPwr)) ∧
  (∀ (s : State), (s.pwr.ctl = 3 ∨ s.pwr.ctl = 4) → exec .breakerTrip s = .next ((s.setPwr fun _ =>
     { s.pwr with ctl := 5, regsOn := false, latch := true, cool := true, recCause := 3, recTrips := min 65535 (s.pwr.recTrips + 1) }).syncPwr)) ∧
  (∀ (s : State), (s.pwr.ctl = 3 ∨ s.pwr.ctl = 4) → exec .soaTrip s = .next ((s.setPwr fun _ =>
     { s.pwr with ctl := 5, regsOn := false, latch := true, cool := true, recCause := 5, recTrips := min 65535 (s.pwr.recTrips + 1) }).syncPwr)) ∧
  (∀ (s : State), (s.pwr.ctl = 3 ∨ s.pwr.ctl = 4) → exec .fetOvertemp s = .next ((s.setPwr fun _ =>
     { s.pwr with ctl := 5, regsOn := false, latch := true, cool := true, recCause := 7, recTrips := min 65535 (s.pwr.recTrips + 1) }).syncPwr)) ∧
  (∀ (s : State), s.pwr.ctl = 3 → exec .rampTimeout s = .next ((s.setPwr fun _ =>
     { s.pwr with ctl := 5, regsOn := false, latch := true, cool := true, recCause := 6, recTrips := min 65535 (s.pwr.recTrips + 1) }).syncPwr)) ∧
  (∀ (s : State) (feed : Nat) (s1 : State), feed = 0 → s.pwr.feedA = true → s1 = (s.occAt 24 0 none).bump F.PWR_STATUS_REVERSALS 0 1 → s1.pwr.ctl = 4 →
     exec (.reverseCurrentTurnoff feed) s = .next (((s1.setPwr fun _ => { s1.pwr with orA := false }).syncPwr).settle)) ∧
  (∀ (s : State) (p : Path) (v : Word) (s1 : State), p.isRequester = true → s.Open → F.PWR_CFG_NV_COMMIT.of v = 1 → s1 = s.storeAt R.PWR_CFG v → exec
     (.nvCommit p v) s = .next ((((s1.put F.PWR_CFG_NV_BUSY 0 1).setPwr fun p =>
     { p with recIns := s1.get F.PWR_CFG_INS_DELAY 0, nvBusy := some (s.after 9765) }).writeDone).send (.csr p true 0))) ∧
  (∀ (s : State) (p : Path) (v : Word), p.isRequester = true → s.Open → F.PWR_PIN_PEAK_CLR.of v = 1 → exec (.peakClear p v) s = .next (((s.put
     F.PWR_PIN_PEAK_PEAK 0 0).writeDone).send (.csr p true 0))) ∧
  (∀ (s : State), s.avsOn = true → s.get F.PWR_AVS_STATUS_LOWER_CNT 0 = 1024 → exec .avsRegularLower s = .next ((s.put F.PWR_AVS_STATUS_SETPOINT 0 (if
     s.vmin < s.setpoint then s.setpoint - 1 else s.setpoint)).put F.PWR_AVS_STATUS_LOWER_CNT 0 0)) ∧
  (∀ (s : State) (d margin t : Nat), d < 4 → margin < s.get F.PWR_AVS_MARGIN_M_CRIT 0 → (s.pwr.urgentAt = none ∨ s.pwr.urgentAt = some t ∧ t + 20000 ≤
     s.soleClk) → exec (.avsUrgentRaise d margin) s = .next (((s.put F.PWR_AVS_STATUS_SETPOINT 0 (max s.setpoint (min s.vmax (s.setpoint +
     5)))).bump F.PWR_AVS_CNT_URGENT 0 1).setPwr fun p => { p with urgentAt := some s.soleClk }))

/-- PERST_N low resets the die once the Always-on block is up; its release, the end of the reset pulse and the Always-on release enter step 2; a write of
MODULE resets the die, one of MGMT clears the management block or is refused; self-tests lead to the boot; a cage is released at its time and its
ports detect; READY is sent whole, or partial at its limit. What a management reset keeps is the model's (log entry 40). -/
def Obligations.ModuleResets : Prop :=
  (∀ (s : State), s.pwr.regsOn = true → s.mdl.aonHeld = false → exec .perstAssert s = .next ((s.setMdl fun m => { m with perst := true }).dieReset 1)) ∧
  (∀ (s s1 : State), (s1 = s.setMdl fun m => { m with perst := false }) → s1.aonUp = true → s1.step? = 1 → exec .perstRelease s = .next (s1.setStep 2)) ∧
  (∀ (s s1 : State), (s1 = s.setMdl fun m => { m with pulse := false }) → s1.aonUp = true → s1.step? = 1 → exec .moduleResetPulseEnd s = .next
     (s1.setStep 2)) ∧
  (∀ (s : State) (p : Path) (v : Word), p.isRequester = true → s.Open → F.GLB_RST_MODULE.of v = 1 → exec (.moduleResetCmd p v) s = .next ((((s.dieReset
     2).setMdl fun m => { m with pulse := true }).writeDone).send (.csr p true 0))) ∧
  (∀ (s : State) (p : Path) (v : Word), p.isRequester = true → s.Open → F.GLB_RST_MODULE.of v = 0 → F.GLB_RST_REFUSED.of v = 0 → F.GLB_RST_MGMT.of v =
     1 → F.GLB_RST_MGMT_HOLD.of v = 0 → s.mgmtRefused = false → exec (.mgmtReset p v) s = .next ((((s.mgmtClear.put F.GLB_RST_MGMT_HOLD 0 0).setMdl
     fun m => { m with mgmtLoad := true }).writeDone).send (.csr p true 0))) ∧
  (∀ (s : State) (p : Path) (v : Word), p.isRequester = true → s.Open → F.GLB_RST_MODULE.of v = 0 → F.GLB_RST_REFUSED.of v = 0 → F.GLB_RST_MGMT.of v =
     1 → F.GLB_RST_MGMT_HOLD.of v = 0 → s.mgmtRefused = true → exec (.mgmtReset p v) s = .next ((((s.put F.GLB_RST_REFUSED 0 1).put
     F.GLB_RST_MGMT_HOLD 0 0).writeDone).send (.csr p true 0))) ∧
  (∀ (s : State) (p : Path) (v : Word), p.isRequester = true → s.Open → F.GLB_RST_MODULE.of v = 0 → F.GLB_RST_REFUSED.of v = 0 → F.GLB_RST_MGMT.of v =
     0 → F.GLB_RST_MGMT_HOLD.of v = 1 → s.on F.GLB_RST_MGMT_HOLD 0 = false → s.mgmtRefused = false → exec (.mgmtHoldWrite p v) s = .next
     ((((s.mgmtClear.put F.GLB_RST_MGMT_HOLD 0 1).setMdl fun m => { m with mgmtLoad := false }).writeDone).send (.csr p true 0))) ∧
  (∀ (s : State) (p : Path) (v : Word), p.isRequester = true → s.Open → F.GLB_RST_MODULE.of v = 0 → F.GLB_RST_REFUSED.of v = 0 → F.GLB_RST_MGMT.of v =
     0 → F.GLB_RST_MGMT_HOLD.of v = 0 → s.on F.GLB_RST_MGMT_HOLD 0 = true → exec (.mgmtHoldWrite p v) s = .next ((((s.put F.GLB_RST_MGMT_HOLD 0
     0).setMdl fun m => { m with mgmtLoad := true }).writeDone).send (.csr p true 0))) ∧
  (∀ (s : State), s.mdl.mgmtLoad = true → s.las.fwRunning = true → s.on F.GLB_RST_MGMT_HOLD 0 = false → exec .mgmtRestartDone s = .next
     (((s.restartLoad true []).setMdl fun m => { m with mgmtLoad := false }).writeDone)) ∧
  (∀ (s s1 : State), s.pwr.regsOn = true → s.mdl.aonHeld = true → (s.pwr.recCause < 3 ∨ 7 < s.pwr.recCause) → (s1 = (s.setMdl fun m =>
     { m with aonHeld := false }).syncPwr) → s1.aonUp = true → s1.step? = 1 → exec .alwaysOnResetRelease s = .next ((s1.setStep 2).settle)) ∧
  (∀ (s : State) (ok : Bool), s.step? = 2 → s.on F.SEC_STATUS_SELFTEST_OK 0 = false → s.secError = false → s.sec.returning = none → exec
     (.powerUpSelfTestDone ok) s = .next (((s.selfTest ok).bootEntry).settle)) ∧
  (∀ (s : State) (b e : Nat), b < 16 → s.mdl.cages.find b = some e → s.reached e = true → exec (.cageResetRelease b) s = .next (((s.setMdl fun m =>
     { m with cages := m.cages.del b, released := insNat m.released b }).each ((List.range 4).map fun i => 4 * b + i) fun t n => if upMode
     (t.portMode n) then t else t.portDetect n))) ∧
  (∀ (s : State), s.step? = 8 → s.readyOk = true → exec .readySend s = .next (((State.event (((s).put F.GLB_START_STATUS_PARTIAL 0 0).setStep 9)
     clsStatus 0xE 0 1 (s).activeId).setMdl fun m => { m with readyTo := none }).writeDone)) ∧
  (∀ (s s1 : State), 5 ≤ s.step? → s.step? ≤ 7 → s.reachedO s.mdl.readyTo = true → s1 = s.startBindings → exec .readyLimitExpiry s = .next
     (((State.event (((s1).put F.GLB_START_STATUS_PARTIAL 0 1).setStep 9) clsStatus 0xE 0 1 (s1).activeId).setMdl fun m =>
     { m with readyTo := none }).writeDone))

/-- While the Always-on block is up, ENTDAA answers with the provisional identifier and assigns the address, RSTDAA drops it, SETNEWDA changes it, the GET
codes are answered by a module that holds an address, ENEC and DISEC set the permission for in-band interrupts, SETMRL and SETMWL the limits, and a
module without an address requests Hot-Join once. The codes and characteristics are the model's (log entry 41). -/
def Obligations.Sideband : Prop :=
  (∀ (s : State) (addr : Nat), s.aonUp = true → s.mdl.dynAddr = none → exec (.i3cEntdaa addr) s = .next ((s.i3cOut 0x07 s.provisionalId).setMdl fun m
     => { m with dynAddr := some (addr % 128), hotJoin := false })) ∧
  (∀ (s : State), s.aonUp = true → exec .i3cRstdaa s = .next (s.setMdl fun m => { m with dynAddr := none, hotJoin := false })) ∧
  (∀ (s : State) (addr : Nat), s.i3cHeld = true → exec (.i3cSetnewda addr) s = .next (s.setMdl fun m => { m with dynAddr := some (addr % 128) })) ∧
  (∀ (s : State), s.i3cHeld = true → exec .i3cGetpid s = .next (s.i3cOut 0x8D s.provisionalId)) ∧
  (∀ (s : State), s.i3cHeld = true → exec .i3cGetbcr s = .next (s.i3cOut 0x8E ((Config.device 1).toNat % 256))) ∧
  (∀ (s : State), s.i3cHeld = true → exec .i3cGetdcr s = .next (s.i3cOut 0x8F ((Config.device 2).toNat % 256))) ∧
  (∀ (s : State), s.i3cHeld = true → exec .i3cGetmxds s = .next (s.i3cOut 0x94 ((Config.device 3).toNat % 65536))) ∧
  (∀ (s : State), s.aonUp = true → exec .i3cEnec s = .next (s.setMdl fun m => { m with ibi := true })) ∧
  (∀ (s : State), s.aonUp = true → exec .i3cDisec s = .next (s.setMdl fun m => { m with ibi := false })) ∧
  (∀ (s : State) (n : Nat), s.aonUp = true → exec (.i3cSetmrl n) s = .next (s.setMdl fun m => { m with mrl := n % 65536 })) ∧
  (∀ (s : State) (n : Nat), s.aonUp = true → exec (.i3cSetmwl n) s = .next (s.setMdl fun m => { m with mwl := n % 65536 })) ∧
  (∀ (s : State), s.aonUp = true → s.mdl.dynAddr = none → s.mdl.hotJoin = false → exec .i3cHotJoin s = .next ((s.i3cOut 0x02 0).setMdl fun m =>
     { m with hotJoin := true }))

/-- Where a controller event or an AVS step completes, only the controller and the registers of the PWR block may differ: every other register, every byte
of memory, every queue and every other unit is as before. -/
def Obligations.PowerFrame : Prop :=
  (∀ (s t : State), exec .biasPresent s = .next t → s.OnlyPower t) ∧
  (∀ (s t : State), exec .biasLoss s = .next t → s.OnlyPower t) ∧
  (∀ (s t : State), exec .insertionDelayExpiry s = .next t → s.OnlyPower t) ∧
  (∀ (s t : State), exec .pmEnRise s = .next t → s.OnlyPower t) ∧
  (∀ (s t : State), exec .pmEnLow s = .next t → s.OnlyPower t) ∧
  (∀ (s t : State), exec .latchClear s = .next t → s.OnlyPower t) ∧
  (∀ (s t : State), exec .cooldownEnd s = .next t → s.OnlyPower t) ∧
  (∀ (s t : State), exec .powerGood s = .next t → s.OnlyPower t) ∧
  (∀ (s t : State), exec .powerGoodLost s = .next t → s.OnlyPower t) ∧
  (∀ (s t : State), exec .fastTrip s = .next t → s.OnlyPower t) ∧
  (∀ (s t : State), exec .breakerTrip s = .next t → s.OnlyPower t) ∧
  (∀ (s t : State), exec .soaTrip s = .next t → s.OnlyPower t) ∧
  (∀ (s t : State), exec .fetOvertemp s = .next t → s.OnlyPower t) ∧
  (∀ (s t : State), exec .rampTimeout s = .next t → s.OnlyPower t) ∧
  (∀ (s t : State), exec .avsRegularLower s = .next t → s.OnlyPower t) ∧
  (∀ (s t : State) (feed : Nat), exec (.feedWindowEnter feed) s = .next t → s.OnlyPower t) ∧
  (∀ (s t : State) (d margin : Nat), exec (.avsUrgentRaise d margin) s = .next t → s.OnlyPower t)

/-- Where a command of the I3C sideband completes, only the target's own state and the outputs may differ: no register, no byte of memory and no other
unit changes. -/
def Obligations.SidebandFrame : Prop :=
  (∀ (s t : State) (addr : Nat), exec (.i3cEntdaa addr) s = .next t → s.OnlySideband t) ∧
  (∀ (s t : State), exec .i3cRstdaa s = .next t → s.OnlySideband t) ∧
  (∀ (s t : State) (addr : Nat), exec (.i3cSetnewda addr) s = .next t → s.OnlySideband t) ∧
  (∀ (s t : State), exec .i3cGetpid s = .next t → s.OnlySideband t) ∧
  (∀ (s t : State), exec .i3cGetbcr s = .next t → s.OnlySideband t) ∧
  (∀ (s t : State), exec .i3cGetdcr s = .next t → s.OnlySideband t) ∧
  (∀ (s t : State), exec .i3cGetmxds s = .next t → s.OnlySideband t) ∧
  (∀ (s t : State), exec .i3cEnec s = .next t → s.OnlySideband t) ∧
  (∀ (s t : State), exec .i3cDisec s = .next t → s.OnlySideband t) ∧
  (∀ (s t : State) (n : Nat), exec (.i3cSetmrl n) s = .next t → s.OnlySideband t) ∧
  (∀ (s t : State) (n : Nat), exec (.i3cSetmwl n) s = .next t → s.OnlySideband t) ∧
  (∀ (s t : State), exec .i3cHotJoin s = .next t → s.OnlySideband t)

/-- Where an SPDM request completes, only the connections, sessions and waiting requests of the enclave, the work that waits for a warm restart, the
outputs and the counter of free values may differ: no register, key or byte of memory changes. -/
def Obligations.AttestationFrame : Prop :=
  (∀ (s t : State) (who : Nat), exec (.spdmGetVersion who) s = .next t → s.OnlyAttestation t) ∧
  (∀ (s t : State) (who : Nat), exec (.spdmGetCapabilities who) s = .next t → s.OnlyAttestation t) ∧
  (∀ (s t : State) (who : Nat), exec (.spdmNegotiateAlgorithms who) s = .next t → s.OnlyAttestation t) ∧
  (∀ (s t : State) (who slot : Nat), exec (.spdmGetCertificate who slot) s = .next t → s.OnlyAttestation t) ∧
  (∀ (s t : State) (who slot : Nat), exec (.spdmChallenge who slot) s = .next t → s.OnlyAttestation t) ∧
  (∀ (s t : State) (who idx : Nat), exec (.spdmGetMeasurements who idx) s = .next t → s.OnlyAttestation t) ∧
  (∀ (s t : State) (who slot id : Nat), exec (.spdmKeyExchange who slot id) s = .next t → s.OnlyAttestation t) ∧
  (∀ (s t : State) (who id : Nat), exec (.spdmFinish who id) s = .next t → s.OnlyAttestation t)

/-- Where an MCTP control request completes, only the outstanding requests and endpoint identifiers of the management block with CLK_MCTP_STATUS and
CLK_MCTP_CNT, the work that waits for a warm restart, the outputs and the counter of free values may differ. -/
def Obligations.ControlFrame : Prop :=
  (∀ (s t : State) (path eid tag new : Nat), exec (.setEndpointId path eid tag new) s = .next t → s.OnlyControl t) ∧
  (∀ (s t : State) (path eid tag : Nat), exec (.getEndpointId path eid tag) s = .next t → s.OnlyControl t) ∧
  (∀ (s t : State) (path eid tag : Nat), exec (.getMctpVersionSupport path eid tag) s = .next t → s.OnlyControl t) ∧
  (∀ (s t : State) (path eid tag : Nat), exec (.getMessageTypeSupport path eid tag) s = .next t → s.OnlyControl t) ∧
  (∀ (s t : State) (path eid tag : Nat), exec (.getVendorDefinedSupport path eid tag) s = .next t → s.OnlyControl t) ∧
  (∀ (s t : State) (path base n : Nat), exec (.allocateEndpointIds path base n) s = .next t → s.OnlyControl t) ∧
  (∀ (s t : State) (path eid tag : Nat), exec (.routingInfoUpdate path eid tag) s = .next t → s.OnlyControl t)

/-- Where a fence or a trap of core c completes, only that core's own state and its status word may differ. -/
def Obligations.CoreFrame : Prop :=
  (∀ (s t : State) (c : Nat) (ow ir : Bool), exec (.coreFence c ow ir) s = .next t → State.OnlyCore c s t) ∧
  (∀ (s t : State) (c : Nat), exec (.coreTrap c) s = .next t → State.OnlyCore c s t)
end

