-- ==== Sys2Proof/Laws/Store.lean ====
section
/-!
SUPPORT. Lemmas of the sparse stores: reading after writing, and the canonical forms of the register file, the Insole's memory and the tables.
-/
namespace Sys2Proof.Machine
set_option Elab.async false
open Sys2Proof

/-! ### The register file -/

theorem RegFile.get_drop (r : RegFile) (k j : Nat) : (RegFile.drop r k).get j = if j = k then resetWord k else r.get j := by
  induction r with
  | nil => by_cases h : j = k <;> simp [RegFile.drop, RegFile.get, h]
  | cons e rest ih =>
    obtain ⟨k', w⟩ := e
    by_cases hk : k' = k
    · rw [RegFile.drop, if_pos hk, ih, RegFile.get]
      split <;> simp_all
    · rw [RegFile.drop, if_neg hk, RegFile.get, ih, RegFile.get]
      split <;> simp_all

theorem RegFile.get_insert (r : RegFile) (k j : Nat) (w : Word) : (RegFile.insert r k w).get j = if j = k then w else r.get j := by
  induction r with
  | nil => by_cases h : j = k <;> simp [RegFile.insert, RegFile.get, h]
  | cons e rest ih =>
    obtain ⟨k', w'⟩ := e
    simp only [RegFile.insert]
    split
    · by_cases h : j = k <;> simp [RegFile.get, h]
    · split
      · rename_i _ h2
        by_cases h : j = k <;> simp [RegFile.get, h, ← h2]
      · rw [RegFile.get, ih, RegFile.get]
        split <;> simp_all
        omega

/-- A read after a write: the value written at its place, and every other place as it was. -/
theorem RegFile.get_set (r : RegFile) (k j : Nat) (w : Word) : (RegFile.set r k w).get j = if j = k then w else r.get j := by
  unfold RegFile.set
  split
  · rename_i h
    rw [RegFile.get_drop, h]
  · rw [RegFile.get_insert]

theorem RegFile.wfFrom_mono {b c : Nat} (h : c ≤ b) : ∀ (r : RegFile), RegFile.wfFrom b r = true → RegFile.wfFrom c r = true
  | [], _ => rfl
  | (k, w) :: rest, hr => by
    simp only [RegFile.wfFrom, Bool.and_eq_true, decide_eq_true_eq] at hr ⊢
    exact ⟨⟨by omega, hr.1.2⟩, hr.2⟩

theorem RegFile.wfFrom_filter (p : Nat × Word → Bool) : ∀ (r : RegFile) (b : Nat), RegFile.wfFrom b r = true → RegFile.wfFrom b (r.filter p) = true
  | [], _, _ => rfl
  | (k, w) :: rest, b, hr => by
    simp only [RegFile.wfFrom, Bool.and_eq_true, decide_eq_true_eq] at hr
    by_cases hp : p (k, w) = true
    · simp only [List.filter_cons, hp, if_true, RegFile.wfFrom, Bool.and_eq_true, decide_eq_true_eq]
      exact ⟨hr.1, RegFile.wfFrom_filter p rest (k + 1) hr.2⟩
    · simp only [List.filter_cons, hp]
      exact RegFile.wfFrom_mono (by omega) _ (RegFile.wfFrom_filter p rest (k + 1) hr.2)

theorem RegFile.wfFrom_drop (k : Nat) : ∀ (r : RegFile) (b : Nat), RegFile.wfFrom b r = true → RegFile.wfFrom b (RegFile.drop r k) = true
  | [], _, _ => rfl
  | (k', w) :: rest, b, hr => by
    simp only [RegFile.wfFrom, Bool.and_eq_true, decide_eq_true_eq] at hr
    simp only [RegFile.drop]
    split
    · exact RegFile.wfFrom_mono (by omega) _ (RegFile.wfFrom_drop k rest (k' + 1) hr.2)
    · simp only [RegFile.wfFrom, Bool.and_eq_true, decide_eq_true_eq]
      exact ⟨hr.1, RegFile.wfFrom_drop k rest (k' + 1) hr.2⟩

theorem RegFile.wfFrom_insert (k : Nat) (w : Word) (hw : w ≠ resetWord k) :
    ∀ (r : RegFile) (b : Nat), b ≤ k → RegFile.wfFrom b r = true → RegFile.wfFrom b (RegFile.insert r k w) = true
  | [], b, hb, _ => by simp [RegFile.insert, RegFile.wfFrom, hb, hw]
  | (k', w') :: rest, b, hb, hr => by
    simp only [RegFile.wfFrom, Bool.and_eq_true, decide_eq_true_eq, bne_iff_ne, ne_eq] at hr
    simp only [RegFile.insert]
    split
    · simp only [RegFile.wfFrom, Bool.and_eq_true, decide_eq_true_eq, bne_iff_ne, ne_eq]
      exact ⟨⟨hb, hw⟩, ⟨⟨by omega, hr.1.2⟩, hr.2⟩⟩
    · split
      · simp only [RegFile.wfFrom, Bool.and_eq_true, decide_eq_true_eq, bne_iff_ne, ne_eq]
        rename_i _ h2
        exact ⟨⟨hb, hw⟩, h2 ▸ hr.2⟩
      · simp only [RegFile.wfFrom, Bool.and_eq_true, decide_eq_true_eq, bne_iff_ne, ne_eq]
        exact ⟨hr.1, RegFile.wfFrom_insert k w hw rest (k' + 1) (by omega) hr.2⟩

/-- A write keeps the canonical form. -/
theorem RegFile.wf_set (r : RegFile) (k : Nat) (w : Word) (h : r.wf = true) : (RegFile.set r k w).wf = true := by
  unfold RegFile.set RegFile.wf
  split
  · exact RegFile.wfFrom_drop k r 0 h
  · exact RegFile.wfFrom_insert k w ‹_› r 0 (by omega) h

/-! ### The Insole's memory -/

theorem Mem.get_drop (r : Mem) (k j : Nat) : (Mem.drop r k).get j = if j = k then Mem.blank else r.get j := by
  induction r with
  | nil => by_cases h : j = k <;> simp [Mem.drop, Mem.get, h]
  | cons e rest ih =>
    obtain ⟨k', w⟩ := e
    by_cases hk : k' = k
    · rw [Mem.drop, if_pos hk, ih, Mem.get]
      split <;> simp_all
    · rw [Mem.drop, if_neg hk, Mem.get, ih, Mem.get]
      split <;> simp_all

theorem Mem.get_insert (r : Mem) (k j : Nat) (w : Byte) : (Mem.insert r k w).get j = if j = k then w else r.get j := by
  induction r with
  | nil => by_cases h : j = k <;> simp [Mem.insert, Mem.get, h]
  | cons e rest ih =>
    obtain ⟨k', w'⟩ := e
    simp only [Mem.insert]
    split
    · by_cases h : j = k <;> simp [Mem.get, h]
    · split
      · rename_i _ h2
        by_cases h : j = k <;> simp [Mem.get, h, ← h2]
      · rw [Mem.get, ih, Mem.get]
        split <;> simp_all
        omega

/-- A read after a write: the value written at its place, and every other place as it was. -/
theorem Mem.get_set (r : Mem) (k j : Nat) (w : Byte) : (Mem.set r k w).get j = if j = k then w else r.get j := by
  unfold Mem.set
  split
  · rename_i h
    rw [Mem.get_drop, h]
  · rw [Mem.get_insert]

theorem Mem.wfFrom_mono {b c : Nat} (h : c ≤ b) : ∀ (r : Mem), Mem.wfFrom b r = true → Mem.wfFrom c r = true
  | [], _ => rfl
  | (k, w) :: rest, hr => by
    simp only [Mem.wfFrom, Bool.and_eq_true, decide_eq_true_eq] at hr ⊢
    exact ⟨⟨by omega, hr.1.2⟩, hr.2⟩

theorem Mem.wfFrom_filter (p : Nat × Byte → Bool) : ∀ (r : Mem) (b : Nat), Mem.wfFrom b r = true → Mem.wfFrom b (r.filter p) = true
  | [], _, _ => rfl
  | (k, w) :: rest, b, hr => by
    simp only [Mem.wfFrom, Bool.and_eq_true, decide_eq_true_eq] at hr
    by_cases hp : p (k, w) = true
    · simp only [List.filter_cons, hp, if_true, Mem.wfFrom, Bool.and_eq_true, decide_eq_true_eq]
      exact ⟨hr.1, Mem.wfFrom_filter p rest (k + 1) hr.2⟩
    · simp only [List.filter_cons, hp]
      exact Mem.wfFrom_mono (by omega) _ (Mem.wfFrom_filter p rest (k + 1) hr.2)

theorem Mem.wfFrom_drop (k : Nat) : ∀ (r : Mem) (b : Nat), Mem.wfFrom b r = true → Mem.wfFrom b (Mem.drop r k) = true
  | [], _, _ => rfl
  | (k', w) :: rest, b, hr => by
    simp only [Mem.wfFrom, Bool.and_eq_true, decide_eq_true_eq] at hr
    simp only [Mem.drop]
    split
    · exact Mem.wfFrom_mono (by omega) _ (Mem.wfFrom_drop k rest (k' + 1) hr.2)
    · simp only [Mem.wfFrom, Bool.and_eq_true, decide_eq_true_eq]
      exact ⟨hr.1, Mem.wfFrom_drop k rest (k' + 1) hr.2⟩

theorem Mem.wfFrom_insert (k : Nat) (w : Byte) (hw : w ≠ Mem.blank) :
    ∀ (r : Mem) (b : Nat), b ≤ k → Mem.wfFrom b r = true → Mem.wfFrom b (Mem.insert r k w) = true
  | [], b, hb, _ => by simp [Mem.insert, Mem.wfFrom, hb, hw]
  | (k', w') :: rest, b, hb, hr => by
    simp only [Mem.wfFrom, Bool.and_eq_true, decide_eq_true_eq, bne_iff_ne, ne_eq] at hr
    simp only [Mem.insert]
    split
    · simp only [Mem.wfFrom, Bool.and_eq_true, decide_eq_true_eq, bne_iff_ne, ne_eq]
      exact ⟨⟨hb, hw⟩, ⟨⟨by omega, hr.1.2⟩, hr.2⟩⟩
    · split
      · simp only [Mem.wfFrom, Bool.and_eq_true, decide_eq_true_eq, bne_iff_ne, ne_eq]
        rename_i _ h2
        exact ⟨⟨hb, hw⟩, h2 ▸ hr.2⟩
      · simp only [Mem.wfFrom, Bool.and_eq_true, decide_eq_true_eq, bne_iff_ne, ne_eq]
        exact ⟨hr.1, Mem.wfFrom_insert k w hw rest (k' + 1) (by omega) hr.2⟩

/-- A write keeps the canonical form. -/
theorem Mem.wf_set (r : Mem) (k : Nat) (w : Byte) (h : r.wf = true) : (Mem.set r k w).wf = true := by
  unfold Mem.set Mem.wf
  split
  · exact Mem.wfFrom_drop k r 0 h
  · exact Mem.wfFrom_insert k w ‹_› r 0 (by omega) h

/-- Selecting entries keeps the canonical form. -/
theorem RegFile.wf_keep (r : RegFile) (p : Nat → Bool) (h : r.wf = true) : (r.keep p).wf = true := RegFile.wfFrom_filter _ r 0 h

theorem RegFile.wf_filter (r : RegFile) (p : Nat × Word → Bool) (h : r.wf = true) : RegFile.wf (r.filter p) = true := RegFile.wfFrom_filter p r 0 h

theorem Mem.wf_sets (bs : List Byte) : ∀ (m : Mem) (a : Nat), m.wf = true → (Mem.sets m a bs).wf = true := by
  induction bs with
  | nil => intro m a h; exact h
  | cons b rest ih => intro m a h; exact ih _ _ (Mem.wf_set m a b h)

theorem Mem.wf_clear (m : Mem) (a n : Nat) (h : m.wf = true) : (Mem.clear m a n).wf = true := Mem.wfFrom_filter _ m 0 h

theorem Mem.get_sets_below (bs : List Byte) : ∀ (m : Mem) (a j : Nat), j < a → (Mem.sets m a bs).get j = m.get j := by
  induction bs with
  | nil => intro m a j _; rfl
  | cons b rest ih =>
    intro m a j h
    simp only [Mem.sets]
    rw [ih _ _ _ (by omega), Mem.get_set, if_neg (by omega)]

/-- Bytes written: each at its place, and every other address as it was. -/
theorem Mem.get_sets (bs : List Byte) : ∀ (m : Mem) (a j : Nat),
    (Mem.sets m a bs).get j = if a ≤ j ∧ j < a + bs.length then bs.getD (j - a) Mem.blank else m.get j := by
  induction bs with
  | nil => intro m a j; rw [Mem.sets, if_neg]; simp
  | cons b rest ih =>
    intro m a j
    simp only [Mem.sets, ih, Mem.get_set, List.length_cons]
    by_cases h : j = a
    · subst h; simp
    · by_cases h2 : a + 1 ≤ j ∧ j < a + 1 + rest.length
      · have h3 : a ≤ j ∧ j < a + (rest.length + 1) := by omega
        have h4 : j - a = (j - (a + 1)) + 1 := by omega
        rw [if_pos h2, if_pos h3, h4, List.getD_cons_succ]
      · have h3 : ¬ (a ≤ j ∧ j < a + (rest.length + 1)) := by omega
        rw [if_neg h2, if_neg h3, if_neg h]

/-! ### Tables -/

theorem Tab.find_del {α : Type} (t : Tab α) (k j : Nat) : (Tab.del t k).find j = if j = k then none else t.find j := by
  induction t with
  | nil => simp [Tab.del, Tab.find]
  | cons e rest ih =>
    obtain ⟨k', v⟩ := e
    by_cases hk : k' = k
    · rw [Tab.del, if_pos hk, ih, Tab.find]
      split <;> simp_all
    · rw [Tab.del, if_neg hk, Tab.find, ih, Tab.find]
      split <;> simp_all

/-- A read of a table after a write. -/
theorem Tab.find_set {α : Type} (t : Tab α) (k j : Nat) (v : α) : (Tab.set t k v).find j = if j = k then some v else t.find j := by
  induction t with
  | nil => simp [Tab.set, Tab.find]
  | cons e rest ih =>
    obtain ⟨k', v'⟩ := e
    simp only [Tab.set]
    split
    · by_cases h : j = k <;> simp [Tab.find, h]
    · split
      · rename_i _ h2
        by_cases h : j = k <;> simp [Tab.find, h, ← h2]
      · rw [Tab.find, ih, Tab.find]
        split <;> simp_all
        omega

theorem Tab.getD_set {α : Type} (t : Tab α) (k j : Nat) (v d : α) : (Tab.set t k v).getD j d = if j = k then v else t.getD j d := by
  unfold Tab.getD
  rw [Tab.find_set]
  split <;> rfl

theorem risingFrom_mono {α : Type} {b c : Nat} (h : c ≤ b) : ∀ (t : Tab α), risingFrom b t = true → risingFrom c t = true
  | [], _ => rfl
  | (k, v) :: rest, ht => by
    simp only [risingFrom, Bool.and_eq_true, decide_eq_true_eq] at ht ⊢
    exact ⟨by omega, ht.2⟩

theorem risingFrom_set {α : Type} (k : Nat) (v : α) : ∀ (t : Tab α) (b : Nat), b ≤ k → risingFrom b t = true → risingFrom b (Tab.set t k v) = true
  | [], b, hb, _ => by simp [Tab.set, risingFrom, hb]
  | (k', v') :: rest, b, hb, ht => by
    simp only [risingFrom, Bool.and_eq_true, decide_eq_true_eq] at ht
    simp only [Tab.set]
    split
    · simp only [risingFrom, Bool.and_eq_true, decide_eq_true_eq]
      exact ⟨hb, by omega, ht.2⟩
    · split
      · simp only [risingFrom, Bool.and_eq_true, decide_eq_true_eq]
        rename_i _ h2
        exact ⟨hb, h2 ▸ ht.2⟩
      · simp only [risingFrom, Bool.and_eq_true, decide_eq_true_eq]
        exact ⟨ht.1, risingFrom_set k v rest (k' + 1) (by omega) ht.2⟩

theorem risingFrom_del {α : Type} (k : Nat) : ∀ (t : Tab α) (b : Nat), risingFrom b t = true → risingFrom b (Tab.del t k) = true
  | [], _, _ => rfl
  | (k', v) :: rest, b, ht => by
    simp only [risingFrom, Bool.and_eq_true, decide_eq_true_eq] at ht
    simp only [Tab.del]
    split
    · exact risingFrom_mono (by omega) _ (risingFrom_del k rest (k' + 1) ht.2)
    · simp only [risingFrom, Bool.and_eq_true, decide_eq_true_eq]
      exact ⟨ht.1, risingFrom_del k rest (k' + 1) ht.2⟩

end Sys2Proof.Machine
end

