-- ==== Sys2Proof/Laws/State.lean ====
section
/-!
SUPPORT. One lemma per field of the state for each primitive update, true by computation; and reading a unit or a field of a register after a write of one.
-/
namespace Sys2Proof.Machine
set_option Elab.async false
open Sys2Proof

variable (s : State)

@[simp] theorem State.setReg_regs (k : Nat) (w : Word) : (s.setReg k w).regs = s.regs.set k w := rfl
@[simp] theorem State.setReg_act (k : Nat) (w : Word) : (s.setReg k w).act = s.act := rfl
@[simp] theorem State.setReg_tim (k : Nat) (w : Word) : (s.setReg k w).tim = s.tim := rfl
@[simp] theorem State.setReg_acs (k : Nat) (w : Word) : (s.setReg k w).acs = s.acs := rfl
@[simp] theorem State.setReg_las (k : Nat) (w : Word) : (s.setReg k w).las = s.las := rfl
@[simp] theorem State.setReg_lanes (k : Nat) (w : Word) : (s.setReg k w).lanes = s.lanes := rfl
@[simp] theorem State.setReg_banks (k : Nat) (w : Word) : (s.setReg k w).banks = s.banks := rfl
@[simp] theorem State.setReg_ports (k : Nat) (w : Word) : (s.setReg k w).ports = s.ports := rfl
@[simp] theorem State.setReg_links (k : Nat) (w : Word) : (s.setReg k w).links = s.links := rfl
@[simp] theorem State.setReg_routes (k : Nat) (w : Word) : (s.setReg k w).routes = s.routes := rfl
@[simp] theorem State.setReg_sole (k : Nat) (w : Word) : (s.setReg k w).sole = s.sole := rfl
@[simp] theorem State.setReg_homes (k : Nat) (w : Word) : (s.setReg k w).homes = s.homes := rfl
@[simp] theorem State.setReg_lwt (k : Nat) (w : Word) : (s.setReg k w).lwt = s.lwt := rfl
@[simp] theorem State.setReg_ins (k : Nat) (w : Word) : (s.setReg k w).ins = s.ins := rfl
@[simp] theorem State.setReg_mgt (k : Nat) (w : Word) : (s.setReg k w).mgt = s.mgt := rfl
@[simp] theorem State.setReg_flt (k : Nat) (w : Word) : (s.setReg k w).flt = s.flt := rfl
@[simp] theorem State.setReg_bnd (k : Nat) (w : Word) : (s.setReg k w).bnd = s.bnd := rfl
@[simp] theorem State.setReg_cob (k : Nat) (w : Word) : (s.setReg k w).cob = s.cob := rfl
@[simp] theorem State.setReg_vmp (k : Nat) (w : Word) : (s.setReg k w).vmp = s.vmp := rfl
@[simp] theorem State.setReg_sec (k : Nat) (w : Word) : (s.setReg k w).sec = s.sec := rfl
@[simp] theorem State.setReg_cnt (k : Nat) (w : Word) : (s.setReg k w).cnt = s.cnt := rfl
@[simp] theorem State.setReg_pwr (k : Nat) (w : Word) : (s.setReg k w).pwr = s.pwr := rfl
@[simp] theorem State.setReg_mdl (k : Nat) (w : Word) : (s.setReg k w).mdl = s.mdl := rfl
@[simp] theorem State.setReg_out (k : Nat) (w : Word) : (s.setReg k w).out = s.out := rfl
@[simp] theorem State.setReg_freeCtr (k : Nat) (w : Word) : (s.setReg k w).freeCtr = s.freeCtr := rfl
@[simp] theorem State.setReg_pending (k : Nat) (w : Word) : (s.setReg k w).pending = s.pending := rfl

@[simp] theorem State.setAct_regs (k : Nat) (w : Word) : (s.setAct k w).regs = s.regs := rfl
@[simp] theorem State.setAct_act (k : Nat) (w : Word) : (s.setAct k w).act = s.act.set k w := rfl
@[simp] theorem State.setAct_tim (k : Nat) (w : Word) : (s.setAct k w).tim = s.tim := rfl
@[simp] theorem State.setAct_acs (k : Nat) (w : Word) : (s.setAct k w).acs = s.acs := rfl
@[simp] theorem State.setAct_las (k : Nat) (w : Word) : (s.setAct k w).las = s.las := rfl
@[simp] theorem State.setAct_lanes (k : Nat) (w : Word) : (s.setAct k w).lanes = s.lanes := rfl
@[simp] theorem State.setAct_banks (k : Nat) (w : Word) : (s.setAct k w).banks = s.banks := rfl
@[simp] theorem State.setAct_ports (k : Nat) (w : Word) : (s.setAct k w).ports = s.ports := rfl
@[simp] theorem State.setAct_links (k : Nat) (w : Word) : (s.setAct k w).links = s.links := rfl
@[simp] theorem State.setAct_routes (k : Nat) (w : Word) : (s.setAct k w).routes = s.routes := rfl
@[simp] theorem State.setAct_sole (k : Nat) (w : Word) : (s.setAct k w).sole = s.sole := rfl
@[simp] theorem State.setAct_homes (k : Nat) (w : Word) : (s.setAct k w).homes = s.homes := rfl
@[simp] theorem State.setAct_lwt (k : Nat) (w : Word) : (s.setAct k w).lwt = s.lwt := rfl
@[simp] theorem State.setAct_ins (k : Nat) (w : Word) : (s.setAct k w).ins = s.ins := rfl
@[simp] theorem State.setAct_mgt (k : Nat) (w : Word) : (s.setAct k w).mgt = s.mgt := rfl
@[simp] theorem State.setAct_flt (k : Nat) (w : Word) : (s.setAct k w).flt = s.flt := rfl
@[simp] theorem State.setAct_bnd (k : Nat) (w : Word) : (s.setAct k w).bnd = s.bnd := rfl
@[simp] theorem State.setAct_cob (k : Nat) (w : Word) : (s.setAct k w).cob = s.cob := rfl
@[simp] theorem State.setAct_vmp (k : Nat) (w : Word) : (s.setAct k w).vmp = s.vmp := rfl
@[simp] theorem State.setAct_sec (k : Nat) (w : Word) : (s.setAct k w).sec = s.sec := rfl
@[simp] theorem State.setAct_cnt (k : Nat) (w : Word) : (s.setAct k w).cnt = s.cnt := rfl
@[simp] theorem State.setAct_pwr (k : Nat) (w : Word) : (s.setAct k w).pwr = s.pwr := rfl
@[simp] theorem State.setAct_mdl (k : Nat) (w : Word) : (s.setAct k w).mdl = s.mdl := rfl
@[simp] theorem State.setAct_out (k : Nat) (w : Word) : (s.setAct k w).out = s.out := rfl
@[simp] theorem State.setAct_freeCtr (k : Nat) (w : Word) : (s.setAct k w).freeCtr = s.freeCtr := rfl
@[simp] theorem State.setAct_pending (k : Nat) (w : Word) : (s.setAct k w).pending = s.pending := rfl

@[simp] theorem State.setLane_regs (b l : Nat) (f : LaneSt → LaneSt) : (s.setLane b l f).regs = s.regs := rfl
@[simp] theorem State.setLane_act (b l : Nat) (f : LaneSt → LaneSt) : (s.setLane b l f).act = s.act := rfl
@[simp] theorem State.setLane_tim (b l : Nat) (f : LaneSt → LaneSt) : (s.setLane b l f).tim = s.tim := rfl
@[simp] theorem State.setLane_acs (b l : Nat) (f : LaneSt → LaneSt) : (s.setLane b l f).acs = s.acs := rfl
@[simp] theorem State.setLane_las (b l : Nat) (f : LaneSt → LaneSt) : (s.setLane b l f).las = s.las := rfl
@[simp] theorem State.setLane_lanes (b l : Nat) (f : LaneSt → LaneSt) : (s.setLane b l f).lanes = s.lanes.set (laneKey b l) (f (s.lane b l)) := rfl
@[simp] theorem State.setLane_banks (b l : Nat) (f : LaneSt → LaneSt) : (s.setLane b l f).banks = s.banks := rfl
@[simp] theorem State.setLane_ports (b l : Nat) (f : LaneSt → LaneSt) : (s.setLane b l f).ports = s.ports := rfl
@[simp] theorem State.setLane_links (b l : Nat) (f : LaneSt → LaneSt) : (s.setLane b l f).links = s.links := rfl
@[simp] theorem State.setLane_routes (b l : Nat) (f : LaneSt → LaneSt) : (s.setLane b l f).routes = s.routes := rfl
@[simp] theorem State.setLane_sole (b l : Nat) (f : LaneSt → LaneSt) : (s.setLane b l f).sole = s.sole := rfl
@[simp] theorem State.setLane_homes (b l : Nat) (f : LaneSt → LaneSt) : (s.setLane b l f).homes = s.homes := rfl
@[simp] theorem State.setLane_lwt (b l : Nat) (f : LaneSt → LaneSt) : (s.setLane b l f).lwt = s.lwt := rfl
@[simp] theorem State.setLane_ins (b l : Nat) (f : LaneSt → LaneSt) : (s.setLane b l f).ins = s.ins := rfl
@[simp] theorem State.setLane_mgt (b l : Nat) (f : LaneSt → LaneSt) : (s.setLane b l f).mgt = s.mgt := rfl
@[simp] theorem State.setLane_flt (b l : Nat) (f : LaneSt → LaneSt) : (s.setLane b l f).flt = s.flt := rfl
@[simp] theorem State.setLane_bnd (b l : Nat) (f : LaneSt → LaneSt) : (s.setLane b l f).bnd = s.bnd := rfl
@[simp] theorem State.setLane_cob (b l : Nat) (f : LaneSt → LaneSt) : (s.setLane b l f).cob = s.cob := rfl
@[simp] theorem State.setLane_vmp (b l : Nat) (f : LaneSt → LaneSt) : (s.setLane b l f).vmp = s.vmp := rfl
@[simp] theorem State.setLane_sec (b l : Nat) (f : LaneSt → LaneSt) : (s.setLane b l f).sec = s.sec := rfl
@[simp] theorem State.setLane_cnt (b l : Nat) (f : LaneSt → LaneSt) : (s.setLane b l f).cnt = s.cnt := rfl
@[simp] theorem State.setLane_pwr (b l : Nat) (f : LaneSt → LaneSt) : (s.setLane b l f).pwr = s.pwr := rfl
@[simp] theorem State.setLane_mdl (b l : Nat) (f : LaneSt → LaneSt) : (s.setLane b l f).mdl = s.mdl := rfl
@[simp] theorem State.setLane_out (b l : Nat) (f : LaneSt → LaneSt) : (s.setLane b l f).out = s.out := rfl
@[simp] theorem State.setLane_freeCtr (b l : Nat) (f : LaneSt → LaneSt) : (s.setLane b l f).freeCtr = s.freeCtr := rfl
@[simp] theorem State.setLane_pending (b l : Nat) (f : LaneSt → LaneSt) : (s.setLane b l f).pending = s.pending := rfl

@[simp] theorem State.setBank_regs (n : Nat) (f : BankSt → BankSt) : (s.setBank n f).regs = s.regs := rfl
@[simp] theorem State.setBank_act (n : Nat) (f : BankSt → BankSt) : (s.setBank n f).act = s.act := rfl
@[simp] theorem State.setBank_tim (n : Nat) (f : BankSt → BankSt) : (s.setBank n f).tim = s.tim := rfl
@[simp] theorem State.setBank_acs (n : Nat) (f : BankSt → BankSt) : (s.setBank n f).acs = s.acs := rfl
@[simp] theorem State.setBank_las (n : Nat) (f : BankSt → BankSt) : (s.setBank n f).las = s.las := rfl
@[simp] theorem State.setBank_lanes (n : Nat) (f : BankSt → BankSt) : (s.setBank n f).lanes = s.lanes := rfl
@[simp] theorem State.setBank_banks (n : Nat) (f : BankSt → BankSt) : (s.setBank n f).banks = s.banks.set n (f (s.bank n)) := rfl
@[simp] theorem State.setBank_ports (n : Nat) (f : BankSt → BankSt) : (s.setBank n f).ports = s.ports := rfl
@[simp] theorem State.setBank_links (n : Nat) (f : BankSt → BankSt) : (s.setBank n f).links = s.links := rfl
@[simp] theorem State.setBank_routes (n : Nat) (f : BankSt → BankSt) : (s.setBank n f).routes = s.routes := rfl
@[simp] theorem State.setBank_sole (n : Nat) (f : BankSt → BankSt) : (s.setBank n f).sole = s.sole := rfl
@[simp] theorem State.setBank_homes (n : Nat) (f : BankSt → BankSt) : (s.setBank n f).homes = s.homes := rfl
@[simp] theorem State.setBank_lwt (n : Nat) (f : BankSt → BankSt) : (s.setBank n f).lwt = s.lwt := rfl
@[simp] theorem State.setBank_ins (n : Nat) (f : BankSt → BankSt) : (s.setBank n f).ins = s.ins := rfl
@[simp] theorem State.setBank_mgt (n : Nat) (f : BankSt → BankSt) : (s.setBank n f).mgt = s.mgt := rfl
@[simp] theorem State.setBank_flt (n : Nat) (f : BankSt → BankSt) : (s.setBank n f).flt = s.flt := rfl
@[simp] theorem State.setBank_bnd (n : Nat) (f : BankSt → BankSt) : (s.setBank n f).bnd = s.bnd := rfl
@[simp] theorem State.setBank_cob (n : Nat) (f : BankSt → BankSt) : (s.setBank n f).cob = s.cob := rfl
@[simp] theorem State.setBank_vmp (n : Nat) (f : BankSt → BankSt) : (s.setBank n f).vmp = s.vmp := rfl
@[simp] theorem State.setBank_sec (n : Nat) (f : BankSt → BankSt) : (s.setBank n f).sec = s.sec := rfl
@[simp] theorem State.setBank_cnt (n : Nat) (f : BankSt → BankSt) : (s.setBank n f).cnt = s.cnt := rfl
@[simp] theorem State.setBank_pwr (n : Nat) (f : BankSt → BankSt) : (s.setBank n f).pwr = s.pwr := rfl
@[simp] theorem State.setBank_mdl (n : Nat) (f : BankSt → BankSt) : (s.setBank n f).mdl = s.mdl := rfl
@[simp] theorem State.setBank_out (n : Nat) (f : BankSt → BankSt) : (s.setBank n f).out = s.out := rfl
@[simp] theorem State.setBank_freeCtr (n : Nat) (f : BankSt → BankSt) : (s.setBank n f).freeCtr = s.freeCtr := rfl
@[simp] theorem State.setBank_pending (n : Nat) (f : BankSt → BankSt) : (s.setBank n f).pending = s.pending := rfl

@[simp] theorem State.setPort_regs (n : Nat) (f : PortSt → PortSt) : (s.setPort n f).regs = s.regs := rfl
@[simp] theorem State.setPort_act (n : Nat) (f : PortSt → PortSt) : (s.setPort n f).act = s.act := rfl
@[simp] theorem State.setPort_tim (n : Nat) (f : PortSt → PortSt) : (s.setPort n f).tim = s.tim := rfl
@[simp] theorem State.setPort_acs (n : Nat) (f : PortSt → PortSt) : (s.setPort n f).acs = s.acs := rfl
@[simp] theorem State.setPort_las (n : Nat) (f : PortSt → PortSt) : (s.setPort n f).las = s.las := rfl
@[simp] theorem State.setPort_lanes (n : Nat) (f : PortSt → PortSt) : (s.setPort n f).lanes = s.lanes := rfl
@[simp] theorem State.setPort_banks (n : Nat) (f : PortSt → PortSt) : (s.setPort n f).banks = s.banks := rfl
@[simp] theorem State.setPort_ports (n : Nat) (f : PortSt → PortSt) : (s.setPort n f).ports = s.ports.set n (f (s.port n)) := rfl
@[simp] theorem State.setPort_links (n : Nat) (f : PortSt → PortSt) : (s.setPort n f).links = s.links := rfl
@[simp] theorem State.setPort_routes (n : Nat) (f : PortSt → PortSt) : (s.setPort n f).routes = s.routes := rfl
@[simp] theorem State.setPort_sole (n : Nat) (f : PortSt → PortSt) : (s.setPort n f).sole = s.sole := rfl
@[simp] theorem State.setPort_homes (n : Nat) (f : PortSt → PortSt) : (s.setPort n f).homes = s.homes := rfl
@[simp] theorem State.setPort_lwt (n : Nat) (f : PortSt → PortSt) : (s.setPort n f).lwt = s.lwt := rfl
@[simp] theorem State.setPort_ins (n : Nat) (f : PortSt → PortSt) : (s.setPort n f).ins = s.ins := rfl
@[simp] theorem State.setPort_mgt (n : Nat) (f : PortSt → PortSt) : (s.setPort n f).mgt = s.mgt := rfl
@[simp] theorem State.setPort_flt (n : Nat) (f : PortSt → PortSt) : (s.setPort n f).flt = s.flt := rfl
@[simp] theorem State.setPort_bnd (n : Nat) (f : PortSt → PortSt) : (s.setPort n f).bnd = s.bnd := rfl
@[simp] theorem State.setPort_cob (n : Nat) (f : PortSt → PortSt) : (s.setPort n f).cob = s.cob := rfl
@[simp] theorem State.setPort_vmp (n : Nat) (f : PortSt → PortSt) : (s.setPort n f).vmp = s.vmp := rfl
@[simp] theorem State.setPort_sec (n : Nat) (f : PortSt → PortSt) : (s.setPort n f).sec = s.sec := rfl
@[simp] theorem State.setPort_cnt (n : Nat) (f : PortSt → PortSt) : (s.setPort n f).cnt = s.cnt := rfl
@[simp] theorem State.setPort_pwr (n : Nat) (f : PortSt → PortSt) : (s.setPort n f).pwr = s.pwr := rfl
@[simp] theorem State.setPort_mdl (n : Nat) (f : PortSt → PortSt) : (s.setPort n f).mdl = s.mdl := rfl
@[simp] theorem State.setPort_out (n : Nat) (f : PortSt → PortSt) : (s.setPort n f).out = s.out := rfl
@[simp] theorem State.setPort_freeCtr (n : Nat) (f : PortSt → PortSt) : (s.setPort n f).freeCtr = s.freeCtr := rfl
@[simp] theorem State.setPort_pending (n : Nat) (f : PortSt → PortSt) : (s.setPort n f).pending = s.pending := rfl

@[simp] theorem State.setLink_regs (n : Nat) (f : LinkSt → LinkSt) : (s.setLink n f).regs = s.regs := rfl
@[simp] theorem State.setLink_act (n : Nat) (f : LinkSt → LinkSt) : (s.setLink n f).act = s.act := rfl
@[simp] theorem State.setLink_tim (n : Nat) (f : LinkSt → LinkSt) : (s.setLink n f).tim = s.tim := rfl
@[simp] theorem State.setLink_acs (n : Nat) (f : LinkSt → LinkSt) : (s.setLink n f).acs = s.acs := rfl
@[simp] theorem State.setLink_las (n : Nat) (f : LinkSt → LinkSt) : (s.setLink n f).las = s.las := rfl
@[simp] theorem State.setLink_lanes (n : Nat) (f : LinkSt → LinkSt) : (s.setLink n f).lanes = s.lanes := rfl
@[simp] theorem State.setLink_banks (n : Nat) (f : LinkSt → LinkSt) : (s.setLink n f).banks = s.banks := rfl
@[simp] theorem State.setLink_ports (n : Nat) (f : LinkSt → LinkSt) : (s.setLink n f).ports = s.ports := rfl
@[simp] theorem State.setLink_links (n : Nat) (f : LinkSt → LinkSt) : (s.setLink n f).links = s.links.set n (f (s.link n)) := rfl
@[simp] theorem State.setLink_routes (n : Nat) (f : LinkSt → LinkSt) : (s.setLink n f).routes = s.routes := rfl
@[simp] theorem State.setLink_sole (n : Nat) (f : LinkSt → LinkSt) : (s.setLink n f).sole = s.sole := rfl
@[simp] theorem State.setLink_homes (n : Nat) (f : LinkSt → LinkSt) : (s.setLink n f).homes = s.homes := rfl
@[simp] theorem State.setLink_lwt (n : Nat) (f : LinkSt → LinkSt) : (s.setLink n f).lwt = s.lwt := rfl
@[simp] theorem State.setLink_ins (n : Nat) (f : LinkSt → LinkSt) : (s.setLink n f).ins = s.ins := rfl
@[simp] theorem State.setLink_mgt (n : Nat) (f : LinkSt → LinkSt) : (s.setLink n f).mgt = s.mgt := rfl
@[simp] theorem State.setLink_flt (n : Nat) (f : LinkSt → LinkSt) : (s.setLink n f).flt = s.flt := rfl
@[simp] theorem State.setLink_bnd (n : Nat) (f : LinkSt → LinkSt) : (s.setLink n f).bnd = s.bnd := rfl
@[simp] theorem State.setLink_cob (n : Nat) (f : LinkSt → LinkSt) : (s.setLink n f).cob = s.cob := rfl
@[simp] theorem State.setLink_vmp (n : Nat) (f : LinkSt → LinkSt) : (s.setLink n f).vmp = s.vmp := rfl
@[simp] theorem State.setLink_sec (n : Nat) (f : LinkSt → LinkSt) : (s.setLink n f).sec = s.sec := rfl
@[simp] theorem State.setLink_cnt (n : Nat) (f : LinkSt → LinkSt) : (s.setLink n f).cnt = s.cnt := rfl
@[simp] theorem State.setLink_pwr (n : Nat) (f : LinkSt → LinkSt) : (s.setLink n f).pwr = s.pwr := rfl
@[simp] theorem State.setLink_mdl (n : Nat) (f : LinkSt → LinkSt) : (s.setLink n f).mdl = s.mdl := rfl
@[simp] theorem State.setLink_out (n : Nat) (f : LinkSt → LinkSt) : (s.setLink n f).out = s.out := rfl
@[simp] theorem State.setLink_freeCtr (n : Nat) (f : LinkSt → LinkSt) : (s.setLink n f).freeCtr = s.freeCtr := rfl
@[simp] theorem State.setLink_pending (n : Nat) (f : LinkSt → LinkSt) : (s.setLink n f).pending = s.pending := rfl

@[simp] theorem State.setRoute_regs (n : Nat) (f : RouteSt → RouteSt) : (s.setRoute n f).regs = s.regs := rfl
@[simp] theorem State.setRoute_act (n : Nat) (f : RouteSt → RouteSt) : (s.setRoute n f).act = s.act := rfl
@[simp] theorem State.setRoute_tim (n : Nat) (f : RouteSt → RouteSt) : (s.setRoute n f).tim = s.tim := rfl
@[simp] theorem State.setRoute_acs (n : Nat) (f : RouteSt → RouteSt) : (s.setRoute n f).acs = s.acs := rfl
@[simp] theorem State.setRoute_las (n : Nat) (f : RouteSt → RouteSt) : (s.setRoute n f).las = s.las := rfl
@[simp] theorem State.setRoute_lanes (n : Nat) (f : RouteSt → RouteSt) : (s.setRoute n f).lanes = s.lanes := rfl
@[simp] theorem State.setRoute_banks (n : Nat) (f : RouteSt → RouteSt) : (s.setRoute n f).banks = s.banks := rfl
@[simp] theorem State.setRoute_ports (n : Nat) (f : RouteSt → RouteSt) : (s.setRoute n f).ports = s.ports := rfl
@[simp] theorem State.setRoute_links (n : Nat) (f : RouteSt → RouteSt) : (s.setRoute n f).links = s.links := rfl
@[simp] theorem State.setRoute_routes (n : Nat) (f : RouteSt → RouteSt) : (s.setRoute n f).routes = s.routes.set n (f (s.route n)) := rfl
@[simp] theorem State.setRoute_sole (n : Nat) (f : RouteSt → RouteSt) : (s.setRoute n f).sole = s.sole := rfl
@[simp] theorem State.setRoute_homes (n : Nat) (f : RouteSt → RouteSt) : (s.setRoute n f).homes = s.homes := rfl
@[simp] theorem State.setRoute_lwt (n : Nat) (f : RouteSt → RouteSt) : (s.setRoute n f).lwt = s.lwt := rfl
@[simp] theorem State.setRoute_ins (n : Nat) (f : RouteSt → RouteSt) : (s.setRoute n f).ins = s.ins := rfl
@[simp] theorem State.setRoute_mgt (n : Nat) (f : RouteSt → RouteSt) : (s.setRoute n f).mgt = s.mgt := rfl
@[simp] theorem State.setRoute_flt (n : Nat) (f : RouteSt → RouteSt) : (s.setRoute n f).flt = s.flt := rfl
@[simp] theorem State.setRoute_bnd (n : Nat) (f : RouteSt → RouteSt) : (s.setRoute n f).bnd = s.bnd := rfl
@[simp] theorem State.setRoute_cob (n : Nat) (f : RouteSt → RouteSt) : (s.setRoute n f).cob = s.cob := rfl
@[simp] theorem State.setRoute_vmp (n : Nat) (f : RouteSt → RouteSt) : (s.setRoute n f).vmp = s.vmp := rfl
@[simp] theorem State.setRoute_sec (n : Nat) (f : RouteSt → RouteSt) : (s.setRoute n f).sec = s.sec := rfl
@[simp] theorem State.setRoute_cnt (n : Nat) (f : RouteSt → RouteSt) : (s.setRoute n f).cnt = s.cnt := rfl
@[simp] theorem State.setRoute_pwr (n : Nat) (f : RouteSt → RouteSt) : (s.setRoute n f).pwr = s.pwr := rfl
@[simp] theorem State.setRoute_mdl (n : Nat) (f : RouteSt → RouteSt) : (s.setRoute n f).mdl = s.mdl := rfl
@[simp] theorem State.setRoute_out (n : Nat) (f : RouteSt → RouteSt) : (s.setRoute n f).out = s.out := rfl
@[simp] theorem State.setRoute_freeCtr (n : Nat) (f : RouteSt → RouteSt) : (s.setRoute n f).freeCtr = s.freeCtr := rfl
@[simp] theorem State.setRoute_pending (n : Nat) (f : RouteSt → RouteSt) : (s.setRoute n f).pending = s.pending := rfl

@[simp] theorem State.setHome_regs (n : Nat) (f : HomeSt → HomeSt) : (s.setHome n f).regs = s.regs := rfl
@[simp] theorem State.setHome_act (n : Nat) (f : HomeSt → HomeSt) : (s.setHome n f).act = s.act := rfl
@[simp] theorem State.setHome_tim (n : Nat) (f : HomeSt → HomeSt) : (s.setHome n f).tim = s.tim := rfl
@[simp] theorem State.setHome_acs (n : Nat) (f : HomeSt → HomeSt) : (s.setHome n f).acs = s.acs := rfl
@[simp] theorem State.setHome_las (n : Nat) (f : HomeSt → HomeSt) : (s.setHome n f).las = s.las := rfl
@[simp] theorem State.setHome_lanes (n : Nat) (f : HomeSt → HomeSt) : (s.setHome n f).lanes = s.lanes := rfl
@[simp] theorem State.setHome_banks (n : Nat) (f : HomeSt → HomeSt) : (s.setHome n f).banks = s.banks := rfl
@[simp] theorem State.setHome_ports (n : Nat) (f : HomeSt → HomeSt) : (s.setHome n f).ports = s.ports := rfl
@[simp] theorem State.setHome_links (n : Nat) (f : HomeSt → HomeSt) : (s.setHome n f).links = s.links := rfl
@[simp] theorem State.setHome_routes (n : Nat) (f : HomeSt → HomeSt) : (s.setHome n f).routes = s.routes := rfl
@[simp] theorem State.setHome_sole (n : Nat) (f : HomeSt → HomeSt) : (s.setHome n f).sole = s.sole := rfl
@[simp] theorem State.setHome_homes (n : Nat) (f : HomeSt → HomeSt) : (s.setHome n f).homes = s.homes.set n (f (s.home n)) := rfl
@[simp] theorem State.setHome_lwt (n : Nat) (f : HomeSt → HomeSt) : (s.setHome n f).lwt = s.lwt := rfl
@[simp] theorem State.setHome_ins (n : Nat) (f : HomeSt → HomeSt) : (s.setHome n f).ins = s.ins := rfl
@[simp] theorem State.setHome_mgt (n : Nat) (f : HomeSt → HomeSt) : (s.setHome n f).mgt = s.mgt := rfl
@[simp] theorem State.setHome_flt (n : Nat) (f : HomeSt → HomeSt) : (s.setHome n f).flt = s.flt := rfl
@[simp] theorem State.setHome_bnd (n : Nat) (f : HomeSt → HomeSt) : (s.setHome n f).bnd = s.bnd := rfl
@[simp] theorem State.setHome_cob (n : Nat) (f : HomeSt → HomeSt) : (s.setHome n f).cob = s.cob := rfl
@[simp] theorem State.setHome_vmp (n : Nat) (f : HomeSt → HomeSt) : (s.setHome n f).vmp = s.vmp := rfl
@[simp] theorem State.setHome_sec (n : Nat) (f : HomeSt → HomeSt) : (s.setHome n f).sec = s.sec := rfl
@[simp] theorem State.setHome_cnt (n : Nat) (f : HomeSt → HomeSt) : (s.setHome n f).cnt = s.cnt := rfl
@[simp] theorem State.setHome_pwr (n : Nat) (f : HomeSt → HomeSt) : (s.setHome n f).pwr = s.pwr := rfl
@[simp] theorem State.setHome_mdl (n : Nat) (f : HomeSt → HomeSt) : (s.setHome n f).mdl = s.mdl := rfl
@[simp] theorem State.setHome_out (n : Nat) (f : HomeSt → HomeSt) : (s.setHome n f).out = s.out := rfl
@[simp] theorem State.setHome_freeCtr (n : Nat) (f : HomeSt → HomeSt) : (s.setHome n f).freeCtr = s.freeCtr := rfl
@[simp] theorem State.setHome_pending (n : Nat) (f : HomeSt → HomeSt) : (s.setHome n f).pending = s.pending := rfl

@[simp] theorem State.setIns_regs (f : InsSt → InsSt) : (s.setIns f).regs = s.regs := rfl
@[simp] theorem State.setIns_act (f : InsSt → InsSt) : (s.setIns f).act = s.act := rfl
@[simp] theorem State.setIns_tim (f : InsSt → InsSt) : (s.setIns f).tim = s.tim := rfl
@[simp] theorem State.setIns_acs (f : InsSt → InsSt) : (s.setIns f).acs = s.acs := rfl
@[simp] theorem State.setIns_las (f : InsSt → InsSt) : (s.setIns f).las = s.las := rfl
@[simp] theorem State.setIns_lanes (f : InsSt → InsSt) : (s.setIns f).lanes = s.lanes := rfl
@[simp] theorem State.setIns_banks (f : InsSt → InsSt) : (s.setIns f).banks = s.banks := rfl
@[simp] theorem State.setIns_ports (f : InsSt → InsSt) : (s.setIns f).ports = s.ports := rfl
@[simp] theorem State.setIns_links (f : InsSt → InsSt) : (s.setIns f).links = s.links := rfl
@[simp] theorem State.setIns_routes (f : InsSt → InsSt) : (s.setIns f).routes = s.routes := rfl
@[simp] theorem State.setIns_sole (f : InsSt → InsSt) : (s.setIns f).sole = s.sole := rfl
@[simp] theorem State.setIns_homes (f : InsSt → InsSt) : (s.setIns f).homes = s.homes := rfl
@[simp] theorem State.setIns_lwt (f : InsSt → InsSt) : (s.setIns f).lwt = s.lwt := rfl
@[simp] theorem State.setIns_ins (f : InsSt → InsSt) : (s.setIns f).ins = f s.ins := rfl
@[simp] theorem State.setIns_mgt (f : InsSt → InsSt) : (s.setIns f).mgt = s.mgt := rfl
@[simp] theorem State.setIns_flt (f : InsSt → InsSt) : (s.setIns f).flt = s.flt := rfl
@[simp] theorem State.setIns_bnd (f : InsSt → InsSt) : (s.setIns f).bnd = s.bnd := rfl
@[simp] theorem State.setIns_cob (f : InsSt → InsSt) : (s.setIns f).cob = s.cob := rfl
@[simp] theorem State.setIns_vmp (f : InsSt → InsSt) : (s.setIns f).vmp = s.vmp := rfl
@[simp] theorem State.setIns_sec (f : InsSt → InsSt) : (s.setIns f).sec = s.sec := rfl
@[simp] theorem State.setIns_cnt (f : InsSt → InsSt) : (s.setIns f).cnt = s.cnt := rfl
@[simp] theorem State.setIns_pwr (f : InsSt → InsSt) : (s.setIns f).pwr = s.pwr := rfl
@[simp] theorem State.setIns_mdl (f : InsSt → InsSt) : (s.setIns f).mdl = s.mdl := rfl
@[simp] theorem State.setIns_out (f : InsSt → InsSt) : (s.setIns f).out = s.out := rfl
@[simp] theorem State.setIns_freeCtr (f : InsSt → InsSt) : (s.setIns f).freeCtr = s.freeCtr := rfl
@[simp] theorem State.setIns_pending (f : InsSt → InsSt) : (s.setIns f).pending = s.pending := rfl

@[simp] theorem State.setMgt_regs (f : MgtSt → MgtSt) : (s.setMgt f).regs = s.regs := rfl
@[simp] theorem State.setMgt_act (f : MgtSt → MgtSt) : (s.setMgt f).act = s.act := rfl
@[simp] theorem State.setMgt_tim (f : MgtSt → MgtSt) : (s.setMgt f).tim = s.tim := rfl
@[simp] theorem State.setMgt_acs (f : MgtSt → MgtSt) : (s.setMgt f).acs = s.acs := rfl
@[simp] theorem State.setMgt_las (f : MgtSt → MgtSt) : (s.setMgt f).las = s.las := rfl
@[simp] theorem State.setMgt_lanes (f : MgtSt → MgtSt) : (s.setMgt f).lanes = s.lanes := rfl
@[simp] theorem State.setMgt_banks (f : MgtSt → MgtSt) : (s.setMgt f).banks = s.banks := rfl
@[simp] theorem State.setMgt_ports (f : MgtSt → MgtSt) : (s.setMgt f).ports = s.ports := rfl
@[simp] theorem State.setMgt_links (f : MgtSt → MgtSt) : (s.setMgt f).links = s.links := rfl
@[simp] theorem State.setMgt_routes (f : MgtSt → MgtSt) : (s.setMgt f).routes = s.routes := rfl
@[simp] theorem State.setMgt_sole (f : MgtSt → MgtSt) : (s.setMgt f).sole = s.sole := rfl
@[simp] theorem State.setMgt_homes (f : MgtSt → MgtSt) : (s.setMgt f).homes = s.homes := rfl
@[simp] theorem State.setMgt_lwt (f : MgtSt → MgtSt) : (s.setMgt f).lwt = s.lwt := rfl
@[simp] theorem State.setMgt_ins (f : MgtSt → MgtSt) : (s.setMgt f).ins = s.ins := rfl
@[simp] theorem State.setMgt_mgt (f : MgtSt → MgtSt) : (s.setMgt f).mgt = f s.mgt := rfl
@[simp] theorem State.setMgt_flt (f : MgtSt → MgtSt) : (s.setMgt f).flt = s.flt := rfl
@[simp] theorem State.setMgt_bnd (f : MgtSt → MgtSt) : (s.setMgt f).bnd = s.bnd := rfl
@[simp] theorem State.setMgt_cob (f : MgtSt → MgtSt) : (s.setMgt f).cob = s.cob := rfl
@[simp] theorem State.setMgt_vmp (f : MgtSt → MgtSt) : (s.setMgt f).vmp = s.vmp := rfl
@[simp] theorem State.setMgt_sec (f : MgtSt → MgtSt) : (s.setMgt f).sec = s.sec := rfl
@[simp] theorem State.setMgt_cnt (f : MgtSt → MgtSt) : (s.setMgt f).cnt = s.cnt := rfl
@[simp] theorem State.setMgt_pwr (f : MgtSt → MgtSt) : (s.setMgt f).pwr = s.pwr := rfl
@[simp] theorem State.setMgt_mdl (f : MgtSt → MgtSt) : (s.setMgt f).mdl = s.mdl := rfl
@[simp] theorem State.setMgt_out (f : MgtSt → MgtSt) : (s.setMgt f).out = s.out := rfl
@[simp] theorem State.setMgt_freeCtr (f : MgtSt → MgtSt) : (s.setMgt f).freeCtr = s.freeCtr := rfl
@[simp] theorem State.setMgt_pending (f : MgtSt → MgtSt) : (s.setMgt f).pending = s.pending := rfl

@[simp] theorem State.setTim_regs (f : TimeSt → TimeSt) : (s.setTim f).regs = s.regs := rfl
@[simp] theorem State.setTim_act (f : TimeSt → TimeSt) : (s.setTim f).act = s.act := rfl
@[simp] theorem State.setTim_tim (f : TimeSt → TimeSt) : (s.setTim f).tim = f s.tim := rfl
@[simp] theorem State.setTim_acs (f : TimeSt → TimeSt) : (s.setTim f).acs = s.acs := rfl
@[simp] theorem State.setTim_las (f : TimeSt → TimeSt) : (s.setTim f).las = s.las := rfl
@[simp] theorem State.setTim_lanes (f : TimeSt → TimeSt) : (s.setTim f).lanes = s.lanes := rfl
@[simp] theorem State.setTim_banks (f : TimeSt → TimeSt) : (s.setTim f).banks = s.banks := rfl
@[simp] theorem State.setTim_ports (f : TimeSt → TimeSt) : (s.setTim f).ports = s.ports := rfl
@[simp] theorem State.setTim_links (f : TimeSt → TimeSt) : (s.setTim f).links = s.links := rfl
@[simp] theorem State.setTim_routes (f : TimeSt → TimeSt) : (s.setTim f).routes = s.routes := rfl
@[simp] theorem State.setTim_sole (f : TimeSt → TimeSt) : (s.setTim f).sole = s.sole := rfl
@[simp] theorem State.setTim_homes (f : TimeSt → TimeSt) : (s.setTim f).homes = s.homes := rfl
@[simp] theorem State.setTim_lwt (f : TimeSt → TimeSt) : (s.setTim f).lwt = s.lwt := rfl
@[simp] theorem State.setTim_ins (f : TimeSt → TimeSt) : (s.setTim f).ins = s.ins := rfl
@[simp] theorem State.setTim_mgt (f : TimeSt → TimeSt) : (s.setTim f).mgt = s.mgt := rfl
@[simp] theorem State.setTim_flt (f : TimeSt → TimeSt) : (s.setTim f).flt = s.flt := rfl
@[simp] theorem State.setTim_bnd (f : TimeSt → TimeSt) : (s.setTim f).bnd = s.bnd := rfl
@[simp] theorem State.setTim_cob (f : TimeSt → TimeSt) : (s.setTim f).cob = s.cob := rfl
@[simp] theorem State.setTim_vmp (f : TimeSt → TimeSt) : (s.setTim f).vmp = s.vmp := rfl
@[simp] theorem State.setTim_sec (f : TimeSt → TimeSt) : (s.setTim f).sec = s.sec := rfl
@[simp] theorem State.setTim_cnt (f : TimeSt → TimeSt) : (s.setTim f).cnt = s.cnt := rfl
@[simp] theorem State.setTim_pwr (f : TimeSt → TimeSt) : (s.setTim f).pwr = s.pwr := rfl
@[simp] theorem State.setTim_mdl (f : TimeSt → TimeSt) : (s.setTim f).mdl = s.mdl := rfl
@[simp] theorem State.setTim_out (f : TimeSt → TimeSt) : (s.setTim f).out = s.out := rfl
@[simp] theorem State.setTim_freeCtr (f : TimeSt → TimeSt) : (s.setTim f).freeCtr = s.freeCtr := rfl
@[simp] theorem State.setTim_pending (f : TimeSt → TimeSt) : (s.setTim f).pending = s.pending := rfl

@[simp] theorem State.setAcs_regs (f : AccessSt → AccessSt) : (s.setAcs f).regs = s.regs := rfl
@[simp] theorem State.setAcs_act (f : AccessSt → AccessSt) : (s.setAcs f).act = s.act := rfl
@[simp] theorem State.setAcs_tim (f : AccessSt → AccessSt) : (s.setAcs f).tim = s.tim := rfl
@[simp] theorem State.setAcs_acs (f : AccessSt → AccessSt) : (s.setAcs f).acs = f s.acs := rfl
@[simp] theorem State.setAcs_las (f : AccessSt → AccessSt) : (s.setAcs f).las = s.las := rfl
@[simp] theorem State.setAcs_lanes (f : AccessSt → AccessSt) : (s.setAcs f).lanes = s.lanes := rfl
@[simp] theorem State.setAcs_banks (f : AccessSt → AccessSt) : (s.setAcs f).banks = s.banks := rfl
@[simp] theorem State.setAcs_ports (f : AccessSt → AccessSt) : (s.setAcs f).ports = s.ports := rfl
@[simp] theorem State.setAcs_links (f : AccessSt → AccessSt) : (s.setAcs f).links = s.links := rfl
@[simp] theorem State.setAcs_routes (f : AccessSt → AccessSt) : (s.setAcs f).routes = s.routes := rfl
@[simp] theorem State.setAcs_sole (f : AccessSt → AccessSt) : (s.setAcs f).sole = s.sole := rfl
@[simp] theorem State.setAcs_homes (f : AccessSt → AccessSt) : (s.setAcs f).homes = s.homes := rfl
@[simp] theorem State.setAcs_lwt (f : AccessSt → AccessSt) : (s.setAcs f).lwt = s.lwt := rfl
@[simp] theorem State.setAcs_ins (f : AccessSt → AccessSt) : (s.setAcs f).ins = s.ins := rfl
@[simp] theorem State.setAcs_mgt (f : AccessSt → AccessSt) : (s.setAcs f).mgt = s.mgt := rfl
@[simp] theorem State.setAcs_flt (f : AccessSt → AccessSt) : (s.setAcs f).flt = s.flt := rfl
@[simp] theorem State.setAcs_bnd (f : AccessSt → AccessSt) : (s.setAcs f).bnd = s.bnd := rfl
@[simp] theorem State.setAcs_cob (f : AccessSt → AccessSt) : (s.setAcs f).cob = s.cob := rfl
@[simp] theorem State.setAcs_vmp (f : AccessSt → AccessSt) : (s.setAcs f).vmp = s.vmp := rfl
@[simp] theorem State.setAcs_sec (f : AccessSt → AccessSt) : (s.setAcs f).sec = s.sec := rfl
@[simp] theorem State.setAcs_cnt (f : AccessSt → AccessSt) : (s.setAcs f).cnt = s.cnt := rfl
@[simp] theorem State.setAcs_pwr (f : AccessSt → AccessSt) : (s.setAcs f).pwr = s.pwr := rfl
@[simp] theorem State.setAcs_mdl (f : AccessSt → AccessSt) : (s.setAcs f).mdl = s.mdl := rfl
@[simp] theorem State.setAcs_out (f : AccessSt → AccessSt) : (s.setAcs f).out = s.out := rfl
@[simp] theorem State.setAcs_freeCtr (f : AccessSt → AccessSt) : (s.setAcs f).freeCtr = s.freeCtr := rfl
@[simp] theorem State.setAcs_pending (f : AccessSt → AccessSt) : (s.setAcs f).pending = s.pending := rfl

@[simp] theorem State.setLas_regs (f : LastSt → LastSt) : (s.setLas f).regs = s.regs := rfl
@[simp] theorem State.setLas_act (f : LastSt → LastSt) : (s.setLas f).act = s.act := rfl
@[simp] theorem State.setLas_tim (f : LastSt → LastSt) : (s.setLas f).tim = s.tim := rfl
@[simp] theorem State.setLas_acs (f : LastSt → LastSt) : (s.setLas f).acs = s.acs := rfl
@[simp] theorem State.setLas_las (f : LastSt → LastSt) : (s.setLas f).las = f s.las := rfl
@[simp] theorem State.setLas_lanes (f : LastSt → LastSt) : (s.setLas f).lanes = s.lanes := rfl
@[simp] theorem State.setLas_banks (f : LastSt → LastSt) : (s.setLas f).banks = s.banks := rfl
@[simp] theorem State.setLas_ports (f : LastSt → LastSt) : (s.setLas f).ports = s.ports := rfl
@[simp] theorem State.setLas_links (f : LastSt → LastSt) : (s.setLas f).links = s.links := rfl
@[simp] theorem State.setLas_routes (f : LastSt → LastSt) : (s.setLas f).routes = s.routes := rfl
@[simp] theorem State.setLas_sole (f : LastSt → LastSt) : (s.setLas f).sole = s.sole := rfl
@[simp] theorem State.setLas_homes (f : LastSt → LastSt) : (s.setLas f).homes = s.homes := rfl
@[simp] theorem State.setLas_lwt (f : LastSt → LastSt) : (s.setLas f).lwt = s.lwt := rfl
@[simp] theorem State.setLas_ins (f : LastSt → LastSt) : (s.setLas f).ins = s.ins := rfl
@[simp] theorem State.setLas_mgt (f : LastSt → LastSt) : (s.setLas f).mgt = s.mgt := rfl
@[simp] theorem State.setLas_flt (f : LastSt → LastSt) : (s.setLas f).flt = s.flt := rfl
@[simp] theorem State.setLas_bnd (f : LastSt → LastSt) : (s.setLas f).bnd = s.bnd := rfl
@[simp] theorem State.setLas_cob (f : LastSt → LastSt) : (s.setLas f).cob = s.cob := rfl
@[simp] theorem State.setLas_vmp (f : LastSt → LastSt) : (s.setLas f).vmp = s.vmp := rfl
@[simp] theorem State.setLas_sec (f : LastSt → LastSt) : (s.setLas f).sec = s.sec := rfl
@[simp] theorem State.setLas_cnt (f : LastSt → LastSt) : (s.setLas f).cnt = s.cnt := rfl
@[simp] theorem State.setLas_pwr (f : LastSt → LastSt) : (s.setLas f).pwr = s.pwr := rfl
@[simp] theorem State.setLas_mdl (f : LastSt → LastSt) : (s.setLas f).mdl = s.mdl := rfl
@[simp] theorem State.setLas_out (f : LastSt → LastSt) : (s.setLas f).out = s.out := rfl
@[simp] theorem State.setLas_freeCtr (f : LastSt → LastSt) : (s.setLas f).freeCtr = s.freeCtr := rfl
@[simp] theorem State.setLas_pending (f : LastSt → LastSt) : (s.setLas f).pending = s.pending := rfl

@[simp] theorem State.setSole_regs (f : SoleSt → SoleSt) : (s.setSole f).regs = s.regs := rfl
@[simp] theorem State.setSole_act (f : SoleSt → SoleSt) : (s.setSole f).act = s.act := rfl
@[simp] theorem State.setSole_tim (f : SoleSt → SoleSt) : (s.setSole f).tim = s.tim := rfl
@[simp] theorem State.setSole_acs (f : SoleSt → SoleSt) : (s.setSole f).acs = s.acs := rfl
@[simp] theorem State.setSole_las (f : SoleSt → SoleSt) : (s.setSole f).las = s.las := rfl
@[simp] theorem State.setSole_lanes (f : SoleSt → SoleSt) : (s.setSole f).lanes = s.lanes := rfl
@[simp] theorem State.setSole_banks (f : SoleSt → SoleSt) : (s.setSole f).banks = s.banks := rfl
@[simp] theorem State.setSole_ports (f : SoleSt → SoleSt) : (s.setSole f).ports = s.ports := rfl
@[simp] theorem State.setSole_links (f : SoleSt → SoleSt) : (s.setSole f).links = s.links := rfl
@[simp] theorem State.setSole_routes (f : SoleSt → SoleSt) : (s.setSole f).routes = s.routes := rfl
@[simp] theorem State.setSole_sole (f : SoleSt → SoleSt) : (s.setSole f).sole = f s.sole := rfl
@[simp] theorem State.setSole_homes (f : SoleSt → SoleSt) : (s.setSole f).homes = s.homes := rfl
@[simp] theorem State.setSole_lwt (f : SoleSt → SoleSt) : (s.setSole f).lwt = s.lwt := rfl
@[simp] theorem State.setSole_ins (f : SoleSt → SoleSt) : (s.setSole f).ins = s.ins := rfl
@[simp] theorem State.setSole_mgt (f : SoleSt → SoleSt) : (s.setSole f).mgt = s.mgt := rfl
@[simp] theorem State.setSole_flt (f : SoleSt → SoleSt) : (s.setSole f).flt = s.flt := rfl
@[simp] theorem State.setSole_bnd (f : SoleSt → SoleSt) : (s.setSole f).bnd = s.bnd := rfl
@[simp] theorem State.setSole_cob (f : SoleSt → SoleSt) : (s.setSole f).cob = s.cob := rfl
@[simp] theorem State.setSole_vmp (f : SoleSt → SoleSt) : (s.setSole f).vmp = s.vmp := rfl
@[simp] theorem State.setSole_sec (f : SoleSt → SoleSt) : (s.setSole f).sec = s.sec := rfl
@[simp] theorem State.setSole_cnt (f : SoleSt → SoleSt) : (s.setSole f).cnt = s.cnt := rfl
@[simp] theorem State.setSole_pwr (f : SoleSt → SoleSt) : (s.setSole f).pwr = s.pwr := rfl
@[simp] theorem State.setSole_mdl (f : SoleSt → SoleSt) : (s.setSole f).mdl = s.mdl := rfl
@[simp] theorem State.setSole_out (f : SoleSt → SoleSt) : (s.setSole f).out = s.out := rfl
@[simp] theorem State.setSole_freeCtr (f : SoleSt → SoleSt) : (s.setSole f).freeCtr = s.freeCtr := rfl
@[simp] theorem State.setSole_pending (f : SoleSt → SoleSt) : (s.setSole f).pending = s.pending := rfl

@[simp] theorem State.setPwr_regs (f : PwrSt → PwrSt) : (s.setPwr f).regs = s.regs := rfl
@[simp] theorem State.setPwr_act (f : PwrSt → PwrSt) : (s.setPwr f).act = s.act := rfl
@[simp] theorem State.setPwr_tim (f : PwrSt → PwrSt) : (s.setPwr f).tim = s.tim := rfl
@[simp] theorem State.setPwr_acs (f : PwrSt → PwrSt) : (s.setPwr f).acs = s.acs := rfl
@[simp] theorem State.setPwr_las (f : PwrSt → PwrSt) : (s.setPwr f).las = s.las := rfl
@[simp] theorem State.setPwr_lanes (f : PwrSt → PwrSt) : (s.setPwr f).lanes = s.lanes := rfl
@[simp] theorem State.setPwr_banks (f : PwrSt → PwrSt) : (s.setPwr f).banks = s.banks := rfl
@[simp] theorem State.setPwr_ports (f : PwrSt → PwrSt) : (s.setPwr f).ports = s.ports := rfl
@[simp] theorem State.setPwr_links (f : PwrSt → PwrSt) : (s.setPwr f).links = s.links := rfl
@[simp] theorem State.setPwr_routes (f : PwrSt → PwrSt) : (s.setPwr f).routes = s.routes := rfl
@[simp] theorem State.setPwr_sole (f : PwrSt → PwrSt) : (s.setPwr f).sole = s.sole := rfl
@[simp] theorem State.setPwr_homes (f : PwrSt → PwrSt) : (s.setPwr f).homes = s.homes := rfl
@[simp] theorem State.setPwr_lwt (f : PwrSt → PwrSt) : (s.setPwr f).lwt = s.lwt := rfl
@[simp] theorem State.setPwr_ins (f : PwrSt → PwrSt) : (s.setPwr f).ins = s.ins := rfl
@[simp] theorem State.setPwr_mgt (f : PwrSt → PwrSt) : (s.setPwr f).mgt = s.mgt := rfl
@[simp] theorem State.setPwr_flt (f : PwrSt → PwrSt) : (s.setPwr f).flt = s.flt := rfl
@[simp] theorem State.setPwr_bnd (f : PwrSt → PwrSt) : (s.setPwr f).bnd = s.bnd := rfl
@[simp] theorem State.setPwr_cob (f : PwrSt → PwrSt) : (s.setPwr f).cob = s.cob := rfl
@[simp] theorem State.setPwr_vmp (f : PwrSt → PwrSt) : (s.setPwr f).vmp = s.vmp := rfl
@[simp] theorem State.setPwr_sec (f : PwrSt → PwrSt) : (s.setPwr f).sec = s.sec := rfl
@[simp] theorem State.setPwr_cnt (f : PwrSt → PwrSt) : (s.setPwr f).cnt = s.cnt := rfl
@[simp] theorem State.setPwr_pwr (f : PwrSt → PwrSt) : (s.setPwr f).pwr = f s.pwr := rfl
@[simp] theorem State.setPwr_mdl (f : PwrSt → PwrSt) : (s.setPwr f).mdl = s.mdl := rfl
@[simp] theorem State.setPwr_out (f : PwrSt → PwrSt) : (s.setPwr f).out = s.out := rfl
@[simp] theorem State.setPwr_freeCtr (f : PwrSt → PwrSt) : (s.setPwr f).freeCtr = s.freeCtr := rfl
@[simp] theorem State.setPwr_pending (f : PwrSt → PwrSt) : (s.setPwr f).pending = s.pending := rfl

@[simp] theorem State.setMdl_regs (f : ModSt → ModSt) : (s.setMdl f).regs = s.regs := rfl
@[simp] theorem State.setMdl_act (f : ModSt → ModSt) : (s.setMdl f).act = s.act := rfl
@[simp] theorem State.setMdl_tim (f : ModSt → ModSt) : (s.setMdl f).tim = s.tim := rfl
@[simp] theorem State.setMdl_acs (f : ModSt → ModSt) : (s.setMdl f).acs = s.acs := rfl
@[simp] theorem State.setMdl_las (f : ModSt → ModSt) : (s.setMdl f).las = s.las := rfl
@[simp] theorem State.setMdl_lanes (f : ModSt → ModSt) : (s.setMdl f).lanes = s.lanes := rfl
@[simp] theorem State.setMdl_banks (f : ModSt → ModSt) : (s.setMdl f).banks = s.banks := rfl
@[simp] theorem State.setMdl_ports (f : ModSt → ModSt) : (s.setMdl f).ports = s.ports := rfl
@[simp] theorem State.setMdl_links (f : ModSt → ModSt) : (s.setMdl f).links = s.links := rfl
@[simp] theorem State.setMdl_routes (f : ModSt → ModSt) : (s.setMdl f).routes = s.routes := rfl
@[simp] theorem State.setMdl_sole (f : ModSt → ModSt) : (s.setMdl f).sole = s.sole := rfl
@[simp] theorem State.setMdl_homes (f : ModSt → ModSt) : (s.setMdl f).homes = s.homes := rfl
@[simp] theorem State.setMdl_lwt (f : ModSt → ModSt) : (s.setMdl f).lwt = s.lwt := rfl
@[simp] theorem State.setMdl_ins (f : ModSt → ModSt) : (s.setMdl f).ins = s.ins := rfl
@[simp] theorem State.setMdl_mgt (f : ModSt → ModSt) : (s.setMdl f).mgt = s.mgt := rfl
@[simp] theorem State.setMdl_flt (f : ModSt → ModSt) : (s.setMdl f).flt = s.flt := rfl
@[simp] theorem State.setMdl_bnd (f : ModSt → ModSt) : (s.setMdl f).bnd = s.bnd := rfl
@[simp] theorem State.setMdl_cob (f : ModSt → ModSt) : (s.setMdl f).cob = s.cob := rfl
@[simp] theorem State.setMdl_vmp (f : ModSt → ModSt) : (s.setMdl f).vmp = s.vmp := rfl
@[simp] theorem State.setMdl_sec (f : ModSt → ModSt) : (s.setMdl f).sec = s.sec := rfl
@[simp] theorem State.setMdl_cnt (f : ModSt → ModSt) : (s.setMdl f).cnt = s.cnt := rfl
@[simp] theorem State.setMdl_pwr (f : ModSt → ModSt) : (s.setMdl f).pwr = s.pwr := rfl
@[simp] theorem State.setMdl_mdl (f : ModSt → ModSt) : (s.setMdl f).mdl = f s.mdl := rfl
@[simp] theorem State.setMdl_out (f : ModSt → ModSt) : (s.setMdl f).out = s.out := rfl
@[simp] theorem State.setMdl_freeCtr (f : ModSt → ModSt) : (s.setMdl f).freeCtr = s.freeCtr := rfl
@[simp] theorem State.setMdl_pending (f : ModSt → ModSt) : (s.setMdl f).pending = s.pending := rfl

@[simp] theorem State.setFlt_regs (f : FltSt → FltSt) : (s.setFlt f).regs = s.regs := rfl
@[simp] theorem State.setFlt_act (f : FltSt → FltSt) : (s.setFlt f).act = s.act := rfl
@[simp] theorem State.setFlt_tim (f : FltSt → FltSt) : (s.setFlt f).tim = s.tim := rfl
@[simp] theorem State.setFlt_acs (f : FltSt → FltSt) : (s.setFlt f).acs = s.acs := rfl
@[simp] theorem State.setFlt_las (f : FltSt → FltSt) : (s.setFlt f).las = s.las := rfl
@[simp] theorem State.setFlt_lanes (f : FltSt → FltSt) : (s.setFlt f).lanes = s.lanes := rfl
@[simp] theorem State.setFlt_banks (f : FltSt → FltSt) : (s.setFlt f).banks = s.banks := rfl
@[simp] theorem State.setFlt_ports (f : FltSt → FltSt) : (s.setFlt f).ports = s.ports := rfl
@[simp] theorem State.setFlt_links (f : FltSt → FltSt) : (s.setFlt f).links = s.links := rfl
@[simp] theorem State.setFlt_routes (f : FltSt → FltSt) : (s.setFlt f).routes = s.routes := rfl
@[simp] theorem State.setFlt_sole (f : FltSt → FltSt) : (s.setFlt f).sole = s.sole := rfl
@[simp] theorem State.setFlt_homes (f : FltSt → FltSt) : (s.setFlt f).homes = s.homes := rfl
@[simp] theorem State.setFlt_lwt (f : FltSt → FltSt) : (s.setFlt f).lwt = s.lwt := rfl
@[simp] theorem State.setFlt_ins (f : FltSt → FltSt) : (s.setFlt f).ins = s.ins := rfl
@[simp] theorem State.setFlt_mgt (f : FltSt → FltSt) : (s.setFlt f).mgt = s.mgt := rfl
@[simp] theorem State.setFlt_flt (f : FltSt → FltSt) : (s.setFlt f).flt = f s.flt := rfl
@[simp] theorem State.setFlt_bnd (f : FltSt → FltSt) : (s.setFlt f).bnd = s.bnd := rfl
@[simp] theorem State.setFlt_cob (f : FltSt → FltSt) : (s.setFlt f).cob = s.cob := rfl
@[simp] theorem State.setFlt_vmp (f : FltSt → FltSt) : (s.setFlt f).vmp = s.vmp := rfl
@[simp] theorem State.setFlt_sec (f : FltSt → FltSt) : (s.setFlt f).sec = s.sec := rfl
@[simp] theorem State.setFlt_cnt (f : FltSt → FltSt) : (s.setFlt f).cnt = s.cnt := rfl
@[simp] theorem State.setFlt_pwr (f : FltSt → FltSt) : (s.setFlt f).pwr = s.pwr := rfl
@[simp] theorem State.setFlt_mdl (f : FltSt → FltSt) : (s.setFlt f).mdl = s.mdl := rfl
@[simp] theorem State.setFlt_out (f : FltSt → FltSt) : (s.setFlt f).out = s.out := rfl
@[simp] theorem State.setFlt_freeCtr (f : FltSt → FltSt) : (s.setFlt f).freeCtr = s.freeCtr := rfl
@[simp] theorem State.setFlt_pending (f : FltSt → FltSt) : (s.setFlt f).pending = s.pending := rfl

@[simp] theorem State.setBnd_regs (f : BndSt → BndSt) : (s.setBnd f).regs = s.regs := rfl
@[simp] theorem State.setBnd_act (f : BndSt → BndSt) : (s.setBnd f).act = s.act := rfl
@[simp] theorem State.setBnd_tim (f : BndSt → BndSt) : (s.setBnd f).tim = s.tim := rfl
@[simp] theorem State.setBnd_acs (f : BndSt → BndSt) : (s.setBnd f).acs = s.acs := rfl
@[simp] theorem State.setBnd_las (f : BndSt → BndSt) : (s.setBnd f).las = s.las := rfl
@[simp] theorem State.setBnd_lanes (f : BndSt → BndSt) : (s.setBnd f).lanes = s.lanes := rfl
@[simp] theorem State.setBnd_banks (f : BndSt → BndSt) : (s.setBnd f).banks = s.banks := rfl
@[simp] theorem State.setBnd_ports (f : BndSt → BndSt) : (s.setBnd f).ports = s.ports := rfl
@[simp] theorem State.setBnd_links (f : BndSt → BndSt) : (s.setBnd f).links = s.links := rfl
@[simp] theorem State.setBnd_routes (f : BndSt → BndSt) : (s.setBnd f).routes = s.routes := rfl
@[simp] theorem State.setBnd_sole (f : BndSt → BndSt) : (s.setBnd f).sole = s.sole := rfl
@[simp] theorem State.setBnd_homes (f : BndSt → BndSt) : (s.setBnd f).homes = s.homes := rfl
@[simp] theorem State.setBnd_lwt (f : BndSt → BndSt) : (s.setBnd f).lwt = s.lwt := rfl
@[simp] theorem State.setBnd_ins (f : BndSt → BndSt) : (s.setBnd f).ins = s.ins := rfl
@[simp] theorem State.setBnd_mgt (f : BndSt → BndSt) : (s.setBnd f).mgt = s.mgt := rfl
@[simp] theorem State.setBnd_flt (f : BndSt → BndSt) : (s.setBnd f).flt = s.flt := rfl
@[simp] theorem State.setBnd_bnd (f : BndSt → BndSt) : (s.setBnd f).bnd = f s.bnd := rfl
@[simp] theorem State.setBnd_cob (f : BndSt → BndSt) : (s.setBnd f).cob = s.cob := rfl
@[simp] theorem State.setBnd_vmp (f : BndSt → BndSt) : (s.setBnd f).vmp = s.vmp := rfl
@[simp] theorem State.setBnd_sec (f : BndSt → BndSt) : (s.setBnd f).sec = s.sec := rfl
@[simp] theorem State.setBnd_cnt (f : BndSt → BndSt) : (s.setBnd f).cnt = s.cnt := rfl
@[simp] theorem State.setBnd_pwr (f : BndSt → BndSt) : (s.setBnd f).pwr = s.pwr := rfl
@[simp] theorem State.setBnd_mdl (f : BndSt → BndSt) : (s.setBnd f).mdl = s.mdl := rfl
@[simp] theorem State.setBnd_out (f : BndSt → BndSt) : (s.setBnd f).out = s.out := rfl
@[simp] theorem State.setBnd_freeCtr (f : BndSt → BndSt) : (s.setBnd f).freeCtr = s.freeCtr := rfl
@[simp] theorem State.setBnd_pending (f : BndSt → BndSt) : (s.setBnd f).pending = s.pending := rfl

@[simp] theorem State.setCob_regs (f : CobSt → CobSt) : (s.setCob f).regs = s.regs := rfl
@[simp] theorem State.setCob_act (f : CobSt → CobSt) : (s.setCob f).act = s.act := rfl
@[simp] theorem State.setCob_tim (f : CobSt → CobSt) : (s.setCob f).tim = s.tim := rfl
@[simp] theorem State.setCob_acs (f : CobSt → CobSt) : (s.setCob f).acs = s.acs := rfl
@[simp] theorem State.setCob_las (f : CobSt → CobSt) : (s.setCob f).las = s.las := rfl
@[simp] theorem State.setCob_lanes (f : CobSt → CobSt) : (s.setCob f).lanes = s.lanes := rfl
@[simp] theorem State.setCob_banks (f : CobSt → CobSt) : (s.setCob f).banks = s.banks := rfl
@[simp] theorem State.setCob_ports (f : CobSt → CobSt) : (s.setCob f).ports = s.ports := rfl
@[simp] theorem State.setCob_links (f : CobSt → CobSt) : (s.setCob f).links = s.links := rfl
@[simp] theorem State.setCob_routes (f : CobSt → CobSt) : (s.setCob f).routes = s.routes := rfl
@[simp] theorem State.setCob_sole (f : CobSt → CobSt) : (s.setCob f).sole = s.sole := rfl
@[simp] theorem State.setCob_homes (f : CobSt → CobSt) : (s.setCob f).homes = s.homes := rfl
@[simp] theorem State.setCob_lwt (f : CobSt → CobSt) : (s.setCob f).lwt = s.lwt := rfl
@[simp] theorem State.setCob_ins (f : CobSt → CobSt) : (s.setCob f).ins = s.ins := rfl
@[simp] theorem State.setCob_mgt (f : CobSt → CobSt) : (s.setCob f).mgt = s.mgt := rfl
@[simp] theorem State.setCob_flt (f : CobSt → CobSt) : (s.setCob f).flt = s.flt := rfl
@[simp] theorem State.setCob_bnd (f : CobSt → CobSt) : (s.setCob f).bnd = s.bnd := rfl
@[simp] theorem State.setCob_cob (f : CobSt → CobSt) : (s.setCob f).cob = f s.cob := rfl
@[simp] theorem State.setCob_vmp (f : CobSt → CobSt) : (s.setCob f).vmp = s.vmp := rfl
@[simp] theorem State.setCob_sec (f : CobSt → CobSt) : (s.setCob f).sec = s.sec := rfl
@[simp] theorem State.setCob_cnt (f : CobSt → CobSt) : (s.setCob f).cnt = s.cnt := rfl
@[simp] theorem State.setCob_pwr (f : CobSt → CobSt) : (s.setCob f).pwr = s.pwr := rfl
@[simp] theorem State.setCob_mdl (f : CobSt → CobSt) : (s.setCob f).mdl = s.mdl := rfl
@[simp] theorem State.setCob_out (f : CobSt → CobSt) : (s.setCob f).out = s.out := rfl
@[simp] theorem State.setCob_freeCtr (f : CobSt → CobSt) : (s.setCob f).freeCtr = s.freeCtr := rfl
@[simp] theorem State.setCob_pending (f : CobSt → CobSt) : (s.setCob f).pending = s.pending := rfl

@[simp] theorem State.setVmp_regs (f : VampSt → VampSt) : (s.setVmp f).regs = s.regs := rfl
@[simp] theorem State.setVmp_act (f : VampSt → VampSt) : (s.setVmp f).act = s.act := rfl
@[simp] theorem State.setVmp_tim (f : VampSt → VampSt) : (s.setVmp f).tim = s.tim := rfl
@[simp] theorem State.setVmp_acs (f : VampSt → VampSt) : (s.setVmp f).acs = s.acs := rfl
@[simp] theorem State.setVmp_las (f : VampSt → VampSt) : (s.setVmp f).las = s.las := rfl
@[simp] theorem State.setVmp_lanes (f : VampSt → VampSt) : (s.setVmp f).lanes = s.lanes := rfl
@[simp] theorem State.setVmp_banks (f : VampSt → VampSt) : (s.setVmp f).banks = s.banks := rfl
@[simp] theorem State.setVmp_ports (f : VampSt → VampSt) : (s.setVmp f).ports = s.ports := rfl
@[simp] theorem State.setVmp_links (f : VampSt → VampSt) : (s.setVmp f).links = s.links := rfl
@[simp] theorem State.setVmp_routes (f : VampSt → VampSt) : (s.setVmp f).routes = s.routes := rfl
@[simp] theorem State.setVmp_sole (f : VampSt → VampSt) : (s.setVmp f).sole = s.sole := rfl
@[simp] theorem State.setVmp_homes (f : VampSt → VampSt) : (s.setVmp f).homes = s.homes := rfl
@[simp] theorem State.setVmp_lwt (f : VampSt → VampSt) : (s.setVmp f).lwt = s.lwt := rfl
@[simp] theorem State.setVmp_ins (f : VampSt → VampSt) : (s.setVmp f).ins = s.ins := rfl
@[simp] theorem State.setVmp_mgt (f : VampSt → VampSt) : (s.setVmp f).mgt = s.mgt := rfl
@[simp] theorem State.setVmp_flt (f : VampSt → VampSt) : (s.setVmp f).flt = s.flt := rfl
@[simp] theorem State.setVmp_bnd (f : VampSt → VampSt) : (s.setVmp f).bnd = s.bnd := rfl
@[simp] theorem State.setVmp_cob (f : VampSt → VampSt) : (s.setVmp f).cob = s.cob := rfl
@[simp] theorem State.setVmp_vmp (f : VampSt → VampSt) : (s.setVmp f).vmp = f s.vmp := rfl
@[simp] theorem State.setVmp_sec (f : VampSt → VampSt) : (s.setVmp f).sec = s.sec := rfl
@[simp] theorem State.setVmp_cnt (f : VampSt → VampSt) : (s.setVmp f).cnt = s.cnt := rfl
@[simp] theorem State.setVmp_pwr (f : VampSt → VampSt) : (s.setVmp f).pwr = s.pwr := rfl
@[simp] theorem State.setVmp_mdl (f : VampSt → VampSt) : (s.setVmp f).mdl = s.mdl := rfl
@[simp] theorem State.setVmp_out (f : VampSt → VampSt) : (s.setVmp f).out = s.out := rfl
@[simp] theorem State.setVmp_freeCtr (f : VampSt → VampSt) : (s.setVmp f).freeCtr = s.freeCtr := rfl
@[simp] theorem State.setVmp_pending (f : VampSt → VampSt) : (s.setVmp f).pending = s.pending := rfl

@[simp] theorem State.setSec_regs (f : SecSt → SecSt) : (s.setSec f).regs = s.regs := rfl
@[simp] theorem State.setSec_act (f : SecSt → SecSt) : (s.setSec f).act = s.act := rfl
@[simp] theorem State.setSec_tim (f : SecSt → SecSt) : (s.setSec f).tim = s.tim := rfl
@[simp] theorem State.setSec_acs (f : SecSt → SecSt) : (s.setSec f).acs = s.acs := rfl
@[simp] theorem State.setSec_las (f : SecSt → SecSt) : (s.setSec f).las = s.las := rfl
@[simp] theorem State.setSec_lanes (f : SecSt → SecSt) : (s.setSec f).lanes = s.lanes := rfl
@[simp] theorem State.setSec_banks (f : SecSt → SecSt) : (s.setSec f).banks = s.banks := rfl
@[simp] theorem State.setSec_ports (f : SecSt → SecSt) : (s.setSec f).ports = s.ports := rfl
@[simp] theorem State.setSec_links (f : SecSt → SecSt) : (s.setSec f).links = s.links := rfl
@[simp] theorem State.setSec_routes (f : SecSt → SecSt) : (s.setSec f).routes = s.routes := rfl
@[simp] theorem State.setSec_sole (f : SecSt → SecSt) : (s.setSec f).sole = s.sole := rfl
@[simp] theorem State.setSec_homes (f : SecSt → SecSt) : (s.setSec f).homes = s.homes := rfl
@[simp] theorem State.setSec_lwt (f : SecSt → SecSt) : (s.setSec f).lwt = s.lwt := rfl
@[simp] theorem State.setSec_ins (f : SecSt → SecSt) : (s.setSec f).ins = s.ins := rfl
@[simp] theorem State.setSec_mgt (f : SecSt → SecSt) : (s.setSec f).mgt = s.mgt := rfl
@[simp] theorem State.setSec_flt (f : SecSt → SecSt) : (s.setSec f).flt = s.flt := rfl
@[simp] theorem State.setSec_bnd (f : SecSt → SecSt) : (s.setSec f).bnd = s.bnd := rfl
@[simp] theorem State.setSec_cob (f : SecSt → SecSt) : (s.setSec f).cob = s.cob := rfl
@[simp] theorem State.setSec_vmp (f : SecSt → SecSt) : (s.setSec f).vmp = s.vmp := rfl
@[simp] theorem State.setSec_sec (f : SecSt → SecSt) : (s.setSec f).sec = f s.sec := rfl
@[simp] theorem State.setSec_cnt (f : SecSt → SecSt) : (s.setSec f).cnt = s.cnt := rfl
@[simp] theorem State.setSec_pwr (f : SecSt → SecSt) : (s.setSec f).pwr = s.pwr := rfl
@[simp] theorem State.setSec_mdl (f : SecSt → SecSt) : (s.setSec f).mdl = s.mdl := rfl
@[simp] theorem State.setSec_out (f : SecSt → SecSt) : (s.setSec f).out = s.out := rfl
@[simp] theorem State.setSec_freeCtr (f : SecSt → SecSt) : (s.setSec f).freeCtr = s.freeCtr := rfl
@[simp] theorem State.setSec_pending (f : SecSt → SecSt) : (s.setSec f).pending = s.pending := rfl

@[simp] theorem State.setCnt_regs (f : CntSt → CntSt) : (s.setCnt f).regs = s.regs := rfl
@[simp] theorem State.setCnt_act (f : CntSt → CntSt) : (s.setCnt f).act = s.act := rfl
@[simp] theorem State.setCnt_tim (f : CntSt → CntSt) : (s.setCnt f).tim = s.tim := rfl
@[simp] theorem State.setCnt_acs (f : CntSt → CntSt) : (s.setCnt f).acs = s.acs := rfl
@[simp] theorem State.setCnt_las (f : CntSt → CntSt) : (s.setCnt f).las = s.las := rfl
@[simp] theorem State.setCnt_lanes (f : CntSt → CntSt) : (s.setCnt f).lanes = s.lanes := rfl
@[simp] theorem State.setCnt_banks (f : CntSt → CntSt) : (s.setCnt f).banks = s.banks := rfl
@[simp] theorem State.setCnt_ports (f : CntSt → CntSt) : (s.setCnt f).ports = s.ports := rfl
@[simp] theorem State.setCnt_links (f : CntSt → CntSt) : (s.setCnt f).links = s.links := rfl
@[simp] theorem State.setCnt_routes (f : CntSt → CntSt) : (s.setCnt f).routes = s.routes := rfl
@[simp] theorem State.setCnt_sole (f : CntSt → CntSt) : (s.setCnt f).sole = s.sole := rfl
@[simp] theorem State.setCnt_homes (f : CntSt → CntSt) : (s.setCnt f).homes = s.homes := rfl
@[simp] theorem State.setCnt_lwt (f : CntSt → CntSt) : (s.setCnt f).lwt = s.lwt := rfl
@[simp] theorem State.setCnt_ins (f : CntSt → CntSt) : (s.setCnt f).ins = s.ins := rfl
@[simp] theorem State.setCnt_mgt (f : CntSt → CntSt) : (s.setCnt f).mgt = s.mgt := rfl
@[simp] theorem State.setCnt_flt (f : CntSt → CntSt) : (s.setCnt f).flt = s.flt := rfl
@[simp] theorem State.setCnt_bnd (f : CntSt → CntSt) : (s.setCnt f).bnd = s.bnd := rfl
@[simp] theorem State.setCnt_cob (f : CntSt → CntSt) : (s.setCnt f).cob = s.cob := rfl
@[simp] theorem State.setCnt_vmp (f : CntSt → CntSt) : (s.setCnt f).vmp = s.vmp := rfl
@[simp] theorem State.setCnt_sec (f : CntSt → CntSt) : (s.setCnt f).sec = s.sec := rfl
@[simp] theorem State.setCnt_cnt (f : CntSt → CntSt) : (s.setCnt f).cnt = f s.cnt := rfl
@[simp] theorem State.setCnt_pwr (f : CntSt → CntSt) : (s.setCnt f).pwr = s.pwr := rfl
@[simp] theorem State.setCnt_mdl (f : CntSt → CntSt) : (s.setCnt f).mdl = s.mdl := rfl
@[simp] theorem State.setCnt_out (f : CntSt → CntSt) : (s.setCnt f).out = s.out := rfl
@[simp] theorem State.setCnt_freeCtr (f : CntSt → CntSt) : (s.setCnt f).freeCtr = s.freeCtr := rfl
@[simp] theorem State.setCnt_pending (f : CntSt → CntSt) : (s.setCnt f).pending = s.pending := rfl

@[simp] theorem State.setLwt_regs (f : List LostWrite → List LostWrite) : (s.setLwt f).regs = s.regs := rfl
@[simp] theorem State.setLwt_act (f : List LostWrite → List LostWrite) : (s.setLwt f).act = s.act := rfl
@[simp] theorem State.setLwt_tim (f : List LostWrite → List LostWrite) : (s.setLwt f).tim = s.tim := rfl
@[simp] theorem State.setLwt_acs (f : List LostWrite → List LostWrite) : (s.setLwt f).acs = s.acs := rfl
@[simp] theorem State.setLwt_las (f : List LostWrite → List LostWrite) : (s.setLwt f).las = s.las := rfl
@[simp] theorem State.setLwt_lanes (f : List LostWrite → List LostWrite) : (s.setLwt f).lanes = s.lanes := rfl
@[simp] theorem State.setLwt_banks (f : List LostWrite → List LostWrite) : (s.setLwt f).banks = s.banks := rfl
@[simp] theorem State.setLwt_ports (f : List LostWrite → List LostWrite) : (s.setLwt f).ports = s.ports := rfl
@[simp] theorem State.setLwt_links (f : List LostWrite → List LostWrite) : (s.setLwt f).links = s.links := rfl
@[simp] theorem State.setLwt_routes (f : List LostWrite → List LostWrite) : (s.setLwt f).routes = s.routes := rfl
@[simp] theorem State.setLwt_sole (f : List LostWrite → List LostWrite) : (s.setLwt f).sole = s.sole := rfl
@[simp] theorem State.setLwt_homes (f : List LostWrite → List LostWrite) : (s.setLwt f).homes = s.homes := rfl
@[simp] theorem State.setLwt_lwt (f : List LostWrite → List LostWrite) : (s.setLwt f).lwt = f s.lwt := rfl
@[simp] theorem State.setLwt_ins (f : List LostWrite → List LostWrite) : (s.setLwt f).ins = s.ins := rfl
@[simp] theorem State.setLwt_mgt (f : List LostWrite → List LostWrite) : (s.setLwt f).mgt = s.mgt := rfl
@[simp] theorem State.setLwt_flt (f : List LostWrite → List LostWrite) : (s.setLwt f).flt = s.flt := rfl
@[simp] theorem State.setLwt_bnd (f : List LostWrite → List LostWrite) : (s.setLwt f).bnd = s.bnd := rfl
@[simp] theorem State.setLwt_cob (f : List LostWrite → List LostWrite) : (s.setLwt f).cob = s.cob := rfl
@[simp] theorem State.setLwt_vmp (f : List LostWrite → List LostWrite) : (s.setLwt f).vmp = s.vmp := rfl
@[simp] theorem State.setLwt_sec (f : List LostWrite → List LostWrite) : (s.setLwt f).sec = s.sec := rfl
@[simp] theorem State.setLwt_cnt (f : List LostWrite → List LostWrite) : (s.setLwt f).cnt = s.cnt := rfl
@[simp] theorem State.setLwt_pwr (f : List LostWrite → List LostWrite) : (s.setLwt f).pwr = s.pwr := rfl
@[simp] theorem State.setLwt_mdl (f : List LostWrite → List LostWrite) : (s.setLwt f).mdl = s.mdl := rfl
@[simp] theorem State.setLwt_out (f : List LostWrite → List LostWrite) : (s.setLwt f).out = s.out := rfl
@[simp] theorem State.setLwt_freeCtr (f : List LostWrite → List LostWrite) : (s.setLwt f).freeCtr = s.freeCtr := rfl
@[simp] theorem State.setLwt_pending (f : List LostWrite → List LostWrite) : (s.setLwt f).pending = s.pending := rfl

@[simp] theorem State.usedFree_regs : (s.usedFree).regs = s.regs := rfl
@[simp] theorem State.usedFree_act : (s.usedFree).act = s.act := rfl
@[simp] theorem State.usedFree_tim : (s.usedFree).tim = s.tim := rfl
@[simp] theorem State.usedFree_acs : (s.usedFree).acs = s.acs := rfl
@[simp] theorem State.usedFree_las : (s.usedFree).las = s.las := rfl
@[simp] theorem State.usedFree_lanes : (s.usedFree).lanes = s.lanes := rfl
@[simp] theorem State.usedFree_banks : (s.usedFree).banks = s.banks := rfl
@[simp] theorem State.usedFree_ports : (s.usedFree).ports = s.ports := rfl
@[simp] theorem State.usedFree_links : (s.usedFree).links = s.links := rfl
@[simp] theorem State.usedFree_routes : (s.usedFree).routes = s.routes := rfl
@[simp] theorem State.usedFree_sole : (s.usedFree).sole = s.sole := rfl
@[simp] theorem State.usedFree_homes : (s.usedFree).homes = s.homes := rfl
@[simp] theorem State.usedFree_lwt : (s.usedFree).lwt = s.lwt := rfl
@[simp] theorem State.usedFree_ins : (s.usedFree).ins = s.ins := rfl
@[simp] theorem State.usedFree_mgt : (s.usedFree).mgt = s.mgt := rfl
@[simp] theorem State.usedFree_flt : (s.usedFree).flt = s.flt := rfl
@[simp] theorem State.usedFree_bnd : (s.usedFree).bnd = s.bnd := rfl
@[simp] theorem State.usedFree_cob : (s.usedFree).cob = s.cob := rfl
@[simp] theorem State.usedFree_vmp : (s.usedFree).vmp = s.vmp := rfl
@[simp] theorem State.usedFree_sec : (s.usedFree).sec = s.sec := rfl
@[simp] theorem State.usedFree_cnt : (s.usedFree).cnt = s.cnt := rfl
@[simp] theorem State.usedFree_pwr : (s.usedFree).pwr = s.pwr := rfl
@[simp] theorem State.usedFree_mdl : (s.usedFree).mdl = s.mdl := rfl
@[simp] theorem State.usedFree_out : (s.usedFree).out = s.out := rfl
@[simp] theorem State.usedFree_freeCtr : (s.usedFree).freeCtr = s.freeCtr + 1 := rfl
@[simp] theorem State.usedFree_pending : (s.usedFree).pending = s.pending := rfl

@[simp] theorem State.send_regs (o : Out) : (s.send o).regs = s.regs := rfl
@[simp] theorem State.send_act (o : Out) : (s.send o).act = s.act := rfl
@[simp] theorem State.send_tim (o : Out) : (s.send o).tim = s.tim := rfl
@[simp] theorem State.send_acs (o : Out) : (s.send o).acs = s.acs := rfl
@[simp] theorem State.send_las (o : Out) : (s.send o).las = s.las := rfl
@[simp] theorem State.send_lanes (o : Out) : (s.send o).lanes = s.lanes := rfl
@[simp] theorem State.send_banks (o : Out) : (s.send o).banks = s.banks := rfl
@[simp] theorem State.send_ports (o : Out) : (s.send o).ports = s.ports := rfl
@[simp] theorem State.send_links (o : Out) : (s.send o).links = s.links := rfl
@[simp] theorem State.send_routes (o : Out) : (s.send o).routes = s.routes := rfl
@[simp] theorem State.send_sole (o : Out) : (s.send o).sole = s.sole := rfl
@[simp] theorem State.send_homes (o : Out) : (s.send o).homes = s.homes := rfl
@[simp] theorem State.send_lwt (o : Out) : (s.send o).lwt = s.lwt := rfl
@[simp] theorem State.send_ins (o : Out) : (s.send o).ins = s.ins := rfl
@[simp] theorem State.send_mgt (o : Out) : (s.send o).mgt = s.mgt := rfl
@[simp] theorem State.send_flt (o : Out) : (s.send o).flt = s.flt := rfl
@[simp] theorem State.send_bnd (o : Out) : (s.send o).bnd = s.bnd := rfl
@[simp] theorem State.send_cob (o : Out) : (s.send o).cob = s.cob := rfl
@[simp] theorem State.send_vmp (o : Out) : (s.send o).vmp = s.vmp := rfl
@[simp] theorem State.send_sec (o : Out) : (s.send o).sec = s.sec := rfl
@[simp] theorem State.send_cnt (o : Out) : (s.send o).cnt = s.cnt := rfl
@[simp] theorem State.send_pwr (o : Out) : (s.send o).pwr = s.pwr := rfl
@[simp] theorem State.send_mdl (o : Out) : (s.send o).mdl = s.mdl := rfl
@[simp] theorem State.send_out (o : Out) : (s.send o).out = o :: s.out := rfl
@[simp] theorem State.send_freeCtr (o : Out) : (s.send o).freeCtr = s.freeCtr := rfl
@[simp] theorem State.send_pending (o : Out) : (s.send o).pending = s.pending := rfl

/-! ### Units -/

theorem State.lane_setLane (b l c m : Nat) (f : LaneSt → LaneSt) :
    (s.setLane b l f).lane c m = if laneKey c m = laneKey b l then f (s.lane b l) else s.lane c m := Tab.getD_set _ _ _ _ _

theorem State.bank_setBank (n m : Nat) (f : BankSt → BankSt) : (s.setBank n f).bank m = if m = n then f (s.bank n) else s.bank m := Tab.getD_set _ _ _ _ _

theorem State.port_setPort (n m : Nat) (f : PortSt → PortSt) : (s.setPort n f).port m = if m = n then f (s.port n) else s.port m := Tab.getD_set _ _ _ _ _

theorem State.link_setLink (n m : Nat) (f : LinkSt → LinkSt) : (s.setLink n f).link m = if m = n then f (s.link n) else s.link m := Tab.getD_set _ _ _ _ _

theorem State.route_setRoute (n m : Nat) (f : RouteSt → RouteSt) : (s.setRoute n f).route m = if m = n then f (s.route n) else s.route m := Tab.getD_set _ _ _ _ _

theorem State.home_setHome (n m : Nat) (f : HomeSt → HomeSt) : (s.setHome n f).home m = if m = n then f (s.home n) else s.home m := Tab.getD_set _ _ _ _ _

theorem State.core_setCore (n m : Nat) (f : CoreSt → CoreSt) : (s.setCore n f).core m = if m = n then f (s.core n) else s.core m := Tab.getD_set _ _ _ _ _

theorem State.chan_setChan (n m : Nat) (f : ChanSt → ChanSt) : (s.setChan n f).chan m = if m = n then f (s.chan n) else s.chan m := Tab.getD_set _ _ _ _ _

/-! ### Registers -/

theorem State.reg_setReg (k j : Nat) (w : Word) : (s.setReg k w).reg j = if j = k then w else s.reg j := RegFile.get_set _ _ _ _

/-! ### Fields -/

theorem Fld.of_eq (f : Fld) (w : Word) : f.of w = w.toNat / 2 ^ f.lsb % 2 ^ f.width := by
  unfold Fld.of
  rw [Nat.shiftRight_eq_div_pow]

/-- A bit of a field's value is the bit of the word at its place. -/
theorem Fld.testBit_of (f : Fld) (w : Word) (i : Nat) : (f.of w).testBit i = (decide (i < f.width) && w.getLsbD (f.lsb + i)) := by
  unfold Fld.of
  rw [Nat.testBit_mod_two_pow, Nat.testBit_shiftRight]
  rfl

theorem Fld.getLsbD_mask (f : Fld) (j : Nat) : f.mask.getLsbD j = (decide (j < 32) && (decide (f.lsb ≤ j) && decide (j - f.lsb < f.width))) := by
  unfold Fld.mask
  rw [BitVec.getLsbD_ofNat, Nat.testBit_shiftLeft, Nat.testBit_two_pow_sub_one]

theorem Fld.getLsbD_place (f : Fld) (v j : Nat) :
    (f.place v).getLsbD j = (decide (j < 32) && (decide (f.lsb ≤ j) && (decide (j - f.lsb < f.width) && v.testBit (j - f.lsb)))) := by
  unfold Fld.place
  rw [BitVec.getLsbD_ofNat, Nat.testBit_shiftLeft, Nat.testBit_mod_two_pow]

theorem Fld.getLsbD_upd (f : Fld) (w : Word) (v j : Nat) :
    (f.upd w v).getLsbD j = (decide (j < 32) && (if f.lsb ≤ j ∧ j - f.lsb < f.width then v.testBit (j - f.lsb) else w.getLsbD j)) := by
  unfold Fld.upd
  rw [BitVec.getLsbD_or, BitVec.getLsbD_and, BitVec.getLsbD_not, Fld.getLsbD_mask, Fld.getLsbD_place]
  by_cases h0 : j < 32
  · by_cases h : f.lsb ≤ j ∧ j - f.lsb < f.width
    · simp [h0, h.1, h.2]
    · rw [if_neg h]
      by_cases h1 : f.lsb ≤ j
      · have h2 : ¬ j - f.lsb < f.width := fun x => h ⟨h1, x⟩
        simp [h0, h1, h2]
      · simp [h0, h1]
  · have : w.getLsbD j = false := BitVec.getLsbD_of_ge w j (by omega)
    simp [h0]

/-- A field that was set reads what was set, cut to its width. -/
theorem Fld.of_upd (f : Fld) (w : Word) (v : Nat) (h : f.lsb + f.width ≤ 32) : f.of (f.upd w v) = v % 2 ^ f.width := by
  apply Nat.eq_of_testBit_eq
  intro i
  rw [Fld.testBit_of, Nat.testBit_mod_two_pow, Fld.getLsbD_upd]
  by_cases hi : i < f.width
  · have h1 : f.lsb + i < 32 := by omega
    have h2 : f.lsb ≤ f.lsb + i ∧ f.lsb + i - f.lsb < f.width := by omega
    have h3 : f.lsb + i - f.lsb = i := by omega
    simp [hi, h1]
  · simp [hi]

/-- A field apart from the one that was set reads as before. -/
theorem Fld.of_upd_other (f g : Fld) (w : Word) (v : Nat) (h : g.lsb + g.width ≤ f.lsb ∨ f.lsb + f.width ≤ g.lsb) : g.of (f.upd w v) = g.of w := by
  apply Nat.eq_of_testBit_eq
  intro i
  rw [Fld.testBit_of, Fld.testBit_of, Fld.getLsbD_upd]
  by_cases hi : i < g.width
  · have h2 : ¬ (f.lsb ≤ g.lsb + i ∧ g.lsb + i - f.lsb < f.width) := by omega
    by_cases h1 : g.lsb + i < 32
    · simp [hi, h1, h2]
    · have : w.getLsbD (g.lsb + i) = false := BitVec.getLsbD_of_ge w _ (by omega)
      simp [hi, h1, this]
  · simp [hi]

/-- A field written by the hardware reads the value written. -/
theorem State.get_put (f : Fld) (d v : Nat) (ha : f.acc ≠ Acc.stg) (hf : f.lsb + f.width ≤ 32) : (s.put f d v).get f d = v % 2 ^ f.width := by
  unfold State.get State.put
  rw [if_neg ha]
  simp only [State.setReg_regs, RegFile.get_set, if_true]
  exact Fld.of_upd f _ v hf

/-- A field of another register, or of another unit, reads as before. -/
theorem State.get_put_key (f g : Fld) (d e v : Nat) (h : g.off + e ≠ f.off + d) : (s.put f d v).get g e = s.get g e := by
  unfold State.get State.put
  simp only [State.setReg_regs, State.setReg_act, RegFile.get_set, if_neg h]

/-- Another field of the same register reads as before. -/
theorem State.get_put_field (f g : Fld) (d e v : Nat) (h : g.lsb + g.width ≤ f.lsb ∨ f.lsb + f.width ≤ g.lsb) : (s.put f d v).get g e = s.get g e := by
  unfold State.get State.put
  simp only [State.setReg_regs, State.setReg_act, RegFile.get_set]
  by_cases hk : g.off + e = f.off + d
  · rw [if_pos hk]
    by_cases ha : g.acc = Acc.stg
    · simp [ha]
    · rw [if_neg ha, if_neg ha, Fld.of_upd_other f g _ v h, hk]
  · rw [if_neg hk]

/-- The active copy of a staged field does not change with a write of the live registers. -/
theorem State.get_put_stg (f g : Fld) (d e v : Nat) (h : g.acc = Acc.stg) : (s.put f d v).get g e = s.get g e := by
  unfold State.get State.put
  simp only [State.setReg_act, if_pos h]

end Sys2Proof.Machine
end

