-- ==== Sys2Proof/Laws/Commands.lean ====
section
/-!
SUPPORT. What commands share: their guards, what their end does when nothing is held, and a write of a register of a path.
-/
namespace Sys2Proof.Machine
set_option Elab.async false
open Sys2Proof

/-! ### Guards -/

theorem within_true (s : State) (f : State → State) : s.within true f = .next (f s) := rfl

theorem within_false (s : State) (f : State → State) : s.within false f = .fault .noSuchUnit := rfl

theorem within_of {s : State} {ok : Bool} (h : ok = true) (f : State → State) : s.within ok f = .next (f s) := by
  subst h
  rfl

theorem within_next {s t : State} {ok : Bool} {f : State → State} (h : s.within ok f = .next t) : ok = true ∧ t = f s := by
  unfold State.within at h
  split at h
  · exact ⟨‹_›, (Host.Outcome.next.inj h).symm⟩
  · cases h

theorem isPath_eq (p : Path) : isPath p = p.isRequester := by cases p <;> rfl

/-- A fold keeps what each of its operations keeps. -/
theorem each_keeps {α β : Type} (g : State → β) {f : State → α → State} (hf : ∀ t x, g (f t x) = g t) : ∀ (l : List α) (s : State), g (s.each l f) = g s
  | [], _ => rfl
  | x :: l, s => (each_keeps g hf l (f s x)).trans (hf s x)

theorem unland_las (s : State) (src id : Nat) : (s.unland src id).las = s.las := by
  unfold State.unland
  split <;> rfl

/-- A core's reset keeps what the loader holds. -/
theorem coreReset_las (s : State) (c : Nat) : (s.coreReset c).las = s.las := by
  unfold State.coreReset
  exact each_keeps (·.las) (fun t (x : Queued) => unland_las t x.src x.msg.id) _ _

/-! ### The end of a command -/

theorem settle_nil {s : State} (h : s.flt.fenceQ = []) : s.settle = s := by
  unfold State.settle State.settleFences
  rw [h]

theorem releaseIn_nil {s : State} (h : s.bnd.heldIn = []) : s.releaseIn = s := by
  have e : (s.setBnd fun b => { b with heldIn := [] }) = s := by
    unfold State.setBnd
    rw [← h]
  unfold State.releaseIn
  rw [h, e]
  split <;> rfl

theorem drainAgain_nil {s : State} (h : s.ins.again = []) : s.drainAgain = s := by
  have e : (s.setIns fun i => { i with again := [] }) = s := by
    unfold State.setIns
    rw [← h]
  unfold State.drainAgain
  rw [h, e]
  rfl

/-- Where nothing is held, the end of a command changes nothing. -/
theorem writeDone_quiet {s : State} (h : s.Quiet) : s.writeDone = s := by
  unfold State.writeDone
  rw [releaseIn_nil h.1, drainAgain_nil h.2.1, settle_nil h.2.2]

/-! ### A write of a path -/

/-- A write of a register that is no half of a pair, with no access waiting and its bank enabled: what the register's command does, the end of the command,
and the answer. -/
theorem pathWrite_word {s : State} {p : Path} {o : Nat} {v : Word} {d : RegDef} {k : Nat} (hf : csrFails o = false) (hk : s.keyAt p o = some (d, k))
    (hl : isLo d = false) (hh : isHi d = false) (ho : s.Open) (hb : s.bankOff k = none) :
    s.pathWrite p o v = ((s.wordNow p d k v).writeDone).send (.csr p true 0) := by
  have hc : s.commitHolds d (k % entStride) = none := by
    unfold State.commitHolds
    rw [ho.2.2.2]
  unfold State.pathWrite State.csrWrite State.wordHeld State.wordWrite
  simp [hf, hk, hl, hh, hc, ho.1, hb]

/-! ### The registers with commands -/

/-- A register of one offset, that is no half of a pair, lies there. -/
def plainReg (o r : Nat) : Bool :=
  match regAt o with
  | some d => d.off == r && d.reach == .plain && !isLo d && !isHi d
  | none => false

/-- A register behind a selector, that is no half of a pair, lies there. -/
def selReg (o r : Nat) : Bool :=
  match regAt o with
  | some d => d.off == r && (match d.reach with | .selected _ => true | _ => false) && !isLo d && !isHi d
  | none => false

/-- A write at the offset of a plain register that is no half of a pair reaches that register. -/
theorem pathWrite_at {s : State} {p : Path} {o r : Nat} {v : Word}
    (hr : plainReg o r = true) (hf : csrFails o = false) (ho : s.Open)
    (hb : s.bankOff o = none) :
    ∃ d : RegDef, regAt o = some d ∧ d.off = r ∧ s.pathWrite p o v = ((s.wordNow p d o v).writeDone).send (.csr p true 0) := by
  unfold plainReg at hr
  split at hr
  case h_2 => cases hr
  rename_i d hd
  simp only [Bool.and_eq_true, beq_iff_eq, Bool.not_eq_true'] at hr
  obtain ⟨⟨⟨e1, e2⟩, e3⟩, e4⟩ := hr
  have hk : s.keyAt p o = some (d, o) := by
    unfold State.keyAt
    rw [hd, Option.map_some, e2]
  exact ⟨d, hd, e1, pathWrite_word hf hk e3 e4 ho hb⟩

theorem bankOff_none {s : State} {k : Nat} (h : bankOfOff (k % entStride) = none) : s.bankOff k = none := by
  unfold State.bankOff
  rw [h]

theorem bankOff_up {s : State} {k b : Nat} (h : bankOfOff (k % entStride) = some b) (hb : s.bankState b = 3) : s.bankOff k = none := by
  unfold State.bankOff
  rw [h]
  simp [hb]

/-- An entry behind a selector has the offset of the register. -/
theorem ent_mod (o e : Nat) : (o + ent e) % entStride = o % entStride := by
  unfold ent
  generalize entStride = n
  exact Nat.add_mul_mod_self_right _ _ _

/-- The same for a register behind a selector. -/
theorem pathWrite_sel {s : State} {p : Path} {o r : Nat} {v : Word} (hr : selReg o r = true) (hf : csrFails o = false) (ho : s.Open)
    (hb : bankOfOff (o % entStride) = none) :
    ∃ (d : RegDef) (k : Nat), regAt o = some d ∧ d.off = r ∧ s.pathWrite p o v = ((s.wordNow p d k v).writeDone).send (.csr p true 0) := by
  unfold selReg at hr
  split at hr
  case h_2 => cases hr
  rename_i d hd
  simp only [Bool.and_eq_true, beq_iff_eq, Bool.not_eq_true'] at hr
  obtain ⟨⟨⟨e1, e2⟩, e3⟩, e4⟩ := hr
  have hk : ∃ k, s.keyAt p o = some (d, k) ∧ k % entStride = o % entStride := by
    unfold State.keyAt
    rw [hd, Option.map_some]
    split at e2
    · rename_i sel hs
      rw [hs]
      exact ⟨_, rfl, ent_mod _ _⟩
    · cases e2
  obtain ⟨k, hk, hm⟩ := hk
  refine ⟨d, k, hd, e1, pathWrite_word hf hk e3 e4 ho ?_⟩
  exact bankOff_none (by rw [hm, hb])

theorem wordNow_GLB_STITCH_CTL {s : State} {p : Path} {d : RegDef} {k : Nat} {v : Word} (h : d.off = R.GLB_STITCH_CTL) : s.wordNow p d k v = s.runWrite v := by
  simp [State.wordNow, h, R.GLB_STITCH_CTL]

theorem wordNow_GLB_RST {s : State} {p : Path} {d : RegDef} {k : Nat} {v : Word} (h : d.off = R.GLB_RST) : s.wordNow p d k v = s.rstWrite v := by
  simp [State.wordNow, h, R.GLB_STITCH_CTL, R.GLB_RST]

theorem wordNow_PWR_CFG {s : State} {p : Path} {d : RegDef} {k : Nat} {v : Word} (h : d.off = R.PWR_CFG) : s.wordNow p d k v = s.pwrCfgWrite v := by
  simp [State.wordNow, h, R.GLB_STITCH_CTL, R.GLB_RST, R.PWR_CFG]

theorem wordNow_PWR_PIN_PEAK {s : State} {p : Path} {d : RegDef} {k : Nat} {v : Word} (h : d.off = R.PWR_PIN_PEAK) : s.wordNow p d k v = s.peakWrite v := by
  simp [State.wordNow, h, R.GLB_STITCH_CTL, R.GLB_RST, R.PWR_CFG, R.PWR_PIN_PEAK]

theorem wordNow_LB_BANK_CFG {s : State} {p : Path} {d : RegDef} {k : Nat} {v : Word} (h : d.off = R.LB_BANK_CFG) : s.wordNow p d k v = (s.plainWrite p d k v).syncPortIds (((k % entStride) - 0x200000) / 0x10000) := by
  simp [State.wordNow, h, R.GLB_STITCH_CTL, R.GLB_RST, R.PWR_CFG, R.PWR_PIN_PEAK, R.LB_BANK_CFG]

theorem wordNow_LB_LANE_ADAPT {s : State} {p : Path} {d : RegDef} {k : Nat} {v : Word} (h : d.off = R.LB_LANE_ADAPT) : s.wordNow p d k v = s.laneAdaptWrite (((k % entStride) - 0x200000) / 0x10000) ((k % entStride) / 0x100 % 0x100 - 0x10) v := by
  simp [State.wordNow, h, R.GLB_STITCH_CTL, R.GLB_RST, R.PWR_CFG, R.PWR_PIN_PEAK, R.LB_BANK_CFG, R.LB_BANK_CTL, R.LB_LANE_ADAPT]

theorem wordNow_LB_LANE_MARGIN_CTL {s : State} {p : Path} {d : RegDef} {k : Nat} {v : Word} (h : d.off = R.LB_LANE_MARGIN_CTL) : s.wordNow p d k v = s.marginWrite (((k % entStride) - 0x200000) / 0x10000) ((k % entStride) / 0x100 % 0x100 - 0x10) v := by
  simp [State.wordNow, h, R.GLB_STITCH_CTL, R.GLB_RST, R.PWR_CFG, R.PWR_PIN_PEAK, R.LB_BANK_CFG, R.LB_BANK_CTL, R.LB_LANE_ADAPT, R.LB_LANE_MARGIN_CTL]

theorem wordNow_EP_LINK_CMD {s : State} {p : Path} {d : RegDef} {k : Nat} {v : Word} (h : d.off = R.EP_LINK_CMD) : s.wordNow p d k v = s.portCmdWrite (((k % entStride) - 0x400000) / 0x4000) v := by
  simp [State.wordNow, h, R.GLB_STITCH_CTL, R.GLB_RST, R.PWR_CFG, R.PWR_PIN_PEAK, R.LB_BANK_CFG, R.LB_BANK_CTL, R.LB_LANE_ADAPT, R.LB_LANE_MARGIN_CTL, R.EP_LINK_CMD]

theorem wordNow_ML_LINK_CMD {s : State} {p : Path} {d : RegDef} {k : Nat} {v : Word} (h : d.off = R.ML_LINK_CMD) : s.wordNow p d k v = s.mlCmdWrite (((k % entStride) - 0x500000) / 0x10000) v := by
  simp [State.wordNow, h, R.GLB_STITCH_CTL, R.GLB_RST, R.PWR_CFG, R.PWR_PIN_PEAK, R.LB_BANK_CFG, R.LB_BANK_CTL, R.LB_LANE_ADAPT, R.LB_LANE_MARGIN_CTL, R.EP_LINK_CMD, R.ML_LINK_CMD]

theorem wordNow_ML_LACE_CTL {s : State} {p : Path} {d : RegDef} {k : Nat} {v : Word} (h : d.off = R.ML_LACE_CTL) : s.wordNow p d k v = s.laceWrite (((k % entStride) - 0x500000) / 0x10000) v := by
  simp [State.wordNow, h, R.GLB_STITCH_CTL, R.GLB_RST, R.PWR_CFG, R.PWR_PIN_PEAK, R.LB_BANK_CFG, R.LB_BANK_CTL, R.LB_LANE_ADAPT, R.LB_LANE_MARGIN_CTL, R.EP_LINK_CMD, R.ML_LINK_CMD, R.ML_LACE_CTL]

theorem wordNow_HA_CTL {s : State} {p : Path} {d : RegDef} {k : Nat} {v : Word} (h : d.off = R.HA_CTL) : s.wordNow p d k v = s.homeCtlWrite (((k % entStride) - 0x900000) / 0x40000) v := by
  simp [State.wordNow, h, R.GLB_STITCH_CTL, R.GLB_RST, R.PWR_CFG, R.PWR_PIN_PEAK, R.LB_BANK_CFG, R.LB_BANK_CTL, R.LB_LANE_ADAPT, R.LB_LANE_MARGIN_CTL, R.EP_LINK_CMD, R.ML_LINK_CMD, R.ML_LACE_CTL, R.HA_CTL]

theorem wordNow_HA_DEPART_CLR {s : State} {p : Path} {d : RegDef} {k : Nat} {v : Word} (h : d.off = R.HA_DEPART_CLR) : s.wordNow p d k v = s.departClrWrite (((k % entStride) - 0x900000) / 0x40000) v := by
  simp [State.wordNow, h, R.GLB_STITCH_CTL, R.GLB_RST, R.PWR_CFG, R.PWR_PIN_PEAK, R.LB_BANK_CFG, R.LB_BANK_CTL, R.LB_LANE_ADAPT, R.LB_LANE_MARGIN_CTL, R.EP_LINK_CMD, R.ML_LINK_CMD, R.ML_LACE_CTL, R.HA_CTL, R.HA_DEPART_CLR]

theorem wordNow_INS_GCMD {s : State} {p : Path} {d : RegDef} {k : Nat} {v : Word} (h : d.off = R.INS_GCMD) : s.wordNow p d k v = s.gcmdWrite v := by
  simp [State.wordNow, h, R.GLB_STITCH_CTL, R.GLB_RST, R.PWR_CFG, R.PWR_PIN_PEAK, R.LB_BANK_CFG, R.LB_BANK_CTL, R.LB_LANE_ADAPT, R.LB_LANE_MARGIN_CTL, R.EP_LINK_CMD, R.ML_LINK_CMD, R.ML_LACE_CTL, R.HA_CTL, R.HA_DEPART_CLR, R.INS_GCMD]

theorem wordNow_INS_SHELF_CMD {s : State} {p : Path} {d : RegDef} {k : Nat} {v : Word} (h : d.off = R.INS_SHELF_CMD) : s.wordNow p d k v = s.insShelfWrite p v := by
  simp [State.wordNow, h, R.GLB_STITCH_CTL, R.GLB_RST, R.PWR_CFG, R.PWR_PIN_PEAK, R.LB_BANK_CFG, R.LB_BANK_CTL, R.LB_LANE_ADAPT, R.LB_LANE_MARGIN_CTL, R.EP_LINK_CMD, R.ML_LINK_CMD, R.ML_LACE_CTL, R.HA_CTL, R.HA_DEPART_CLR, R.INS_GCMD, R.INS_SHELF_CMD]

theorem wordNow_INS_TAG_WR {s : State} {p : Path} {d : RegDef} {k : Nat} {v : Word} (h : d.off = R.INS_TAG_WR) : s.wordNow p d k v = s.tagWrWrite p v := by
  simp [State.wordNow, h, R.GLB_STITCH_CTL, R.GLB_RST, R.PWR_CFG, R.PWR_PIN_PEAK, R.LB_BANK_CFG, R.LB_BANK_CTL, R.LB_LANE_ADAPT, R.LB_LANE_MARGIN_CTL, R.EP_LINK_CMD, R.ML_LINK_CMD, R.ML_LACE_CTL, R.HA_CTL, R.HA_DEPART_CLR, R.INS_GCMD, R.INS_SHELF_CMD, R.INS_TAG_WR]

theorem wordNow_BND_BCMD {s : State} {p : Path} {d : RegDef} {k : Nat} {v : Word} (h : d.off = R.BND_BCMD) : s.wordNow p d k v = s.bcmdWrite p v := by
  simp [State.wordNow, h, R.GLB_STITCH_CTL, R.GLB_RST, R.PWR_CFG, R.PWR_PIN_PEAK, R.LB_BANK_CFG, R.LB_BANK_CTL, R.LB_LANE_ADAPT, R.LB_LANE_MARGIN_CTL, R.EP_LINK_CMD, R.ML_LINK_CMD, R.ML_LACE_CTL, R.HA_CTL, R.HA_DEPART_CLR, R.INS_GCMD, R.INS_SHELF_CMD, R.INS_TAG_WR, R.BND_BCMD]

theorem wordNow_BND_SL_CMD {s : State} {p : Path} {d : RegDef} {k : Nat} {v : Word} (h : d.off = R.BND_SL_CMD) : s.wordNow p d k v = s.slCmdWrite p v := by
  simp [State.wordNow, h, R.GLB_STITCH_CTL, R.GLB_RST, R.PWR_CFG, R.PWR_PIN_PEAK, R.LB_BANK_CFG, R.LB_BANK_CTL, R.LB_LANE_ADAPT, R.LB_LANE_MARGIN_CTL, R.EP_LINK_CMD, R.ML_LINK_CMD, R.ML_LACE_CTL, R.HA_CTL, R.HA_DEPART_CLR, R.INS_GCMD, R.INS_SHELF_CMD, R.INS_TAG_WR, R.BND_BCMD, R.BND_SL_CMD]

theorem wordNow_BND_SHELF_CMD {s : State} {p : Path} {d : RegDef} {k : Nat} {v : Word} (h : d.off = R.BND_SHELF_CMD) : s.wordNow p d k v = s.shelfCmdWrite p v := by
  simp [State.wordNow, h, R.GLB_STITCH_CTL, R.GLB_RST, R.PWR_CFG, R.PWR_PIN_PEAK, R.LB_BANK_CFG, R.LB_BANK_CTL, R.LB_LANE_ADAPT, R.LB_LANE_MARGIN_CTL, R.EP_LINK_CMD, R.ML_LINK_CMD, R.ML_LACE_CTL, R.HA_CTL, R.HA_DEPART_CLR, R.INS_GCMD, R.INS_SHELF_CMD, R.INS_TAG_WR, R.BND_BCMD, R.BND_SL_CMD, R.BND_SHELF_CMD]

theorem wordNow_CLK_CORE_CTL {s : State} {p : Path} {d : RegDef} {k : Nat} {v : Word} (h : d.off = R.CLK_CORE_CTL) : s.wordNow p d k v = s.coreCtlWrite (((k % entStride) - R.CLK_CORE_CTL) / 4) v := by
  simp [State.wordNow, h, R.GLB_STITCH_CTL, R.GLB_RST, R.PWR_CFG, R.PWR_PIN_PEAK, R.LB_BANK_CFG, R.LB_BANK_CTL, R.LB_LANE_ADAPT, R.LB_LANE_MARGIN_CTL, R.EP_LINK_CMD, R.ML_LINK_CMD, R.ML_LACE_CTL, R.HA_CTL, R.HA_DEPART_CLR, R.INS_GCMD, R.INS_SHELF_CMD, R.INS_TAG_WR, R.BND_BCMD, R.BND_SL_CMD, R.BND_SHELF_CMD, R.CLK_CORE_CTL]

theorem wordNow_FLT_PWRDN_CTL {s : State} {p : Path} {d : RegDef} {k : Nat} {v : Word} (h : d.off = R.FLT_PWRDN_CTL) : s.wordNow p d k v = s.pwrdnWrite v := by
  simp [State.wordNow, h, R.GLB_STITCH_CTL, R.GLB_RST, R.PWR_CFG, R.PWR_PIN_PEAK, R.LB_BANK_CFG, R.LB_BANK_CTL, R.LB_LANE_ADAPT, R.LB_LANE_MARGIN_CTL, R.EP_LINK_CMD, R.ML_LINK_CMD, R.ML_LACE_CTL, R.HA_CTL, R.HA_DEPART_CLR, R.INS_GCMD, R.INS_SHELF_CMD, R.INS_TAG_WR, R.BND_BCMD, R.BND_SL_CMD, R.BND_SHELF_CMD, R.CLK_CORE_CTL, R.FLT_PWRDN_CTL]

theorem wordNow_FLT_RESTART {s : State} {p : Path} {d : RegDef} {k : Nat} {v : Word} (h : d.off = R.FLT_RESTART) : s.wordNow p d k v = s.restartWrite v := by
  simp [State.wordNow, h, R.GLB_STITCH_CTL, R.GLB_RST, R.PWR_CFG, R.PWR_PIN_PEAK, R.LB_BANK_CFG, R.LB_BANK_CTL, R.LB_LANE_ADAPT, R.LB_LANE_MARGIN_CTL, R.EP_LINK_CMD, R.ML_LINK_CMD, R.ML_LACE_CTL, R.HA_CTL, R.HA_DEPART_CLR, R.INS_GCMD, R.INS_SHELF_CMD, R.INS_TAG_WR, R.BND_BCMD, R.BND_SL_CMD, R.BND_SHELF_CMD, R.CLK_CORE_CTL, R.FLT_PWRDN_CTL, R.FLT_RESTART]

theorem wordNow_FLT_STICKY {s : State} {p : Path} {d : RegDef} {k : Nat} {v : Word} (h : d.off = R.FLT_STICKY) : s.wordNow p d k v = s.stickyClear p (((k % entStride) - R.FLT_STICKY) / 4) v := by
  simp [State.wordNow, h, R.GLB_STITCH_CTL, R.GLB_RST, R.PWR_CFG, R.PWR_PIN_PEAK, R.LB_BANK_CFG, R.LB_BANK_CTL, R.LB_LANE_ADAPT, R.LB_LANE_MARGIN_CTL, R.EP_LINK_CMD, R.ML_LINK_CMD, R.ML_LACE_CTL, R.HA_CTL, R.HA_DEPART_CLR, R.INS_GCMD, R.INS_SHELF_CMD, R.INS_TAG_WR, R.BND_BCMD, R.BND_SL_CMD, R.BND_SHELF_CMD, R.CLK_CORE_CTL, R.FLT_PWRDN_CTL, R.FLT_RESTART, R.FLT_STICKY]

theorem wordNow_LAST_LOAD_CTL {s : State} {p : Path} {d : RegDef} {k : Nat} {v : Word} (h : d.off = R.LAST_LOAD_CTL) : s.wordNow p d k v = s.loadCtlWrite v := by
  simp [State.wordNow, h, R.GLB_STITCH_CTL, R.GLB_RST, R.PWR_CFG, R.PWR_PIN_PEAK, R.LB_BANK_CFG, R.LB_BANK_CTL, R.LB_LANE_ADAPT, R.LB_LANE_MARGIN_CTL, R.EP_LINK_CMD, R.ML_LINK_CMD, R.ML_LACE_CTL, R.HA_CTL, R.HA_DEPART_CLR, R.INS_GCMD, R.INS_SHELF_CMD, R.INS_TAG_WR, R.BND_BCMD, R.BND_SL_CMD, R.BND_SHELF_CMD, R.CLK_CORE_CTL, R.FLT_PWRDN_CTL, R.FLT_RESTART, R.FLT_STICKY, R.LAST_LOAD_CTL]

theorem wordNow_LAST_BOOT {s : State} {p : Path} {d : RegDef} {k : Nat} {v : Word} (h : d.off = R.LAST_BOOT) : s.wordNow p d k v = s.confirmWrite v := by
  simp [State.wordNow, h, R.GLB_STITCH_CTL, R.GLB_RST, R.PWR_CFG, R.PWR_PIN_PEAK, R.LB_BANK_CFG, R.LB_BANK_CTL, R.LB_LANE_ADAPT, R.LB_LANE_MARGIN_CTL, R.EP_LINK_CMD, R.ML_LINK_CMD, R.ML_LACE_CTL, R.HA_CTL, R.HA_DEPART_CLR, R.INS_GCMD, R.INS_SHELF_CMD, R.INS_TAG_WR, R.BND_BCMD, R.BND_SL_CMD, R.BND_SHELF_CMD, R.CLK_CORE_CTL, R.FLT_PWRDN_CTL, R.FLT_RESTART, R.FLT_STICKY, R.LAST_LOAD_CTL, R.LAST_BOOT]

theorem wordNow_LAST_BOOT_PREF {s : State} {p : Path} {d : RegDef} {k : Nat} {v : Word} (h : d.off = R.LAST_BOOT_PREF) : s.wordNow p d k v = s.prefWrite v := by
  simp [State.wordNow, h, R.GLB_STITCH_CTL, R.GLB_RST, R.PWR_CFG, R.PWR_PIN_PEAK, R.LB_BANK_CFG, R.LB_BANK_CTL, R.LB_LANE_ADAPT, R.LB_LANE_MARGIN_CTL, R.EP_LINK_CMD, R.ML_LINK_CMD, R.ML_LACE_CTL, R.HA_CTL, R.HA_DEPART_CLR, R.INS_GCMD, R.INS_SHELF_CMD, R.INS_TAG_WR, R.BND_BCMD, R.BND_SL_CMD, R.BND_SHELF_CMD, R.CLK_CORE_CTL, R.FLT_PWRDN_CTL, R.FLT_RESTART, R.FLT_STICKY, R.LAST_LOAD_CTL, R.LAST_BOOT, R.LAST_BOOT_PREF]

theorem wordNow_LAST_SWAP_CTL {s : State} {p : Path} {d : RegDef} {k : Nat} {v : Word} (h : d.off = R.LAST_SWAP_CTL) : s.wordNow p d k v = s.swapCtlWrite p v := by
  simp [State.wordNow, h, R.GLB_STITCH_CTL, R.GLB_RST, R.PWR_CFG, R.PWR_PIN_PEAK, R.LB_BANK_CFG, R.LB_BANK_CTL, R.LB_LANE_ADAPT, R.LB_LANE_MARGIN_CTL, R.EP_LINK_CMD, R.ML_LINK_CMD, R.ML_LACE_CTL, R.HA_CTL, R.HA_DEPART_CLR, R.INS_GCMD, R.INS_SHELF_CMD, R.INS_TAG_WR, R.BND_BCMD, R.BND_SL_CMD, R.BND_SHELF_CMD, R.CLK_CORE_CTL, R.FLT_PWRDN_CTL, R.FLT_RESTART, R.FLT_STICKY, R.LAST_LOAD_CTL, R.LAST_BOOT, R.LAST_BOOT_PREF, R.LAST_SWAP_CTL]

theorem wordNow_COB_QP_CTL {s : State} {p : Path} {d : RegDef} {k : Nat} {v : Word} (h : d.off = R.COB_QP_CTL) : s.wordNow p d k v = s.qpCtlWrite p v := by
  simp [State.wordNow, h, R.GLB_STITCH_CTL, R.GLB_RST, R.PWR_CFG, R.PWR_PIN_PEAK, R.LB_BANK_CFG, R.LB_BANK_CTL, R.LB_LANE_ADAPT, R.LB_LANE_MARGIN_CTL, R.EP_LINK_CMD, R.ML_LINK_CMD, R.ML_LACE_CTL, R.HA_CTL, R.HA_DEPART_CLR, R.INS_GCMD, R.INS_SHELF_CMD, R.INS_TAG_WR, R.BND_BCMD, R.BND_SL_CMD, R.BND_SHELF_CMD, R.CLK_CORE_CTL, R.FLT_PWRDN_CTL, R.FLT_RESTART, R.FLT_STICKY, R.LAST_LOAD_CTL, R.LAST_BOOT, R.LAST_BOOT_PREF, R.LAST_SWAP_CTL, R.COB_QP_CTL]

theorem wordNow_COB_QP_DB {s : State} {p : Path} {d : RegDef} {k : Nat} {v : Word} (h : d.off = R.COB_QP_DB) : s.wordNow p d k v = s.qpDbWrite p v := by
  simp [State.wordNow, h, R.GLB_STITCH_CTL, R.GLB_RST, R.PWR_CFG, R.PWR_PIN_PEAK, R.LB_BANK_CFG, R.LB_BANK_CTL, R.LB_LANE_ADAPT, R.LB_LANE_MARGIN_CTL, R.EP_LINK_CMD, R.ML_LINK_CMD, R.ML_LACE_CTL, R.HA_CTL, R.HA_DEPART_CLR, R.INS_GCMD, R.INS_SHELF_CMD, R.INS_TAG_WR, R.BND_BCMD, R.BND_SL_CMD, R.BND_SHELF_CMD, R.CLK_CORE_CTL, R.FLT_PWRDN_CTL, R.FLT_RESTART, R.FLT_STICKY, R.LAST_LOAD_CTL, R.LAST_BOOT, R.LAST_BOOT_PREF, R.LAST_SWAP_CTL, R.COB_QP_CTL, R.COB_QP_DB]

theorem wordNow_LB_BANK_CTL {s : State} {p : Path} {d : RegDef} {k : Nat} {v : Word} (h : d.off = R.LB_BANK_CTL) : s.wordNow p d k v = (let b := ((k % entStride) - 0x200000) / 0x10000; let s1 := s.familyWrite b v; let s2 := if F.LB_BANK_CTL_WAKE.of v = 1 then s1.bankWake b else s1; if F.LB_BANK_CTL_PARK.of v = 1 then s2.bankPark b else s2) := by
  simp [State.wordNow, h, R.GLB_STITCH_CTL, R.GLB_RST, R.PWR_CFG, R.PWR_PIN_PEAK, R.LB_BANK_CFG, R.LB_BANK_CTL]

end Sys2Proof.Machine
end

