-- ==== Sys2Proof/Laws/Cases.lean ====
section
/-!
SUPPORT. A write of each register with a command reaches the operation of that command.
-/
namespace Sys2Proof.Machine
set_option Elab.async false
set_option linter.unnecessarySeqFocus false
open Sys2Proof

theorem pathWrite_GLB_STITCH_CTL {s : State} (ho : s.Open) (p : Path) (v : Word) :
    s.pathWrite p R.GLB_STITCH_CTL v = ((s.runWrite v).writeDone).send (.csr p true 0) := by
  obtain ⟨d, -, hd, e⟩ := pathWrite_at (s := s) (p := p) (o := R.GLB_STITCH_CTL) (r := R.GLB_STITCH_CTL) (v := v) (by decide +kernel) (by decide) ho (bankOff_none (by decide))
  rw [e, wordNow_GLB_STITCH_CTL hd]

theorem pathWrite_GLB_RST {s : State} (ho : s.Open) (p : Path) (v : Word) :
    s.pathWrite p R.GLB_RST v = ((s.rstWrite v).writeDone).send (.csr p true 0) := by
  obtain ⟨d, -, hd, e⟩ := pathWrite_at (s := s) (p := p) (o := R.GLB_RST) (r := R.GLB_RST) (v := v) (by decide +kernel) (by decide) ho (bankOff_none (by decide))
  rw [e, wordNow_GLB_RST hd]

theorem pathWrite_PWR_CFG {s : State} (ho : s.Open) (p : Path) (v : Word) :
    s.pathWrite p R.PWR_CFG v = ((s.pwrCfgWrite v).writeDone).send (.csr p true 0) := by
  obtain ⟨d, -, hd, e⟩ := pathWrite_at (s := s) (p := p) (o := R.PWR_CFG) (r := R.PWR_CFG) (v := v) (by decide +kernel) (by decide) ho (bankOff_none (by decide))
  rw [e, wordNow_PWR_CFG hd]

theorem pathWrite_PWR_PIN_PEAK {s : State} (ho : s.Open) (p : Path) (v : Word) :
    s.pathWrite p R.PWR_PIN_PEAK v = ((s.peakWrite v).writeDone).send (.csr p true 0) := by
  obtain ⟨d, -, hd, e⟩ := pathWrite_at (s := s) (p := p) (o := R.PWR_PIN_PEAK) (r := R.PWR_PIN_PEAK) (v := v) (by decide +kernel) (by decide) ho (bankOff_none (by decide))
  rw [e, wordNow_PWR_PIN_PEAK hd]

theorem pathWrite_INS_GCMD {s : State} (ho : s.Open) (p : Path) (v : Word) :
    s.pathWrite p R.INS_GCMD v = ((s.gcmdWrite v).writeDone).send (.csr p true 0) := by
  obtain ⟨d, -, hd, e⟩ := pathWrite_at (s := s) (p := p) (o := R.INS_GCMD) (r := R.INS_GCMD) (v := v) (by decide +kernel) (by decide) ho (bankOff_none (by decide))
  rw [e, wordNow_INS_GCMD hd]

theorem pathWrite_INS_SHELF_CMD {s : State} (ho : s.Open) (p : Path) (v : Word) :
    s.pathWrite p R.INS_SHELF_CMD v = ((s.insShelfWrite p v).writeDone).send (.csr p true 0) := by
  obtain ⟨d, k, -, hd, e⟩ := pathWrite_sel (s := s) (p := p) (o := R.INS_SHELF_CMD) (r := R.INS_SHELF_CMD) (v := v) (by decide +kernel) (by decide) ho (by decide)
  rw [e, wordNow_INS_SHELF_CMD hd]

theorem pathWrite_INS_TAG_WR {s : State} (ho : s.Open) (p : Path) (v : Word) :
    s.pathWrite p R.INS_TAG_WR v = ((s.tagWrWrite p v).writeDone).send (.csr p true 0) := by
  obtain ⟨d, -, hd, e⟩ := pathWrite_at (s := s) (p := p) (o := R.INS_TAG_WR) (r := R.INS_TAG_WR) (v := v) (by decide +kernel) (by decide) ho (bankOff_none (by decide))
  rw [e, wordNow_INS_TAG_WR hd]

theorem pathWrite_BND_BCMD {s : State} (ho : s.Open) (p : Path) (v : Word) :
    s.pathWrite p R.BND_BCMD v = ((s.bcmdWrite p v).writeDone).send (.csr p true 0) := by
  obtain ⟨d, k, -, hd, e⟩ := pathWrite_sel (s := s) (p := p) (o := R.BND_BCMD) (r := R.BND_BCMD) (v := v) (by decide +kernel) (by decide) ho (by decide)
  rw [e, wordNow_BND_BCMD hd]

theorem pathWrite_BND_SL_CMD {s : State} (ho : s.Open) (p : Path) (v : Word) :
    s.pathWrite p R.BND_SL_CMD v = ((s.slCmdWrite p v).writeDone).send (.csr p true 0) := by
  obtain ⟨d, k, -, hd, e⟩ := pathWrite_sel (s := s) (p := p) (o := R.BND_SL_CMD) (r := R.BND_SL_CMD) (v := v) (by decide +kernel) (by decide) ho (by decide)
  rw [e, wordNow_BND_SL_CMD hd]

theorem pathWrite_BND_SHELF_CMD {s : State} (ho : s.Open) (p : Path) (v : Word) :
    s.pathWrite p R.BND_SHELF_CMD v = ((s.shelfCmdWrite p v).writeDone).send (.csr p true 0) := by
  obtain ⟨d, k, -, hd, e⟩ := pathWrite_sel (s := s) (p := p) (o := R.BND_SHELF_CMD) (r := R.BND_SHELF_CMD) (v := v) (by decide +kernel) (by decide) ho (by decide)
  rw [e, wordNow_BND_SHELF_CMD hd]

theorem pathWrite_FLT_PWRDN_CTL {s : State} (ho : s.Open) (p : Path) (v : Word) :
    s.pathWrite p R.FLT_PWRDN_CTL v = ((s.pwrdnWrite v).writeDone).send (.csr p true 0) := by
  obtain ⟨d, -, hd, e⟩ := pathWrite_at (s := s) (p := p) (o := R.FLT_PWRDN_CTL) (r := R.FLT_PWRDN_CTL) (v := v) (by decide +kernel) (by decide) ho (bankOff_none (by decide))
  rw [e, wordNow_FLT_PWRDN_CTL hd]

theorem pathWrite_FLT_RESTART {s : State} (ho : s.Open) (p : Path) (v : Word) :
    s.pathWrite p R.FLT_RESTART v = ((s.restartWrite v).writeDone).send (.csr p true 0) := by
  obtain ⟨d, -, hd, e⟩ := pathWrite_at (s := s) (p := p) (o := R.FLT_RESTART) (r := R.FLT_RESTART) (v := v) (by decide +kernel) (by decide) ho (bankOff_none (by decide))
  rw [e, wordNow_FLT_RESTART hd]

theorem pathWrite_LAST_LOAD_CTL {s : State} (ho : s.Open) (p : Path) (v : Word) :
    s.pathWrite p R.LAST_LOAD_CTL v = ((s.loadCtlWrite v).writeDone).send (.csr p true 0) := by
  obtain ⟨d, -, hd, e⟩ := pathWrite_at (s := s) (p := p) (o := R.LAST_LOAD_CTL) (r := R.LAST_LOAD_CTL) (v := v) (by decide +kernel) (by decide) ho (bankOff_none (by decide))
  rw [e, wordNow_LAST_LOAD_CTL hd]

theorem pathWrite_LAST_BOOT {s : State} (ho : s.Open) (p : Path) (v : Word) :
    s.pathWrite p R.LAST_BOOT v = ((s.confirmWrite v).writeDone).send (.csr p true 0) := by
  obtain ⟨d, -, hd, e⟩ := pathWrite_at (s := s) (p := p) (o := R.LAST_BOOT) (r := R.LAST_BOOT) (v := v) (by decide +kernel) (by decide) ho (bankOff_none (by decide))
  rw [e, wordNow_LAST_BOOT hd]

theorem pathWrite_LAST_BOOT_PREF {s : State} (ho : s.Open) (p : Path) (v : Word) :
    s.pathWrite p R.LAST_BOOT_PREF v = ((s.prefWrite v).writeDone).send (.csr p true 0) := by
  obtain ⟨d, -, hd, e⟩ := pathWrite_at (s := s) (p := p) (o := R.LAST_BOOT_PREF) (r := R.LAST_BOOT_PREF) (v := v) (by decide +kernel) (by decide) ho (bankOff_none (by decide))
  rw [e, wordNow_LAST_BOOT_PREF hd]

theorem pathWrite_LAST_SWAP_CTL {s : State} (ho : s.Open) (p : Path) (v : Word) :
    s.pathWrite p R.LAST_SWAP_CTL v = ((s.swapCtlWrite p v).writeDone).send (.csr p true 0) := by
  obtain ⟨d, -, hd, e⟩ := pathWrite_at (s := s) (p := p) (o := R.LAST_SWAP_CTL) (r := R.LAST_SWAP_CTL) (v := v) (by decide +kernel) (by decide) ho (bankOff_none (by decide))
  rw [e, wordNow_LAST_SWAP_CTL hd]

theorem pathWrite_COB_QP_CTL {s : State} (ho : s.Open) (p : Path) (v : Word) :
    s.pathWrite p R.COB_QP_CTL v = ((s.qpCtlWrite p v).writeDone).send (.csr p true 0) := by
  obtain ⟨d, k, -, hd, e⟩ := pathWrite_sel (s := s) (p := p) (o := R.COB_QP_CTL) (r := R.COB_QP_CTL) (v := v) (by decide +kernel) (by decide) ho (by decide)
  rw [e, wordNow_COB_QP_CTL hd]

theorem regAt_LB_BANK_CTL : ∀ b < 20, plainReg (R.LB_BANK_CTL + dBank b) R.LB_BANK_CTL = true := by
  decide +kernel

theorem unitOf_LB_BANK_CTL : ∀ b < 20, (((R.LB_BANK_CTL + dBank b) % entStride) - 0x200000) / 0x10000 = b := by decide +kernel

theorem bankOfOff_LB_BANK_CTL : ∀ b < 20, bankOfOff ((R.LB_BANK_CTL + dBank b) % entStride) = some (b) := by decide +kernel

theorem csrFails_LB_BANK_CTL : ∀ b < 20, csrFails (R.LB_BANK_CTL + dBank b) = false := by decide +kernel

theorem pathWrite_LB_BANK_CTL {s : State} (ho : s.Open) {b : Nat} (hb : b < 20) (hup : s.bankState (b) = 3) (p : Path) (v : Word) :
    s.pathWrite p (R.LB_BANK_CTL + dBank b) v = ((let s2 := if F.LB_BANK_CTL_WAKE.of v = 1 then (s.familyWrite b v).bankWake b else s.familyWrite b v; if F.LB_BANK_CTL_PARK.of v = 1 then s2.bankPark b else s2).writeDone).send (.csr p true 0) := by
  obtain ⟨d, -, hd, e⟩ := pathWrite_at (s := s) (p := p) (o := R.LB_BANK_CTL + dBank b) (r := R.LB_BANK_CTL) (v := v) (regAt_LB_BANK_CTL b hb) (csrFails_LB_BANK_CTL b hb) ho
    (bankOff_up (bankOfOff_LB_BANK_CTL b hb) hup)
  rw [e, wordNow_LB_BANK_CTL hd]
  simp only [unitOf_LB_BANK_CTL b hb]

theorem regAt_LB_LANE_ADAPT : ∀ b < 20, ∀ l < 16, plainReg (R.LB_LANE_ADAPT + dLane b l) R.LB_LANE_ADAPT = true := by
  decide +kernel

theorem unitOf_LB_LANE_ADAPT_b : ∀ b < 20, ∀ l < 16, (((R.LB_LANE_ADAPT + dLane b l) % entStride) - 0x200000) / 0x10000 = b := by decide +kernel

theorem unitOf_LB_LANE_ADAPT_l : ∀ b < 20, ∀ l < 16, ((R.LB_LANE_ADAPT + dLane b l) % entStride) / 0x100 % 0x100 - 0x10 = l := by decide +kernel

theorem bankOfOff_LB_LANE_ADAPT : ∀ b < 20, ∀ l < 16, bankOfOff ((R.LB_LANE_ADAPT + dLane b l) % entStride) = some (b) := by decide +kernel

theorem csrFails_LB_LANE_ADAPT : ∀ b < 20, ∀ l < 16, csrFails (R.LB_LANE_ADAPT + dLane b l) = false := by decide +kernel

theorem pathWrite_LB_LANE_ADAPT {s : State} (ho : s.Open) {b l : Nat} (hb : b < 20) (hl : l < 16) (hup : s.bankState (b) = 3) (p : Path) (v : Word) :
    s.pathWrite p (R.LB_LANE_ADAPT + dLane b l) v = ((s.laneAdaptWrite b l v).writeDone).send (.csr p true 0) := by
  obtain ⟨d, -, hd, e⟩ := pathWrite_at (s := s) (p := p) (o := R.LB_LANE_ADAPT + dLane b l) (r := R.LB_LANE_ADAPT) (v := v) (regAt_LB_LANE_ADAPT b hb l hl) (csrFails_LB_LANE_ADAPT b hb l hl) ho
    (bankOff_up (bankOfOff_LB_LANE_ADAPT b hb l hl) hup)
  rw [e, wordNow_LB_LANE_ADAPT hd]
  rw [unitOf_LB_LANE_ADAPT_b b hb l hl, unitOf_LB_LANE_ADAPT_l b hb l hl]

theorem regAt_LB_LANE_MARGIN_CTL : ∀ b < 20, ∀ l < 16, plainReg (R.LB_LANE_MARGIN_CTL + dLane b l) R.LB_LANE_MARGIN_CTL = true := by
  decide +kernel

theorem unitOf_LB_LANE_MARGIN_CTL_b : ∀ b < 20, ∀ l < 16, (((R.LB_LANE_MARGIN_CTL + dLane b l) % entStride) - 0x200000) / 0x10000 = b := by decide +kernel

theorem unitOf_LB_LANE_MARGIN_CTL_l : ∀ b < 20, ∀ l < 16, ((R.LB_LANE_MARGIN_CTL + dLane b l) % entStride) / 0x100 % 0x100 - 0x10 = l := by decide +kernel

theorem bankOfOff_LB_LANE_MARGIN_CTL : ∀ b < 20, ∀ l < 16, bankOfOff ((R.LB_LANE_MARGIN_CTL + dLane b l) % entStride) = some (b) := by decide +kernel

theorem csrFails_LB_LANE_MARGIN_CTL : ∀ b < 20, ∀ l < 16, csrFails (R.LB_LANE_MARGIN_CTL + dLane b l) = false := by decide +kernel

theorem pathWrite_LB_LANE_MARGIN_CTL {s : State} (ho : s.Open) {b l : Nat} (hb : b < 20) (hl : l < 16) (hup : s.bankState (b) = 3) (p : Path) (v : Word) :
    s.pathWrite p (R.LB_LANE_MARGIN_CTL + dLane b l) v = ((s.marginWrite b l v).writeDone).send (.csr p true 0) := by
  obtain ⟨d, -, hd, e⟩ := pathWrite_at (s := s) (p := p) (o := R.LB_LANE_MARGIN_CTL + dLane b l) (r := R.LB_LANE_MARGIN_CTL) (v := v) (regAt_LB_LANE_MARGIN_CTL b hb l hl) (csrFails_LB_LANE_MARGIN_CTL b hb l hl) ho
    (bankOff_up (bankOfOff_LB_LANE_MARGIN_CTL b hb l hl) hup)
  rw [e, wordNow_LB_LANE_MARGIN_CTL hd]
  rw [unitOf_LB_LANE_MARGIN_CTL_b b hb l hl, unitOf_LB_LANE_MARGIN_CTL_l b hb l hl]

theorem regAt_EP_LINK_CMD : ∀ n < 64, plainReg (R.EP_LINK_CMD + dPort n) R.EP_LINK_CMD = true := by
  decide +kernel

theorem unitOf_EP_LINK_CMD : ∀ n < 64, (((R.EP_LINK_CMD + dPort n) % entStride) - 0x400000) / 0x4000 = n := by decide +kernel

theorem bankOfOff_EP_LINK_CMD : ∀ n < 64, bankOfOff ((R.EP_LINK_CMD + dPort n) % entStride) = some (n / 4) := by decide +kernel

theorem csrFails_EP_LINK_CMD : ∀ n < 64, csrFails (R.EP_LINK_CMD + dPort n) = false := by decide +kernel

theorem pathWrite_EP_LINK_CMD {s : State} (ho : s.Open) {n : Nat} (hn : n < 64) (hup : s.bankState (n / 4) = 3) (p : Path) (v : Word) :
    s.pathWrite p (R.EP_LINK_CMD + dPort n) v = ((s.portCmdWrite n v).writeDone).send (.csr p true 0) := by
  obtain ⟨d, -, hd, e⟩ := pathWrite_at (s := s) (p := p) (o := R.EP_LINK_CMD + dPort n) (r := R.EP_LINK_CMD) (v := v) (regAt_EP_LINK_CMD n hn) (csrFails_EP_LINK_CMD n hn) ho
    (bankOff_up (bankOfOff_EP_LINK_CMD n hn) hup)
  rw [e, wordNow_EP_LINK_CMD hd]
  rw [unitOf_EP_LINK_CMD n hn]

theorem regAt_ML_LINK_CMD : ∀ m < 8, plainReg (R.ML_LINK_CMD + dLink m) R.ML_LINK_CMD = true := by
  decide +kernel

theorem unitOf_ML_LINK_CMD : ∀ m < 8, (((R.ML_LINK_CMD + dLink m) % entStride) - 0x500000) / 0x10000 = m := by decide +kernel

theorem bankOfOff_ML_LINK_CMD : ∀ m < 8, bankOfOff ((R.ML_LINK_CMD + dLink m) % entStride) = some (16 + m / 2) := by decide +kernel

theorem csrFails_ML_LINK_CMD : ∀ m < 8, csrFails (R.ML_LINK_CMD + dLink m) = false := by decide +kernel

theorem pathWrite_ML_LINK_CMD {s : State} (ho : s.Open) {m : Nat} (hm : m < 8) (hup : s.bankState (16 + m / 2) = 3) (p : Path) (v : Word) :
    s.pathWrite p (R.ML_LINK_CMD + dLink m) v = ((s.mlCmdWrite m v).writeDone).send (.csr p true 0) := by
  obtain ⟨d, -, hd, e⟩ := pathWrite_at (s := s) (p := p) (o := R.ML_LINK_CMD + dLink m) (r := R.ML_LINK_CMD) (v := v) (regAt_ML_LINK_CMD m hm) (csrFails_ML_LINK_CMD m hm) ho
    (bankOff_up (bankOfOff_ML_LINK_CMD m hm) hup)
  rw [e, wordNow_ML_LINK_CMD hd]
  rw [unitOf_ML_LINK_CMD m hm]

theorem regAt_ML_LACE_CTL : ∀ m < 8, plainReg (R.ML_LACE_CTL + dLink m) R.ML_LACE_CTL = true := by
  decide +kernel

theorem unitOf_ML_LACE_CTL : ∀ m < 8, (((R.ML_LACE_CTL + dLink m) % entStride) - 0x500000) / 0x10000 = m := by decide +kernel

theorem bankOfOff_ML_LACE_CTL : ∀ m < 8, bankOfOff ((R.ML_LACE_CTL + dLink m) % entStride) = some (16 + m / 2) := by decide +kernel

theorem csrFails_ML_LACE_CTL : ∀ m < 8, csrFails (R.ML_LACE_CTL + dLink m) = false := by decide +kernel

theorem pathWrite_ML_LACE_CTL {s : State} (ho : s.Open) {m : Nat} (hm : m < 8) (hup : s.bankState (16 + m / 2) = 3) (p : Path) (v : Word) :
    s.pathWrite p (R.ML_LACE_CTL + dLink m) v = ((s.laceWrite m v).writeDone).send (.csr p true 0) := by
  obtain ⟨d, -, hd, e⟩ := pathWrite_at (s := s) (p := p) (o := R.ML_LACE_CTL + dLink m) (r := R.ML_LACE_CTL) (v := v) (regAt_ML_LACE_CTL m hm) (csrFails_ML_LACE_CTL m hm) ho
    (bankOff_up (bankOfOff_ML_LACE_CTL m hm) hup)
  rw [e, wordNow_ML_LACE_CTL hd]
  rw [unitOf_ML_LACE_CTL m hm]

theorem regAt_HA_CTL : ∀ h < 4, plainReg (R.HA_CTL + dHome h) R.HA_CTL = true := by
  decide +kernel

theorem unitOf_HA_CTL : ∀ h < 4, (((R.HA_CTL + dHome h) % entStride) - 0x900000) / 0x40000 = h := by decide +kernel

theorem bankOfOff_HA_CTL : ∀ h < 4, bankOfOff ((R.HA_CTL + dHome h) % entStride) = none := by decide +kernel

theorem csrFails_HA_CTL : ∀ h < 4, csrFails (R.HA_CTL + dHome h) = false := by decide +kernel

theorem pathWrite_HA_CTL {s : State} (ho : s.Open) {h : Nat} (hh : h < 4) (p : Path) (v : Word) :
    s.pathWrite p (R.HA_CTL + dHome h) v = ((s.homeCtlWrite h v).writeDone).send (.csr p true 0) := by
  obtain ⟨d, -, hd, e⟩ := pathWrite_at (s := s) (p := p) (o := R.HA_CTL + dHome h) (r := R.HA_CTL) (v := v) (regAt_HA_CTL h hh) (csrFails_HA_CTL h hh) ho
    (bankOff_none (bankOfOff_HA_CTL h hh))
  rw [e, wordNow_HA_CTL hd]
  rw [unitOf_HA_CTL h hh]

theorem regAt_HA_DEPART_CLR : ∀ h < 4, plainReg (R.HA_DEPART_CLR + dHome h) R.HA_DEPART_CLR = true := by
  decide +kernel

theorem unitOf_HA_DEPART_CLR : ∀ h < 4, (((R.HA_DEPART_CLR + dHome h) % entStride) - 0x900000) / 0x40000 = h := by decide +kernel

theorem bankOfOff_HA_DEPART_CLR : ∀ h < 4, bankOfOff ((R.HA_DEPART_CLR + dHome h) % entStride) = none := by decide +kernel

theorem csrFails_HA_DEPART_CLR : ∀ h < 4, csrFails (R.HA_DEPART_CLR + dHome h) = false := by decide +kernel

theorem pathWrite_HA_DEPART_CLR {s : State} (ho : s.Open) {h : Nat} (hh : h < 4) (p : Path) (v : Word) :
    s.pathWrite p (R.HA_DEPART_CLR + dHome h) v = ((s.departClrWrite h v).writeDone).send (.csr p true 0) := by
  obtain ⟨d, -, hd, e⟩ := pathWrite_at (s := s) (p := p) (o := R.HA_DEPART_CLR + dHome h) (r := R.HA_DEPART_CLR) (v := v) (regAt_HA_DEPART_CLR h hh) (csrFails_HA_DEPART_CLR h hh) ho
    (bankOff_none (bankOfOff_HA_DEPART_CLR h hh))
  rw [e, wordNow_HA_DEPART_CLR hd]
  rw [unitOf_HA_DEPART_CLR h hh]

theorem regAt_CLK_CORE_CTL : ∀ c < 4, plainReg (R.CLK_CORE_CTL + 4 * c) R.CLK_CORE_CTL = true := by
  decide +kernel

theorem unitOf_CLK_CORE_CTL : ∀ c < 4, (((R.CLK_CORE_CTL + 4 * c) % entStride) - R.CLK_CORE_CTL) / 4 = c := by decide +kernel

theorem bankOfOff_CLK_CORE_CTL : ∀ c < 4, bankOfOff ((R.CLK_CORE_CTL + 4 * c) % entStride) = none := by decide +kernel

theorem csrFails_CLK_CORE_CTL : ∀ c < 4, csrFails (R.CLK_CORE_CTL + 4 * c) = false := by decide +kernel

theorem pathWrite_CLK_CORE_CTL {s : State} (ho : s.Open) {c : Nat} (hc : c < 4) (p : Path) (v : Word) :
    s.pathWrite p (R.CLK_CORE_CTL + 4 * c) v = ((s.coreCtlWrite c v).writeDone).send (.csr p true 0) := by
  obtain ⟨d, -, hd, e⟩ := pathWrite_at (s := s) (p := p) (o := R.CLK_CORE_CTL + 4 * c) (r := R.CLK_CORE_CTL) (v := v) (regAt_CLK_CORE_CTL c hc) (csrFails_CLK_CORE_CTL c hc) ho
    (bankOff_none (bankOfOff_CLK_CORE_CTL c hc))
  rw [e, wordNow_CLK_CORE_CTL hd]
  rw [unitOf_CLK_CORE_CTL c hc]

theorem regAt_FLT_STICKY : ∀ w < 70, plainReg (R.FLT_STICKY + 4 * w) R.FLT_STICKY = true := by
  decide +kernel

theorem unitOf_FLT_STICKY : ∀ w < 70, (((R.FLT_STICKY + 4 * w) % entStride) - R.FLT_STICKY) / 4 = w := by decide +kernel

theorem bankOfOff_FLT_STICKY : ∀ w < 70, bankOfOff ((R.FLT_STICKY + 4 * w) % entStride) = none := by decide +kernel

theorem csrFails_FLT_STICKY : ∀ w < 70, csrFails (R.FLT_STICKY + 4 * w) = false := by decide +kernel

theorem pathWrite_FLT_STICKY {s : State} (ho : s.Open) {w : Nat} (hw : w < 70) (p : Path) (v : Word) :
    s.pathWrite p (R.FLT_STICKY + 4 * w) v = ((s.stickyClear p w v).writeDone).send (.csr p true 0) := by
  obtain ⟨d, -, hd, e⟩ := pathWrite_at (s := s) (p := p) (o := R.FLT_STICKY + 4 * w) (r := R.FLT_STICKY) (v := v) (regAt_FLT_STICKY w hw) (csrFails_FLT_STICKY w hw) ho
    (bankOff_none (bankOfOff_FLT_STICKY w hw))
  rw [e, wordNow_FLT_STICKY hd]
  rw [unitOf_FLT_STICKY w hw]

/-- A register without a command only stores. -/
theorem wordNow_plain {s : State} {p : Path} {d : RegDef} {k : Nat} {v : Word} (h : commandRegs.contains d.off = false) :
    s.wordNow p d k v = s.plainWrite p d k v := by
  simp only [commandRegs, List.contains_eq_mem, List.mem_cons, List.not_mem_nil, or_false, decide_eq_false_iff_not, not_or] at h
  simp only [State.wordNow, h, if_false]

/-- A write of a register without staged fields. -/
theorem plainWrite_noStg {s : State} {p : Path} {d : RegDef} {k : Nat} {v : Word} (h : d.maskOf (· = .stg) = 0) :
    s.plainWrite p d k v = s.storeWord d k v := by
  unfold State.plainWrite
  simp only [h]
  simp
  split <;> rfl

/-- The blocks of a group, as the machine lists them. -/
theorem blocks_contains (g : Grp) (unit : Nat) : (State.armRx.blocks g).contains unit = g.hasUnit unit := by
  rw [Bool.eq_iff_iff]
  cases g <;> simp [State.armRx.blocks, Grp.hasUnit] <;> omega

end Sys2Proof.Machine
end

