-- ==== Sys2Proof/Laws/Onward.lean ====
section
/-!
SUPPORT. What every operation keeps, in one relation: the canonical forms of the stores, the outputs sent, the free values used and the queue of
commands. One lemma per primitive update; the lemmas of the operations follow in the other files of this name.
-/
namespace Sys2Proof.Machine
set_option Elab.async false
open Sys2Proof

/-- What holds between a state and a later one. -/
structure State.Onward (s t : State) : Prop where
  regs : s.regs.wf = true → t.regs.wf = true
  act : s.act.wf = true → t.act.wf = true
  mem : s.ins.mem.wf = true → t.ins.mem.wf = true
  lanes : risingFrom 0 s.lanes = true → risingFrom 0 t.lanes = true
  banks : risingFrom 0 s.banks = true → risingFrom 0 t.banks = true
  ports : risingFrom 0 s.ports = true → risingFrom 0 t.ports = true
  links : risingFrom 0 s.links = true → risingFrom 0 t.links = true
  routes : risingFrom 0 s.routes = true → risingFrom 0 t.routes = true
  homes : risingFrom 0 s.homes = true → risingFrom 0 t.homes = true
  out : s.out <:+ t.out
  free : s.freeCtr ≤ t.freeCtr
  queue : t.pending = s.pending
  power : s.pwr.sound → t.pwr.sound

theorem State.Onward.refl (s : State) : s.Onward s :=
  ⟨id, id, id, id, id, id, id, id, id, List.suffix_refl _, Nat.le_refl _, rfl, id⟩

theorem State.Onward.trans {s t u : State} (h : s.Onward t) (g : t.Onward u) : s.Onward u :=
  ⟨g.1 ∘ h.1, g.2 ∘ h.2, g.3 ∘ h.3, g.4 ∘ h.4, g.5 ∘ h.5, g.6 ∘ h.6, g.7 ∘ h.7, g.8 ∘ h.8, g.9 ∘ h.9, h.10.trans g.10, Nat.le_trans h.11 g.11,
    g.12.trans h.12, g.13 ∘ h.13⟩

theorem State.Onward.canonical {s t : State} (h : s.Onward t) (c : s.canonical) : t.canonical := by
  obtain ⟨c1, c2, c3, c4, c5, c6, c7, c8, c9⟩ := c
  exact ⟨h.1 c1, h.2 c2, h.3 c3, h.4 c4, h.5 c5, h.6 c6, h.7 c7, h.8 c8, h.9 c9⟩

theorem State.Onward.follows {s t : State} (h : s.Onward t) : s.Follows t := ⟨h.10, h.11, h.12⟩

/-! ### Primitive updates -/

variable {a s : State}

theorem onward_setReg (h : a.Onward s) (k : Nat) (w : Word) : a.Onward (s.setReg k w) :=
  h.trans ⟨fun c => RegFile.wf_set _ k w c, id, id, id, id, id, id, id, id, List.suffix_refl _, Nat.le_refl _, rfl, id⟩

theorem onward_setAct (h : a.Onward s) (k : Nat) (w : Word) : a.Onward (s.setAct k w) :=
  h.trans ⟨id, fun c => RegFile.wf_set _ k w c, id, id, id, id, id, id, id, List.suffix_refl _, Nat.le_refl _, rfl, id⟩

theorem onward_setLane (h : a.Onward s) (b l : Nat) (f : LaneSt → LaneSt) : a.Onward (s.setLane b l f) :=
  h.trans ⟨id, id, id, fun c => risingFrom_set _ _ _ 0 (Nat.zero_le _) c, id, id, id, id, id, List.suffix_refl _, Nat.le_refl _, rfl, id⟩

theorem onward_setBank (h : a.Onward s) (b : Nat) (f : BankSt → BankSt) : a.Onward (s.setBank b f) :=
  h.trans ⟨id, id, id, id, fun c => risingFrom_set _ _ _ 0 (Nat.zero_le _) c, id, id, id, id, List.suffix_refl _, Nat.le_refl _, rfl, id⟩

theorem onward_setPort (h : a.Onward s) (n : Nat) (f : PortSt → PortSt) : a.Onward (s.setPort n f) :=
  h.trans ⟨id, id, id, id, id, fun c => risingFrom_set _ _ _ 0 (Nat.zero_le _) c, id, id, id, List.suffix_refl _, Nat.le_refl _, rfl, id⟩

theorem onward_setLink (h : a.Onward s) (m : Nat) (f : LinkSt → LinkSt) : a.Onward (s.setLink m f) :=
  h.trans ⟨id, id, id, id, id, id, fun c => risingFrom_set _ _ _ 0 (Nat.zero_le _) c, id, id, List.suffix_refl _, Nat.le_refl _, rfl, id⟩

theorem onward_setRoute (h : a.Onward s) (w : Nat) (f : RouteSt → RouteSt) : a.Onward (s.setRoute w f) :=
  h.trans ⟨id, id, id, id, id, id, id, fun c => risingFrom_set _ _ _ 0 (Nat.zero_le _) c, id, List.suffix_refl _, Nat.le_refl _, rfl, id⟩

theorem onward_setHome (h : a.Onward s) (n : Nat) (f : HomeSt → HomeSt) : a.Onward (s.setHome n f) :=
  h.trans ⟨id, id, id, id, id, id, id, id, fun c => risingFrom_set _ _ _ 0 (Nat.zero_le _) c, List.suffix_refl _, Nat.le_refl _, rfl, id⟩

/-- An update of the Insole's state that leaves its bytes alone. -/
theorem onward_setIns (h : a.Onward s) (f : InsSt → InsSt) (hf : (f s.ins).mem = s.ins.mem) : a.Onward (s.setIns f) :=
  h.trans ⟨id, id, fun c => by show (f s.ins).mem.wf = true; rw [hf]; exact c, id, id, id, id, id, id, List.suffix_refl _, Nat.le_refl _, rfl, id⟩

theorem onward_setMem (h : a.Onward s) (n : Nat) (bs : List Byte) : a.Onward (s.setMem n bs) :=
  h.trans ⟨id, id, fun c => Mem.wf_sets bs _ n c, id, id, id, id, id, id, List.suffix_refl _, Nat.le_refl _, rfl, id⟩

theorem onward_clearMem (h : a.Onward s) (n k : Nat) : a.Onward (s.clearMem n k) :=
  h.trans ⟨id, id, fun c => Mem.wf_clear _ n k c, id, id, id, id, id, id, List.suffix_refl _, Nat.le_refl _, rfl, id⟩

theorem onward_setMgt (h : a.Onward s) (f : MgtSt → MgtSt) : a.Onward (s.setMgt f) :=
  h.trans ⟨id, id, id, id, id, id, id, id, id, List.suffix_refl _, Nat.le_refl _, rfl, id⟩

theorem onward_setTim (h : a.Onward s) (f : TimeSt → TimeSt) : a.Onward (s.setTim f) :=
  h.trans ⟨id, id, id, id, id, id, id, id, id, List.suffix_refl _, Nat.le_refl _, rfl, id⟩

theorem onward_setAcs (h : a.Onward s) (f : AccessSt → AccessSt) : a.Onward (s.setAcs f) :=
  h.trans ⟨id, id, id, id, id, id, id, id, id, List.suffix_refl _, Nat.le_refl _, rfl, id⟩

theorem onward_setLas (h : a.Onward s) (f : LastSt → LastSt) : a.Onward (s.setLas f) :=
  h.trans ⟨id, id, id, id, id, id, id, id, id, List.suffix_refl _, Nat.le_refl _, rfl, id⟩

theorem onward_setSole (h : a.Onward s) (f : SoleSt → SoleSt) : a.Onward (s.setSole f) :=
  h.trans ⟨id, id, id, id, id, id, id, id, id, List.suffix_refl _, Nat.le_refl _, rfl, id⟩

theorem onward_setPwr (h : a.Onward s) (f : PwrSt → PwrSt) (hf : s.pwr.sound → (f s.pwr).sound) : a.Onward (s.setPwr f) :=
  h.trans ⟨id, id, id, id, id, id, id, id, id, List.suffix_refl _, Nat.le_refl _, rfl, hf⟩

/-- An update of the power controller that keeps it sound whatever it was. -/
theorem onward_setPwrAside (h : a.Onward s) (f : PwrSt → PwrSt) (hf : ∀ p, p.sound → (f p).sound) : a.Onward (s.setPwr f) :=
  onward_setPwr h f (hf _)

theorem onward_setMdl (h : a.Onward s) (f : ModSt → ModSt) : a.Onward (s.setMdl f) :=
  h.trans ⟨id, id, id, id, id, id, id, id, id, List.suffix_refl _, Nat.le_refl _, rfl, id⟩

theorem onward_setFlt (h : a.Onward s) (f : FltSt → FltSt) : a.Onward (s.setFlt f) :=
  h.trans ⟨id, id, id, id, id, id, id, id, id, List.suffix_refl _, Nat.le_refl _, rfl, id⟩

theorem onward_setCnt (h : a.Onward s) (f : CntSt → CntSt) : a.Onward (s.setCnt f) :=
  h.trans ⟨id, id, id, id, id, id, id, id, id, List.suffix_refl _, Nat.le_refl _, rfl, id⟩

theorem onward_setSec (h : a.Onward s) (f : SecSt → SecSt) : a.Onward (s.setSec f) :=
  h.trans ⟨id, id, id, id, id, id, id, id, id, List.suffix_refl _, Nat.le_refl _, rfl, id⟩

theorem onward_setCob (h : a.Onward s) (f : CobSt → CobSt) : a.Onward (s.setCob f) :=
  h.trans ⟨id, id, id, id, id, id, id, id, id, List.suffix_refl _, Nat.le_refl _, rfl, id⟩

theorem onward_setVmp (h : a.Onward s) (f : VampSt → VampSt) : a.Onward (s.setVmp f) :=
  h.trans ⟨id, id, id, id, id, id, id, id, id, List.suffix_refl _, Nat.le_refl _, rfl, id⟩

theorem onward_setBnd (h : a.Onward s) (f : BndSt → BndSt) : a.Onward (s.setBnd f) :=
  h.trans ⟨id, id, id, id, id, id, id, id, id, List.suffix_refl _, Nat.le_refl _, rfl, id⟩

theorem onward_setLwt (h : a.Onward s) (f : List LostWrite → List LostWrite) : a.Onward (s.setLwt f) :=
  h.trans ⟨id, id, id, id, id, id, id, id, id, List.suffix_refl _, Nat.le_refl _, rfl, id⟩

theorem onward_usedFree (h : a.Onward s) : a.Onward s.usedFree :=
  h.trans ⟨id, id, id, id, id, id, id, id, id, List.suffix_refl _, Nat.le_succ _, rfl, id⟩

theorem onward_send (h : a.Onward s) (o : Out) : a.Onward (s.send o) :=
  h.trans ⟨id, id, id, id, id, id, id, id, id, List.suffix_cons _ _, Nat.le_refl _, rfl, id⟩

/-- A choice between two later states. -/
theorem onward_ite {c : Prop} [Decidable c] {x y : State} (hx : a.Onward x) (hy : a.Onward y) : a.Onward (if c then x else y) := by
  split
  · exact hx
  · exact hy

/-- A fold of an operation. -/
theorem onward_each {α : Type} (f : State → α → State) (hf : ∀ t x, a.Onward t → a.Onward (f t x)) :
    ∀ (l : List α) {s : State}, a.Onward s → a.Onward (s.each l f)
  | [], _, h => h
  | x :: rest, _, h => onward_each f hf rest (hf _ x h)

/-- A fold of an operation, as the core library writes it. -/
theorem onward_foldl {α : Type} (f : State → α → State) (hf : ∀ t x, a.Onward t → a.Onward (f t x)) :
    ∀ (l : List α) {s : State}, a.Onward s → a.Onward (l.foldl f s)
  | [], _, h => h
  | x :: rest, _, h => onward_foldl f hf rest (hf _ x h)

end Sys2Proof.Machine
end

