-- ==== Sys2Proof/Laws/Onward1.lean ====
section
/-!
SUPPORT. What the operations keep (part 1 of 8), in the order in which they call each other.
-/
set_option linter.all false
namespace Sys2Proof.Machine
set_option Elab.async false
open Sys2Proof

theorem onward_put {z s : State} (hz : z.Onward s) (f : Fld) (d : Nat) (v : Nat) : z.Onward (s.put f d v) := by
  unfold State.put
  repeat' with_reducible (first | assumption | apply onward_setReg)

theorem onward_putAct {z s : State} (hz : z.Onward s) (f : Fld) (d : Nat) (v : Nat) : z.Onward (s.putAct f d v) := by
  unfold State.putAct
  repeat' with_reducible (first | assumption | apply onward_setAct)

theorem onward_bump {z s : State} (hz : z.Onward s) (f : Fld) (d : Nat) (n : Nat) : z.Onward (s.bump f d n) := by
  unfold State.bump
  repeat' with_reducible (first | assumption | apply onward_put)

theorem onward_setChan {z s : State} (hz : z.Onward s) (c : Nat) (f : ChanSt → ChanSt) : z.Onward (s.setChan c f) := by
  unfold State.setChan
  try dsimp only
  repeat' with_reducible (first | assumption | (refine onward_setIns ?_ _ (by rfl)) | intro _)

theorem onward_setCore {z s : State} (hz : z.Onward s) (c : Nat) (f : CoreSt → CoreSt) : z.Onward (s.setCore c f) := by
  unfold State.setCore
  try dsimp only
  repeat' with_reducible (first | assumption | apply onward_setMgt | intro _)

theorem onward_viral {z s : State} (hz : z.Onward s) (n : Nat) : z.Onward (s.viral n) := by
  unfold State.viral
  try dsimp only
  repeat' with_reducible (first | assumption | apply onward_put | apply onward_send | apply onward_ite | split)

theorem onward_sysWrite {z s : State} (hz : z.Onward s) (a : Nat) (bs : List Byte) : z.Onward (s.sysWrite a bs) := by
  unfold State.sysWrite
  repeat' with_reducible (first | assumption | apply onward_setMem | apply onward_ite | split)

theorem onward_svcAdd {z s : State} (hz : z.Onward s) (rank : Nat) (dpa : Nat) : z.Onward (s.svcAdd rank dpa) := by
  unfold State.svcAdd
  try dsimp only
  repeat' with_reducible (first | assumption | apply onward_setChan | intro _)

theorem onward_svcDone {z s : State} (hz : z.Onward s) (rank : Nat) (dpa : Nat) : z.Onward (s.svcDone rank dpa) := by
  unfold State.svcDone
  try dsimp only
  repeat' with_reducible (first | assumption | apply onward_setChan | intro _)

theorem onward_event {z s : State} (hz : z.Onward s) (cls : Nat) (blk : Nat) (inst : Nat) (code : Nat) (data : Nat) : z.Onward (s.event cls blk inst code data) := by
  unfold State.event
  try dsimp only
  repeat' with_reducible (first | assumption | apply onward_setMgt | intro _)

theorem onward_setSticky {z s : State} (hz : z.Onward s) (n : Nat) (b : Bool) : z.Onward (s.setSticky n b) := by
  unfold State.setSticky
  try dsimp only
  repeat' with_reducible (first | assumption | apply onward_setReg | apply onward_ite | split)

theorem onward_faultLog {z s : State} (hz : z.Onward s) (typ : Nat) (n : Nat) (path : Nat) : z.Onward (s.faultLog typ n path) := by
  unfold State.faultLog
  try dsimp only
  repeat' with_reducible (first | assumption | apply onward_put | apply onward_setFlt | apply onward_sysWrite | intro _)

theorem onward_fence {z s : State} (hz : z.Onward s) (u : FUnit) (n : Nat) : z.Onward (s.fence u n) := by
  unfold State.fence
  try dsimp only
  repeat' with_reducible (first | assumption | apply onward_faultLog | apply onward_setFlt | intro _ | apply onward_ite | split)

theorem onward_occAt {z s : State} (hz : z.Onward s) (n : Nat) (inst : Nat) (u : Option FUnit) : z.Onward (s.occAt n inst u) := by
  unfold State.occAt
  try dsimp only
  repeat' with_reducible (first | assumption | apply onward_faultLog | apply onward_fence | apply onward_setFlt | apply onward_setMgt | intro _ | apply onward_ite | split)

theorem onward_occ {z s : State} (hz : z.Onward s) (base : Nat) (i : Nat) : z.Onward (s.occ base i) := by
  unfold State.occ
  repeat' with_reducible (first | assumption | apply onward_occAt)

theorem onward_cfgErr {z s : State} (hz : z.Onward s) (kind : Nat) (inst : Nat) : z.Onward (s.cfgErr kind inst) := by
  unfold State.cfgErr
  repeat' with_reducible (first | assumption | apply onward_occAt)

theorem onward_cfgErrAt {z s : State} (hz : z.Onward s) (o : Nat) : z.Onward (s.cfgErrAt o) := by
  unfold State.cfgErrAt
  repeat' with_reducible (first | assumption | apply onward_cfgErr | split)

theorem onward_storeWord {z s : State} (hz : z.Onward s) (d : RegDef) (k : Nat) (v : Word) : z.Onward (s.storeWord d k v) := by
  unfold State.storeWord
  try dsimp only
  repeat' with_reducible (first | assumption | apply onward_cfgErrAt | apply onward_occ | apply onward_setReg | apply onward_foldl | intro _ | apply onward_ite | split)

theorem onward_storeAt {z s : State} (hz : z.Onward s) (k : Nat) (v : Word) : z.Onward (s.storeAt k v) := by
  unfold State.storeAt
  repeat' with_reducible (first | assumption | apply onward_storeWord | split)

theorem onward_setCtr {z s : State} (hz : z.Onward s) (b : Nat) (n : Nat) (v : Nat) : z.Onward (s.setCtr b n v) := by
  unfold State.setCtr
  repeat' with_reducible (first | assumption | apply onward_put)

theorem onward_setOvf {z s : State} (hz : z.Onward s) (b : Nat) (n : Nat) : z.Onward (s.setOvf b n) := by
  unfold State.setOvf
  repeat' with_reducible (first | assumption | apply onward_put)

theorem onward_ctrAdd1 {z s : State} (hz : z.Onward s) (b : Nat) (n : Nat) (q : Nat) : z.Onward (s.ctrAdd1 b n q) := by
  unfold State.ctrAdd1
  try dsimp only
  repeat' with_reducible (first | assumption | apply onward_setCtr | apply onward_setOvf | apply onward_ite | split)

theorem onward_ctrAdd {z s : State} (hz : z.Onward s) (b : Nat) (n : Nat) (q : Nat) : z.Onward (s.ctrAdd b n q) := by
  unfold State.ctrAdd
  try dsimp only
  repeat' with_reducible (first | assumption | apply onward_ctrAdd1 | apply onward_ite | split)

theorem onward_count {z s : State} (hz : z.Onward s) (b : Nat) (ev : Nat) (unit : Nat) (slice : Nat) (q : Nat) : z.Onward (s.count b ev unit slice q) := by
  unfold State.count
  try dsimp only
  repeat' with_reducible (first | assumption | apply onward_ctrAdd | apply onward_each | intro _ | apply onward_ite | split)

theorem onward_account {z s : State} (hz : z.Onward s) (slice : Nat) (c : Nat) (q : Nat) : z.Onward (s.account slice c q) := by
  unfold State.account
  try dsimp only
  repeat' with_reducible (first | assumption | apply onward_setCnt | intro _)

theorem onward_syncBuf {z s : State} (hz : z.Onward s)  : z.Onward (State.syncBuf s) := by
  unfold State.syncBuf
  try dsimp only
  repeat' with_reducible (first | assumption | apply onward_each | apply onward_put | intro _)

theorem onward_severe {z s : State} (hz : z.Onward s) (slice : Nat) (a : Nat) : z.Onward (s.severe slice a) := by
  unfold State.severe
  try dsimp only
  repeat' with_reducible (first | assumption | apply onward_setSole | intro _)

theorem onward_evaluate {z s : State} (hz : z.Onward s) (a : Nat) (m : Msg) : z.Onward (s.evaluate a m).1 := by
  unfold State.evaluate
  try dsimp only
  repeat' with_reducible (first | assumption | apply onward_bump | apply onward_count | apply onward_setSole | apply onward_usedFree | intro _ | apply onward_ite | split)

theorem onward_evaluate_eq {z s t : State} {a : Nat} {m : Msg} {r} (e : (State.evaluate s a m) = (t, r)) (hz : z.Onward s) : z.Onward t := by
  have g := onward_evaluate hz a m
  rw [e] at g
  exact g

theorem onward_setQueue {z s : State} (hz : z.Onward s) (q : Nat) (f : QueueSt → QueueSt) : z.Onward (s.setQueue q f) := by
  unfold State.setQueue
  try dsimp only
  repeat' with_reducible (first | assumption | apply onward_setSole | intro _)

theorem onward_syncSlots {z s : State} (hz : z.Onward s)  : z.Onward (State.syncSlots s) := by
  unfold State.syncSlots
  repeat' with_reducible (first | assumption | apply onward_put)

theorem onward_touchQueue {z s : State} (hz : z.Onward s) (q : Nat) : z.Onward (s.touchQueue q) := by
  unfold State.touchQueue
  try dsimp only
  repeat' with_reducible (first | assumption | apply onward_setSole | intro _)

theorem onward_claimSlot_eq {z s t : State} {q : Nat} (e : s.claimSlot q = some t) (h : z.Onward s) : z.Onward t := by
  unfold State.claimSlot at e
  dsimp only at e
  split at e
  · rw [← Option.some.inj e]; exact onward_touchQueue h q
  · split at e
    · rw [← Option.some.inj e]
      exact onward_syncSlots (onward_count (onward_svcAdd (onward_setSole (onward_touchQueue (onward_setQueue h _ _) _) _) _ _) _ _ _ _ _)
    · split at e
      · cases e
      · rw [← Option.some.inj e]
        exact onward_syncSlots (onward_count (onward_svcAdd (onward_setSole (onward_touchQueue (onward_setQueue (onward_setSole (onward_setQueue h _ _) _) _ _) _) _)
          _ _) _ _ _ _ _)

theorem onward_unland {z s : State} (hz : z.Onward s) (src : Nat) (id : Nat) : z.Onward (s.unland src id) := by
  unfold State.unland
  try dsimp only
  repeat' with_reducible (first | assumption | apply onward_setLink | apply onward_foldl | intro _ | apply onward_ite | split)

theorem onward_dispDone {z s : State} (hz : z.Onward s) (id : Nat) : z.Onward (s.dispDone id) := by
  unfold State.dispDone
  try dsimp only
  repeat' with_reducible (first | assumption | (refine onward_setIns ?_ _ (by rfl)) | intro _)

theorem onward_takeIn {z s : State} (hz : z.Onward s) (x : Queued) (c : Charge) : z.Onward (s.takeIn x c) := by
  unfold State.takeIn
  try dsimp only
  repeat' with_reducible (first | assumption | apply onward_account | apply onward_count | apply onward_dispDone | apply onward_setSole | apply onward_severe | apply onward_syncBuf | apply onward_unland | intro _ | apply onward_ite | split)

theorem onward_place {z s : State} (hz : z.Onward s) (x : Queued) : z.Onward (s.place x) := by
  unfold State.place
  try dsimp only
  repeat' with_reducible (first | assumption | apply onward_bump | apply onward_count | apply onward_setSole | apply onward_syncBuf | apply onward_syncSlots | apply onward_takeIn | apply onward_unland | refine onward_claimSlot_eq (by assumption) ?_ | intro _ | apply onward_ite | split)

theorem onward_fenceSeen {z s : State} (hz : z.Onward s) (src : Nat) (m : Msg) : z.Onward (s.fenceSeen src m) := by
  unfold State.fenceSeen
  try dsimp only
  repeat' with_reducible (first | assumption | apply onward_setLink | apply onward_setRoute | apply onward_unland | intro _ | apply onward_ite | split)

theorem onward_step7Now {z s : State} (hz : z.Onward s) (src : Nat) (egress : Nat) (m0 : Msg) : z.Onward (s.step7Now src egress m0) := by
  unfold State.step7Now
  try dsimp only
  repeat' with_reducible (first | assumption | apply onward_bump | apply onward_count | apply onward_evaluate | apply onward_fenceSeen | apply onward_place | apply onward_setSole | apply onward_severe | apply onward_syncBuf | apply onward_unland | refine onward_evaluate_eq (by assumption) ?_ | intro _ | apply onward_ite | split)

theorem onward_step7 {z s : State} (hz : z.Onward s) (src : Nat) (egress : Nat) (m : Msg) : z.Onward (s.step7 src egress m) := by
  unfold State.step7
  try dsimp only
  repeat' with_reducible (first | assumption | apply onward_setSole | apply onward_step7Now | intro _ | apply onward_ite | split)

theorem onward_drainBehind {z s : State} (hz : z.Onward s)  : z.Onward (State.drainBehind s) := by
  unfold State.drainBehind
  try dsimp only
  repeat' with_reducible (first | assumption | apply onward_each | apply onward_setSole | apply onward_step7 | intro _)

theorem onward_respond {z s : State} (hz : z.Onward s) (ag : Nat) (req : Msg) (op : Op) (st : Status) (data : List Byte) (poison : Bool) (dl : Nat) : z.Onward (s.respond ag req op st data poison dl) := by
  unfold State.respond
  repeat' with_reducible (first | assumption | apply onward_step7)

theorem onward_failBack {z s : State} (hz : z.Onward s) (ag : Nat) (m : Msg) : z.Onward (s.failBack ag m) := by
  unfold State.failBack
  try dsimp only
  repeat' with_reducible (first | assumption | apply onward_respond | apply onward_ite | split)

theorem onward_routeFault {z s : State} (hz : z.Onward s) (src : Nat) (m : Msg) : z.Onward (s.routeFault src m) := by
  unfold State.routeFault
  try dsimp only
  repeat' with_reducible (first | assumption | apply onward_failBack | apply onward_occAt | apply onward_unland | apply onward_ite | split)

theorem onward_enqueue {z s : State} (hz : z.Onward s) (src : Nat) (m : Msg) : z.Onward (s.enqueue src m) := by
  unfold State.enqueue
  repeat' with_reducible (first | assumption | apply onward_routeFault | apply onward_step7 | split)

theorem onward_uncross {z s : State} (hz : z.Onward s) (ag : Nat) (id : Nat) : z.Onward (s.uncross ag id) := by
  unfold State.uncross
  try dsimp only
  repeat' with_reducible (first | assumption | apply onward_setSole | intro _)

theorem onward_accepted {z s : State} (hz : z.Onward s) (_ag : Nat) (m : Msg) : z.Onward (s.accepted _ag m) := by
  unfold State.accepted
  try dsimp only
  repeat' with_reducible (first | assumption | apply onward_dispDone | apply onward_send | apply onward_setSole | intro _ | apply onward_ite | split)

theorem onward_allocWaiting {z s : State} (hz : z.Onward s) (c : Nat) : z.Onward (s.allocWaiting c) := by
  unfold State.allocWaiting
  try dsimp only
  repeat' with_reducible (first | assumption | apply onward_drainBehind | apply onward_setSole | apply onward_syncSlots | apply onward_takeIn | refine onward_claimSlot_eq (by assumption) ?_ | intro _ | split)

theorem onward_claimWaiting {z s : State} (hz : z.Onward s)  : z.Onward (State.claimWaiting s) := by
  unfold State.claimWaiting
  try dsimp only
  repeat' with_reducible (first | assumption | apply onward_drainBehind | apply onward_place | apply onward_setSole | apply onward_syncSlots | refine onward_claimSlot_eq (by assumption) ?_ | intro _ | split)

theorem onward_releaseRed {z s : State} (hz : z.Onward s) (id : Nat) : z.Onward (s.releaseRed id) := by
  unfold State.releaseRed
  try dsimp only
  repeat' with_reducible (first | assumption | apply onward_drainBehind | apply onward_place | apply onward_setSole | apply onward_syncBuf | intro _ | apply onward_ite | split)

theorem onward_updateAvg {z s : State} (hz : z.Onward s)  : z.Onward (State.updateAvg s) := by
  unfold State.updateAvg
  try dsimp only
  repeat' with_reducible (first | assumption | apply onward_setSole | apply onward_foldl | intro _ | apply onward_ite | split)

theorem onward_queueFetched {z s : State} (hz : z.Onward s) (q : Nat) (out : Nat) : z.Onward (s.queueFetched q out) := by
  unfold State.queueFetched
  try dsimp only
  repeat' with_reducible (first | assumption | apply onward_bump | apply onward_occAt | apply onward_setQueue | apply onward_setSole | apply onward_svcDone | intro _ | apply onward_ite | split)

theorem onward_chargeShapers {z s : State} (hz : z.Onward s) (slice : Nat) (a : Nat) (len : Nat) : z.Onward (s.chargeShapers slice a len) := by
  unfold State.chargeShapers
  try dsimp only
  repeat' with_reducible (first | assumption | apply onward_put | apply onward_ite | split)

theorem onward_refillShapers {z s : State} (hz : z.Onward s)  : z.Onward (State.refillShapers s) := by
  unfold State.refillShapers
  try dsimp only
  repeat' with_reducible (first | assumption | apply onward_each | apply onward_put | intro _ | apply onward_ite | split)

theorem onward_refillMeters {z s : State} (hz : z.Onward s)  : z.Onward (State.refillMeters s) := by
  unfold State.refillMeters
  try dsimp only
  repeat' with_reducible (first | assumption | apply onward_setSole | apply onward_foldl | intro _)

theorem onward_fillMeters {z s : State} (hz : z.Onward s)  : z.Onward (State.fillMeters s) := by
  unfold State.fillMeters
  try dsimp only
  repeat' with_reducible (first | assumption | apply onward_setSole | apply onward_foldl | intro _)

theorem onward_meterStep {z s : State} (hz : z.Onward s) (ag : Nat) (m : Msg) : z.Onward (s.meterStep ag m).1 := by
  unfold State.meterStep
  try dsimp only
  repeat' with_reducible (first | assumption | apply onward_account | apply onward_count | apply onward_setSole | intro _ | apply onward_ite | split)

theorem onward_meterStep_eq {z s t : State} {ag : Nat} {m : Msg} {r} (e : (State.meterStep s ag m) = (t, r)) (hz : z.Onward s) : z.Onward t := by
  have g := onward_meterStep hz ag m
  rw [e] at g
  exact g

theorem onward_firmware {z s : State} (hz : z.Onward s) (k : Nat) (i : Instr) (f : State → State) (hf : ∀ t, z.Onward t → z.Onward (f t)) : z.Onward (s.firmware k i f) := by
  unfold State.firmware
  try dsimp only
  repeat' with_reducible (first | assumption | apply onward_setMgt | intro _ | apply hf | apply onward_ite | split)

theorem onward_syncWake {z s : State} (hz : z.Onward s)  : z.Onward (State.syncWake s) := by
  unfold State.syncWake
  repeat' with_reducible (first | assumption | apply onward_put)

theorem onward_wakeAdd {z s : State} (hz : z.Onward s) (k : Nat) : z.Onward (s.wakeAdd k) := by
  unfold State.wakeAdd
  try dsimp only
  repeat' with_reducible (first | assumption | apply onward_setBnd | apply onward_syncWake | intro _ | apply onward_ite | split)

theorem onward_wakeDrop {z s : State} (hz : z.Onward s) (k : Nat) : z.Onward (s.wakeDrop k) := by
  unfold State.wakeDrop
  try dsimp only
  repeat' with_reducible (first | assumption | apply onward_setBnd | apply onward_syncWake | intro _)

theorem onward_setBndShelf {z s : State} (hz : z.Onward s) (sh : Nat) (st : Nat) : z.Onward (s.setBndShelf sh st) := by
  unfold State.setBndShelf
  repeat' with_reducible (first | assumption | apply onward_event | apply onward_put)

theorem onward_wakeRequest {z s : State} (hz : z.Onward s) (sh : Nat) : z.Onward (s.wakeRequest sh) := by
  unfold State.wakeRequest
  try dsimp only
  repeat' with_reducible (first | assumption | apply onward_setBnd | apply onward_setBndShelf | apply onward_wakeAdd | intro _ | apply onward_ite | split)

theorem onward_setWordPoison {z s : State} (hz : z.Onward s) (w : Nat) (b : Bool) : z.Onward (s.setWordPoison w b) := by
  unfold State.setWordPoison
  try dsimp only
  repeat' with_reducible (first | assumption | (refine onward_setIns ?_ _ (by rfl)) | intro _ | apply onward_ite | split)

theorem onward_insWrite {z s : State} (hz : z.Onward s) (a : Nat) (bs : List Byte) (poison : Bool) : z.Onward (s.insWrite a bs poison) := by
  unfold State.insWrite
  try dsimp only
  repeat' with_reducible (first | assumption | apply onward_each | apply onward_setMem | apply onward_setWordPoison | intro _ | apply onward_ite | split)

theorem onward_mirrorRead {z s : State} (hz : z.Onward s) (a : Nat) : z.Onward (s.mirrorRead a) := by
  unfold State.mirrorRead
  repeat' with_reducible (first | assumption | apply onward_bump | apply onward_ite | split)

theorem onward_poisonBlock {z s : State} (hz : z.Onward s) (a : Nat) : z.Onward (s.poisonBlock a) := by
  unfold State.poisonBlock
  try dsimp only
  repeat' with_reducible (first | assumption | apply onward_each | apply onward_setWordPoison | intro _)

theorem onward_eccRead {z s : State} (hz : z.Onward s) (a : Nat) (out : Nat) : z.Onward (s.eccRead a out).1 := by
  unfold State.eccRead
  try dsimp only
  repeat' with_reducible (first | assumption | apply onward_bump | apply onward_count | apply onward_occ | apply onward_poisonBlock | apply onward_put | apply onward_ite | split)

theorem onward_eccRead_eq {z s t : State} {a : Nat} {out : Nat} {r} (e : (State.eccRead s a out) = (t, r)) (hz : z.Onward s) : z.Onward t := by
  have g := onward_eccRead hz a out
  rw [e] at g
  exact g

theorem onward_poolServe {z s : State} (hz : z.Onward s) (m : Msg) : z.Onward (s.poolServe m) := by
  unfold State.poolServe
  try dsimp only
  repeat' with_reducible (first | assumption | apply onward_accepted | apply onward_insWrite | apply onward_occ | apply onward_respond | intro _ | apply onward_ite | split)

theorem onward_homeCharge {z s : State} (hz : z.Onward s) (x : HomeAcc) : z.Onward (s.homeCharge x) := by
  unfold State.homeCharge
  try dsimp only
  repeat' with_reducible (first | assumption | apply onward_account | intro _ | apply onward_ite | split)

theorem onward_insServe {z s : State} (hz : z.Onward s) (ch : Nat) : z.Onward (s.insServe ch) := by
  unfold State.insServe
  try dsimp only
  repeat' with_reducible (first | assumption | apply onward_account | apply onward_count | apply onward_homeCharge | apply onward_insWrite | apply onward_occ | apply onward_poolServe | apply onward_setChan | apply onward_svcDone | apply onward_uncross | intro _ | apply onward_ite | split)

theorem onward_poolReadDone {z s : State} (hz : z.Onward s) (ch : Nat) (out : Nat) : z.Onward (s.poolReadDone ch out) := by
  unfold State.poolReadDone
  try dsimp only
  repeat' with_reducible (first | assumption | apply onward_eccRead | apply onward_mirrorRead | apply onward_occ | apply onward_respond | apply onward_setChan | refine onward_eccRead_eq (by assumption) ?_ | intro _ | apply onward_ite | split)

theorem onward_homeReadDone {z s : State} (hz : z.Onward s) (ch : Nat) (out : Nat) : z.Onward (s.homeReadDone ch out) := by
  unfold State.homeReadDone
  try dsimp only
  repeat' with_reducible (first | assumption | apply onward_eccRead | apply onward_mirrorRead | apply onward_occ | apply onward_setChan | refine onward_eccRead_eq (by assumption) ?_ | intro _ | apply onward_ite | split)

theorem onward_scrub {z s : State} (hz : z.Onward s)  : z.Onward (State.scrub s) := by
  unfold State.scrub
  try dsimp only
  repeat' with_reducible (first | assumption | apply onward_bump | apply onward_each | apply onward_setChan | intro _ | apply onward_ite | split)

theorem onward_remapSet {z s : State} (hz : z.Onward s) (idx : Nat) (r : Remap) : z.Onward (s.remapSet idx r) := by
  unfold State.remapSet
  try dsimp only
  repeat' with_reducible (first | assumption | apply onward_setMem | (refine onward_setIns ?_ _ (by rfl)) | intro _ | split)

theorem onward_remapTouch {z s : State} (hz : z.Onward s) (idx : Nat) : z.Onward (s.remapTouch idx) := by
  unfold State.remapTouch
  try dsimp only
  repeat' with_reducible (first | assumption | (refine onward_setIns ?_ _ (by rfl)) | intro _)

theorem onward_remapIn {z s : State} (hz : z.Onward s) (idx : Nat) (r : Remap) : z.Onward (s.remapIn idx r) := by
  unfold State.remapIn
  try dsimp only
  repeat' with_reducible (first | assumption | apply onward_remapTouch | apply onward_setMem | (refine onward_setIns ?_ _ (by rfl)) | intro _ | apply onward_ite | split)

theorem onward_setShelf {z s : State} (hz : z.Onward s) (sh : Nat) (v : Nat) : z.Onward (s.setShelf sh v) := by
  unfold State.setShelf
  repeat' with_reducible (first | assumption | apply onward_put)

theorem onward_syncFrames {z s : State} (hz : z.Onward s)  : z.Onward (State.syncFrames s) := by
  unfold State.syncFrames
  repeat' with_reducible (first | assumption | apply onward_put)

theorem onward_frameTake {z s : State} (hz : z.Onward s) (f : Nat) : z.Onward (s.frameTake f) := by
  unfold State.frameTake
  try dsimp only
  repeat' with_reducible (first | assumption | apply onward_syncFrames | (refine onward_setIns ?_ _ (by rfl)) | intro _)

theorem onward_frameRelease {z s : State} (hz : z.Onward s) (f : Nat) : z.Onward (s.frameRelease f) := by
  unfold State.frameRelease
  try dsimp only
  repeat' with_reducible (first | assumption | apply onward_syncFrames | (refine onward_setIns ?_ _ (by rfl)) | intro _)

theorem onward_frameLeave {z s : State} (hz : z.Onward s) (idx : Nat) (f : Nat) : z.Onward (s.frameLeave idx f) := by
  unfold State.frameLeave
  try dsimp only
  repeat' with_reducible (first | assumption | apply onward_frameRelease | (refine onward_setIns ?_ _ (by rfl)) | intro _ | apply onward_ite | split)

theorem onward_frameFreeDone {z s : State} (hz : z.Onward s) (f : Nat) : z.Onward (s.frameFreeDone f) := by
  unfold State.frameFreeDone
  try dsimp only
  repeat' with_reducible (first | assumption | apply onward_frameRelease | (refine onward_setIns ?_ _ (by rfl)) | intro _ | apply onward_ite | split)

theorem onward_countHeat {z s : State} (hz : z.Onward s) (idx : Nat) : z.Onward (s.countHeat idx) := by
  unfold State.countHeat
  try dsimp only
  repeat' with_reducible (first | assumption | apply onward_remapSet | apply onward_usedFree | apply onward_ite | split)

theorem onward_dirty {z s : State} (hz : z.Onward s) (rng : Nat) (idx : Nat) : z.Onward (s.dirty rng idx) := by
  unfold State.dirty
  try dsimp only
  repeat' with_reducible (first | assumption | apply onward_bump | apply onward_remapSet | apply onward_ite | split)

theorem onward_lookDone {z s : State} (hz : z.Onward s) (rng : Nat) (gran : Nat) (write : Bool) (id : Nat) (l : Look) : z.Onward (s.lookDone rng gran write id l) := by
  unfold State.lookDone
  try dsimp only
  repeat' with_reducible (first | assumption | apply onward_count | apply onward_countHeat | apply onward_dirty | apply onward_remapTouch | (refine onward_setIns ?_ _ (by rfl)) | intro _ | apply onward_ite | split)

theorem onward_lookMiss {z s : State} (hz : z.Onward s) (rng : Nat) (gran : Nat) (ag : Nat) (m : Msg) : z.Onward (s.lookMiss rng gran ag m) := by
  unfold State.lookMiss
  try dsimp only
  repeat' with_reducible (first | assumption | apply onward_count | apply onward_svcAdd | (refine onward_setIns ?_ _ (by rfl)) | intro _ | apply onward_ite | split)

theorem onward_lookHold {z s : State} (hz : z.Onward s) (rng : Nat) (gran : Nat) (m : Msg) : z.Onward (s.lookHold rng gran m) := by
  unfold State.lookHold
  try dsimp only
  repeat' with_reducible (first | assumption | apply onward_count | (refine onward_setIns ?_ _ (by rfl)) | intro _ | apply onward_ite | split)

theorem onward_lookAsleep {z s : State} (hz : z.Onward s) (rng : Nat) (gran : Nat) (m : Msg) : z.Onward (s.lookAsleep rng gran m) := by
  unfold State.lookAsleep
  try dsimp only
  repeat' with_reducible (first | assumption | apply onward_bump | apply onward_count | apply onward_setShelf | apply onward_wakeRequest | (refine onward_setIns ?_ _ (by rfl)) | intro _ | apply onward_ite | split)

theorem onward_remapFill {z s : State} (hz : z.Onward s) (rng : Nat) (gran : Nat) (out : Nat) : z.Onward (s.remapFill rng gran out).1 := by
  unfold State.remapFill
  try dsimp only
  repeat' with_reducible (first | assumption | apply onward_eccRead | apply onward_occAt | apply onward_remapIn | apply onward_svcDone | refine onward_eccRead_eq (by assumption) ?_ | (refine onward_setIns ?_ _ (by rfl)) | intro _ | apply onward_ite | split)

theorem onward_remapFill_eq {z s t : State} {rng : Nat} {gran : Nat} {out : Nat} {r} (e : (State.remapFill s rng gran out) = (t, r)) (hz : z.Onward s) : z.Onward t := by
  have g := onward_remapFill hz rng gran out
  rw [e] at g
  exact g

theorem onward_heatEnd {z s : State} (hz : z.Onward s)  : z.Onward (State.heatEnd s) := by
  unfold State.heatEnd
  try dsimp only
  repeat' with_reducible (first | assumption | apply onward_bump | apply onward_put | (refine onward_setIns ?_ _ (by rfl)) | intro _ | apply onward_ite | split)

theorem onward_scanDone {z s : State} (hz : z.Onward s)  : z.Onward (State.scanDone s) := by
  unfold State.scanDone
  try dsimp only
  repeat' with_reducible (first | assumption | apply onward_each | apply onward_put | apply onward_remapSet | (refine onward_setIns ?_ _ (by rfl)) | apply onward_foldl | intro _ | split)

theorem onward_syncOpen {z s : State} (hz : z.Onward s)  : z.Onward (State.syncOpen s) := by
  unfold State.syncOpen
  try dsimp only
  repeat' with_reducible (first | assumption | apply onward_put | intro _)

theorem onward_setMigs {z s : State} (hz : z.Onward s) (f : List Mig → List Mig) : z.Onward (s.setMigs f) := by
  unfold State.setMigs
  try dsimp only
  repeat' with_reducible (first | assumption | apply onward_syncOpen | (refine onward_setIns ?_ _ (by rfl)) | intro _)

theorem onward_gcmdStatus {z s : State} (hz : z.Onward s) (st : Nat) (err : Nat) (rng : Nat) (gran : Nat) : z.Onward (s.gcmdStatus st err rng gran) := by
  unfold State.gcmdStatus
  try dsimp only
  repeat' with_reducible (first | assumption | apply onward_put | apply onward_ite | split)

theorem onward_migStart {z s : State} (hz : z.Onward s) (rng : Nat) (gran : Nat) (kind : Nat) (frame : Nat) (viaCmd : Bool) (coh : Bool) : z.Onward (s.migStart rng gran kind frame viaCmd coh) := by
  unfold State.migStart
  try dsimp only
  repeat' with_reducible (first | assumption | apply onward_frameTake | apply onward_remapIn | apply onward_remapSet | apply onward_setMigs | intro _ | apply onward_ite | split)

theorem onward_demoteClean {z s : State} (hz : z.Onward s) (rng : Nat) (gran : Nat) : z.Onward (s.demoteClean rng gran) := by
  unfold State.demoteClean
  try dsimp only
  repeat' with_reducible (first | assumption | apply onward_bump | apply onward_frameLeave | apply onward_remapSet)

theorem onward_demote {z s : State} (hz : z.Onward s) (rng : Nat) (gran : Nat) (viaCmd : Bool) (coh : Bool) : z.Onward (s.demote rng gran viaCmd coh) := by
  unfold State.demote
  try dsimp only
  repeat' with_reducible (first | assumption | apply onward_demoteClean | apply onward_gcmdStatus | apply onward_migStart | apply onward_ite | split)

theorem onward_migNext {z s : State} (hz : z.Onward s) (coh : Nat → Nat → Bool) : z.Onward (s.migNext coh) := by
  unfold State.migNext
  extract_lets open_ begun demoteFirst
  have gb : ∀ t, z.Onward t → z.Onward (begun t) := fun t g => onward_setIns g _ rfl
  have gd : ∀ t f, z.Onward t → (∀ u, z.Onward u → z.Onward (f u)) → z.Onward (demoteFirst t f) := by
    intro t f g gf
    show z.Onward (match t.ins.demo.find? fun c => t.canDemote c.2.1 c.2.2 with
      | some (_, r, g) => begun ((t.setIns fun i => { i with demo := (i.demo.dropWhile fun c => !(c.2.1 == r && c.2.2 == g)).drop 1 }).demote r g false (coh r g))
      | none => f (t.setIns fun i => { i with demo := [] }))
    split
    · exact gb _ (onward_demote (onward_setIns g _ rfl) _ _ _ _)
    · exact gf _ (onward_setIns g _ rfl)
  clear_value begun demoteFirst
  split
  · exact hz
  · split
    · exact gd _ _ (onward_setIns hz _ rfl) fun _ g => g
    · split
      · exact gb _ (onward_migStart (onward_setIns hz _ rfl) _ _ _ _ _ _)
      · exact gd _ _ (onward_setIns hz _ rfl) fun _ g => onward_bump (onward_setIns g _ rfl) _ _ _

theorem onward_releaseHeld {z : State} {r : State × List Msg} (h : z.Onward r.1) : z.Onward (releaseHeld r) := onward_setIns h _ rfl

theorem onward_migEnd {z s : State} (h : z.Onward s) (g : Mig) : z.Onward (s.migEnd g).1 := by
  unfold State.migEnd
  dsimp only
  split
  · exact onward_gcmdStatus (onward_setMigs h _) _ _ _ _
  · exact onward_setMigs h _

theorem onward_migAbandon {z s : State} (hz : z.Onward s) (g : Mig) : z.Onward (s.migAbandon g).1 := by
  unfold State.migAbandon
  try dsimp only
  repeat' with_reducible (first | assumption | apply onward_bump | apply onward_frameRelease | apply onward_migEnd | apply onward_occAt | apply onward_remapSet | refine onward_migEnd_eq (by assumption) ?_ | apply onward_ite | split)

theorem onward_migAbandon_eq {z s t : State} {g : Mig} {r} (e : (State.migAbandon s g) = (t, r)) (hz : z.Onward s) : z.Onward t := by
  have g := onward_migAbandon hz g
  rw [e] at g
  exact g

theorem onward_migSwitch {z s : State} (hz : z.Onward s) (g : Mig) : z.Onward (s.migSwitch g).1 := by
  unfold State.migSwitch
  try dsimp only
  repeat' with_reducible (first | assumption | apply onward_bump | apply onward_count | apply onward_frameLeave | apply onward_migEnd | apply onward_remapSet | refine onward_migEnd_eq (by assumption) ?_ | apply onward_ite | split)

theorem onward_migSwitch_eq {z s t : State} {g : Mig} {r} (e : (State.migSwitch s g) = (t, r)) (hz : z.Onward s) : z.Onward t := by
  have g := onward_migSwitch hz g
  rw [e] at g
  exact g

theorem onward_migDrained {z s : State} (hz : z.Onward s) (rng : Nat) (gran : Nat) : z.Onward (s.migDrained rng gran) := by
  unfold State.migDrained
  try dsimp only
  repeat' with_reducible (first | assumption | (refine onward_setIns ?_ _ (by rfl)) | intro _ | apply onward_ite | split)

theorem onward_gcmd {z s : State} (hz : z.Onward s) (op : Nat) (rng : Nat) (gran : Nat) (bound : Bool) (coh : Bool) : z.Onward (s.gcmd op rng gran bound coh) := by
  unfold State.gcmd
  try dsimp only
  repeat' with_reducible (first | assumption | apply onward_demote | apply onward_frameLeave | apply onward_gcmdStatus | apply onward_migStart | apply onward_remapSet | apply onward_ite | split)

theorem onward_shelfClean {z s : State} (hz : z.Onward s) (sh : Nat) : z.Onward (s.shelfClean sh) := by
  unfold State.shelfClean
  try dsimp only
  repeat' with_reducible (first | assumption | apply onward_each | apply onward_migStart | apply onward_put | apply onward_setShelf | (refine onward_setIns ?_ _ (by rfl)) | intro _ | apply onward_ite | split)

theorem onward_shelfRelease {z s : State} (hz : z.Onward s) (sh : Nat) : z.Onward (s.shelfRelease sh) := by
  unfold State.shelfRelease
  try dsimp only
  repeat' with_reducible (first | assumption | apply onward_put | apply onward_setShelf | (refine onward_setIns ?_ _ (by rfl)) | intro _ | apply onward_ite | split)

end Sys2Proof.Machine
end

