-- ==== Sys2Proof/Laws/Onward2.lean ====
section
/-!
SUPPORT. What the operations keep (part 2 of 8), in the order in which they call each other.
-/
set_option linter.all false
namespace Sys2Proof.Machine
set_option Elab.async false
open Sys2Proof

theorem onward_shelfParked {z s : State} (hz : z.Onward s) (sh : Nat) : z.Onward (s.shelfParked sh) := by
  unfold State.shelfParked
  try dsimp only
  repeat' with_reducible (first | assumption | apply onward_put | apply onward_setShelf | (refine onward_setIns ?_ _ (by rfl)) | intro _)

theorem onward_shelfAwake {z s : State} (hz : z.Onward s) (sh : Nat) (coh : Nat → Nat → Bool) : z.Onward (s.shelfAwake sh coh).1 := by
  unfold State.shelfAwake
  try dsimp only
  repeat' with_reducible (first | assumption | apply onward_each | apply onward_migStart | apply onward_put | apply onward_setShelf | (refine onward_setIns ?_ _ (by rfl)) | intro _ | apply onward_ite | split)

theorem onward_shelfAwake_eq {z s t : State} {sh : Nat} (coh : Nat → Nat → Bool) {r} (e : (State.shelfAwake s sh coh) = (t, r)) (hz : z.Onward s) : z.Onward t := by
  have g := onward_shelfAwake hz sh coh
  rw [e] at g
  exact g

theorem onward_shelfWakeFailed {z s : State} (hz : z.Onward s) (sh : Nat) : z.Onward (s.shelfWakeFailed sh).1 := by
  unfold State.shelfWakeFailed
  try dsimp only
  repeat' with_reducible (first | assumption | apply onward_occ | apply onward_put | apply onward_setShelf | (refine onward_setIns ?_ _ (by rfl)) | intro _ | apply onward_ite | split)

theorem onward_shelfWakeFailed_eq {z s t : State} {sh : Nat} {r} (e : (State.shelfWakeFailed s sh) = (t, r)) (hz : z.Onward s) : z.Onward t := by
  have g := onward_shelfWakeFailed hz sh
  rw [e] at g
  exact g

theorem onward_setTag {z s : State} (hz : z.Onward s) (g : Nat) (t : Nat) : z.Onward (s.setTag g t) := by
  unfold State.setTag
  try dsimp only
  repeat' with_reducible (first | assumption | apply onward_sysWrite | apply onward_ite | split)

theorem onward_keepTags {z s : State} (hz : z.Onward s) (p : Nat → Bool) : z.Onward (s.keepTags p) := by
  unfold State.keepTags
  try dsimp only
  repeat' with_reducible (first | assumption | apply onward_setSec | intro _)

theorem onward_applyTags {z s : State} (hz : z.Onward s)  : z.Onward (State.applyTags s) := by
  unfold State.applyTags
  try dsimp only
  repeat' with_reducible (first | assumption | apply onward_each | apply onward_keepTags | apply onward_setTag | (refine onward_setIns ?_ _ (by rfl)) | intro _)

theorem onward_tagIn {z s : State} (hz : z.Onward s) (l : Nat) : z.Onward (s.tagIn l) := by
  unfold State.tagIn
  try dsimp only
  repeat' with_reducible (first | assumption | (refine onward_setIns ?_ _ (by rfl)) | intro _)

theorem onward_applySanitised {z s : State} (hz : z.Onward s)  : z.Onward (State.applySanitised s) := by
  unfold State.applySanitised
  try dsimp only
  repeat' with_reducible (first | assumption | apply onward_clearMem | apply onward_each | apply onward_keepTags | apply onward_put | apply onward_setWordPoison | (refine onward_setIns ?_ _ (by rfl)) | intro _)

theorem onward_insExtents {z s : State} (hz : z.Onward s)  : z.Onward (State.insExtents s).1 := by
  unfold State.insExtents
  try dsimp only
  repeat' with_reducible (first | assumption | apply onward_each | apply onward_put | intro _)

theorem onward_insExtents_eq {z s t : State}  {r} (e : (State.insExtents s) = (t, r)) (hz : z.Onward s) : z.Onward t := by
  have g := onward_insExtents hz 
  rw [e] at g
  exact g

theorem onward_chanFence {z s : State} (hz : z.Onward s) (c : Nat) : z.Onward (s.chanFence c) := by
  unfold State.chanFence
  try dsimp only
  repeat' with_reducible (first | assumption | apply onward_each | apply onward_frameLeave | apply onward_put | apply onward_remapSet | intro _)

theorem onward_fencedDemote {z s : State} (hz : z.Onward s) (coh : Nat → Nat → Bool) : z.Onward (s.fencedDemote coh) := by
  unfold State.fencedDemote
  try dsimp only
  repeat' with_reducible (first | assumption | apply onward_each | apply onward_migStart | intro _ | apply onward_ite | split)

theorem onward_chanRelease {z s : State} (hz : z.Onward s) (c : Nat) : z.Onward (s.chanRelease c) := by
  unfold State.chanRelease
  try dsimp only
  repeat' with_reducible (first | assumption | apply onward_put | (refine onward_setIns ?_ _ (by rfl)) | intro _)

theorem onward_zeroFill {z s : State} (h : z.Onward s) : z.Onward s.zeroFill :=
  onward_syncFrames (h.trans ⟨id, id, fun _ => rfl, id, id, id, id, id, id, List.suffix_refl _, Nat.le_refl _, rfl, id⟩)

theorem onward_syncPortIds {z s : State} (hz : z.Onward s) (b : Nat) : z.Onward (s.syncPortIds b) := by
  unfold State.syncPortIds
  try dsimp only
  repeat' with_reducible (first | assumption | apply onward_each | apply onward_put | intro _ | apply onward_ite | split)

theorem onward_scanError {z s : State} (hz : z.Onward s) (b : Nat) (l : Nat) (err : Nat) : z.Onward (s.scanError b l err) := by
  unfold State.scanError
  try dsimp only
  repeat' with_reducible (first | assumption | apply onward_put | apply onward_setLane | intro _)

theorem onward_laneTo {z s : State} (hz : z.Onward s) (b : Nat) (l : Nat) (st : Nat) : z.Onward (s.laneTo b l st) := by
  unfold State.laneTo
  try dsimp only
  repeat' with_reducible (first | assumption | apply onward_put | apply onward_scanError | apply onward_ite | split)

theorem onward_laneDown {z s : State} (hz : z.Onward s) (b : Nat) (l : Nat) (st : Nat) : z.Onward (s.laneDown b l st) := by
  unfold State.laneDown
  try dsimp only
  repeat' with_reducible (first | assumption | apply onward_laneTo | apply onward_put | apply onward_setLane | intro _)

theorem onward_lanesIdle {z s : State} (hz : z.Onward s) (b : Nat) (ls : List Nat) : z.Onward (s.lanesIdle b ls) := by
  unfold State.lanesIdle
  try dsimp only
  repeat' with_reducible (first | assumption | apply onward_each | apply onward_laneDown | intro _ | apply onward_ite | split)

theorem onward_laneDetect {z s : State} (hz : z.Onward s) (b : Nat) (l : Nat) : z.Onward (s.laneDetect b l) := by
  unfold State.laneDetect
  try dsimp only
  repeat' with_reducible (first | assumption | apply onward_laneDown | apply onward_put | apply onward_setLane | apply onward_usedFree | intro _ | apply onward_ite | split)

theorem onward_lanesTrain {z s : State} (hz : z.Onward s) (b : Nat) (ls : List Nat) : z.Onward (s.lanesTrain b ls) := by
  unfold State.lanesTrain
  try dsimp only
  repeat' with_reducible (first | assumption | apply onward_each | apply onward_laneDetect | intro _ | apply onward_ite | split)

theorem onward_laneDetected {z s : State} (hz : z.Onward s) (b : Nat) (l : Nat) : z.Onward (s.laneDetected b l) := by
  unfold State.laneDetected
  try dsimp only
  repeat' with_reducible (first | assumption | apply onward_laneTo | apply onward_put | apply onward_setLane | intro _ | apply onward_ite | split)

theorem onward_laneUndetected {z s : State} (hz : z.Onward s) (b : Nat) (l : Nat) : z.Onward (s.laneUndetected b l) := by
  unfold State.laneUndetected
  repeat' with_reducible (first | assumption | apply onward_laneDown | apply onward_put | apply onward_ite | split)

theorem onward_laneAdapt {z s : State} (hz : z.Onward s) (b : Nat) (l : Nat) : z.Onward (s.laneAdapt b l) := by
  unfold State.laneAdapt
  try dsimp only
  repeat' with_reducible (first | assumption | apply onward_each | apply onward_laneTo | apply onward_put | apply onward_setLane | apply onward_setReg | intro _)

theorem onward_laneCdrLocked {z s : State} (hz : z.Onward s) (b : Nat) (l : Nat) (ofs : ℤ) : z.Onward (s.laneCdrLocked b l ofs) := by
  unfold State.laneCdrLocked
  try dsimp only
  repeat' with_reducible (first | assumption | apply onward_laneAdapt | apply onward_put | apply onward_setLane | apply onward_usedFree | intro _ | apply onward_ite | split)

theorem onward_laneAdapted {z s : State} (hz : z.Onward s) (b : Nat) (l : Nat) (settled : Bool) : z.Onward (s.laneAdapted b l settled) := by
  unfold State.laneAdapted
  try dsimp only
  repeat' with_reducible (first | assumption | apply onward_laneTo | apply onward_setLane | intro _ | apply onward_ite | split)

theorem onward_mapFail {z s : State} (hz : z.Onward s) (m : Nat) (bad : List Nat) : z.Onward (s.mapFail m bad) := by
  unfold State.mapFail
  try dsimp only
  repeat' with_reducible (first | assumption | apply onward_each | apply onward_laneDown | apply onward_occ | apply onward_setLane | intro _ | apply onward_ite | split)

theorem onward_laneOriented {z s : State} (hz : z.Onward s) (b : Nat) (l : Nat) (blk : Nat) (mir : Bool) : z.Onward (s.laneOriented b l blk mir) := by
  unfold State.laneOriented
  try dsimp only
  repeat' with_reducible (first | assumption | apply onward_laneTo | apply onward_mapFail | apply onward_put | apply onward_ite | split)

theorem onward_trainingBlock {z s : State} (hz : z.Onward s) (b : Nat) (l : Nat) (blk : Nat) (mir : Bool) (own : Bool) : z.Onward (s.trainingBlock b l blk mir own) := by
  unfold State.trainingBlock
  try dsimp only
  repeat' with_reducible (first | assumption | apply onward_laneOriented | apply onward_laneTo | apply onward_put | apply onward_setLane | intro _ | apply onward_ite | split)

theorem onward_laneRetry {z s : State} (hz : z.Onward s) (b : Nat) (l : Nat) : z.Onward (s.laneRetry b l) := by
  unfold State.laneRetry
  repeat' with_reducible (first | assumption | apply onward_lanesTrain | apply onward_ite | split)

theorem onward_laneBlockRelocked {z s : State} (hz : z.Onward s) (b : Nat) (l : Nat) : z.Onward (s.laneBlockRelocked b l) := by
  unfold State.laneBlockRelocked
  try dsimp only
  repeat' with_reducible (first | assumption | apply onward_laneTo | apply onward_put | apply onward_setLane | intro _)

theorem onward_laneBlockLock {z s : State} (hz : z.Onward s) (b : Nat) (l : Nat) : z.Onward (s.laneBlockLock b l) := by
  unfold State.laneBlockLock
  try dsimp only
  repeat' with_reducible (first | assumption | apply onward_laneBlockRelocked | apply onward_laneTo | apply onward_put | apply onward_ite | split)

theorem onward_laneLasting {z s : State} (hz : z.Onward s) (b : Nat) (l : Nat) (k : Relock) : z.Onward (s.laneLasting b l k) := by
  unfold State.laneLasting
  try dsimp only
  repeat' with_reducible (first | assumption | apply onward_occ | apply onward_setLane | intro _ | apply onward_ite | split)

theorem onward_laneLoss_start {z s : State} (hz : z.Onward s) (b : Nat) (l : Nat) (k : Relock) : z.Onward (State.laneLoss.start s b l k) := by
  unfold State.laneLoss.start
  try dsimp only
  repeat' with_reducible (first | assumption | apply onward_setLane | apply onward_ite | split)

theorem onward_laneLoss {z s : State} (hz : z.Onward s) (b : Nat) (l : Nat) (k : Relock) : z.Onward (s.laneLoss b l k) := by
  unfold State.laneLoss
  try dsimp only
  repeat' with_reducible (first | assumption | apply onward_laneLasting | apply onward_laneLoss_start | intro _ | apply onward_ite | split)

theorem onward_laneBlockLoss {z s : State} (hz : z.Onward s) (b : Nat) (l : Nat) : z.Onward (s.laneBlockLoss b l) := by
  unfold State.laneBlockLoss
  try dsimp only
  repeat' with_reducible (first | assumption | apply onward_bump | apply onward_count | apply onward_laneLoss | apply onward_laneTo | apply onward_put | apply onward_ite | split)

theorem onward_laneCdrLoss {z s : State} (hz : z.Onward s) (b : Nat) (l : Nat) : z.Onward (s.laneCdrLoss b l) := by
  unfold State.laneCdrLoss
  try dsimp only
  repeat' with_reducible (first | assumption | apply onward_laneLoss | apply onward_laneTo | apply onward_put | apply onward_setLane | intro _ | apply onward_ite | split)

theorem onward_laneRelock {z s : State} (hz : z.Onward s) (b : Nat) (l : Nat) : z.Onward (s.laneRelock b l) := by
  unfold State.laneRelock
  try dsimp only
  repeat' with_reducible (first | assumption | apply onward_laneBlockRelocked | apply onward_laneCdrLocked | apply onward_usedFree | apply onward_ite | split)

theorem onward_laneRelockTimeout {z s : State} (hz : z.Onward s) (b : Nat) (l : Nat) : z.Onward (s.laneRelockTimeout b l) := by
  unfold State.laneRelockTimeout
  repeat' with_reducible (first | assumption | apply onward_laneLasting | apply onward_ite | split)

theorem onward_laneRelockStable {z s : State} (hz : z.Onward s) (b : Nat) (l : Nat) : z.Onward (s.laneRelockStable b l) := by
  unfold State.laneRelockStable
  try dsimp only
  repeat' with_reducible (first | assumption | apply onward_bump | apply onward_setLane | intro _ | apply onward_ite | split)

theorem onward_freeBytes {z : State} (n : Nat) : ∀ {s : State}, z.Onward s → z.Onward (s.freeBytes n).1 := by
  induction n with
  | zero => intro s h; exact h
  | succ n ih => intro s h; exact ih (onward_usedFree h)

theorem onward_adaptUpdate {z s : State} (hz : z.Onward s) (b : Nat) (l : Nat) : z.Onward (s.adaptUpdate b l) := by
  unfold State.adaptUpdate
  try dsimp only
  repeat' with_reducible (first | assumption | apply onward_freeBytes | apply onward_setLane | apply onward_usedFree | refine onward_freeBytes_eq (by assumption) ?_ | intro _ | apply onward_ite | split)

theorem onward_coefSnap {z s : State} (hz : z.Onward s) (b : Nat) (l : Nat) : z.Onward (s.coefSnap b l) := by
  unfold State.coefSnap
  try dsimp only
  repeat' with_reducible (first | assumption | apply onward_each | apply onward_put | apply onward_usedFree | intro _ | apply onward_ite | split)

theorem onward_laneAdaptWrite {z s : State} (hz : z.Onward s) (b : Nat) (l : Nat) (v : Word) : z.Onward (s.laneAdaptWrite b l v) := by
  unfold State.laneAdaptWrite
  try dsimp only
  repeat' with_reducible (first | assumption | apply onward_coefSnap | apply onward_storeAt | apply onward_ite | split)

theorem onward_marginWrite {z s : State} (hz : z.Onward s) (b : Nat) (l : Nat) (v : Word) : z.Onward (s.marginWrite b l v) := by
  unfold State.marginWrite
  try dsimp only
  repeat' with_reducible (first | assumption | apply onward_each | apply onward_put | apply onward_setLane | apply onward_storeAt | intro _ | apply onward_ite | split)

theorem onward_marginPoint {z s : State} (hz : z.Onward s) (b : Nat) (l : Nat) (pass : Bool) : z.Onward (s.marginPoint b l pass) := by
  unfold State.marginPoint
  try dsimp only
  repeat' with_reducible (first | assumption | apply onward_put | apply onward_setLane | intro _ | apply onward_ite | split)

theorem onward_hostMargin {z s : State} (hz : z.Onward s) (b : Nat) (l : Nat) (start : Bool) : z.Onward (s.hostMargin b l start) := by
  unfold State.hostMargin
  try dsimp only
  repeat' with_reducible (first | assumption | apply onward_put | apply onward_scanError | apply onward_setReg | apply onward_ite | split)

theorem onward_setBankState {z s : State} (hz : z.Onward s) (b : Nat) (st : Nat) : z.Onward (s.setBankState b st) := by
  unfold State.setBankState
  try dsimp only
  repeat' with_reducible (first | assumption | apply onward_put | apply onward_setMdl | intro _ | apply onward_ite | split)

theorem onward_bankWake {z s : State} (hz : z.Onward s) (b : Nat) : z.Onward (s.bankWake b) := by
  unfold State.bankWake
  repeat' with_reducible (first | assumption | apply onward_setBankState | apply onward_wakeAdd | apply onward_ite | split)

theorem onward_bankPark {z s : State} (hz : z.Onward s) (b : Nat) : z.Onward (s.bankPark b) := by
  unfold State.bankPark
  try dsimp only
  repeat' with_reducible (first | assumption | apply onward_put | apply onward_setBank | apply onward_setBankState | apply onward_wakeDrop | intro _ | apply onward_ite | split)

theorem onward_lanesOff {z s : State} (hz : z.Onward s) (b : Nat) : z.Onward (s.lanesOff b) := by
  unfold State.lanesOff
  try dsimp only
  repeat' with_reducible (first | assumption | apply onward_each | apply onward_laneDown | intro _)

theorem onward_bankParked {z s : State} (hz : z.Onward s) (b : Nat) : z.Onward (s.bankParked b) := by
  unfold State.bankParked
  try dsimp only
  repeat' with_reducible (first | assumption | apply onward_lanesOff | apply onward_setBank | apply onward_setBankState | intro _ | apply onward_ite | split)

theorem onward_bankGrant {z s : State} (hz : z.Onward s) (b : Nat) : z.Onward (s.bankGrant b) := by
  unfold State.bankGrant
  try dsimp only
  repeat' with_reducible (first | assumption | apply onward_put | apply onward_setBank | apply onward_setBankState | intro _)

theorem onward_startFamily {z s : State} (hz : z.Onward s) (b : Nat) : z.Onward (s.startFamily b) := by
  unfold State.startFamily
  repeat' with_reducible (first | assumption | apply onward_put | apply onward_ite | split)

theorem onward_pllLock {z s : State} (hz : z.Onward s) (b : Nat) (v : Nat) : z.Onward (s.pllLock b v) := by
  unfold State.pllLock
  try dsimp only
  repeat' with_reducible (first | assumption | apply onward_put | apply onward_ite | split)

theorem onward_bankFault {z s : State} (hz : z.Onward s) (b : Nat) (base : Nat) : z.Onward (s.bankFault b base) := by
  unfold State.bankFault
  try dsimp only
  repeat' with_reducible (first | assumption | apply onward_lanesOff | apply onward_occ | apply onward_setBank | apply onward_setBankState | intro _)

theorem onward_bankUp {z s : State} (hz : z.Onward s) (b : Nat) : z.Onward (s.bankUp b) := by
  unfold State.bankUp
  try dsimp only
  repeat' with_reducible (first | assumption | apply onward_each | apply onward_laneTo | apply onward_pllLock | apply onward_setBank | apply onward_setBankState | apply onward_startFamily | intro _ | apply onward_ite | split)

theorem onward_bankLanesIdle {z s : State} (hz : z.Onward s) (b : Nat) : z.Onward (s.bankLanesIdle b) := by
  unfold State.bankLanesIdle
  repeat' with_reducible (first | assumption | apply onward_lanesIdle)

theorem onward_pllLost_retry {z s : State} {b : Nat} {t : State} (h : z.Onward t) : z.Onward (State.pllLost.retry s b t) := onward_setBank h b _

theorem onward_pllLost {z s : State} (hz : z.Onward s) (b : Nat) : z.Onward (s.pllLost b) := by
  unfold State.pllLost
  try dsimp only
  repeat' with_reducible (first | assumption | apply onward_bankFault | apply onward_bankLanesIdle | apply onward_pllLock | apply onward_pllLost_retry | intro _ | apply onward_ite | split)

theorem onward_pllRelock {z s : State} (hz : z.Onward s) (b : Nat) (locked : Bool) : z.Onward (s.pllRelock b locked) := by
  unfold State.pllRelock
  try dsimp only
  repeat' with_reducible (first | assumption | apply onward_bankFault | apply onward_bump | apply onward_pllLock | apply onward_setBank | intro _ | apply onward_ite | split)

theorem onward_bankCleared {z s : State} (hz : z.Onward s) (b : Nat) : z.Onward (s.bankCleared b) := by
  unfold State.bankCleared
  repeat' with_reducible (first | assumption | apply onward_setBankState | apply onward_ite | split)

theorem onward_laneFence {z s : State} (hz : z.Onward s) (b : Nat) (l : Nat) : z.Onward (s.laneFence b l) := by
  unfold State.laneFence
  try dsimp only
  repeat' with_reducible (first | assumption | apply onward_laneDown | apply onward_setLane | intro _)

theorem onward_laneRelease {z s : State} (hz : z.Onward s) (b : Nat) (l : Nat) : z.Onward (s.laneRelease b l) := by
  unfold State.laneRelease
  try dsimp only
  repeat' with_reducible (first | assumption | apply onward_laneTo | apply onward_setLane | intro _ | apply onward_ite | split)

theorem onward_setLtssm {z s : State} (hz : z.Onward s) (n : Nat) (st : Nat) : z.Onward (s.setLtssm n st) := by
  unfold State.setLtssm
  repeat' with_reducible (first | assumption | apply onward_put)

theorem onward_hpTo {z s : State} (hz : z.Onward s) (n : Nat) (st : Nat) : z.Onward (s.hpTo n st) := by
  unfold State.hpTo
  try dsimp only
  repeat' with_reducible (first | assumption | apply onward_event | apply onward_put)

theorem onward_syncBlocked {z s : State} (hz : z.Onward s) (n : Nat) : z.Onward (s.syncBlocked n) := by
  unfold State.syncBlocked
  repeat' with_reducible (first | assumption | apply onward_put)

theorem onward_ideLinkUp {z s : State} (hz : z.Onward s) (n : Nat) : z.Onward (s.ideLinkUp n) := by
  unfold State.ideLinkUp
  try dsimp only
  repeat' with_reducible (first | assumption | apply onward_setPort | apply onward_syncBlocked | intro _ | apply onward_ite | split)

theorem onward_ideSecure {z s : State} (hz : z.Onward s) (n : Nat) (stream : Nat) : z.Onward (s.ideSecure n stream) := by
  unfold State.ideSecure
  try dsimp only
  repeat' with_reducible (first | assumption | apply onward_bump | apply onward_put | apply onward_setPort | apply onward_syncBlocked | intro _ | apply onward_ite | split)

theorem onward_ideLimit {z s : State} (hz : z.Onward s) (n : Nat) : z.Onward (s.ideLimit n) := by
  unfold State.ideLimit
  try dsimp only
  repeat' with_reducible (first | assumption | apply onward_occ | apply onward_setPort | intro _ | apply onward_ite | split)

theorem onward_ideMacFail {z s : State} (hz : z.Onward s) (n : Nat) (stream : Nat) : z.Onward (s.ideMacFail n stream) := by
  unfold State.ideMacFail
  try dsimp only
  repeat' with_reducible (first | assumption | apply onward_viral | apply onward_bump | apply onward_occ | apply onward_put | apply onward_send | apply onward_syncBlocked | apply onward_ite | split)

theorem onward_capRestore {z s : State} (hz : z.Onward s) (n : Nat) : z.Onward (s.capRestore n) := by
  unfold State.capRestore
  try dsimp only
  repeat' with_reducible (first | assumption | apply onward_put | apply onward_setPort | intro _)

theorem onward_portDetect {z s : State} (hz : z.Onward s) (n : Nat) : z.Onward (s.portDetect n) := by
  unfold State.portDetect
  repeat' with_reducible (first | assumption | apply onward_lanesTrain | apply onward_ite | split)

theorem onward_trainFail {z s : State} (hz : z.Onward s) (n : Nat) : z.Onward (s.trainFail n) := by
  unfold State.trainFail
  try dsimp only
  repeat' with_reducible (first | assumption | apply onward_hpTo | apply onward_lanesIdle | apply onward_occ | apply onward_put | apply onward_setLtssm | apply onward_setPort | intro _ | apply onward_ite | split)

theorem onward_portRecovery {z s : State} (hz : z.Onward s) (n : Nat) : z.Onward (s.portRecovery n) := by
  unfold State.portRecovery
  try dsimp only
  repeat' with_reducible (first | assumption | apply onward_count | apply onward_setLtssm | apply onward_setPort | intro _ | apply onward_ite | split)

theorem onward_downshift {z s : State} (hz : z.Onward s) (n : Nat) (reason : Nat) : z.Onward (s.downshift n reason) := by
  unfold State.downshift
  try dsimp only
  repeat' with_reducible (first | assumption | apply onward_occ | apply onward_portRecovery | apply onward_put | apply onward_trainFail | apply onward_ite | split)

theorem onward_attemptFail {z s : State} (hz : z.Onward s) (n : Nat) : z.Onward (s.attemptFail n) := by
  unfold State.attemptFail
  try dsimp only
  repeat' with_reducible (first | assumption | apply onward_bump | apply onward_downshift | apply onward_lanesIdle | apply onward_portDetect | apply onward_setLtssm | apply onward_setPort | intro _ | apply onward_ite | split)

theorem onward_attemptStart {z s : State} (hz : z.Onward s) (n : Nat) : z.Onward (s.attemptStart n) := by
  unfold State.attemptStart
  try dsimp only
  repeat' with_reducible (first | assumption | apply onward_attemptFail | apply onward_capRestore | apply onward_hpTo | apply onward_setLtssm | apply onward_setPort | intro _ | apply onward_ite | split)

theorem onward_attemptTimeout {z s : State} (hz : z.Onward s) (n : Nat) : z.Onward (s.attemptTimeout n) := by
  unfold State.attemptTimeout
  repeat' with_reducible (first | assumption | apply onward_attemptFail | apply onward_ite | split)

theorem onward_ltssmDetect {z s : State} (hz : z.Onward s) (n : Nat) : z.Onward (s.ltssmDetect n) := by
  unfold State.ltssmDetect
  try dsimp only
  repeat' with_reducible (first | assumption | apply onward_attemptFail | apply onward_put | apply onward_setLtssm | apply onward_setPort | intro _ | apply onward_ite | split)

theorem onward_recoveryWindow {z s : State} (hz : z.Onward s) (n : Nat) : z.Onward (s.recoveryWindow n) := by
  unfold State.recoveryWindow
  try dsimp only
  repeat' with_reducible (first | assumption | apply onward_downshift | apply onward_setPort | intro _ | apply onward_ite | split)

theorem onward_linkUpRegs {z s : State} (hz : z.Onward s) (n : Nat) (u : LinkUp) : z.Onward (s.linkUpRegs n u) := by
  unfold State.linkUpRegs
  try dsimp only
  repeat' with_reducible (first | assumption | apply onward_put | apply onward_setLtssm)

theorem onward_linkUp {z s : State} (hz : z.Onward s) (n : Nat) (u : LinkUp) : z.Onward (s.linkUp n u) := by
  unfold State.linkUp
  try dsimp only
  repeat' with_reducible (first | assumption | apply onward_attemptFail | apply onward_bump | apply onward_each | apply onward_hpTo | apply onward_ideLinkUp | apply onward_laneTo | apply onward_linkUpRegs | apply onward_put | apply onward_setPort | apply onward_syncBlocked | intro _ | apply onward_ite | split)

theorem onward_hpDiscoverStart {z s : State} (hz : z.Onward s) (n : Nat) : z.Onward (s.hpDiscoverStart n) := by
  unfold State.hpDiscoverStart
  try dsimp only
  repeat' with_reducible (first | assumption | apply onward_hpTo | apply onward_setPort | intro _)

theorem onward_hpWaitEnd {z s : State} (hz : z.Onward s) (n : Nat) (drs : Bool) : z.Onward (s.hpWaitEnd n drs) := by
  unfold State.hpWaitEnd
  repeat' with_reducible (first | assumption | apply onward_hpDiscoverStart | apply onward_ite | split)

theorem onward_xrWrite {z s : State} (hz : z.Onward s) (n : Nat) (en : Bool) (lopt : Bool) : z.Onward (s.xrWrite n en lopt) := by
  unfold State.xrWrite
  try dsimp only
  repeat' with_reducible (first | assumption | apply onward_put | apply onward_send | apply onward_setPort | intro _ | apply onward_ite | split)

theorem onward_xrFail {z s : State} (hz : z.Onward s) (n : Nat) : z.Onward (s.xrFail n) := by
  unfold State.xrFail
  try dsimp only
  repeat' with_reducible (first | assumption | apply onward_bump | apply onward_put | apply onward_setPort | intro _ | apply onward_ite | split)

theorem onward_syncNp {z s : State} (hz : z.Onward s) (n : Nat) : z.Onward (s.syncNp n) := by
  unfold State.syncNp
  try dsimp only
  repeat' with_reducible (first | assumption | apply onward_put)

theorem onward_npAdd {z s : State} (hz : z.Onward s) (n : Nat) (m : Msg) : z.Onward (s.npAdd n m) := by
  unfold State.npAdd
  try dsimp only
  repeat' with_reducible (first | assumption | apply onward_setPort | apply onward_syncNp | intro _ | apply onward_ite | split)

theorem onward_npDrop {z s : State} (hz : z.Onward s) (n : Nat) (id : Nat) : z.Onward (s.npDrop n id) := by
  unfold State.npDrop
  try dsimp only
  repeat' with_reducible (first | assumption | apply onward_setPort | apply onward_syncNp | intro _)

theorem onward_cplTimeout {z s : State} (hz : z.Onward s) (n : Nat) (id : Nat) : z.Onward (s.cplTimeout n id) := by
  unfold State.cplTimeout
  try dsimp only
  repeat' with_reducible (first | assumption | apply onward_bump | apply onward_npDrop | apply onward_occ | apply onward_respond | intro _ | apply onward_ite | split)

theorem onward_npArrive {z s : State} (hz : z.Onward s) (n : Nat) (c : Msg) : z.Onward (s.npArrive n c) := by
  unfold State.npArrive
  try dsimp only
  repeat' with_reducible (first | assumption | apply onward_bump | apply onward_cplTimeout | apply onward_npDrop | apply onward_routeFault | apply onward_step7 | intro _ | apply onward_ite | split)

theorem onward_postedDrop {z s : State} (hz : z.Onward s) (n : Nat) (m : Msg) : z.Onward (s.postedDrop n m) := by
  unfold State.postedDrop
  repeat' with_reducible (first | assumption | apply onward_accepted | apply onward_bump | apply onward_occ)

theorem onward_cplDiscard {z s : State} (hz : z.Onward s) (n : Nat) : z.Onward (s.cplDiscard n) := by
  unfold State.cplDiscard
  repeat' with_reducible (first | assumption | apply onward_bump)

theorem onward_memLostNotice {z s : State} (hz : z.Onward s) (n : Nat) (id : Nat) : z.Onward (s.memLostNotice n id) := by
  unfold State.memLostNotice
  try dsimp only
  repeat' with_reducible (first | assumption | apply onward_viral | apply onward_send | apply onward_ite | split)

theorem onward_lostAnswer {z s : State} (hz : z.Onward s) (n : Nat) (m : Msg) : z.Onward (s.lostAnswer n m) := by
  unfold State.lostAnswer
  repeat' with_reducible (first | assumption | apply onward_cplDiscard | apply onward_failBack | apply onward_memLostNotice | apply onward_occ | apply onward_postedDrop | apply onward_ite | split)

theorem onward_portClosed {z s : State} (hz : z.Onward s) (n : Nat) (id : Nat) : z.Onward (s.portClosed n id) := by
  unfold State.portClosed
  try dsimp only
  repeat' with_reducible (first | assumption | apply onward_setPort | intro _)

theorem onward_portStale {z s : State} (hz : z.Onward s) (n : Nat) : z.Onward (s.portStale n) := by
  unfold State.portStale
  try dsimp only
  repeat' with_reducible (first | assumption | apply onward_setPort | intro _)

theorem onward_portDeliver {z s0 : State} (hz : z.Onward s0) (n : Nat) (m : Msg) : z.Onward (s0.portDeliver n m) := by
  unfold State.portDeliver
  try dsimp only
  repeat' with_reducible (first | assumption | apply onward_accepted | apply onward_count | apply onward_cplDiscard | apply onward_lostAnswer | apply onward_npAdd | apply onward_portClosed | apply onward_send | apply onward_setPort | intro _ | apply onward_ite | split)

theorem onward_lossTimeout {z s : State} (hz : z.Onward s) (n : Nat) : z.Onward (s.lossTimeout n) := by
  unfold State.lossTimeout
  try dsimp only
  repeat' with_reducible (first | assumption | apply onward_setPort | intro _ | apply onward_ite | split)

theorem onward_unqueue {z s : State} (hz : z.Onward s) (p : Queued → Bool) : z.Onward (s.unqueue p) := by
  unfold State.unqueue
  try dsimp only
  repeat' with_reducible (first | assumption | apply onward_setSole | apply onward_syncBuf | apply onward_syncSlots | intro _)

theorem onward_linkDownRegs {z s : State} (hz : z.Onward s) (n : Nat) : z.Onward (s.linkDownRegs n) := by
  unfold State.linkDownRegs
  try dsimp only
  repeat' with_reducible (first | assumption | apply onward_put | apply onward_setReg | apply onward_syncBlocked)

theorem onward_lossDeclare {z s : State} (hz : z.Onward s) (n : Nat) : z.Onward (s.lossDeclare n) := by
  unfold State.lossDeclare
  try dsimp only
  repeat' with_reducible (first | assumption | apply onward_each | apply onward_hpTo | apply onward_lanesIdle | apply onward_linkDownRegs | apply onward_lostAnswer | apply onward_portStale | apply onward_setLtssm | apply onward_setPort | apply onward_syncNp | apply onward_unqueue | intro _ | apply onward_ite | split)

theorem onward_lossComplete {z s : State} (hz : z.Onward s) (n : Nat) : z.Onward (s.lossComplete n) := by
  unfold State.lossComplete
  try dsimp only
  repeat' with_reducible (first | assumption | apply onward_bump | apply onward_hpTo | apply onward_portDetect | apply onward_ite | split)

theorem onward_portDisable {z s : State} (hz : z.Onward s) (n : Nat) : z.Onward (s.portDisable n) := by
  unfold State.portDisable
  try dsimp only
  repeat' with_reducible (first | assumption | apply onward_hpTo | apply onward_lanesIdle | apply onward_put | apply onward_setLtssm | apply onward_setPort | intro _ | apply onward_ite | split)

theorem onward_portEnable {z s : State} (hz : z.Onward s) (n : Nat) : z.Onward (s.portEnable n) := by
  unfold State.portEnable
  repeat' with_reducible (first | assumption | apply onward_hpTo | apply onward_portDetect | apply onward_setLtssm | apply onward_ite | split)

theorem onward_portRetrain {z s : State} (hz : z.Onward s) (n : Nat) : z.Onward (s.portRetrain n) := by
  unfold State.portRetrain
  try dsimp only
  repeat' with_reducible (first | assumption | apply onward_capRestore | apply onward_portEnable | apply onward_portRecovery | apply onward_ite | split)

theorem onward_portHotReset {z s : State} (hz : z.Onward s) (n : Nat) : z.Onward (s.portHotReset n) := by
  unfold State.portHotReset
  repeat' with_reducible (first | assumption | apply onward_put | apply onward_send | apply onward_ite | split)

theorem onward_portCmdWrite {z s : State} (hz : z.Onward s) (n : Nat) (v : Word) : z.Onward (s.portCmdWrite n v) := by
  unfold State.portCmdWrite
  try dsimp only
  repeat' with_reducible (first | assumption | apply onward_portDisable | apply onward_portEnable | apply onward_portHotReset | apply onward_portRetrain | apply onward_storeAt | apply onward_ite | split)

theorem onward_syncRx {z s : State} (hz : z.Onward s) (m : Nat) : z.Onward (s.syncRx m) := by
  unfold State.syncRx
  repeat' with_reducible (first | assumption | apply onward_put)

end Sys2Proof.Machine
end

