-- ==== Sys2Proof/Laws/Onward3.lean ====
section
/-!
SUPPORT. What the operations keep (part 3 of 8), in the order in which they call each other.
-/
set_option linter.all false
namespace Sys2Proof.Machine
set_option Elab.async false
open Sys2Proof

theorem onward_mlTo {z s : State} (hz : z.Onward s) (m : Nat) (st : Nat) (set : Nat) : z.Onward (s.mlTo m st set) := by
  unfold State.mlTo
  repeat' with_reducible (first | assumption | apply onward_event | apply onward_put)

theorem onward_repeatCtl {z s : State} (hz : z.Onward s) (m : Nat) (ty : Nat) (arg : Nat) (n : Nat) : z.Onward (s.repeatCtl m ty arg n) := by
  unfold State.repeatCtl
  try dsimp only
  repeat' with_reducible (first | assumption | apply onward_setLink | intro _)

theorem onward_mlTrainOn {z s : State} (hz : z.Onward s) (m : Nat) (set : Nat) : z.Onward (s.mlTrainOn m set) := by
  unfold State.mlTrainOn
  try dsimp only
  repeat' with_reducible (first | assumption | apply onward_lanesIdle | apply onward_lanesTrain | apply onward_mlTo | apply onward_setLink | apply onward_syncRx | intro _)

theorem onward_mlStart {z s : State} (hz : z.Onward s) (m : Nat) : z.Onward (s.mlStart m) := by
  unfold State.mlStart
  try dsimp only
  repeat' with_reducible (first | assumption | apply onward_lanesIdle | apply onward_mlTo | apply onward_mlTrainOn | apply onward_setLink | intro _ | apply onward_ite | split)

theorem onward_mlFreshInit {z s : State} (hz : z.Onward s) (m : Nat) : z.Onward (s.mlFreshInit m) := by
  unfold State.mlFreshInit
  try dsimp only
  repeat' with_reducible (first | assumption | apply onward_mlTo | apply onward_setLink | apply onward_usedFree | intro _)

theorem onward_mlTryInit {z s : State} (hz : z.Onward s) (m : Nat) : z.Onward (s.mlTryInit m) := by
  unfold State.mlTryInit
  try dsimp only
  repeat' with_reducible (first | assumption | apply onward_mlFreshInit | intro _ | apply onward_ite | split)

theorem onward_mlTrainTimeout {z s : State} (hz : z.Onward s) (m : Nat) : z.Onward (s.mlTrainTimeout m) := by
  unfold State.mlTrainTimeout
  try dsimp only
  repeat' with_reducible (first | assumption | apply onward_mlTrainOn | apply onward_setMdl | apply onward_foldl | intro _ | apply onward_ite | split)

theorem onward_laceEnd {z s : State} (hz : z.Onward s) (m : Nat) (st : Nat) (err : Nat) : z.Onward (s.laceEnd m st err) := by
  unfold State.laceEnd
  try dsimp only
  repeat' with_reducible (first | assumption | apply onward_event | apply onward_put | apply onward_setLink | intro _)

theorem onward_laceFail {z s : State} (hz : z.Onward s) (m : Nat) (err : Nat) : z.Onward (s.laceFail m err) := by
  unfold State.laceFail
  repeat' with_reducible (first | assumption | apply onward_laceEnd | apply onward_lanesIdle)

theorem onward_syncLwt {z s : State} (hz : z.Onward s)  : z.Onward (State.syncLwt s) := by
  unfold State.syncLwt
  repeat' with_reducible (first | assumption | apply onward_put)

theorem onward_lwtAdd {z s : State} (hz : z.Onward s) (m : Msg) : z.Onward (s.lwtAdd m) := by
  unfold State.lwtAdd
  try dsimp only
  repeat' with_reducible (first | assumption | apply onward_viral | apply onward_occAt | apply onward_send | apply onward_setLwt | apply onward_syncLwt | intro _ | apply onward_ite | split)

theorem onward_dctAdd {z s : State} (hz : z.Onward s) (m : Msg) : z.Onward (s.dctAdd m) := by
  unfold State.dctAdd
  try dsimp only
  repeat' with_reducible (first | assumption | apply onward_bump | apply onward_occ | apply onward_put | apply onward_setHome | intro _ | apply onward_ite | split)

theorem onward_rspDiscard {z s : State} (hz : z.Onward s) (m : Nat) (r : Msg) : z.Onward (s.rspDiscard m r) := by
  unfold State.rspDiscard
  try dsimp only
  repeat' with_reducible (first | assumption | apply onward_bump | apply onward_dctAdd | apply onward_ite | split)

theorem onward_coherentBack {z s : State} (hz : z.Onward s) (ag : Nat) (x : Msg) : z.Onward (s.coherentBack ag x) := by
  unfold State.coherentBack
  repeat' with_reducible (first | assumption | apply onward_respond | apply onward_step7 | apply onward_ite | split)

theorem onward_flushAnswer {z s : State} (hz : z.Onward s) (m : Nat) (x : Msg) : z.Onward (s.flushAnswer m x) := by
  unfold State.flushAnswer
  try dsimp only
  repeat' with_reducible (first | assumption | apply onward_accepted | apply onward_bump | apply onward_coherentBack | apply onward_failBack | apply onward_lwtAdd | apply onward_memLostNotice | apply onward_occ | apply onward_rspDiscard | apply onward_ite | split)

theorem onward_flushReport {z s : State} (hz : z.Onward s) (m : Nat) : z.Onward (s.flushReport m) := by
  unfold State.flushReport
  try dsimp only
  repeat' with_reducible (first | assumption | apply onward_each | apply onward_setHome | intro _)

theorem onward_syncLink {z s : State} (hz : z.Onward s) (m : Nat) : z.Onward (s.syncLink m) := by
  unfold State.syncLink
  try dsimp only
  repeat' with_reducible (first | assumption | apply onward_put | intro _)

theorem onward_mlFlush {z s : State} (hz : z.Onward s) (m : Nat) : z.Onward (s.mlFlush m) := by
  unfold State.mlFlush
  try dsimp only
  repeat' with_reducible (first | assumption | apply onward_bump | apply onward_each | apply onward_flushAnswer | apply onward_flushReport | apply onward_mlTo | apply onward_setLink | apply onward_syncLink | intro _)

theorem onward_mlRetrain {z s : State} (hz : z.Onward s) (m : Nat) (cause : Nat) : z.Onward (s.mlRetrain m cause) := by
  unfold State.mlRetrain
  try dsimp only
  repeat' with_reducible (first | assumption | apply onward_laceFail | apply onward_lanesTrain | apply onward_mlFlush | apply onward_mlTo | apply onward_setLink | intro _ | apply onward_ite | split)

theorem onward_mlFault {z s : State} (hz : z.Onward s) (m : Nat) (base : Nat) : z.Onward (s.mlFault m base) := by
  unfold State.mlFault
  repeat' with_reducible (first | assumption | apply onward_mlRetrain | apply onward_occ)

theorem onward_mlDown {z s : State} (hz : z.Onward s) (m : Nat) : z.Onward (s.mlDown m) := by
  unfold State.mlDown
  repeat' with_reducible (first | assumption | apply onward_mlRetrain | apply onward_usedFree | apply onward_ite | split)

theorem onward_mlLaneLost {z s : State} (hz : z.Onward s) (m : Nat) (l : Nat) : z.Onward (s.mlLaneLost m l) := by
  unfold State.mlLaneLost
  try dsimp only
  repeat' with_reducible (first | assumption | apply onward_mlDown | apply onward_setLink | apply onward_syncRx | intro _ | apply onward_ite | split)

theorem onward_mlLanesLost {z s : State} (hz : z.Onward s) (m : Nat) : z.Onward (s.mlLanesLost m) := by
  unfold State.mlLanesLost
  try dsimp only
  repeat' with_reducible (first | assumption | apply onward_mlDown | apply onward_mlTrainOn | apply onward_setLink | apply onward_syncRx | intro _ | apply onward_ite | split)

theorem onward_graceExpiry {z s : State} (hz : z.Onward s) (m : Nat) : z.Onward (s.graceExpiry m) := by
  unfold State.graceExpiry
  repeat' with_reducible (first | assumption | apply onward_mlFlush | apply onward_ite | split)

theorem onward_routeLeft {z s : State} (hz : z.Onward s) (m : Nat) (w : Nat) : z.Onward (s.routeLeft m w) := by
  unfold State.routeLeft
  try dsimp only
  repeat' with_reducible (first | assumption | apply onward_setRoute | intro _ | apply onward_ite | split)

theorem onward_flushedRx {z s : State} (hz : z.Onward s) (w : Nat) (session : Nat) : z.Onward (s.flushedRx w session) := by
  unfold State.flushedRx
  try dsimp only
  repeat' with_reducible (first | assumption | apply onward_setRoute | intro _ | apply onward_ite | split)

theorem onward_routeTimeout {z s : State} (hz : z.Onward s) (w : Nat) : z.Onward (s.routeTimeout w) := by
  unfold State.routeTimeout
  try dsimp only
  repeat' with_reducible (first | assumption | apply onward_occ | apply onward_setRoute | intro _ | apply onward_ite | split)

theorem onward_altUp {z s : State} (hz : z.Onward s) (w : Nat) : z.Onward (s.altUp w) := by
  unfold State.altUp
  try dsimp only
  repeat' with_reducible (first | assumption | apply onward_routeTimeout | apply onward_setRoute | intro _ | apply onward_ite | split)

theorem onward_fenceSend {z s : State} (hz : z.Onward s) (w : Nat) : z.Onward (s.fenceSend w) := by
  unfold State.fenceSend
  try dsimp only
  repeat' with_reducible (first | assumption | apply onward_setLink | apply onward_setRoute | intro _ | apply onward_ite | split)

theorem onward_routeBack {z s : State} (hz : z.Onward s) (w : Nat) : z.Onward (s.routeBack w) := by
  unfold State.routeBack
  try dsimp only
  repeat' with_reducible (first | assumption | apply onward_fenceSend | apply onward_setRoute | intro _ | apply onward_ite | split)

theorem onward_fenceDone {z s : State} (hz : z.Onward s) (w : Nat) (fid : Nat) : z.Onward (s.fenceDone w fid) := by
  unfold State.fenceDone
  try dsimp only
  repeat' with_reducible (first | assumption | apply onward_setRoute | intro _ | apply onward_ite | split)

theorem onward_fenceRetry {z s : State} (hz : z.Onward s) (w : Nat) : z.Onward (s.fenceRetry w) := by
  unfold State.fenceRetry
  repeat' with_reducible (first | assumption | apply onward_fenceSend | apply onward_ite | split)

theorem onward_altLeft {z s : State} (hz : z.Onward s) (w : Nat) : z.Onward (s.altLeft w) := by
  unfold State.altLeft
  repeat' with_reducible (first | assumption | apply onward_fenceDone | split)

theorem onward_routeMismatch {z s : State} (hz : z.Onward s) (m : Nat) : z.Onward (s.routeMismatch m) := by
  unfold State.routeMismatch
  try dsimp only
  repeat' with_reducible (first | assumption | apply onward_each | apply onward_occ | intro _ | apply onward_ite | split)

theorem onward_mlFlushDone {z s : State} (hz : z.Onward s) (m : Nat) : z.Onward (s.mlFlushDone m) := by
  unfold State.mlFlushDone
  try dsimp only
  repeat' with_reducible (first | assumption | apply onward_altLeft | apply onward_each | apply onward_mlStart | apply onward_mlTo | apply onward_repeatCtl | apply onward_routeLeft | apply onward_setLink | intro _ | apply onward_ite | split)

theorem onward_replayTimer {z s : State} (hz : z.Onward s) (m : Nat) : z.Onward (s.replayTimer m) := by
  unfold State.replayTimer
  try dsimp only
  repeat' with_reducible (first | assumption | apply onward_setLink | intro _ | apply onward_ite | split)

theorem onward_ackTake_eq {z s t : State} {m n : Nat} (e : s.ackTake m n = some t) (h : z.Onward s) : z.Onward t := by
  unfold State.ackTake at e
  extract_lets l d gone passed s1 s2 at e
  have g1 : z.Onward s1 := onward_setLink h _ _
  have g2 : z.Onward s2 := by
    show z.Onward (if passed = true then _ else _)
    split
    · exact onward_bump g1 _ _ _
    · exact g1
  split at e
  · split at e
    · exact Option.some.inj e ▸ h
    · rw [← Option.some.inj e]
      exact onward_syncLink (onward_replayTimer g2 _) _
  · cases e

theorem onward_replayStart {z s : State} (hz : z.Onward s) (m : Nat) : z.Onward (s.replayStart m) := by
  unfold State.replayStart
  try dsimp only
  repeat' with_reducible (first | assumption | apply onward_count | apply onward_mlFault | apply onward_replayTimer | apply onward_setLink | intro _ | apply onward_ite | split)

theorem onward_nakTake {z s : State} (hz : z.Onward s) (m : Nat) (a : Nat) : z.Onward (s.nakTake m a) := by
  unfold State.nakTake
  try dsimp only
  repeat' with_reducible (first | assumption | apply onward_replayStart | apply onward_setLink | intro _ | apply onward_ite | split)

theorem onward_replayExpiry {z s : State} (hz : z.Onward s) (m : Nat) : z.Onward (s.replayExpiry m) := by
  unfold State.replayExpiry
  repeat' with_reducible (first | assumption | apply onward_bump | apply onward_replayStart | apply onward_ite | split)

theorem onward_spillBack {z s : State} (hz : z.Onward s) (m : Nat) (seq : Nat) (ok : Bool) : z.Onward (s.spillBack m seq ok) := by
  unfold State.spillBack
  try dsimp only
  repeat' with_reducible (first | assumption | apply onward_mlFlush | apply onward_occ | apply onward_setLink | intro _ | apply onward_ite | split)

theorem onward_syncCred {z s : State} (hz : z.Onward s) (m : Nat) : z.Onward (s.syncCred m) := by
  unfold State.syncCred
  try dsimp only
  repeat' with_reducible (first | assumption | apply onward_each | apply onward_put | intro _)

theorem onward_credRx {z s : State} (hz : z.Onward s) (m : Nat) (pool : Nat) (size : Nat) : z.Onward (s.credRx m pool size) := by
  unfold State.credRx
  try dsimp only
  repeat' with_reducible (first | assumption | apply onward_setLink | apply onward_syncCred | intro _ | apply onward_ite | split)

theorem onward_nakPending {z s : State} (hz : z.Onward s) (m : Nat) : z.Onward (s.nakPending m) := by
  unfold State.nakPending
  try dsimp only
  repeat' with_reducible (first | assumption | apply onward_bump | apply onward_setLink | intro _ | apply onward_ite | split)

theorem onward_dataRx {z s : State} (hz : z.Onward s) (m : Nat) (h : FlitHdr) (ids : List Nat) (msgs : List Msg) :
    z.Onward (s.dataRx m h ids msgs).1 := by
  unfold State.dataRx
  extract_lets l d pool s1 live known lost arr s2 s3
  have g1 : z.Onward s1 := onward_setLink hz _ _
  have g2 : z.Onward s2 := onward_each _ (fun _ _ g => onward_unland (onward_bump g _ _ _) _ _) _ g1
  have g3 : z.Onward s3 := onward_syncLink (onward_setLink g2 _ _) _
  clear_value s3 d
  split
  · exact onward_each _ (fun _ _ g => onward_count g _ _ _ _ _) _ g3
  · split
    · exact onward_bump hz _ _ _
    · exact onward_nakPending hz _

theorem onward_flitRx {z s : State} (hz : z.Onward s) (m : Nat) (ok : Bool) (corr unc : Nat) (h : FlitHdr) (ids : List Nat) (msgs : List Msg) :
    z.Onward (s.flitRx m ok corr unc h ids msgs).1 := by
  unfold State.flitRx
  dsimp only
  have g0 := onward_count (onward_bump (onward_bump hz F.ML_FEC_CNT_CORR (dLink m) corr) F.ML_ERR_CNT2_FEC_UNCORR (dLink m) unc)
    (bankOfLink m) 6 (m % 2) 0 corr
  generalize (((s.bump F.ML_FEC_CNT_CORR (dLink m) corr).bump F.ML_ERR_CNT2_FEC_UNCORR (dLink m) unc).count (bankOfLink m) 6 (m % 2) 0 corr) = s0 at g0 ⊢
  split
  · exact g0
  · split
    · exact onward_nakPending (onward_count (onward_bump g0 _ _ _) _ _ _ _ _) _
    · split
      · exact onward_mlFault g0 _ _
      · split
        · exact onward_mlFault g0 _ _
        · rename_i s1 e1
          have g1 : z.Onward s1 := by
            split at e1
            · exact onward_ackTake_eq e1 g0
            · exact Option.some.inj e1 ▸ g0
          have g2 : z.Onward (if h.nak = true then s1.nakTake m h.ack else s1) := by
            split
            · exact onward_nakTake g1 _ _
            · exact g1
          generalize (if h.nak = true then s1.nakTake m h.ack else s1) = s2 at g2 ⊢
          have g3 : z.Onward (if h.crpool ≤ 8 then (s2.setLink m fun l => { l with returned := l.returned.set h.crpool h.crtot }).syncCred m else s2) := by
            split
            · exact onward_syncCred (onward_setLink g2 _ _) _
            · exact g2
          generalize (if h.crpool ≤ 8 then (s2.setLink m fun l => { l with returned := l.returned.set h.crpool h.crtot }).syncCred m else s2) = s3 at g3 ⊢
          split
          · exact g3
          · split
            · exact onward_dataRx g3 _ _ _ _
            · exact g3

theorem onward_flitSent {z s : State} (hz : z.Onward s) (m : Nat) (h : FlitHdr) (ms : List Msg) : z.Onward (s.flitSent m h ms) := by
  unfold State.flitSent
  try dsimp only
  repeat' with_reducible (first | assumption | apply onward_send | apply onward_setLink | intro _)

theorem onward_spill {z s : State} (hz : z.Onward s) (m : Nat) : z.Onward (s.spill m) := by
  unfold State.spill
  try dsimp only
  repeat' with_reducible (first | assumption | apply onward_setLink | apply onward_svcAdd | intro _ | apply onward_ite | split)

theorem onward_dataTx {z s : State} (hz : z.Onward s) (m : Nat) (v : Nat) (byPtr : Bool) : z.Onward (s.dataTx m v byPtr) := by
  unfold State.dataTx
  try dsimp only
  repeat' with_reducible (first | assumption | apply onward_count | apply onward_each | apply onward_flitSent | apply onward_replayTimer | apply onward_setLink | apply onward_spill | apply onward_syncCred | apply onward_syncLink | intro _ | apply onward_ite | split)

theorem onward_lctlTx {z s : State} (hz : z.Onward s) (m : Nat) (due : List (Nat × Nat)) : z.Onward (s.lctlTx m due) := by
  unfold State.lctlTx
  try dsimp only
  repeat' with_reducible (first | assumption | apply onward_each | apply onward_flitSent | apply onward_send | apply onward_setLink | intro _ | apply onward_ite | split)

theorem onward_replayTx {z s : State} (hz : z.Onward s) (m : Nat) (f : TxFlit) : z.Onward (s.replayTx m f) := by
  unfold State.replayTx
  try dsimp only
  repeat' with_reducible (first | assumption | apply onward_flitSent | apply onward_setLink | intro _)

theorem onward_flitTx {z s : State} (hz : z.Onward s) (m : Nat) : z.Onward (s.flitTx m) := by
  unfold State.flitTx
  try dsimp only
  repeat' with_reducible (first | assumption | apply onward_dataTx | apply onward_flitSent | apply onward_lctlTx | apply onward_replayTx | apply onward_svcAdd | intro _ | apply onward_ite | split)

theorem onward_linkDeliver {z s : State} (hz : z.Onward s) (m : Nat) (x : Msg) : z.Onward (s.linkDeliver m x) := by
  unfold State.linkDeliver
  try dsimp only
  repeat' with_reducible (first | assumption | apply onward_flushAnswer | apply onward_rspDiscard | apply onward_setLink | intro _ | apply onward_ite | split)

theorem onward_mlEnterUp {z s : State} (hz : z.Onward s) (m : Nat) (set : Nat) (i : InitMsg) : z.Onward (s.mlEnterUp m set i) := by
  unfold State.mlEnterUp
  try dsimp only
  repeat' with_reducible (first | assumption | apply onward_altUp | apply onward_bump | apply onward_each | apply onward_mlTo | apply onward_put | apply onward_replayTimer | apply onward_routeBack | apply onward_routeMismatch | apply onward_send | apply onward_setLink | apply onward_syncCred | intro _ | apply onward_ite | split)

theorem onward_handshake {z s : State} (hz : z.Onward s) (m : Nat) (i : InitMsg) : z.Onward (s.handshake m i) := by
  unfold State.handshake
  try dsimp only
  repeat' with_reducible (first | assumption | apply onward_mlEnterUp | apply onward_put | apply onward_setLink | intro _ | apply onward_ite | split)

theorem onward_initRx {z s : State} (hz : z.Onward s) (m : Nat) (i : InitMsg) : z.Onward (s.initRx m i) := by
  unfold State.initRx
  try dsimp only
  repeat' with_reducible (first | assumption | apply onward_handshake | apply onward_mlFlush | apply onward_occ | apply onward_send | apply onward_setLink | refine onward_ackTake_eq (by assumption) ?_ | intro _ | apply onward_ite | split)

theorem onward_initRetryEnd {z s : State} (hz : z.Onward s) (m : Nat) : z.Onward (s.initRetryEnd m) := by
  unfold State.initRetryEnd
  repeat' with_reducible (first | assumption | apply onward_mlFreshInit | apply onward_ite | split)

theorem onward_linkdownRx {z s : State} (hz : z.Onward s) (m : Nat) : z.Onward (s.linkdownRx m) := by
  unfold State.linkdownRx
  repeat' with_reducible (first | assumption | apply onward_mlDown)

theorem onward_laneMarker {z s : State} (hz : z.Onward s) (m : Nat) (l : Nat) (gcnt : Nat) (skew : Nat) : z.Onward (s.laneMarker m l gcnt skew) := by
  unfold State.laneMarker
  try dsimp only
  repeat' with_reducible (first | assumption | apply onward_mlRetrain | apply onward_mlTryInit | apply onward_occ | apply onward_setLink | apply onward_syncRx | intro _ | apply onward_ite | split)

theorem onward_laceBegin {z s : State} (hz : z.Onward s) (m : Nat) (v : Nat) (tag : Nat) (un : Bool) (own : Bool) : z.Onward (s.laceBegin m v tag un own) := by
  unfold State.laceBegin
  try dsimp only
  repeat' with_reducible (first | assumption | apply onward_lanesTrain | apply onward_put | apply onward_setLink | intro _ | apply onward_ite | split)

theorem onward_laceSwitch {z s : State} (hz : z.Onward s) (m : Nat) (v : Nat) : z.Onward (s.laceSwitch m v) := by
  unfold State.laceSwitch
  try dsimp only
  repeat' with_reducible (first | assumption | apply onward_laceEnd | apply onward_lanesIdle | apply onward_put | apply onward_setLink | apply onward_syncRx | intro _)

theorem onward_laceStep {z s : State} (hz : z.Onward s) (m : Nat) : z.Onward (s.laceStep m) := by
  unfold State.laceStep
  try dsimp only
  repeat' with_reducible (first | assumption | apply onward_laceSwitch | apply onward_send | apply onward_setLink | intro _ | apply onward_ite | split)

theorem onward_laceWrite {z s : State} (hz : z.Onward s) (m : Nat) (v : Word) : z.Onward (s.laceWrite m v) := by
  unfold State.laceWrite
  try dsimp only
  repeat' with_reducible (first | assumption | apply onward_event | apply onward_laceBegin | apply onward_laceEnd | apply onward_put | apply onward_storeAt | apply onward_ite | split)

theorem onward_laceReq {z s : State} (hz : z.Onward s) (m : Nat) (arg : Nat) : z.Onward (s.laceReq m arg) := by
  unfold State.laceReq
  try dsimp only
  repeat' with_reducible (first | assumption | apply onward_laceBegin | apply onward_laceFail | apply onward_repeatCtl | intro _ | apply onward_ite | split)

theorem onward_laceReady {z s : State} (hz : z.Onward s) (m : Nat) (arg : Nat) : z.Onward (s.laceReady m arg) := by
  unfold State.laceReady
  try dsimp only
  repeat' with_reducible (first | assumption | apply onward_laceStep | apply onward_setLink | intro _ | apply onward_ite | split)

theorem onward_laceTimeout {z s : State} (hz : z.Onward s) (m : Nat) : z.Onward (s.laceTimeout m) := by
  unfold State.laceTimeout
  repeat' with_reducible (first | assumption | apply onward_laceFail | apply onward_repeatCtl | apply onward_ite | split)

theorem onward_laceAbort {z s : State} (hz : z.Onward s) (m : Nat) (arg : Nat) : z.Onward (s.laceAbort m arg) := by
  unfold State.laceAbort
  repeat' with_reducible (first | assumption | apply onward_laceFail | apply onward_ite | split)

theorem onward_unlaceReq {z s : State} (hz : z.Onward s) (m : Nat) (arg : Nat) : z.Onward (s.unlaceReq m arg) := by
  unfold State.unlaceReq
  try dsimp only
  repeat' with_reducible (first | assumption | apply onward_laceBegin | apply onward_laceFail | apply onward_laceSwitch | apply onward_setLink | intro _ | apply onward_ite | split)

theorem onward_unlaceAck {z s : State} (hz : z.Onward s) (m : Nat) (arg : Nat) : z.Onward (s.unlaceAck m arg) := by
  unfold State.unlaceAck
  repeat' with_reducible (first | assumption | apply onward_laceEnd | apply onward_laceSwitch | apply onward_ite | split)

theorem onward_autoLace {z s : State} (hz : z.Onward s) (m : Nat) : z.Onward (s.autoLace m) := by
  unfold State.autoLace
  try dsimp only
  repeat' with_reducible (first | assumption | apply onward_laceBegin | intro _ | apply onward_ite | split)

theorem onward_mlCmdWrite {z s : State} (hz : z.Onward s) (m : Nat) (v : Word) : z.Onward (s.mlCmdWrite m v) := by
  unfold State.mlCmdWrite
  try dsimp only
  repeat' with_reducible (first | assumption | apply onward_mlDown | apply onward_mlFlush | apply onward_mlRetrain | apply onward_mlStart | apply onward_storeAt | apply onward_ite | split)

theorem onward_mlBankReady {z s : State} (hz : z.Onward s) (m : Nat) : z.Onward (s.mlBankReady m) := by
  unfold State.mlBankReady
  repeat' with_reducible (first | assumption | apply onward_mlStart | apply onward_ite | split)

theorem onward_mlFence {z s : State} (hz : z.Onward s) (m : Nat) : z.Onward (s.mlFence m) := by
  unfold State.mlFence
  try dsimp only
  repeat' with_reducible (first | assumption | apply onward_laceFail | apply onward_mlFlush | apply onward_setLink | intro _ | apply onward_ite | split)

theorem onward_mlRelease {z s : State} (hz : z.Onward s) (m : Nat) : z.Onward (s.mlRelease m) := by
  unfold State.mlRelease
  try dsimp only
  repeat' with_reducible (first | assumption | apply onward_mlStart | apply onward_setLink | intro _ | apply onward_ite | split)

theorem onward_familyWrite {z s : State} (hz : z.Onward s) (b : Nat) (v : Word) : z.Onward (s.familyWrite b v) := by
  unfold State.familyWrite
  try dsimp only
  repeat' with_reducible (first | assumption | apply onward_bankLanesIdle | apply onward_each | apply onward_mlLanesLost | apply onward_put | apply onward_setBank | apply onward_storeAt | intro _ | apply onward_ite | split)

theorem onward_familyDone {z s : State} (hz : z.Onward s) (b : Nat) : z.Onward (s.familyDone b) := by
  unfold State.familyDone
  try dsimp only
  repeat' with_reducible (first | assumption | apply onward_each | apply onward_lanesTrain | apply onward_mlTrainOn | apply onward_put | apply onward_setBank | intro _ | apply onward_ite | split)

theorem onward_beginTurn {z s : State} (hz : z.Onward s) (q : Nat) : z.Onward (s.beginTurn q) := by
  unfold State.beginTurn
  try dsimp only
  repeat' with_reducible (first | assumption | apply onward_setQueue | intro _ | apply onward_ite | split)

theorem onward_refreshS {z s : State} (hz : z.Onward s) (a : Nat) : z.Onward (s.refreshS a) := by
  unfold State.refreshS
  try dsimp only
  repeat' with_reducible (first | assumption | apply onward_beginTurn | apply onward_each | apply onward_setQueue | apply onward_setSole | intro _)

theorem onward_setVtime {z s : State} (hz : z.Onward s) (a : Nat) (v : Nat) : z.Onward (s.setVtime a v) := by
  unfold State.setVtime
  repeat' with_reducible (first | assumption | apply onward_put)

theorem onward_refreshF {z s : State} (hz : z.Onward s) (a : Nat) : z.Onward (s.refreshF a) := by
  unfold State.refreshF
  try dsimp only
  repeat' with_reducible (first | assumption | apply onward_each | apply onward_setQueue | apply onward_setVtime | apply onward_foldl | intro _ | apply onward_ite | split)

theorem onward_refreshAll {z s : State} (hz : z.Onward s)  : z.Onward (State.refreshAll s) := by
  unfold State.refreshAll
  try dsimp only
  repeat' with_reducible (first | assumption | apply onward_count | apply onward_each | apply onward_refreshF | apply onward_refreshS | apply onward_foldl | intro _ | apply onward_ite | split)

theorem onward_chargeQueue {z s : State} (hz : z.Onward s) (x : Queued) : z.Onward (s.chargeQueue x) := by
  unfold State.chargeQueue
  try dsimp only
  repeat' with_reducible (first | assumption | apply onward_account | apply onward_chargeShapers | apply onward_count | apply onward_setQueue | apply onward_setVtime | intro _ | apply onward_ite | split)

theorem onward_updBuf {z s : State} (hz : z.Onward s) (p : Queued → Bool) (f : Queued → Queued) : z.Onward (s.updBuf p f) := by
  unfold State.updBuf
  try dsimp only
  repeat' with_reducible (first | assumption | apply onward_setSole | intro _ | apply onward_ite | split)

theorem onward_startMatching {z s : State} (h : z.Onward s) : z.Onward s.startMatching := by
  unfold State.startMatching
  dsimp only
  apply onward_setSole
  have key : ∀ (l : List Nat) (acc : State × List MReq), z.Onward acc.1 → z.Onward (l.foldl (fun (acc : State × List MReq) p =>
      match acc.1.reqPick (p / 32) (p % 32) with
      | none => acc
      | some x =>
        let q : MReq := { i := p / 32, j := p % 32, msgId := x.msg.id, agent := x.egress, stamp := x.msg.stamp }
        (acc.1.updBuf q.names fun y => { y with reserved := y.reserved + 1 }, acc.2 ++ [q])) acc).1 := by
    intro l
    induction l with
    | nil => intro acc g; exact g
    | cons p rest ih =>
      intro acc g
      rw [List.foldl_cons]
      apply ih
      dsimp only
      split
      · exact g
      · exact onward_updBuf g _ _
  exact key _ _ h

theorem onward_matchRound {z s : State} (hz : z.Onward s) (k : Nat) (g : Matching) : z.Onward (s.matchRound k g).1 := by
  unfold State.matchRound
  try dsimp only
  repeat' with_reducible (first | assumption | apply onward_count | apply onward_each | apply onward_setSole | intro _ | apply onward_ite | split)

theorem onward_matchRound_eq {z s t : State} {k : Nat} {g : Matching} {r} (e : (State.matchRound s k g) = (t, r)) (hz : z.Onward s) : z.Onward t := by
  have g := onward_matchRound hz k g
  rw [e] at g
  exact g

theorem onward_unreserve {z s : State} (hz : z.Onward s) (r : MReq) : z.Onward (s.unreserve r) := by
  unfold State.unreserve
  try dsimp only
  repeat' with_reducible (first | assumption | apply onward_updBuf | intro _)

theorem onward_advance {z s : State} (hz : z.Onward s) (g : Matching) : z.Onward (s.advance g).1 := by
  unfold State.advance
  try dsimp only
  repeat' with_reducible (first | assumption | apply onward_each | apply onward_matchRound | apply onward_unreserve | refine onward_matchRound_eq (by assumption) ?_ | intro _ | apply onward_ite | split)

theorem onward_advance_eq {z s t : State} {g : Matching} {r} (e : (State.advance s g) = (t, r)) (hz : z.Onward s) : z.Onward t := by
  have g := onward_advance hz g
  rw [e] at g
  exact g

theorem onward_rounds {z s : State} (h : z.Onward s) : z.Onward s.rounds := by
  unfold State.rounds
  dsimp only
  apply onward_setSole
  have key : ∀ (l : List Matching) (acc : State × List Matching), z.Onward acc.1 → z.Onward (l.foldl (fun (acc : State × List Matching) g =>
      let a := acc.1.advance { g with age := g.age + 1 }
      (a.1, acc.2 ++ [a.2])) acc).1 := by
    intro l
    induction l with
    | nil => intro acc g; exact g
    | cons p rest ih =>
      intro acc g
      rw [List.foldl_cons]
      exact ih _ (onward_advance g _)
  exact key _ _ h

theorem onward_markDevload {z s : State} (hz : z.Onward s) (src : Nat) (m : Msg) : z.Onward (s.markDevload src m).1 := by
  unfold State.markDevload
  try dsimp only
  repeat' with_reducible (first | assumption | apply onward_count | apply onward_setSole | intro _ | apply onward_ite | split)

theorem onward_markDevload_eq {z s t : State} {src : Nat} {m : Msg} {r} (e : (State.markDevload s src m) = (t, r)) (hz : z.Onward s) : z.Onward t := by
  have g := onward_markDevload hz src m
  rw [e] at g
  exact g

theorem onward_forward {z s : State} (hz : z.Onward s) (a : Nat) (m : Msg) : z.Onward (s.forward a m) := by
  unfold State.forward
  try dsimp only
  repeat' with_reducible (first | assumption | apply onward_linkDeliver | apply onward_portDeliver | apply onward_setSole | intro _ | apply onward_ite | split)

theorem onward_muxChoice_eq {z s t : State} {i j k : Nat} (e : s.muxChoice i j = some (t, k)) (h : z.Onward s) : z.Onward t := by
  unfold State.muxChoice at e
  dsimp only at e
  split at e
  · split at e
    · cases e
    · rw [← (Prod.mk.inj (Option.some.inj e)).1]; exact onward_setSole h _
    · rw [← (Prod.mk.inj (Option.some.inj e)).1]; exact onward_count h _ _ _ _ _
  · rw [Option.map_eq_some_iff] at e
    obtain ⟨x, -, e⟩ := e
    rw [← (Prod.mk.inj e).1]; exact h

theorem onward_spend {z s : State} (hz : z.Onward s) (want : MReq) (x : Queued) : z.Onward (s.spend want x) := by
  unfold State.spend
  try dsimp only
  repeat' with_reducible (first | assumption | apply onward_setSole | apply onward_unreserve | intro _ | apply onward_ite | split)

theorem onward_cellLost {z s : State} (hz : z.Onward s) (x : Queued) : z.Onward (s.cellLost x) := by
  unfold State.cellLost
  try dsimp only
  repeat' with_reducible (first | assumption | apply onward_failBack | apply onward_occAt | apply onward_setSole | apply onward_syncBuf | intro _ | apply onward_ite | split)

theorem onward_cellRead {z s : State} (hz : z.Onward s) (x : Queued) (out : Nat) : z.Onward (s.cellRead x out).1 := by
  unfold State.cellRead
  repeat' with_reducible (first | assumption | apply onward_bump | apply onward_occAt | apply onward_ite | split)

theorem onward_cellRead_eq {z s t : State} {x : Queued} {out : Nat} {r} (e : (State.cellRead s x out) = (t, r)) (hz : z.Onward s) : z.Onward t := by
  have g := onward_cellRead hz x out
  rw [e] at g
  exact g

theorem onward_transfer {z s : State} (hz : z.Onward s) (want : MReq) (out : Nat) : z.Onward (s.transfer want out) := by
  unfold State.transfer
  try dsimp only
  repeat' with_reducible (first | assumption | apply onward_cellLost | apply onward_cellRead | apply onward_chargeQueue | apply onward_count | apply onward_forward | apply onward_markDevload | apply onward_setSole | apply onward_spend | apply onward_syncBuf | apply onward_updBuf | refine onward_cellRead_eq (by assumption) ?_ | refine onward_markDevload_eq (by assumption) ?_ | refine onward_muxChoice_eq (by assumption) ?_ | intro _ | apply onward_ite | split)

theorem onward_transfers {z s : State} (hz : z.Onward s) (ecc : List Nat) : z.Onward (s.transfers ecc) := by
  unfold State.transfers
  try dsimp only
  repeat' with_reducible (first | assumption | apply onward_each | apply onward_setSole | apply onward_transfer | intro _ | split)

theorem onward_cellTime {z s : State} (hz : z.Onward s) (ecc : List Nat) : z.Onward (s.cellTime ecc) := by
  unfold State.cellTime
  try dsimp only
  repeat' with_reducible (first | assumption | apply onward_count | apply onward_each | apply onward_refreshAll | apply onward_rounds | apply onward_setTim | apply onward_startMatching | apply onward_transfers | intro _ | apply onward_ite | split)

theorem onward_avgTick {z s : State} (hz : z.Onward s)  : z.Onward (State.avgTick s) := by
  unfold State.avgTick
  repeat' with_reducible (first | assumption | apply onward_updateAvg | apply onward_ite | split)

theorem onward_updTack {z s : State} (hz : z.Onward s) (h : Nat) (rgn : Nat) (line : Nat) (f : Tack → Tack) : z.Onward (s.updTack h rgn line f) := by
  unfold State.updTack
  try dsimp only
  repeat' with_reducible (first | assumption | apply onward_setHome | intro _ | apply onward_ite | split)

theorem onward_dropTack {z s : State} (hz : z.Onward s) (h : Nat) (rgn : Nat) (line : Nat) : z.Onward (s.dropTack h rgn line) := by
  unfold State.dropTack
  try dsimp only
  repeat' with_reducible (first | assumption | apply onward_setHome | intro _)

theorem onward_syncHome {z s : State} (hz : z.Onward s) (h : Nat) : z.Onward (s.syncHome h) := by
  unfold State.syncHome
  try dsimp only
  repeat' with_reducible (first | assumption | apply onward_each | apply onward_put | intro _)

theorem onward_homePath {z s : State} (hz : z.Onward s) (h : Nat) (rgn : Nat) (line : Nat) (dpa : Nat) (write : Bool) (data : List Byte) (poison : Bool) : z.Onward (s.homePath h rgn line dpa write data poison) := by
  unfold State.homePath
  try dsimp only
  repeat' with_reducible (first | assumption | apply onward_setChan | intro _)

theorem onward_homeSelf {z s : State} (hz : z.Onward s) (h : Nat) (rgn : Nat) (line : Nat) (write : Bool) : z.Onward (s.homeSelf h rgn line write) := by
  unfold State.homeSelf
  try dsimp only
  repeat' with_reducible (first | assumption | apply onward_setChan | intro _)

theorem onward_homeIssue {z s : State} (hz : z.Onward s) (h : Nat) (m : Msg) : z.Onward (s.homeIssue h m) := by
  unfold State.homeIssue
  try dsimp only
  repeat' with_reducible (first | assumption | apply onward_lookHold | apply onward_homePath | apply onward_homeSelf | apply onward_lookAsleep | apply onward_lookDone | apply onward_lookMiss | apply onward_step7 | apply onward_ite | split)

theorem onward_homeMem {z s : State} (hz : z.Onward s) (h : Nat) (rgn : Nat) (line : Nat) (write : Bool) (data : List Byte) (poison : Bool) : z.Onward (s.homeMem h rgn line write data poison) := by
  unfold State.homeMem
  try dsimp only
  repeat' with_reducible (first | assumption | apply onward_homeIssue | apply onward_homePath | apply onward_updTack | intro _ | apply onward_ite | split)

theorem onward_rgnViral {z s : State} (hz : z.Onward s) (h : Nat) (rgn : Nat) : z.Onward (s.rgnViral h rgn) := by
  unfold State.rgnViral
  try dsimp only
  repeat' with_reducible (first | assumption | apply onward_viral | apply onward_each | apply onward_send | intro _)

theorem onward_homeAnswer {z s : State} (hz : z.Onward s) (h : Nat) (m : Msg) (o : CohOp) (grant : Meta) (data : List Byte) (poison : Bool) (dl : Nat) : z.Onward (s.homeAnswer h m o grant data poison dl) := by
  unfold State.homeAnswer
  try dsimp only
  repeat' with_reducible (first | assumption | apply onward_accepted | apply onward_step7 | apply onward_ite | split)

theorem onward_snoopOne {z s : State} (hz : z.Onward s) (h : Nat) (rgn : Nat) (line : Nat) (f : Nat) : z.Onward (s.snoopOne h rgn line f) := by
  unfold State.snoopOne
  try dsimp only
  repeat' with_reducible (first | assumption | apply onward_count | apply onward_enqueue | apply onward_updTack | intro _ | apply onward_ite | split)

end Sys2Proof.Machine
end

