-- ==== Sys2Proof/Laws/Onward4.lean ====
section
/-!
SUPPORT. What the operations keep (part 4 of 8), in the order in which they call each other.
-/
set_option linter.all false
namespace Sys2Proof.Machine
set_option Elab.async false
open Sys2Proof

theorem onward_snoopAll {z s : State} (hz : z.Onward s) (h : Nat) (rgn : Nat) (line : Nat) (l : List Nat) : z.Onward (s.snoopAll h rgn line l) := by
  unfold State.snoopAll
  try dsimp only
  repeat' with_reducible (first | assumption | apply onward_each | apply onward_snoopOne | apply onward_updTack | intro _ | apply onward_ite | split)

theorem onward_snoopReissue {z s : State} (hz : z.Onward s) (h : Nat) : z.Onward (s.snoopReissue h) := by
  unfold State.snoopReissue
  try dsimp only
  repeat' with_reducible (first | assumption | apply onward_each | apply onward_snoopOne | apply onward_updTack | intro _)

theorem onward_entryDrop {z s : State} (hz : z.Onward s) (h : Nat) (rgn : Nat) (line : Nat) (f : Nat) : z.Onward (s.entryDrop h rgn line f) := by
  unfold State.entryDrop
  try dsimp only
  repeat' with_reducible (first | assumption | apply onward_setHome | intro _ | apply onward_ite | split)

theorem onward_entryFree {z s : State} (hz : z.Onward s) (h : Nat) (rgn : Nat) (line : Nat) : z.Onward (s.entryFree h rgn line) := by
  unfold State.entryFree
  try dsimp only
  repeat' with_reducible (first | assumption | apply onward_setHome | intro _)

theorem onward_entryPut {z s : State} (hz : z.Onward s) (h : Nat) (rgn : Nat) (line : Nat) (own : Bool) (l : List Nat) : z.Onward (s.entryPut h rgn line own l) := by
  unfold State.entryPut
  try dsimp only
  repeat' with_reducible (first | assumption | apply onward_entryFree | apply onward_setHome | apply onward_foldl | intro _ | apply onward_ite | split)

theorem onward_touchSet {z s : State} (hz : z.Onward s) (h : Nat) (idx : Nat) (modified : Bool) : z.Onward (s.touchSet h idx modified) := by
  unfold State.touchSet
  try dsimp only
  repeat' with_reducible (first | assumption | apply onward_setHome | intro _ | apply onward_ite | split)

theorem onward_holdStart {z s : State} (hz : z.Onward s) (h : Nat) (rgn : Nat) (line : Nat) : z.Onward (s.holdStart h rgn line) := by
  unfold State.holdStart
  try dsimp only
  repeat' with_reducible (first | assumption | apply onward_bump | apply onward_setHome | apply onward_foldl | intro _ | apply onward_ite | split)

/-- What a grant does to the directory. -/
theorem onward_grantOf {z s u : State} {h : Nat} {t : Tack} (g : z.Onward u) : z.Onward ((s.grantOf h t).2 u) := by
  unfold State.grantOf
  dsimp only
  repeat' with_reducible (first | assumption | apply onward_entryPut | apply onward_entryFree | apply onward_entryDrop | split)

theorem onward_bumpEvict {z s : State} (hz : z.Onward s) (h : Nat) : z.Onward (s.bumpEvict h) := by
  unfold State.bumpEvict
  try dsimp only
  repeat' with_reducible (first | assumption | apply onward_put)

theorem onward_sendAcks {z s : State} (hz : z.Onward s) (h : Nat) (t : Tack) : z.Onward (s.sendAcks h t) := by
  unfold State.sendAcks
  try dsimp only
  repeat' with_reducible (first | assumption | apply onward_bump | apply onward_each | apply onward_respond | intro _)

theorem onward_updMig {z s : State} (hz : z.Onward s) (rng gran : Nat) (f : Mig → Mig) : z.Onward (s.updMig rng gran f) := by
  unfold State.updMig
  exact onward_setMigs hz _

theorem onward_migIssueGo {z : State} (rng gran n : Nat) : ∀ s : State, z.Onward s → z.Onward (State.migIssueGo rng gran n s) := by
  induction n with
  | zero => intro s hz; exact hz
  | succ n ih =>
    intro s hz
    show z.Onward (match s.mig? rng gran with
      | none => s
      | some g => _)
    split
    · exact hz
    · split
      · exact hz
      · split
        · exact ih _ (onward_updMig hz _ _ _)
        · dsimp only
          split
          · exact hz
          · exact ih _ (onward_step7 (onward_updMig hz _ _ _) _ _ _)

theorem onward_migIssue {z s : State} (hz : z.Onward s) (rng : Nat) (gran : Nat) : z.Onward (s.migIssue rng gran) :=
  by
  unfold State.migIssue
  exact onward_migIssueGo rng gran 1024 s hz

theorem onward_migWrite {z s : State} (hz : z.Onward s) (h : Nat) (t : Tack) : z.Onward (s.migWrite h t) := by
  unfold State.migWrite
  try dsimp only
  repeat' with_reducible (first | assumption | apply onward_homePath | apply onward_step7 | apply onward_updTack | intro _ | split)

theorem onward_migClosed {z s : State} (hz : z.Onward s) (h : Nat) (t : Tack) (ok : Bool) : z.Onward (s.migClosed h t ok) := by
  unfold State.migClosed
  try dsimp only
  repeat' with_reducible (first | assumption | apply onward_bump | apply onward_each | apply onward_updMig | apply onward_migAbandon | apply onward_migIssue | apply onward_migSwitch | apply onward_setMigs | refine onward_migAbandon_eq (by assumption) ?_ | refine onward_migSwitch_eq (by assumption) ?_ | apply onward_releaseHeld | intro _ | apply onward_ite | split)

theorem onward_absorbDone {z s : State} (hz : z.Onward s) (h : Nat) (t : Tack) : z.Onward (s.absorbDone h t) := by
  unfold State.absorbDone
  try dsimp only
  repeat' with_reducible (first | assumption | apply onward_each | apply onward_homeAnswer | intro _)

theorem onward_homeClose {z s : State} (g : z.Onward s) (h : Nat) (t : Tack) : z.Onward (s.homeClose h t) := by
  unfold State.homeClose
  dsimp only
  have g0 : z.Onward (s.absorbDone h t) := onward_absorbDone g h t
  generalize s.absorbDone h t = s0 at g0 ⊢
  have g1 : z.Onward ((s0.grantOf h t).2 s0) := onward_grantOf g0
  generalize (s0.grantOf h t).2 s0 = s1 at g1 ⊢
  generalize (s0.grantOf h t).1 = gr
  split
  · exact onward_bumpEvict (onward_dropTack (onward_touchSet (onward_entryFree g0 _ _ _) _ _ _) _ _ _) _
  · split
    · exact onward_migClosed (onward_dropTack g1 _ _ _) _ _ _
    · apply onward_sendAcks
      apply onward_dropTack
      split
      · apply onward_holdStart
        exact onward_homeAnswer (onward_touchSet g1 _ _ _) _ _ _ _ _ _ _
      · exact onward_homeAnswer (onward_touchSet g1 _ _ _) _ _ _ _ _ _ _

theorem onward_homeAdvance {z s : State} (hz : z.Onward s) (h : Nat) (rgn : Nat) (line : Nat) : z.Onward (s.homeAdvance h rgn line) := by
  unfold State.homeAdvance
  try dsimp only
  repeat' with_reducible (first | assumption | apply onward_homeClose | apply onward_homeMem | apply onward_migWrite | apply onward_updTack | apply onward_foldl | intro _ | apply onward_ite | split)

theorem onward_ownerGone {z s : State} (hz : z.Onward s) (h : Nat) (rgn : Nat) (line : Nat) : z.Onward (s.ownerGone h rgn line) := by
  unfold State.ownerGone
  try dsimp only
  repeat' with_reducible (first | assumption | apply onward_bump | apply onward_homeMem | apply onward_updTack | intro _)

theorem onward_homeRun {z s : State} (hz : z.Onward s) (h : Nat) (rgn : Nat) (line : Nat) : z.Onward (s.homeRun h rgn line) := by
  unfold State.homeRun
  try dsimp only
  repeat' with_reducible (first | assumption | apply onward_bump | apply onward_homeAdvance | apply onward_homeMem | apply onward_ownerGone | apply onward_snoopAll | apply onward_updTack | intro _ | apply onward_ite | split)

theorem onward_homeStart {z s : State} (hz : z.Onward s) (h : Nat) (rgn : Nat) (line : Nat) : z.Onward (s.homeStart h rgn line) := by
  unfold State.homeStart
  try dsimp only
  repeat' with_reducible (first | assumption | apply onward_homeRun | apply onward_updTack | intro _ | apply onward_ite | split)

theorem onward_evictOne {z s : State} (hz : z.Onward s) (h : Nat) (w : Tack) : z.Onward (s.evictOne h w) := by
  unfold State.evictOne
  try dsimp only
  repeat' with_reducible (first | assumption | apply onward_count | apply onward_homeAdvance | apply onward_ownerGone | apply onward_setHome | apply onward_snoopAll | intro _ | apply onward_ite | split)

theorem onward_homeSettle {z s : State} (hz : z.Onward s) (h : Nat) : z.Onward (s.homeSettle h) := by
  unfold State.homeSettle
  try dsimp only
  repeat' with_reducible (first | assumption | apply onward_each | apply onward_evictOne | apply onward_homeRun | apply onward_syncHome | intro _ | apply onward_ite | split)

theorem onward_frameFor {z s : State} (hz : z.Onward s) (h : Nat) (idx : Nat) : z.Onward (s.frameFor h idx) := by
  unfold State.frameFor
  try dsimp only
  repeat' with_reducible (first | assumption | apply onward_setHome | apply onward_svcAdd | apply onward_foldl | intro _ | apply onward_ite | split)

theorem onward_setLost {z s : State} (hz : z.Onward s) (h : Nat) (idx : Nat) : z.Onward (s.setLost h idx) := by
  unfold State.setLost
  try dsimp only
  repeat' with_reducible (first | assumption | apply onward_occ | apply onward_setHome | intro _ | apply onward_ite | split)

theorem onward_dirEcc {z s : State} (hz : z.Onward s) (h : Nat) (idx : Nat) (ecc : Nat) : z.Onward (s.dirEcc h idx ecc) := by
  unfold State.dirEcc
  try dsimp only
  repeat' with_reducible (first | assumption | apply onward_bump | apply onward_setLost | intro _ | apply onward_ite | split)

theorem onward_homeAdmit {z s : State} (hz : z.Onward s) (h : Nat) (m : Msg) (ecc : Nat) : z.Onward (s.homeAdmit h m ecc) := by
  unfold State.homeAdmit
  try dsimp only
  repeat' with_reducible (first | assumption | apply onward_count | apply onward_dirEcc | apply onward_frameFor | apply onward_homeStart | apply onward_setHome | apply onward_svcAdd | intro _ | apply onward_ite | split)

theorem onward_passSet {z s : State} (hz : z.Onward s) (h : Nat) (w : Wait) : z.Onward (s.passSet h w) := by
  unfold State.passSet
  try dsimp only
  repeat' with_reducible (first | assumption | apply onward_count | apply onward_homeAdmit | apply onward_setHome | intro _ | apply onward_ite | split)

theorem onward_joinChain {z s : State} (hz : z.Onward s) (h : Nat) (m : Msg) : z.Onward (s.joinChain h m) := by
  unfold State.joinChain
  try dsimp only
  repeat' with_reducible (first | assumption | apply onward_count | apply onward_setHome | intro _ | apply onward_ite | split)

theorem onward_homeEnter {z s : State} (hz : z.Onward s) (h : Nat) (m : Msg) (ecc : Nat) : z.Onward (s.homeEnter h m ecc) := by
  unfold State.homeEnter
  try dsimp only
  repeat' with_reducible (first | assumption | apply onward_homeAdmit | apply onward_joinChain | apply onward_passSet | apply onward_setHome | intro _ | apply onward_ite | split)

theorem onward_queueAdmit {z s : State} (hz : z.Onward s) (h : Nat) : z.Onward (s.queueAdmit h) := by
  unfold State.queueAdmit
  try dsimp only
  repeat' with_reducible (first | assumption | apply onward_count | apply onward_homeAdmit | apply onward_passSet | apply onward_setHome | intro _ | apply onward_ite | split)

theorem onward_fencedAnswer {z s : State} (hz : z.Onward s) (h : Nat) (m : Msg) : z.Onward (s.fencedAnswer h m) := by
  unfold State.fencedAnswer
  try dsimp only
  repeat' with_reducible (first | assumption | apply onward_homeAnswer | apply onward_occ | apply onward_respond | apply onward_ite | split)

theorem onward_biConflict {z s : State} (hz : z.Onward s) (h : Nat) (m : Msg) : z.Onward (s.biConflict h m) := by
  unfold State.biConflict
  try dsimp only
  repeat' with_reducible (first | assumption | apply onward_bump | apply onward_respond | apply onward_updTack | intro _ | apply onward_ite | split)

theorem onward_homeAbsorb {z s : State} (hz : z.Onward s) (h : Nat) (t : Tack) (m : Msg) (o : CohOp) : z.Onward (s.homeAbsorb h t m o) := by
  unfold State.homeAbsorb
  try dsimp only
  repeat' with_reducible (first | assumption | apply onward_bump | apply onward_count | apply onward_homeAdvance | apply onward_homeAnswer | apply onward_homeMem | apply onward_updTack | intro _ | apply onward_ite | split)

theorem onward_homeUnlisted {z s : State} (hz : z.Onward s) (h : Nat) (m : Msg) : z.Onward (s.homeUnlisted h m) := by
  unfold State.homeUnlisted
  repeat' with_reducible (first | assumption | apply onward_respond | apply onward_step7 | apply onward_ite | split)

theorem onward_homeArrive {z s : State} (hz : z.Onward s) (h : Nat) (m : Msg) (ecc : Nat) : z.Onward (s.homeArrive h m ecc) := by
  unfold State.homeArrive
  try dsimp only
  repeat' with_reducible (first | assumption | apply onward_biConflict | apply onward_bump | apply onward_fencedAnswer | apply onward_homeAbsorb | apply onward_homeAnswer | apply onward_homeEnter | apply onward_homeUnlisted | apply onward_setHome | intro _ | apply onward_ite | split)

theorem onward_dirFetched {z s : State} (hz : z.Onward s) (h : Nat) (rgn : Nat) (line : Nat) (out : Nat) : z.Onward (s.dirFetched h rgn line out) := by
  unfold State.dirFetched
  try dsimp only
  repeat' with_reducible (first | assumption | apply onward_bump | apply onward_each | apply onward_eccRead | apply onward_homeStart | apply onward_occ | apply onward_setLost | apply onward_svcDone | apply onward_updTack | refine onward_eccRead_eq (by assumption) ?_ | intro _ | apply onward_ite | split)

theorem onward_memLost {z s : State} (hz : z.Onward s) (h : Nat) (rgn : Nat) (line : Nat) : z.Onward (s.memLost h rgn line) := by
  unfold State.memLost
  try dsimp only
  repeat' with_reducible (first | assumption | apply onward_homeIssue | apply onward_occ | apply onward_rgnViral | apply onward_ite | split)

theorem onward_homeMemDone {z s : State} (hz : z.Onward s) (h : Nat) (rgn : Nat) (line : Nat) (write : Bool) (data : List Byte) (poison : Bool) (ok : Bool) (dl : Nat) : z.Onward (s.homeMemDone h rgn line write data poison ok dl) := by
  unfold State.homeMemDone
  try dsimp only
  repeat' with_reducible (first | assumption | apply onward_absorbDone | apply onward_bump | apply onward_dropTack | apply onward_homeAdvance | apply onward_memLost | apply onward_migClosed | apply onward_updTack | intro _ | apply onward_ite | split)

theorem onward_homeMemRsp {z s : State} (hz : z.Onward s) (h : Nat) (rgn : Nat) (line : Nat) : z.Onward (s.homeMemRsp h rgn line) := by
  unfold State.homeMemRsp
  try dsimp only
  repeat' with_reducible (first | assumption | apply onward_dispDone | apply onward_homeMemDone | apply onward_setChan | apply onward_uncross | intro _ | split)

theorem onward_snoopRsp {z s : State} (hz : z.Onward s) (h : Nat) (m : Msg) : z.Onward (s.snoopRsp h m) := by
  unfold State.snoopRsp
  try dsimp only
  repeat' with_reducible (first | assumption | apply onward_bump | apply onward_homeAdvance | apply onward_homeMem | apply onward_updTack | intro _ | apply onward_ite | split)

theorem onward_departReturn {z s : State} (hz : z.Onward s) (h : Nat) : z.Onward (s.departReturn h) := by
  unfold State.departReturn
  try dsimp only
  repeat' with_reducible (first | assumption | apply onward_setHome | intro _)

theorem onward_departTacks {z s : State} (hz : z.Onward s) (h : Nat) (f : Nat) (skip : Option (Nat × Nat)) : z.Onward (s.departTacks h f skip) := by
  unfold State.departTacks
  try dsimp only
  repeat' with_reducible (first | assumption | apply onward_each | apply onward_homeAdvance | apply onward_ownerGone | apply onward_updTack | intro _ | apply onward_ite | split)

theorem onward_departWaits {z s : State} (hz : z.Onward s) (h : Nat) (f : Nat) : z.Onward (s.departWaits h f) := by
  unfold State.departWaits
  try dsimp only
  repeat' with_reducible (first | assumption | apply onward_bump | apply onward_each | apply onward_homeAnswer | apply onward_setHome | intro _)

theorem onward_departAt {z s : State} (hz : z.Onward s) (h : Nat) (f : Nat) (gone : Bool) (skip : Option (Nat × Nat)) : z.Onward (s.departAt h f gone skip) := by
  unfold State.departAt
  try dsimp only
  repeat' with_reducible (first | assumption | apply onward_departReturn | apply onward_departTacks | apply onward_departWaits | apply onward_homeSettle | apply onward_setHome | apply onward_syncHome | intro _ | apply onward_ite | split)

theorem onward_depart {z s : State} (hz : z.Onward s) (f : Nat) (gone : Bool) : z.Onward (s.depart f gone) := by
  unfold State.depart
  try dsimp only
  repeat' with_reducible (first | assumption | apply onward_departAt | apply onward_each | intro _)

theorem onward_departClear {z s : State} (hz : z.Onward s) (f : Nat) : z.Onward (s.departClear f) := by
  unfold State.departClear
  try dsimp only
  repeat' with_reducible (first | assumption | apply onward_departReturn | apply onward_each | apply onward_setHome | apply onward_syncHome | intro _ | apply onward_ite | split)

theorem onward_departClrWrite {z s : State} (hz : z.Onward s) (h : Nat) (v : Word) : z.Onward (s.departClrWrite h v) := by
  unfold State.departClrWrite
  try dsimp only
  repeat' with_reducible (first | assumption | apply onward_departReturn | apply onward_put | apply onward_setHome | apply onward_storeAt | apply onward_syncHome | intro _ | apply onward_ite | split)

theorem onward_walkPoison {z s : State} (hz : z.Onward s) (h : Nat) (e : DirEntry) : z.Onward (s.walkPoison h e) := by
  unfold State.walkPoison
  try dsimp only
  repeat' with_reducible (first | assumption | apply onward_bump | apply onward_entryFree | apply onward_homeIssue | apply onward_homePath | apply onward_ite | split)

theorem onward_walkDone {z s : State} (hz : z.Onward s) (h : Nat) : z.Onward (s.walkDone h) := by
  unfold State.walkDone
  try dsimp only
  repeat' with_reducible (first | assumption | apply onward_departReturn | apply onward_each | apply onward_entryDrop | apply onward_homeSettle | apply onward_setHome | apply onward_walkPoison | intro _ | apply onward_ite | split)

theorem onward_tackTimeout {z s : State} (hz : z.Onward s) (h rgn line : Nat) : z.Onward (s.tackTimeout h rgn line) := by
  unfold State.tackTimeout
  split
  · exact hz
  · rename_i t _
    extract_lets d s1 s2 s3 t1 t2 s4 s5
    have g1 : z.Onward s1 := onward_occ (onward_bump hz _ _ _) _ _
    have g2 : z.Onward s2 := by
      refine onward_each _ (fun u f g => ?_) _ g1
      have g' : z.Onward (((u.put F.HA_TO_STATUS_LAST_FPID d f).put F.HA_TO_STATUS_LAST_VALID d 1).each (List.range 4)
          fun v k => v.departAt k f false (if k = h then some (rgn, line) else none)) :=
        onward_each _ (fun _ _ g => onward_departAt g _ _ _ _) _ (onward_put (onward_put g _ _ _) _ _ _)
      dsimp only
      split
      · split
        · exact onward_ownerGone g' _ _ _
        · exact g'
      · exact g'
    have g3 : z.Onward s3 := by
      show z.Onward (if t.memWr = 0 then s2 else s2.memLost h rgn line)
      split
      · exact g2
      · exact onward_memLost g2 _ _ _
    have g4 : z.Onward s4 := onward_updTack g3 _ _ _ _
    have g5 : z.Onward s5 := by
      show z.Onward (if (isWriteOp t2.op && !t2.wrote && !t2.eviction) = true then s4.homeMem h rgn line true t2.finalData.1 t2.finalData.2 else s4)
      split
      · exact onward_homeMem g4 _ _ _ _ _ _
      · exact g4
    clear_value s5 s4 t2
    split
    · exact hz
    · split
      · exact onward_homeSettle (onward_migClosed (onward_dropTack g4 _ _ _) _ _ _) _
      · split
        · exact onward_homeSettle (onward_migWrite g4 _ _) _
        · exact onward_homeSettle (onward_homeClose g5 _ _) _

theorem onward_holdEnd {z s : State} (hz : z.Onward s) (h : Nat) (rgn : Nat) (line : Nat) : z.Onward (s.holdEnd h rgn line) := by
  unfold State.holdEnd
  try dsimp only
  repeat' with_reducible (first | assumption | apply onward_homeSettle | apply onward_setHome | intro _)

theorem onward_lwtResend {z s : State} (hz : z.Onward s) (id : Nat) : z.Onward (s.lwtResend id) := by
  unfold State.lwtResend
  try dsimp only
  repeat' with_reducible (first | assumption | apply onward_setLwt | apply onward_step7Now | intro _ | apply onward_ite | split)

theorem onward_lwtDone {z s : State} (hz : z.Onward s) (id : Nat) : z.Onward (s.lwtDone id) := by
  unfold State.lwtDone
  try dsimp only
  repeat' with_reducible (first | assumption | apply onward_bump | apply onward_drainBehind | apply onward_setLwt | apply onward_syncLwt | apply onward_uncross | intro _ | apply onward_ite | split)

theorem onward_homeCtlWrite {z s : State} (hz : z.Onward s) (h : Nat) (v : Word) : z.Onward (s.homeCtlWrite h v) := by
  unfold State.homeCtlWrite
  try dsimp only
  repeat' with_reducible (first | assumption | apply onward_put | apply onward_setHome | apply onward_storeAt | apply onward_syncHome | intro _ | apply onward_ite | split)

theorem onward_homeFence {z s : State} (hz : z.Onward s) (h : Nat) : z.Onward (s.homeFence h) := by
  unfold State.homeFence
  try dsimp only
  repeat' with_reducible (first | assumption | apply onward_each | apply onward_fencedAnswer | apply onward_migClosed | apply onward_rgnViral | apply onward_setHome | apply onward_syncHome | intro _ | apply onward_ite | split)

theorem onward_homeRelease {z s : State} (hz : z.Onward s) (h : Nat) : z.Onward (s.homeRelease h) := by
  unfold State.homeRelease
  try dsimp only
  repeat' with_reducible (first | assumption | apply onward_put | apply onward_setHome | apply onward_syncHome | intro _)

theorem onward_bindEvent {z s : State} (hz : z.Onward s) (v : Nat) (reason : Nat) (unbind : Bool) : z.Onward (s.bindEvent v reason unbind) := by
  unfold State.bindEvent
  repeat' with_reducible (first | assumption | apply onward_event)

theorem onward_bcmdStatus {z s : State} (hz : z.Onward s) (p : Option Path) (v : Nat) (st : Nat) (reason : Nat) : z.Onward (s.bcmdStatus p v st reason) := by
  unfold State.bcmdStatus
  repeat' with_reducible (first | assumption | apply onward_put | apply onward_ite | split)

theorem onward_bindCmd {z s : State} (hz : z.Onward s) (p : Option Path) (v : Nat) (b : Bound) : z.Onward (s.bindCmd p v b).1 := by
  unfold State.bindCmd
  try dsimp only
  repeat' with_reducible (first | assumption | apply onward_bcmdStatus | apply onward_bindEvent | apply onward_put | apply onward_setBnd | intro _ | apply onward_ite | split)

theorem onward_bindCmd_eq {z s t : State} {p : Option Path} {v : Nat} {b : Bound} {r} (e : (State.bindCmd s p v b) = (t, r)) (hz : z.Onward s) : z.Onward t := by
  have g := onward_bindCmd hz p v b
  rw [e] at g
  exact g

theorem onward_unbindCmd {z s : State} (hz : z.Onward s) (p : Option Path) (v : Nat) (umode : Nat) : z.Onward (s.unbindCmd p v umode).1 := by
  unfold State.unbindCmd
  try dsimp only
  repeat' with_reducible (first | assumption | apply onward_bcmdStatus | apply onward_bindEvent | apply onward_put | apply onward_send | apply onward_setBnd | intro _ | apply onward_ite | split)

theorem onward_unbindCmd_eq {z s t : State} {p : Option Path} {v : Nat} {umode : Nat} {r} (e : (State.unbindCmd s p v umode) = (t, r)) (hz : z.Onward s) : z.Onward t := by
  have g := onward_unbindCmd hz p v umode
  rw [e] at g
  exact g

theorem onward_bcmdWrite {z s : State} (hz : z.Onward s) (p : Path) (w : Word) : z.Onward (s.bcmdWrite p w) := by
  unfold State.bcmdWrite
  try dsimp only
  repeat' with_reducible (first | assumption | apply onward_bindCmd | apply onward_storeAt | apply onward_unbindCmd | refine onward_bindCmd_eq (by assumption) ?_ | refine onward_unbindCmd_eq (by assumption) ?_ | apply onward_ite | split)

theorem onward_syncFn {z s : State} (hz : z.Onward s) (f : Nat) : z.Onward (s.syncFn f) := by
  unfold State.syncFn
  try dsimp only
  repeat' with_reducible (first | assumption | apply onward_put | apply onward_foldl | intro _ | apply onward_ite | split)

theorem onward_bindApply1 {z s : State} (hz : z.Onward s) (c : BindCmd) : z.Onward (s.bindApply1 c) := by
  unfold State.bindApply1
  try dsimp only
  repeat' with_reducible (first | assumption | apply onward_bcmdStatus | apply onward_bindEvent | apply onward_hpTo | apply onward_put | apply onward_setVmp | apply onward_syncFn | intro _ | apply onward_ite | split)

theorem onward_bindApply {z s : State} (hz : z.Onward s)  : z.Onward (State.bindApply s) := by
  unfold State.bindApply
  try dsimp only
  repeat' with_reducible (first | assumption | apply onward_bindApply1 | apply onward_each | apply onward_setBnd | intro _)

theorem onward_pfDiscard {z s : State} (hz : z.Onward s) (p : PfLine → Bool) : z.Onward (s.pfDiscard p) := by
  unfold State.pfDiscard
  try dsimp only
  repeat' with_reducible (first | assumption | apply onward_bump | apply onward_count | apply onward_each | apply onward_occAt | apply onward_setVmp | intro _ | apply onward_ite | split)

theorem onward_bindLinesGone {z s : State} (hz : z.Onward s) (b : Bound) : z.Onward (s.bindLinesGone b) := by
  unfold State.bindLinesGone
  try dsimp only
  repeat' with_reducible (first | assumption | apply onward_pfDiscard | intro _ | apply onward_ite | split)

theorem onward_unbind {z s : State} (hz : z.Onward s) (v : Nat) (presence : Bool) : z.Onward (s.unbind v presence) := by
  unfold State.unbind
  try dsimp only
  repeat' with_reducible (first | assumption | apply onward_bindLinesGone | apply onward_put | apply onward_send | apply onward_setVmp | apply onward_syncFn | intro _ | apply onward_ite | split)

theorem onward_unbindApply {z s : State} (hz : z.Onward s) (v : Nat) (hostDown : Bool) : z.Onward (s.unbindApply v hostDown) := by
  unfold State.unbindApply
  try dsimp only
  repeat' with_reducible (first | assumption | apply onward_bcmdStatus | apply onward_bindEvent | apply onward_setBnd | apply onward_unbind | intro _ | apply onward_ite | split)

theorem onward_bindingsLost {z s : State} (hz : z.Onward s) (n : Nat) : z.Onward (s.bindingsLost n) := by
  unfold State.bindingsLost
  try dsimp only
  repeat' with_reducible (first | assumption | apply onward_setBnd | intro _ | apply onward_ite | split)

theorem onward_bindingsRemove {z s : State} (hz : z.Onward s)  : z.Onward (State.bindingsRemove s) := by
  unfold State.bindingsRemove
  try dsimp only
  repeat' with_reducible (first | assumption | apply onward_each | apply onward_send | apply onward_setBnd | apply onward_unbind | intro _ | apply onward_ite | split)

theorem onward_partnerSet {z s : State} (hz : z.Onward s) (n : Nat) (p : Partner) : z.Onward (s.partnerSet n p) := by
  unfold State.partnerSet
  try dsimp only
  repeat' with_reducible (first | assumption | apply onward_put)

theorem onward_partnerGone {z s : State} (hz : z.Onward s) (n : Nat) : z.Onward (s.partnerGone n) := by
  unfold State.partnerGone
  repeat' with_reducible (first | assumption | apply onward_partnerSet)

theorem onward_policyBind {z s : State} (hz : z.Onward s) (n : Nat) : z.Onward (s.policyBind n) := by
  unfold State.policyBind
  try dsimp only
  repeat' with_reducible (first | assumption | apply onward_bindCmd | apply onward_bindEvent | apply onward_each | refine onward_bindCmd_eq (by assumption) ?_ | intro _ | apply onward_ite | split)

theorem onward_startBindings {z s : State} (hz : z.Onward s)  : z.Onward (State.startBindings s) := by
  unfold State.startBindings
  try dsimp only
  repeat' with_reducible (first | assumption | apply onward_bindCmd | apply onward_each | refine onward_bindCmd_eq (by assumption) ?_ | intro _)

theorem onward_discoveryDone {z s : State} (hz : z.Onward s) (n : Nat) (p : Partner) : z.Onward (s.discoveryDone n p) := by
  unfold State.discoveryDone
  try dsimp only
  repeat' with_reducible (first | assumption | apply onward_hpTo | apply onward_partnerSet | apply onward_policyBind | apply onward_put | apply onward_setPort | apply onward_xrWrite | intro _ | apply onward_ite | split)

theorem onward_discoveryTimeout {z s : State} (hz : z.Onward s) (n : Nat) : z.Onward (s.discoveryTimeout n) := by
  unfold State.discoveryTimeout
  try dsimp only
  repeat' with_reducible (first | assumption | apply onward_hpTo | apply onward_occ | apply onward_setPort | intro _ | apply onward_ite | split)

theorem onward_wakeRefill {z s : State} (hz : z.Onward s)  : z.Onward (State.wakeRefill s) := by
  unfold State.wakeRefill
  repeat' with_reducible (first | assumption | apply onward_put)

theorem onward_shelfTimer {z s : State} (hz : z.Onward s) (sh : Nat) (on : Bool) : z.Onward (s.shelfTimer sh on) := by
  unfold State.shelfTimer
  try dsimp only
  repeat' with_reducible (first | assumption | apply onward_setBnd | intro _ | apply onward_ite | split)

theorem onward_shelfSend {z s : State} (hz : z.Onward s) (sh : Nat) (act : Nat) : z.Onward (s.shelfSend sh act) := by
  unfold State.shelfSend
  try dsimp only
  repeat' with_reducible (first | assumption | apply onward_each | apply onward_send | intro _)

theorem onward_wakeGrant {z s : State} (hz : z.Onward s)  : z.Onward (State.wakeGrant s) := by
  unfold State.wakeGrant
  try dsimp only
  repeat' with_reducible (first | assumption | apply onward_bankGrant | apply onward_put | apply onward_setBnd | apply onward_setBndShelf | apply onward_shelfSend | apply onward_shelfTimer | apply onward_syncWake | intro _ | apply onward_ite | split)

theorem onward_shelfErr {z s : State} (hz : z.Onward s) (sh : Nat) (e : Nat) : z.Onward (s.shelfErr sh e) := by
  unfold State.shelfErr
  repeat' with_reducible (first | assumption | apply onward_put)

theorem onward_shelfParkStart {z s : State} (hz : z.Onward s) (sh : Nat) : z.Onward (s.shelfParkStart sh) := by
  unfold State.shelfParkStart
  repeat' with_reducible (first | assumption | apply onward_setBndShelf | apply onward_shelfClean | apply onward_shelfErr)

theorem onward_shelfPark {z s : State} (hz : z.Onward s) (sh : Nat) : z.Onward (s.shelfPark sh) := by
  unfold State.shelfPark
  repeat' with_reducible (first | assumption | apply onward_shelfErr | apply onward_shelfParkStart | apply onward_ite | split)

theorem onward_shelfWake {z s : State} (hz : z.Onward s) (sh : Nat) : z.Onward (s.shelfWake sh) := by
  unfold State.shelfWake
  repeat' with_reducible (first | assumption | apply onward_setBndShelf | apply onward_setShelf | apply onward_shelfErr | apply onward_wakeAdd | apply onward_ite | split)

theorem onward_shelfCmd {z s : State} (hz : z.Onward s) (sh : Nat) (w : Word) : z.Onward (s.shelfCmd sh w) := by
  unfold State.shelfCmd
  try dsimp only
  repeat' with_reducible (first | assumption | apply onward_shelfPark | apply onward_shelfWake | apply onward_ite | split)

theorem onward_shelfCmdWrite {z s : State} (hz : z.Onward s) (p : Path) (w : Word) : z.Onward (s.shelfCmdWrite p w) := by
  unfold State.shelfCmdWrite
  try dsimp only
  repeat' with_reducible (first | assumption | apply onward_firmware | apply onward_shelfCmd | intro _)

theorem onward_shelfIdlePark {z s : State} (hz : z.Onward s) (sh : Nat) : z.Onward (s.shelfIdlePark sh) := by
  unfold State.shelfIdlePark
  try dsimp only
  repeat' with_reducible (first | assumption | apply onward_shelfParkStart | intro _ | apply onward_ite | split)

theorem onward_shelfParking {z s : State} (hz : z.Onward s) (sh : Nat) : z.Onward (s.shelfParking sh) := by
  unfold State.shelfParking
  repeat' with_reducible (first | assumption | apply onward_setBndShelf | apply onward_shelfSend | apply onward_shelfTimer | apply onward_ite | split)

theorem onward_shelfParkAck {z s : State} (hz : z.Onward s) (sh : Nat) : z.Onward (s.shelfParkAck sh) := by
  unfold State.shelfParkAck
  try dsimp only
  repeat' with_reducible (first | assumption | apply onward_setBnd | apply onward_setBndShelf | apply onward_setShelf | apply onward_shelfParked | apply onward_shelfTimer | apply onward_wakeAdd | intro _ | apply onward_ite | split)

theorem onward_shelfParkTimeout {z s : State} (hz : z.Onward s) (sh : Nat) : z.Onward (s.shelfParkTimeout sh) := by
  unfold State.shelfParkTimeout
  try dsimp only
  repeat' with_reducible (first | assumption | apply onward_setBnd | apply onward_setBndShelf | apply onward_shelfErr | apply onward_shelfRelease | apply onward_shelfTimer | intro _ | apply onward_ite | split)

theorem onward_shelfWakeDone {z s : State} (hz : z.Onward s) (sh : Nat) : z.Onward (s.shelfWakeDone sh) := by
  unfold State.shelfWakeDone
  try dsimp only
  repeat' with_reducible (first | assumption | apply onward_bump | apply onward_setBndShelf | apply onward_shelfAwake | apply onward_shelfTimer | refine onward_shelfAwake_eq (by assumption) ?_ | apply onward_releaseHeld | intro _ | apply onward_ite | split)

theorem onward_shelfWakeTimeout {z s : State} (hz : z.Onward s) (sh : Nat) : z.Onward (s.shelfWakeTimeout sh) := by
  unfold State.shelfWakeTimeout
  try dsimp only
  repeat' with_reducible (first | assumption | apply onward_each | apply onward_failBack | apply onward_homeSelf | apply onward_occ | apply onward_setBndShelf | apply onward_shelfErr | apply onward_shelfTimer | apply onward_shelfWakeFailed | refine onward_shelfWakeFailed_eq (by assumption) ?_ | intro _ | apply onward_ite | split)

theorem onward_ownerEvent {z s : State} (hz : z.Onward s) (eid : Nat) (sw : Nat) (owned : Bool) : z.Onward (s.ownerEvent eid sw owned) := by
  unfold State.ownerEvent
  repeat' with_reducible (first | assumption | apply onward_event)

theorem onward_ownerAccept {z s : State} (hz : z.Onward s) (eid : Nat) (sw : Nat) : z.Onward (s.ownerAccept eid sw).1 := by
  unfold State.ownerAccept
  try dsimp only
  repeat' with_reducible (first | assumption | apply onward_ownerEvent | apply onward_put | apply onward_setBnd | intro _ | apply onward_ite | split)

theorem onward_ownerAccept_eq {z s t : State} {eid : Nat} {sw : Nat} {r} (e : (State.ownerAccept s eid sw) = (t, r)) (hz : z.Onward s) : z.Onward t := by
  have g := onward_ownerAccept hz eid sw
  rw [e] at g
  exact g

theorem onward_leaseExpiry {z s : State} (hz : z.Onward s)  : z.Onward (State.leaseExpiry s) := by
  unfold State.leaseExpiry
  try dsimp only
  repeat' with_reducible (first | assumption | apply onward_ownerEvent | apply onward_put | apply onward_setBnd | intro _ | apply onward_ite | split)

theorem onward_report {z s : State} (hz : z.Onward s) (kind : Nat) (val : Nat) : z.Onward (s.report kind val) := by
  unfold State.report
  try dsimp only
  repeat' with_reducible (first | assumption | apply onward_each | apply onward_enqueue | apply onward_setBnd | intro _)

theorem onward_reportRepeat {z s : State} (hz : z.Onward s) (w : Nat) : z.Onward (s.reportRepeat w) := by
  unfold State.reportRepeat
  try dsimp only
  repeat' with_reducible (first | assumption | apply onward_each | apply onward_enqueue | apply onward_setBnd | intro _ | apply onward_ite | split)

theorem onward_reportAcked {z s : State} (hz : z.Onward s) (w : Nat) (kind : Nat) (val : Nat) : z.Onward (s.reportAcked w kind val) := by
  unfold State.reportAcked
  try dsimp only
  repeat' with_reducible (first | assumption | apply onward_setBnd | intro _)

theorem onward_reportRx {z s : State} (hz : z.Onward s) (w : Nat) (kind : Nat) (val : Nat) : z.Onward (s.reportRx w kind val) := by
  unfold State.reportRx
  try dsimp only
  repeat' with_reducible (first | assumption | apply onward_enqueue | apply onward_setBnd | intro _ | apply onward_ite | split)

theorem onward_reportsApply {z s : State} (hz : z.Onward s)  : z.Onward (State.reportsApply s) := by
  unfold State.reportsApply
  try dsimp only
  repeat' with_reducible (first | assumption | apply onward_depart | apply onward_each | apply onward_setBnd | intro _ | apply onward_ite | split)

theorem onward_departAll {z s : State} (hz : z.Onward s) (f : Nat) (gone : Bool) : z.Onward (s.departAll f gone) := by
  unfold State.departAll
  repeat' with_reducible (first | assumption | apply onward_depart | apply onward_report)

theorem onward_lossAll {z s : State} (hz : z.Onward s) (n : Nat) : z.Onward (s.lossAll n) := by
  unfold State.lossAll
  try dsimp only
  repeat' with_reducible (first | assumption | apply onward_bindingsLost | apply onward_departAll | apply onward_lossDeclare | apply onward_partnerGone | apply onward_report | apply onward_ite | split)

theorem onward_hotReset {z s : State} (hz : z.Onward s) (n : Nat) : z.Onward (s.hotReset n) := by
  unfold State.hotReset
  try dsimp only
  repeat' with_reducible (first | assumption | apply onward_departClear | apply onward_each | apply onward_portStale | apply onward_send | intro _ | apply onward_ite | split)

theorem onward_busReset {z s : State} (hz : z.Onward s) (v : Nat) : z.Onward (s.busReset v) := by
  unfold State.busReset
  repeat' with_reducible (first | assumption | apply onward_portStale | apply onward_send | apply onward_ite | split)

theorem onward_linkUpAll {z s : State} (hz : z.Onward s) (n : Nat) (u : LinkUp) : z.Onward (s.linkUpAll n u) := by
  unfold State.linkUpAll
  try dsimp only
  repeat' with_reducible (first | assumption | apply onward_departAll | apply onward_linkUp | intro _ | apply onward_ite | split)

theorem onward_bndSlices {z s : State} (hz : z.Onward s)  : z.Onward (State.bndSlices s) := by
  unfold State.bndSlices
  try dsimp only
  repeat' with_reducible (first | assumption | apply onward_each | apply onward_put | intro _ | apply onward_ite | split)

theorem onward_syncVsw {z s : State} (hz : z.Onward s)  : z.Onward (State.syncVsw s) := by
  unfold State.syncVsw
  try dsimp only
  repeat' with_reducible (first | assumption | apply onward_put | intro _)

theorem onward_setQp {z s : State} (hz : z.Onward s) (q : Nat) (st : Nat) : z.Onward (s.setQp q st) := by
  unfold State.setQp
  repeat' with_reducible (first | assumption | apply onward_put)

end Sys2Proof.Machine
end

