-- ==== Sys2Proof/Laws/Onward5.lean ====
section
/-!
SUPPORT. What the operations keep (part 5 of 8), in the order in which they call each other.
-/
set_option linter.all false
namespace Sys2Proof.Machine
set_option Elab.async false
open Sys2Proof

theorem onward_syncCob {z s : State} (hz : z.Onward s) (q : Nat) : z.Onward (s.syncCob q) := by
  unfold State.syncCob
  try dsimp only
  repeat' with_reducible (first | assumption | apply onward_put | intro _)

theorem onward_qpEnable {z s : State} (hz : z.Onward s) (q : Nat) : z.Onward (s.qpEnable q) := by
  unfold State.qpEnable
  try dsimp only
  repeat' with_reducible (first | assumption | apply onward_put | apply onward_setCob | apply onward_setQp | apply onward_syncCob | intro _ | apply onward_ite | split)

theorem onward_qpDisable {z s : State} (hz : z.Onward s) (q : Nat) : z.Onward (s.qpDisable q) := by
  unfold State.qpDisable
  repeat' with_reducible (first | assumption | apply onward_setQp)

theorem onward_qpCtlWrite {z s : State} (hz : z.Onward s) (p : Path) (w : Word) : z.Onward (s.qpCtlWrite p w) := by
  unfold State.qpCtlWrite
  try dsimp only
  repeat' with_reducible (first | assumption | apply onward_qpDisable | apply onward_qpEnable | apply onward_ite | split)

theorem onward_doorbell {z s : State} (hz : z.Onward s) (q : Nat) (head : Bool) (v : Nat) : z.Onward (s.doorbell q head v) := by
  unfold State.doorbell
  try dsimp only
  repeat' with_reducible (first | assumption | apply onward_bump | apply onward_setCob | apply onward_syncCob | intro _ | apply onward_ite | split)

theorem onward_qpDbWrite {z s : State} (hz : z.Onward s) (p : Path) (w : Word) : z.Onward (s.qpDbWrite p w) := by
  unfold State.qpDbWrite
  try dsimp only
  repeat' with_reducible (first | assumption | apply onward_doorbell | apply onward_storeAt)

theorem onward_ringError {z s : State} (hz : z.Onward s) (q : Nat) : z.Onward (s.ringError q) := by
  unfold State.ringError
  repeat' with_reducible (first | assumption | apply onward_occAt | apply onward_setQp)

theorem onward_descFetched {z s : State} (hz : z.Onward s) (q : Nat) (ok : Bool) (data : List Byte) : z.Onward (s.descFetched q ok data) := by
  unfold State.descFetched
  try dsimp only
  repeat' with_reducible (first | assumption | apply onward_put | apply onward_ringError | apply onward_setCob | apply onward_syncCob | intro _ | apply onward_ite | split)

theorem onward_updDesc {z s : State} (hz : z.Onward s) (no : Nat) (f : Desc → Desc) : z.Onward (s.updDesc no f) := by
  unfold State.updDesc
  try dsimp only
  repeat' with_reducible (first | assumption | apply onward_setCob | intro _ | apply onward_ite | split)

theorem onward_descStart {z s : State} (hz : z.Onward s)  : z.Onward (State.descStart s) := by
  unfold State.descStart
  try dsimp only
  repeat' with_reducible (first | assumption | apply onward_setCob | apply onward_syncCob | apply onward_updDesc | intro _ | apply onward_ite | split)

theorem onward_descEnd {z s : State} (hz : z.Onward s) (d : Desc) (status : Nat) : z.Onward (s.descEnd d status) := by
  unfold State.descEnd
  try dsimp only
  repeat' with_reducible (first | assumption | apply onward_syncCob | apply onward_updDesc | (refine onward_setIns ?_ _ (by rfl)) | intro _ | apply onward_ite | split)

theorem onward_descTimeout {z s : State} (hz : z.Onward s) (q : Nat) : z.Onward (s.descTimeout q) := by
  unfold State.descTimeout
  try dsimp only
  repeat' with_reducible (first | assumption | apply onward_descEnd | intro _ | split)

theorem onward_cobHostWrite {z s : State} (hz : z.Onward s) (q : Nat) (a : Nat) (bs : List Byte) : z.Onward (s.cobHostWrite q a bs) := by
  unfold State.cobHostWrite
  try dsimp only
  repeat' with_reducible (first | assumption | apply onward_setCob | apply onward_step7 | intro _ | apply onward_ite | split)

theorem onward_cobNotify {z s : State} (hz : z.Onward s) (q : Nat) : z.Onward (s.cobNotify q) := by
  unfold State.cobNotify
  try dsimp only
  repeat' with_reducible (first | assumption | apply onward_each | apply onward_put | apply onward_send | intro _ | apply onward_ite | split)

theorem onward_sanEnd {z s : State} (hz : z.Onward s) (d : Desc) : z.Onward (s.sanEnd d) := by
  unfold State.sanEnd
  try dsimp only
  repeat' with_reducible (first | assumption | apply onward_occAt | apply onward_setCob | intro _ | apply onward_ite | split)

theorem onward_descComplete {z s : State} (hz : z.Onward s) (q : Nat) (ok : Bool) : z.Onward (s.descComplete q ok) := by
  unfold State.descComplete
  try dsimp only
  repeat' with_reducible (first | assumption | apply onward_bump | apply onward_cobHostWrite | apply onward_cobNotify | apply onward_count | apply onward_insWrite | apply onward_ringError | apply onward_sanEnd | apply onward_setCob | apply onward_syncCob | intro _ | apply onward_ite | split)

theorem onward_sanSubmit {z s : State} (hz : z.Onward s)  : z.Onward (State.sanSubmit s) := by
  unfold State.sanSubmit
  try dsimp only
  repeat' with_reducible (first | assumption | apply onward_each | apply onward_insWrite | apply onward_setCob | apply onward_syncCob | intro _ | apply onward_ite | split)

theorem onward_sanNew {z s : State} (hz : z.Onward s) (gone : List Nat) : z.Onward (s.sanNew gone) := by
  unfold State.sanNew
  try dsimp only
  repeat' with_reducible (first | assumption | apply onward_sanSubmit | apply onward_setCob | apply onward_syncCob | apply onward_foldl | intro _)

theorem onward_violate {z s : State} (hz : z.Onward s) (v : Viol) : z.Onward (s.violate v) := by
  unfold State.violate
  try dsimp only
  repeat' with_reducible (first | assumption | apply onward_account | apply onward_bump | apply onward_count | apply onward_occAt | apply onward_put | apply onward_setSec | intro _ | apply onward_ite | split)

theorem onward_violWrite {z s : State} (hz : z.Onward s)  : z.Onward (State.violWrite s) := by
  unfold State.violWrite
  try dsimp only
  repeat' with_reducible (first | assumption | apply onward_event | apply onward_occAt | apply onward_put | apply onward_setSec | apply onward_sysWrite | intro _ | split)

theorem onward_respondInv {z s : State} (hz : z.Onward s) (ag : Nat) (m : Msg) (op : Op) (st : Status) (data : List Byte) (poison : Bool) : z.Onward (s.respondInv ag m op st data poison) := by
  unfold State.respondInv
  repeat' with_reducible (first | assumption | apply onward_step7)

theorem onward_answerErr {z s : State} (hz : z.Onward s) (ag : Nat) (m : Msg) (io : Status) (own : Status) : z.Onward (s.answerErr ag m io own) := by
  unfold State.answerErr
  try dsimp only
  repeat' with_reducible (first | assumption | apply onward_accepted | apply onward_respondInv | apply onward_unland | apply onward_ite | split)

theorem onward_reject {z s : State} (hz : z.Onward s) (ag : Nat) (m : Msg) (v : Viol) : z.Onward (s.reject ag m v) := by
  unfold State.reject
  repeat' with_reducible (first | assumption | apply onward_answerErr | apply onward_violate)

theorem onward_sliceFail {z s : State} (hz : z.Onward s) (ag : Nat) (m : Msg) : z.Onward (s.sliceFail ag m) := by
  unfold State.sliceFail
  repeat' with_reducible (first | assumption | apply onward_answerErr)

theorem onward_squashOne {z s : State} (hz : z.Onward s) (ag : Nat) (m : Msg) : z.Onward (s.squashOne ag m) := by
  unfold State.squashOne
  repeat' with_reducible (first | assumption | apply onward_failBack | apply onward_occAt | apply onward_ite | split)

theorem onward_pass7 {z s : State} (hz : z.Onward s) (ag : Nat) (m : Msg) : z.Onward (s.pass7 ag m) := by
  unfold State.pass7
  try dsimp only
  repeat' with_reducible (first | assumption | apply onward_respond | apply onward_enqueue | apply onward_setPort | apply onward_squashOne | apply onward_unland | intro _ | apply onward_ite | split)

theorem onward_colourTags {z s : State} (hz : z.Onward s) (ag : Nat) (m : Msg) (v : Viol) (a : Nat) (old : List (Nat × Nat)) : z.Onward (s.colourTags ag m v a old) := by
  unfold State.colourTags
  try dsimp only
  repeat' with_reducible (first | assumption | apply onward_pass7 | apply onward_reject | apply onward_setSec | apply onward_svcAdd | apply onward_tagIn | apply onward_foldl | intro _ | split)

theorem onward_colour {z s : State} (hz : z.Onward s) (ag : Nat) (m : Msg) (v : Viol) : z.Onward (s.colour ag m v) := by
  unfold State.colour
  try dsimp only
  repeat' with_reducible (first | assumption | apply onward_colourTags | apply onward_pass7 | apply onward_ite | split)

theorem onward_tagFilled {z s : State} (hz : z.Onward s) (line : Nat) (out : Nat) : z.Onward (s.tagFilled line out) := by
  unfold State.tagFilled
  try dsimp only
  repeat' with_reducible (first | assumption | apply onward_colourTags | apply onward_each | apply onward_eccRead | apply onward_mirrorRead | apply onward_setSec | apply onward_svcDone | apply onward_tagIn | refine onward_eccRead_eq (by assumption) ?_ | intro _ | apply onward_ite | split)

theorem onward_answerLost {z s : State} (hz : z.Onward s) (ag : Nat) (m : Msg) : z.Onward (s.answerLost ag m) := by
  unfold State.answerLost
  repeat' with_reducible (first | assumption | apply onward_answerErr | apply onward_respondInv | apply onward_unland | split)

theorem onward_tierStep {z s : State} (hz : z.Onward s) (ag : Nat) (m : Msg) : z.Onward (s.tierStep ag m) := by
  unfold State.tierStep
  try dsimp only
  repeat' with_reducible (first | assumption | apply onward_answerLost | apply onward_lookAsleep | apply onward_lookDone | apply onward_lookHold | apply onward_lookMiss | apply onward_pass7 | split)

theorem onward_cohStep {z s : State} (hz : z.Onward s) (ag : Nat) (m : Msg) : z.Onward (s.cohStep ag m) := by
  unfold State.cohStep
  repeat' with_reducible (first | assumption | apply onward_lookHold | apply onward_pass7 | split)

theorem onward_cobBar {z s : State} (hz : z.Onward s) (ag : Nat) (m : Msg) (o : Nat) : z.Onward (s.cobBar ag m o) := by
  unfold State.cobBar
  try dsimp only
  repeat' with_reducible (first | assumption | apply onward_accepted | apply onward_answerErr | apply onward_doorbell | apply onward_ite | split)

theorem onward_examine4 {z s : State} (hz : z.Onward s) (ag : Nat) (r : Route) (m0 : Msg) (v : Viol) : z.Onward (s.examine4 ag r m0 v) := by
  unfold State.examine4
  try dsimp only
  repeat' with_reducible (first | assumption | apply onward_answerErr | apply onward_cobBar | apply onward_cohStep | apply onward_colour | apply onward_meterStep | apply onward_occ | apply onward_tierStep | refine onward_meterStep_eq (by assumption) ?_ | apply onward_ite | split)

theorem onward_examine3 {z s : State} (hz : z.Onward s) (ag : Nat) (r : Route) (m : Msg) : z.Onward (s.examine3 ag r m) := by
  unfold State.examine3
  try dsimp only
  repeat' with_reducible (first | assumption | apply onward_examine4 | apply onward_reject | apply onward_ite | split)

theorem onward_examine2 {z s : State} (hz : z.Onward s) (ag : Nat) (r : Route) (m : Msg) : z.Onward (s.examine2 ag r m) := by
  unfold State.examine2
  split
  · exact onward_sliceFail hz _ _
  · split
    · exact onward_examine3 hz _ _ _
    · extract_lets bar
      split
      · exact onward_accepted (onward_bump hz _ _ _) _ _
      · exact onward_sliceFail hz _ _

theorem onward_ingress {z s : State} (hz : z.Onward s) (ag : Nat) (r : Route) (m : Msg) : z.Onward (s.ingress ag r m) := by
  unfold State.ingress
  try dsimp only
  repeat' with_reducible (first | assumption | apply onward_enqueue | apply onward_examine2 | apply onward_setBnd | intro _ | apply onward_ite | split)

theorem onward_arrive {z s : State} (hz : z.Onward s) (ag : Nat) (r : Route) (m0 : Msg) : z.Onward (s.arrive ag r m0) := by
  unfold State.arrive
  try dsimp only
  repeat' with_reducible (first | assumption | apply onward_send | apply onward_count | apply onward_ingress | apply onward_ite | split)

theorem onward_releaseIn {z s : State} (hz : z.Onward s)  : z.Onward (State.releaseIn s) := by
  unfold State.releaseIn
  try dsimp only
  repeat' with_reducible (first | assumption | apply onward_each | apply onward_ingress | apply onward_setBnd | intro _ | apply onward_ite | split)

theorem onward_drainAgain {z s : State} (hz : z.Onward s)  : z.Onward (State.drainAgain s) := by
  unfold State.drainAgain
  try dsimp only
  repeat' with_reducible (first | assumption | apply onward_cohStep | apply onward_each | apply onward_homeIssue | apply onward_tierStep | (refine onward_setIns ?_ _ (by rfl)) | intro _ | apply onward_ite | split)

theorem onward_syncVamp {z s : State} (hz : z.Onward s)  : z.Onward (State.syncVamp s) := by
  unfold State.syncVamp
  try dsimp only
  repeat' with_reducible (first | assumption | apply onward_put | intro _)

theorem onward_syncLock {z s : State} (hz : z.Onward s) (n : Nat) : z.Onward (s.syncLock n) := by
  unfold State.syncLock
  try dsimp only
  repeat' with_reducible (first | assumption | apply onward_put | intro _)

theorem onward_vampSend {z s : State} (hz : z.Onward s) (m : Msg) : z.Onward (s.vampSend m) := by
  unfold State.vampSend
  try dsimp only
  repeat' with_reducible (first | assumption | apply onward_examine3 | apply onward_setVmp | intro _)

theorem onward_vampPosted {z s : State} (hz : z.Onward s) (n : Nat) (m : Msg) : z.Onward (s.vampPosted n m) := by
  unfold State.vampPosted
  try dsimp only
  repeat' with_reducible (first | assumption | apply onward_setSole | apply onward_vampSend | intro _)

theorem onward_vampTrack {z s : State} (hz : z.Onward s) (t : VTrack) (m : Msg) : z.Onward (s.vampTrack t m) := by
  unfold State.vampTrack
  try dsimp only
  repeat' with_reducible (first | assumption | apply onward_count | apply onward_setVmp | apply onward_syncVamp | apply onward_vampSend | intro _ | apply onward_ite | split)

theorem onward_pfHold {z s : State} (hz : z.Onward s) (w : Nat) (sl : Nat) (a : Nat) (d : List Byte) : z.Onward (s.pfHold w sl a d) := by
  unfold State.pfHold
  try dsimp only
  repeat' with_reducible (first | assumption | apply onward_pfDiscard | apply onward_setVmp | intro _ | apply onward_ite | split)

theorem onward_pfServe {z s : State} (hz : z.Onward s) (m : Msg) (w : Nat) (dev : Nat) : z.Onward (s.pfServe m w dev) := by
  unfold State.pfServe
  try dsimp only
  repeat' with_reducible (first | assumption | apply onward_bump | apply onward_count | apply onward_respond | apply onward_setVmp | intro _)

theorem onward_pfAged {z s : State} (hz : z.Onward s) (w : Nat) (sl : Nat) (a : Nat) : z.Onward (s.pfAged w sl a) := by
  unfold State.pfAged
  try dsimp only
  repeat' with_reducible (first | assumption | apply onward_pfDiscard | intro _)

theorem onward_outReject {z s : State} (hz : z.Onward s) (m : Msg) : z.Onward (s.outReject m) := by
  unfold State.outReject
  repeat' with_reducible (first | assumption | apply onward_answerErr | apply onward_bump)

theorem onward_outNp {z s : State} (hz : z.Onward s) (m : Msg) (p : Nat) (w : Nat) (dev : Nat) : z.Onward (s.outNp m p w dev) := by
  unfold State.outNp
  try dsimp only
  repeat' with_reducible (first | assumption | apply onward_pfDiscard | apply onward_pfServe | apply onward_setVmp | apply onward_vampTrack | intro _ | apply onward_ite | split)

theorem onward_cfgForward {z s : State} (hz : z.Onward s) (m : Msg) (f : Nat) : z.Onward (s.cfgForward m f) := by
  unfold State.cfgForward
  try dsimp only
  repeat' with_reducible (first | assumption | apply onward_setVmp | apply onward_vampTrack | intro _ | apply onward_ite | split)

theorem onward_outCore {z s : State} (hz : z.Onward s) (m : Msg) (f : Nat) : z.Onward (s.outCore m f) := by
  unfold State.outCore
  try dsimp only
  repeat' with_reducible (first | assumption | apply onward_accepted | apply onward_answerErr | apply onward_cfgForward | apply onward_outNp | apply onward_outReject | apply onward_pfDiscard | apply onward_setVmp | apply onward_syncLock | apply onward_vampSend | intro _ | apply onward_ite | split)

theorem onward_outPass {z s : State} (hz : z.Onward s) (m : Msg) (f : Nat) : z.Onward (s.outPass m f) := by
  unfold State.outPass
  try dsimp only
  repeat' with_reducible (first | assumption | apply onward_answerErr | apply onward_outCore | apply onward_setVmp | apply onward_syncLock | intro _ | apply onward_ite | split)

theorem onward_lockDrain {z s : State} (hz : z.Onward s) (p : Nat) : z.Onward (s.lockDrain p) := by
  unfold State.lockDrain
  try dsimp only
  repeat' with_reducible (first | assumption | apply onward_answerErr | apply onward_each | apply onward_outPass | apply onward_setVmp | apply onward_syncLock | intro _ | split)

theorem onward_lockRelease {z s : State} (hz : z.Onward s) (p : Nat) : z.Onward (s.lockRelease p) := by
  unfold State.lockRelease
  try dsimp only
  repeat' with_reducible (first | assumption | apply onward_lockDrain | apply onward_setVmp | intro _)

theorem onward_lockBreak {z s : State} (hz : z.Onward s) (p : Nat) (mark : Bool) : z.Onward (s.lockBreak p mark) := by
  unfold State.lockBreak
  try dsimp only
  repeat' with_reducible (first | assumption | apply onward_bump | apply onward_lockDrain | apply onward_occ | apply onward_setVmp | intro _ | apply onward_ite | split)

theorem onward_outLock {z s : State} (hz : z.Onward s) (m : Msg) (f : Nat) : z.Onward (s.outLock m f) := by
  unfold State.outLock
  try dsimp only
  repeat' with_reducible (first | assumption | apply onward_count | apply onward_lockBreak | apply onward_outPass | apply onward_ite | split)

theorem onward_vampOut {z s : State} (hz : z.Onward s) (m : Msg) : z.Onward (s.vampOut m) := by
  unfold State.vampOut
  repeat' with_reducible (first | assumption | apply onward_answerErr | apply onward_outLock | split)

theorem onward_vampUnlock {z s : State} (hz : z.Onward s) (m : Msg) : z.Onward (s.vampUnlock m) := by
  unfold State.vampUnlock
  try dsimp only
  repeat' with_reducible (first | assumption | apply onward_lockRelease | apply onward_setVmp | intro _ | apply onward_ite | split)

theorem onward_lockTimeout {z s : State} (hz : z.Onward s) (p : Nat) : z.Onward (s.lockTimeout p) := by
  unfold State.lockTimeout
  repeat' with_reducible (first | assumption | apply onward_lockBreak | apply onward_ite | split)

theorem onward_unmapped {z s : State} (hz : z.Onward s) (n : Nat) (m : Msg) (mark : Bool) : z.Onward (s.unmapped n m mark) := by
  unfold State.unmapped
  repeat' with_reducible (first | assumption | apply onward_answerErr | apply onward_occ | apply onward_ite | split)

theorem onward_devLinesGone {z s : State} (hz : z.Onward s) (n : Nat) : z.Onward (s.devLinesGone n) := by
  unfold State.devLinesGone
  try dsimp only
  repeat' with_reducible (first | assumption | apply onward_pfDiscard | intro _)

theorem onward_inPosted {z s : State} (hz : z.Onward s) (n : Nat) (w : Nat) (m : Msg) : z.Onward (s.inPosted n w m) := by
  unfold State.inPosted
  repeat' with_reducible (first | assumption | apply onward_answerErr | apply onward_vampPosted | split)

theorem onward_intxSend {z s : State} (hz : z.Onward s) (m : Msg) (v : Nat) (pin : Nat) (on : Bool) : z.Onward (s.intxSend m v pin on) := by
  unfold State.intxSend
  repeat' with_reducible (first | assumption | apply onward_vampSend | split)

theorem onward_msgEffect {z s : State} (hz : z.Onward s) (q : VMsg) : z.Onward (s.msgEffect q) := by
  unfold State.msgEffect
  try dsimp only
  repeat' with_reducible (first | assumption | apply onward_bump | apply onward_each | apply onward_inPosted | apply onward_intxSend | apply onward_send | apply onward_setVmp | apply onward_vampSend | intro _ | apply onward_ite | split)

theorem onward_inTake_eq {z s t : State} {n : Nat} {q : VMsg} (e : s.inTake n = some (q, t)) (h : z.Onward s) : z.Onward t := by
  unfold State.inTake at e
  split at e
  · rw [← (Prod.mk.inj (Option.some.inj e)).2]; exact onward_setVmp h _
  · cases e

theorem onward_inWrites {z : State} (fuel : Nat) : ∀ {s : State}, z.Onward s → ∀ n : Nat, z.Onward (State.inWrites fuel s n) := by
  induction fuel with
  | zero => intro s h n; exact h
  | succ k ih =>
    intro s h n
    unfold State.inWrites
    split
    · split
      · exact ih (onward_msgEffect (onward_inTake_eq (by assumption) h) _) n
      · exact h
    · exact h

theorem onward_vampRelease {z s : State} (hz : z.Onward s) (n : Nat) : z.Onward (s.vampRelease n) := by
  unfold State.vampRelease
  repeat' with_reducible (first | assumption | apply onward_inWrites | apply onward_msgEffect | refine onward_inTake_eq (by assumption) ?_ | apply onward_ite | split)

theorem onward_inMsg {z s : State} (hz : z.Onward s) (q : VMsg) : z.Onward (s.inMsg q) := by
  unfold State.inMsg
  try dsimp only
  repeat' with_reducible (first | assumption | apply onward_devLinesGone | apply onward_inWrites | apply onward_setVmp | apply onward_vampRelease | intro _ | apply onward_ite | split)

theorem onward_inNp {z s : State} (hz : z.Onward s) (n : Nat) (w : Nat) (m : Msg) : z.Onward (s.inNp n w m) := by
  unfold State.inNp
  try dsimp only
  repeat' with_reducible (first | assumption | apply onward_answerErr | apply onward_setVmp | apply onward_vampTrack | intro _ | apply onward_ite | split)

theorem onward_vampIn {z s : State} (hz : z.Onward s) (m : Msg) : z.Onward (s.vampIn m) := by
  unfold State.vampIn
  try dsimp only
  repeat' with_reducible (first | assumption | apply onward_inMsg | apply onward_inNp | apply onward_portClosed | apply onward_unmapped | apply onward_ite | split)

theorem onward_vampMsg {z s : State} (hz : z.Onward s) (kind : Nat) (m : Msg) (rtid : Nat) (tag : Nat) : z.Onward (s.vampMsg kind m rtid tag) := by
  unfold State.vampMsg
  try dsimp only
  repeat' with_reducible (first | assumption | apply onward_devLinesGone | apply onward_each | apply onward_inMsg | intro _ | apply onward_ite | split)

theorem onward_cfgIgnored {z s : State} (hz : z.Onward s) (m : Msg) : z.Onward (s.cfgIgnored m) := by
  unfold State.cfgIgnored
  repeat' with_reducible (first | assumption | apply onward_bump | apply onward_respond)

theorem onward_setVbind {z s : State} (hz : z.Onward s) (v : Nat) (f : VBind → VBind) : z.Onward (s.setVbind v f) := by
  unfold State.setVbind
  try dsimp only
  repeat' with_reducible (first | assumption | apply onward_setVmp | intro _)

theorem onward_vampCfgWrite {z s : State} (hz : z.Onward s) (m : Msg) (what : Nat) (k : Nat) : z.Onward (s.vampCfgWrite m what k) := by
  unfold State.vampCfgWrite
  try dsimp only
  repeat' with_reducible (first | assumption | apply onward_answerErr | apply onward_cfgIgnored | apply onward_each | apply onward_intxSend | apply onward_outLock | apply onward_respond | apply onward_setVbind | intro _ | apply onward_ite | split)

theorem onward_vampCfgRead {z s : State} (hz : z.Onward s) (m : Msg) (what : Nat) (k : Nat) : z.Onward (s.vampCfgRead m what k) := by
  unfold State.vampCfgRead
  try dsimp only
  repeat' with_reducible (first | assumption | apply onward_answerErr | apply onward_outLock | apply onward_respond | apply onward_usedFree | intro _ | apply onward_ite | split)

theorem onward_npNext {z s : State} (hz : z.Onward s) (outb : Bool) : z.Onward (s.npNext outb) := by
  unfold State.npNext
  try dsimp only
  repeat' with_reducible (first | assumption | apply onward_answerErr | apply onward_cfgForward | apply onward_inNp | apply onward_outNp | apply onward_outReject | apply onward_setVmp | apply onward_unmapped | intro _ | apply onward_ite | split)

theorem onward_trackEnd {z s : State} (hz : z.Onward s) (t : VTrack) : z.Onward (s.trackEnd t) := by
  unfold State.trackEnd
  try dsimp only
  repeat' with_reducible (first | assumption | apply onward_npNext | apply onward_setVmp | apply onward_syncVamp | intro _)

theorem onward_trackAnswer {z s : State} (hz : z.Onward s) (t : VTrack) (st : Status) (data : List Byte) (poison : Bool) : z.Onward (s.trackAnswer t st data poison) := by
  unfold State.trackAnswer
  try dsimp only
  repeat' with_reducible (first | assumption | apply onward_lockRelease | apply onward_respond | apply onward_ite | split)

theorem onward_vampCpl {z s : State} (hz : z.Onward s) (c : Msg) : z.Onward (s.vampCpl c) := by
  unfold State.vampCpl
  try dsimp only
  repeat' with_reducible (first | assumption | apply onward_bindingsLost | apply onward_bump | apply onward_each | apply onward_pfHold | apply onward_trackAnswer | apply onward_trackEnd | intro _ | apply onward_ite | split)

theorem onward_vampNpTimeout {z s : State} (hz : z.Onward s) (no : Nat) : z.Onward (s.vampNpTimeout no) := by
  unfold State.vampNpTimeout
  try dsimp only
  repeat' with_reducible (first | assumption | apply onward_occAt | apply onward_trackAnswer | apply onward_trackEnd | intro _ | apply onward_ite | split)

theorem onward_vampLoss {z s : State} (hz : z.Onward s) (n : Nat) : z.Onward (s.vampLoss n) := by
  unfold State.vampLoss
  repeat' with_reducible (first | assumption | apply onward_lockBreak)

theorem onward_cobAccess {z s : State} (hz : z.Onward s) (d : Desc) (sp : Nat) (a : Nat) (n : Nat) (write : Bool) (data : List Byte) (poison : Bool) : z.Onward (s.cobAccess d sp a n write data poison) := by
  unfold State.cobAccess
  try dsimp only
  repeat' with_reducible (first | assumption | apply onward_ingress | apply onward_setCob | apply onward_setSole | apply onward_updDesc | intro _ | apply onward_ite | split)

theorem onward_cobProgress {z s : State} (hz : z.Onward s) (d : Desc) (n : Nat) : z.Onward (s.cobProgress d n) := by
  unfold State.cobProgress
  try dsimp only
  repeat' with_reducible (first | assumption | apply onward_count | apply onward_descEnd | apply onward_updDesc | intro _ | apply onward_ite | split)

theorem onward_cobTag {z s : State} (hz : z.Onward s) (d : Desc) : z.Onward (s.cobTag d) := by
  unfold State.cobTag
  try dsimp only
  repeat' with_reducible (first | assumption | apply onward_cobProgress | apply onward_descEnd | (refine onward_setIns ?_ _ (by rfl)) | intro _ | apply onward_ite | split)

theorem onward_cobIssue {z s : State} (hz : z.Onward s) (d : Desc) : z.Onward (s.cobIssue d) := by
  unfold State.cobIssue
  try dsimp only
  repeat' with_reducible (first | assumption | apply onward_cobAccess | apply onward_cobTag | apply onward_ite | split)

theorem onward_cobResponse {z s : State} (hz : z.Onward s) (m : Msg) : z.Onward (s.cobResponse m) := by
  unfold State.cobResponse
  try dsimp only
  repeat' with_reducible (first | assumption | apply onward_cobAccess | apply onward_cobProgress | apply onward_descEnd | apply onward_updDesc | intro _ | apply onward_ite | split)

theorem onward_cobPosted {z s : State} (hz : z.Onward s)  : z.Onward (State.cobPosted s) := by
  unfold State.cobPosted
  try dsimp only
  repeat' with_reducible (first | assumption | apply onward_cobProgress | apply onward_each | intro _ | split)

theorem onward_cobStep {z s : State} (hz : z.Onward s)  : z.Onward (State.cobStep s) := by
  unfold State.cobStep
  try dsimp only
  repeat' with_reducible (first | assumption | apply onward_cobIssue | apply onward_cobPosted | apply onward_cobResponse | apply onward_each | apply onward_setSole | intro _)

theorem onward_syncDump {z s : State} (hz : z.Onward s)  : z.Onward (State.syncDump s) := by
  unfold State.syncDump
  repeat' with_reducible (first | assumption | apply onward_put)

theorem onward_dumpLost {z s : State} (hz : z.Onward s) (f : Fld) : z.Onward (s.dumpLost f) := by
  unfold State.dumpLost
  repeat' with_reducible (first | assumption | apply onward_bump | apply onward_occAt)

theorem onward_snapshot {z s : State} (hz : z.Onward s) (kind : Nat) (short : Bool) (final : List Nat) : z.Onward (s.snapshot kind short final) := by
  unfold State.snapshot
  try dsimp only
  repeat' with_reducible (first | assumption | apply onward_dumpLost | apply onward_put | apply onward_setCnt | apply onward_syncDump | intro _ | apply onward_ite | split)

theorem onward_acctEpoch {z s : State} (hz : z.Onward s) (short : Bool) : z.Onward (s.acctEpoch short) := by
  unfold State.acctEpoch
  repeat' with_reducible (first | assumption | apply onward_snapshot | apply onward_ite | split)

theorem onward_acctReset {z s : State} (hz : z.Onward s) (sl : Nat) : z.Onward (s.acctReset sl) := by
  unfold State.acctReset
  try dsimp only
  repeat' with_reducible (first | assumption | apply onward_setCnt | apply onward_snapshot | intro _ | apply onward_ite | split)

theorem onward_dumpMoved {z s : State} (hz : z.Onward s)  : z.Onward (State.dumpMoved s) := by
  unfold State.dumpMoved
  try dsimp only
  repeat' with_reducible (first | assumption | apply onward_put | apply onward_setCnt | intro _)

theorem onward_dumpWrite {z s : State} (hz : z.Onward s) (f : Frame) (i : Nat) (a : Nat) (v : Nat) : z.Onward (s.dumpWrite f i a v) := by
  unfold State.dumpWrite
  repeat' with_reducible (first | assumption | apply onward_ingress)

theorem onward_dumpDone {z s : State} (hz : z.Onward s) (ok : Bool) : z.Onward (s.dumpDone ok) := by
  unfold State.dumpDone
  try dsimp only
  repeat' with_reducible (first | assumption | apply onward_dumpLost | apply onward_dumpWrite | apply onward_each | apply onward_setCnt | apply onward_syncDump | apply onward_sysWrite | intro _ | apply onward_ite | split)

theorem onward_setSl {z s : State} (hz : z.Onward s) (sl : Nat) (st : Nat) : z.Onward (s.setSl sl st) := by
  unfold State.setSl
  repeat' with_reducible (first | assumption | apply onward_put)

theorem onward_sumOut {z s : State} (hz : z.Onward s)  : z.Onward (State.sumOut s) := by
  unfold State.sumOut
  try dsimp only
  repeat' with_reducible (first | assumption | apply onward_each | apply onward_put | intro _)

theorem onward_slStatus {z s : State} (hz : z.Onward s) (sl : Nat) (st : Nat) (err : Nat) : z.Onward (s.slStatus sl st err) := by
  unfold State.slStatus
  repeat' with_reducible (first | assumption | apply onward_put)

theorem onward_slCmdWrite {z s : State} (hz : z.Onward s) (p : Path) (w : Word) : z.Onward (s.slCmdWrite p w) := by
  unfold State.slCmdWrite
  try dsimp only
  repeat' with_reducible (first | assumption | apply onward_put | apply onward_setBnd | apply onward_slStatus | apply onward_storeAt | intro _ | apply onward_ite | split)

theorem onward_squash {z s : State} (hz : z.Onward s) (sl : Nat) : z.Onward (s.squash sl) := by
  unfold State.squash
  try dsimp only
  repeat' with_reducible (first | assumption | apply onward_coherentBack | apply onward_descEnd | apply onward_drainBehind | apply onward_each | apply onward_failBack | apply onward_lockDrain | apply onward_pfDiscard | apply onward_setLink | apply onward_setVmp | apply onward_squashOne | apply onward_trackAnswer | apply onward_unland | apply onward_unqueue | intro _ | apply onward_ite | split)

theorem onward_slSquash {z s : State} (hz : z.Onward s) (sl : Nat) : z.Onward (s.slSquash sl) := by
  unfold State.slSquash
  try dsimp only
  repeat' with_reducible (first | assumption | apply onward_setCob | apply onward_setSl | apply onward_squash | intro _)

theorem onward_slGate {z s : State} (hz : z.Onward s) (sl : Nat) : z.Onward (s.slGate sl) := by
  unfold State.slGate
  try dsimp only
  repeat' with_reducible (first | assumption | apply onward_setBnd | apply onward_setCob | apply onward_setQp | apply onward_setSl | apply onward_slSquash | apply onward_slStatus | intro _ | apply onward_ite | split)

theorem onward_slDrainTimeout {z s : State} (hz : z.Onward s) (sl : Nat) : z.Onward (s.slDrainTimeout sl) := by
  unfold State.slDrainTimeout
  try dsimp only
  repeat' with_reducible (first | assumption | apply onward_put | apply onward_setBnd | apply onward_slSquash | intro _ | apply onward_ite | split)

theorem onward_slEnd {z s : State} (hz : z.Onward s) (sl : Nat) : z.Onward (s.slEnd sl) := by
  unfold State.slEnd
  try dsimp only
  repeat' with_reducible (first | assumption | apply onward_acctReset | apply onward_event | apply onward_qpDisable | apply onward_report | apply onward_setBnd | apply onward_setSl | apply onward_slStatus | intro _ | apply onward_ite | split)

theorem onward_syncApproved {z s : State} (hz : z.Onward s)  : z.Onward (State.syncApproved s) := by
  unfold State.syncApproved
  repeat' with_reducible (first | assumption | apply onward_put)

theorem onward_setLifecycle {z s : State} (hz : z.Onward s) (v : Nat) : z.Onward (s.setLifecycle v) := by
  unfold State.setLifecycle
  repeat' with_reducible (first | assumption | apply onward_event | apply onward_put | apply onward_syncApproved)

theorem onward_drawNonce {z s : State} (hz : z.Onward s)  : z.Onward (State.drawNonce s) := by
  unfold State.drawNonce
  repeat' with_reducible (first | assumption | apply onward_put | apply onward_usedFree)

theorem onward_setKeyId {z s : State} (hz : z.Onward s) (e : Nat) (ids : List Nat) : z.Onward (s.setKeyId e ids) := by
  unfold State.setKeyId
  try dsimp only
  repeat' with_reducible (first | assumption | apply onward_each | apply onward_setReg | intro _)

theorem onward_keyZero {z s : State} (hz : z.Onward s) (e : Nat) : z.Onward (s.keyZero e) := by
  unfold State.keyZero
  try dsimp only
  repeat' with_reducible (first | assumption | apply onward_put | apply onward_setKeyId | apply onward_setSec | intro _)

theorem onward_keyAdd {z s : State} (hz : z.Onward s) (e : Nat) (usage : Nat) (ids : List Nat) : z.Onward (s.keyAdd e usage ids) := by
  unfold State.keyAdd
  try dsimp only
  repeat' with_reducible (first | assumption | apply onward_put | apply onward_setKeyId | apply onward_setSec | intro _)

end Sys2Proof.Machine
end

