-- ==== Sys2Proof/Laws/Onward6.lean ====
section
/-!
SUPPORT. What the operations keep (part 6 of 8), in the order in which they call each other.
-/
set_option linter.all false
namespace Sys2Proof.Machine
set_option Elab.async false
open Sys2Proof

theorem onward_ideInsecure {z s : State} (hz : z.Onward s) (n : Nat) : z.Onward (s.ideInsecure n) := by
  unfold State.ideInsecure
  try dsimp only
  repeat' with_reducible (first | assumption | apply onward_put | apply onward_setPort | apply onward_syncBlocked | intro _ | apply onward_ite | split)

theorem onward_ideAllInsecure {z s : State} (hz : z.Onward s)  : z.Onward (State.ideAllInsecure s) := by
  unfold State.ideAllInsecure
  try dsimp only
  repeat' with_reducible (first | assumption | apply onward_each | apply onward_ideInsecure | apply onward_setSec | intro _)

theorem onward_rekeyStart {z s : State} (hz : z.Onward s) (n : Nat) : z.Onward (s.rekeyStart n) := by
  unfold State.rekeyStart
  try dsimp only
  repeat' with_reducible (first | assumption | apply onward_setPort | intro _ | apply onward_ite | split)

theorem onward_ideKeyProg {z s : State} (hz : z.Onward s) (n : Nat) (stream : Nat) (confirmed : Bool) : z.Onward (s.ideKeyProg n stream confirmed) := by
  unfold State.ideKeyProg
  try dsimp only
  repeat' with_reducible (first | assumption | apply onward_ideSecure | apply onward_occAt | apply onward_rekeyStart | apply onward_setSec | intro _ | apply onward_ite | split)

theorem onward_ideRekey {z s : State} (hz : z.Onward s) (n : Nat) : z.Onward (s.ideRekey n) := by
  unfold State.ideRekey
  try dsimp only
  repeat' with_reducible (first | assumption | apply onward_each | apply onward_ideKeyProg | apply onward_rekeyStart | apply onward_setPort | intro _ | apply onward_ite | split)

theorem onward_secFail {z s : State} (hz : z.Onward s)  : z.Onward (State.secFail s) := by
  unfold State.secFail
  try dsimp only
  repeat' with_reducible (first | assumption | apply onward_ideAllInsecure | apply onward_occAt | apply onward_put | apply onward_setFlt | apply onward_syncApproved | intro _)

theorem onward_selfTest {z s : State} (hz : z.Onward s) (ok : Bool) : z.Onward (s.selfTest ok) := by
  unfold State.selfTest
  try dsimp only
  repeat' with_reducible (first | assumption | apply onward_put | apply onward_secFail | apply onward_syncApproved | apply onward_ite | split)

theorem onward_flashSet {z s : State} (hz : z.Onward s) (img : Nat) (bytes : List Nat) : z.Onward (s.flashSet img bytes) := by
  unfold State.flashSet
  try dsimp only
  repeat' with_reducible (first | assumption | apply onward_setLas | intro _ | apply onward_ite | split)

theorem onward_secWork {z s : State} (hz : z.Onward s) (r : SecRec) : z.Onward (s.secWork r) := by
  unfold State.secWork
  try dsimp only
  repeat' with_reducible (first | assumption | apply onward_each | apply onward_flashSet | apply onward_keyAdd | apply onward_keyZero | apply onward_put | apply onward_selfTest | apply onward_setLifecycle | apply onward_setSec | intro _ | apply onward_ite | split)

theorem onward_mailboxIrq {z s : State} (hz : z.Onward s) : z.Onward s.mailboxIrq := by
  unfold State.mailboxIrq
  repeat' with_reducible (first | assumption | apply onward_each | apply onward_put | intro _)

theorem onward_secDone {z s : State} (hz : z.Onward s) (st : Nat) (err : Nat) : z.Onward (s.secDone st err) := by
  unfold State.secDone
  try dsimp only
  repeat' with_reducible (first | assumption | apply onward_mailboxIrq | apply onward_drawNonce | apply onward_put | apply onward_setSec | intro _)

theorem onward_secRun {z s : State} (hz : z.Onward s) (r : SecRec) : z.Onward (s.secRun r) := by
  unfold State.secRun
  try dsimp only
  repeat' with_reducible (first | assumption | apply onward_occAt | apply onward_put | apply onward_secDone | apply onward_secWork | apply onward_setSec | intro _ | apply onward_ite | split)

theorem onward_secCmd {z s : State} (hz : z.Onward s) (r : SecRec) : z.Onward (s.secCmd r) := by
  unfold State.secCmd
  try dsimp only
  repeat' with_reducible (first | assumption | apply onward_put | apply onward_secRun | apply onward_setSec | intro _ | apply onward_ite | split)

theorem onward_secNext {z s : State} (hz : z.Onward s)  : z.Onward (State.secNext s) := by
  unfold State.secNext
  try dsimp only
  repeat' with_reducible (first | assumption | apply onward_each | apply onward_secRun | apply onward_setSec | intro _)

theorem onward_debugApply {z s : State} (hz : z.Onward s)  : z.Onward (State.debugApply s) := by
  unfold State.debugApply
  try dsimp only
  repeat' with_reducible (first | assumption | apply onward_event | apply onward_put | apply onward_setSec | apply onward_syncApproved | intro _ | apply onward_ite | split)

theorem onward_returnSteps {z s : State} (hz : z.Onward s)  : z.Onward (State.returnSteps s) := by
  unfold State.returnSteps
  try dsimp only
  repeat' with_reducible (first | assumption | apply onward_each | apply onward_ideAllInsecure | apply onward_keyZero | apply onward_setSec | intro _ | apply onward_ite | split)

theorem onward_returnDone {z s : State} (hz : z.Onward s)  : z.Onward (State.returnDone s) := by
  unfold State.returnDone
  try dsimp only
  repeat' with_reducible (first | assumption | apply onward_clearMem | apply onward_event | apply onward_put | apply onward_secDone | apply onward_setLifecycle | apply onward_setSec | intro _ | apply onward_ite | split)

theorem onward_spdm {z s : State} (hz : z.Onward s) (who : Nat) (code : Nat) (cc : Nat) (body : List Byte) : z.Onward (s.spdm who code cc body) := by
  unfold State.spdm
  repeat' with_reducible (first | assumption | apply onward_send)

theorem onward_spdmIf {z s : State} (hz : z.Onward s) (who : Nat) (least : Nat) (f : State → State) (hf : ∀ t, z.Onward t → z.Onward (f t)) : z.Onward (s.spdmIf who least f) := by
  unfold State.spdmIf
  repeat' with_reducible (first | assumption | apply onward_spdm | apply hf | apply onward_ite | split)

theorem onward_setConn {z s : State} (hz : z.Onward s) (who : Nat) (v : Nat) : z.Onward (s.setConn who v) := by
  unfold State.setConn
  try dsimp only
  repeat' with_reducible (first | assumption | apply onward_setSec | intro _)

theorem onward_spdmGetVersion {z s : State} (hz : z.Onward s) (who : Nat) : z.Onward (s.spdmGetVersion who) := by
  unfold State.spdmGetVersion
  try dsimp only
  repeat' with_reducible (first | assumption | apply onward_setConn | apply onward_spdm | apply onward_spdmIf | intro _)

theorem onward_spdmGetCaps {z s : State} (hz : z.Onward s) (who : Nat) : z.Onward (s.spdmGetCaps who) := by
  unfold State.spdmGetCaps
  try dsimp only
  repeat' with_reducible (first | assumption | apply onward_setConn | apply onward_spdm | apply onward_spdmIf | intro _)

theorem onward_spdmAlgs {z s : State} (hz : z.Onward s) (who : Nat) : z.Onward (s.spdmAlgs who) := by
  unfold State.spdmAlgs
  try dsimp only
  repeat' with_reducible (first | assumption | apply onward_setConn | apply onward_spdm | apply onward_spdmIf | intro _)

theorem onward_spdmCert {z s : State} (hz : z.Onward s) (who : Nat) (slot : Nat) : z.Onward (s.spdmCert who slot) := by
  unfold State.spdmCert
  try dsimp only
  repeat' with_reducible (first | assumption | apply onward_spdm | apply onward_spdmIf | apply onward_usedFree | intro _ | apply onward_ite | split)

theorem onward_spdmChallenge {z s : State} (hz : z.Onward s) (who : Nat) (slot : Nat) : z.Onward (s.spdmChallenge who slot) := by
  unfold State.spdmChallenge
  try dsimp only
  repeat' with_reducible (first | assumption | apply onward_spdm | apply onward_spdmIf | apply onward_usedFree | intro _ | apply onward_ite | split)

theorem onward_measAnswer {z s : State} (hz : z.Onward s) (e : Nat × Bool) : z.Onward (s.measAnswer e) := by
  unfold State.measAnswer
  try dsimp only
  repeat' with_reducible (first | assumption | apply onward_spdm | intro _ | apply onward_ite | split)

theorem onward_spdmMeas {z s : State} (hz : z.Onward s) (who : Nat) (i : Nat) : z.Onward (s.spdmMeas who i) := by
  unfold State.spdmMeas
  try dsimp only
  repeat' with_reducible (first | assumption | apply onward_measAnswer | apply onward_setSec | apply onward_spdm | apply onward_spdmIf | intro _ | apply onward_ite | split)

theorem onward_eyeDigestStart {z s : State} (hz : z.Onward s)  : z.Onward (State.eyeDigestStart s) := by
  unfold State.eyeDigestStart
  try dsimp only
  repeat' with_reducible (first | assumption | apply onward_setSec | intro _)

theorem onward_eyeDigestDone {z s : State} (hz : z.Onward s)  : z.Onward (State.eyeDigestDone s) := by
  unfold State.eyeDigestDone
  try dsimp only
  repeat' with_reducible (first | assumption | apply onward_each | apply onward_measAnswer | apply onward_setSec | intro _ | apply onward_ite | split)

theorem onward_spdmKeyEx {z s : State} (hz : z.Onward s) (who : Nat) (slot : Nat) (id : Nat) : z.Onward (s.spdmKeyEx who slot id) := by
  unfold State.spdmKeyEx
  try dsimp only
  repeat' with_reducible (first | assumption | apply onward_setSec | apply onward_spdm | apply onward_spdmIf | apply onward_usedFree | intro _ | apply onward_ite | split)

theorem onward_spdmFinish {z s : State} (hz : z.Onward s) (who : Nat) (id : Nat) : z.Onward (s.spdmFinish who id) := by
  unfold State.spdmFinish
  try dsimp only
  repeat' with_reducible (first | assumption | apply onward_setSec | apply onward_spdm | apply onward_spdmIf | intro _ | apply onward_ite | split)

theorem onward_eventSend {z s : State} (hz : z.Onward s) (cls : Nat) (r : Nat) : z.Onward (s.eventSend cls r) := by
  unfold State.eventSend
  try dsimp only
  repeat' with_reducible (first | assumption | apply onward_each | apply onward_send | intro _ | apply onward_ite | split)

theorem onward_setTokens {z s : State} (hz : z.Onward s) (k : Nat) (v : Nat) : z.Onward (s.setTokens k v) := by
  unfold State.setTokens
  try dsimp only
  repeat' with_reducible (first | assumption | apply onward_setMgt | intro _)

theorem onward_refillTokens {z s : State} (hz : z.Onward s)  : z.Onward (State.refillTokens s) := by
  unfold State.refillTokens
  try dsimp only
  repeat' with_reducible (first | assumption | apply onward_each | apply onward_setTokens | intro _)

theorem onward_eventLog {z s : State} (hz : z.Onward s) (r : Nat) : z.Onward (s.eventLog r) := by
  unfold State.eventLog
  try dsimp only
  repeat' with_reducible (first | assumption | apply onward_put | apply onward_setMgt | apply onward_sysWrite | intro _)

theorem onward_eventPut {z s : State} (hz : z.Onward s) (stitch : Nat) (key : Nat) (count : Nat) (data : Nat) (quiet : Bool) (free : Bool) : z.Onward (s.eventPut stitch key count data quiet free) := by
  unfold State.eventPut
  try dsimp only
  repeat' with_reducible (first | assumption | apply onward_bump | apply onward_eventLog | apply onward_eventSend | apply onward_put | apply onward_setTokens | apply onward_ite | split)

theorem onward_evCoalesce {z s : State} (hz : z.Onward s) (stitch : Nat) : z.Onward (s.evCoalesce stitch) := by
  unfold State.evCoalesce
  try dsimp only
  repeat' with_reducible (first | assumption | apply onward_bump | apply onward_count | apply onward_each | apply onward_eventPut | apply onward_put | apply onward_refillTokens | apply onward_setMgt | intro _ | apply onward_ite | split)

theorem onward_syncPwr {z s : State} (hz : z.Onward s)  : z.Onward (State.syncPwr s) := by
  unfold State.syncPwr
  try dsimp only
  repeat' with_reducible (first | assumption | apply onward_put)

theorem turn_sound {p : PwrSt} (h : p.sound) : p.turn.sound := by
  obtain ⟨h1, h2, h3, h4, h5, h6, h7⟩ := h
  unfold PwrSt.turn pcOff pcInsert pcRamp pcLatched PwrSt.anyFeed
  split
  · simp_all [PwrSt.sound]
  · split
    · simp_all [PwrSt.sound]
    · split
      · rename_i a b c
        refine ⟨by simp, ?_, h3, h4, ?_, ?_, ?_⟩ <;> cases ha : p.feedA <;> cases hb : p.feedB <;> simp_all
      · split
        · simp_all [PwrSt.sound]
        · exact ⟨h1, h2, h3, h4, h5, h6, h7⟩

theorem settle_sound {p : PwrSt} (h : p.sound) : p.settle.sound := turn_sound (turn_sound (turn_sound h))

/-- An event at the controller that keeps its state sound. -/
theorem onward_ctlEvent {z s : State} (hz : z.Onward s) (f : PwrSt → PwrSt) (hf : s.pwr.sound → (f s.pwr).sound) : z.Onward (s.ctlEvent f) :=
  onward_syncPwr (onward_setPwr hz _ fun h => settle_sound (hf h))

theorem feedLeave_sound {p : PwrSt} (h : p.sound) (feed : Nat) :
    (let q := if feed = 0 then { p with feedA := false, orA := false } else { p with feedB := false, orB := false }
      if q.anyFeed then q
      else
        let r := { q with insRun := false, insDone := false }
        if r.fetOn then r.turnOff ocNoFeed else r).sound := by
  obtain ⟨h1, h2, h3, h4, h5, h6, h7⟩ := h
  have k : (p.ctl = 3 ∨ p.ctl = 4) → p.latch = false ∧ p.cool = false := by
    intro e
    constructor <;> (by_contra q; simp only [Bool.not_eq_false] at q; have := h7 (by simp [q]); omega)
  by_cases hz : feed = 0 <;> simp only [hz, if_true, if_false, PwrSt.anyFeed, PwrSt.fetOn, PwrSt.turnOff, pcRamp, pcOn, pcOff, ocNoFeed] <;>
    (split
     · simp_all [PwrSt.sound]
     · split
       · simp_all [PwrSt.sound]
         try omega
       · simp_all [PwrSt.sound])

theorem trip_sound {p : PwrSt} (h : p.sound) (cause : Nat) : (p.trip cause).sound := by
  obtain ⟨h1, h2, h3, h4, h5, h6, h7⟩ := h
  unfold PwrSt.trip PwrSt.fetOn pcRamp pcOn pcLatched
  split <;> simp_all [PwrSt.sound]

theorem onward_feedEnter {z s : State} (hz : z.Onward s) (feed : Nat) : z.Onward (s.feedEnter feed) := by
  unfold State.feedEnter
  split
  · exact hz
  · rename_i hn
    apply onward_ctlEvent hz
    rintro ⟨h1, h2, h3, h4, h5, h6, h7⟩
    have hn' : s.pwr.ctl ≠ 0 := hn
    unfold PwrSt.anyFeed
    dsimp only
    split <;> split <;> simp_all [PwrSt.sound]

theorem onward_feedLeave {z s : State} (hz : z.Onward s) (feed : Nat) : z.Onward (s.feedLeave feed) := by
  unfold State.feedLeave
  by_cases c : (!(if feed = 0 then s.pwr.feedA else s.pwr.feedB)) = true
  · rw [if_pos c]
    exact hz
  · rw [if_neg c]
    dsimp only
    refine onward_ctlEvent ?_ _ fun h => feedLeave_sound h feed
    split
    · exact onward_occAt hz _ _ _
    · exact hz

theorem onward_biasPresent {z s : State} (hz : z.Onward s)  : z.Onward (State.biasPresent s) := by
  unfold State.biasPresent
  split
  · rename_i hn
    apply onward_ctlEvent hz
    rintro ⟨h1, h2, h3, h4, h5, h6, h7⟩
    have hn' : s.pwr.ctl = 0 := hn
    simp_all [PwrSt.sound, pcOff]
  · exact hz

theorem onward_biasLoss {z s : State} (hz : z.Onward s)  : z.Onward (State.biasLoss s) := by
  unfold State.biasLoss
  apply onward_ctlEvent hz
  intro _
  simp [PwrSt.sound, pcNobias]

theorem onward_insertionEnd {z s : State} (hz : z.Onward s)  : z.Onward (State.insertionEnd s) := by
  unfold State.insertionEnd
  split
  · apply onward_ctlEvent hz
    rintro ⟨h1, h2, h3, h4, h5, h6, h7⟩
    simp_all [PwrSt.sound]
  · exact hz

theorem onward_pmEnRise {z s : State} (hz : z.Onward s)  : z.Onward (State.pmEnRise s) := by
  unfold State.pmEnRise
  apply onward_ctlEvent hz
  rintro ⟨h1, h2, h3, h4, h5, h6, h7⟩
  simp_all [PwrSt.sound]

theorem onward_pmEnLow {z s : State} (hz : z.Onward s)  : z.Onward (State.pmEnLow s) := by
  unfold State.pmEnLow
  apply onward_ctlEvent hz
  generalize s.pwr = p
  rintro ⟨h1, h2, h3, h4, h5, h6, h7⟩
  have k : (p.ctl = 3 ∨ p.ctl = 4) → p.latch = false ∧ p.cool = false := by
    intro e
    constructor <;> (by_contra q; simp only [Bool.not_eq_false] at q; have := h7 (by simp [q]); omega)
  unfold PwrSt.fetOn PwrSt.turnOff pcRamp pcOn pcOff
  dsimp only
  split
  · simp_all [PwrSt.sound]
    try omega
  · simp_all [PwrSt.sound]

theorem onward_latchClear {z s : State} (hz : z.Onward s)  : z.Onward (State.latchClear s) := by
  unfold State.latchClear
  split
  · apply onward_ctlEvent hz
    rintro ⟨h1, h2, h3, h4, h5, h6, h7⟩
    simp_all [PwrSt.sound]
  · exact hz

theorem onward_cooldownEnd {z s : State} (hz : z.Onward s)  : z.Onward (State.cooldownEnd s) := by
  unfold State.cooldownEnd
  apply onward_ctlEvent hz
  rintro ⟨h1, h2, h3, h4, h5, h6, h7⟩
  simp_all [PwrSt.sound]

theorem onward_powerGood {z s : State} (hz : z.Onward s)  : z.Onward (State.powerGood s) := by
  unfold State.powerGood
  apply onward_ctlEvent hz
  rintro ⟨h1, h2, h3, h4, h5, h6, h7⟩
  unfold pcRamp pcOn
  split <;> simp_all [PwrSt.sound]

theorem onward_fetTrip {z s : State} (hz : z.Onward s) (cause : Nat) : z.Onward (s.fetTrip cause) := by
  unfold State.fetTrip
  exact onward_ctlEvent hz _ fun h => trip_sound h cause

theorem onward_powerGoodLost {z s : State} (hz : z.Onward s)  : z.Onward (State.powerGoodLost s) := by
  unfold State.powerGoodLost
  repeat' with_reducible (first | assumption | apply onward_fetTrip | apply onward_ite | split)

theorem onward_rampTimeout {z s : State} (hz : z.Onward s)  : z.Onward (State.rampTimeout s) := by
  unfold State.rampTimeout
  repeat' with_reducible (first | assumption | apply onward_fetTrip | apply onward_ite | split)

theorem onward_reverseOff {z s : State} (hz : z.Onward s) (feed : Nat) : z.Onward (s.reverseOff feed) := by
  unfold State.reverseOff
  by_cases c : (if feed = 0 then s.pwr.feedA else s.pwr.feedB) = true
  · rw [if_pos c]
    refine onward_ctlEvent (onward_bump (onward_occAt hz _ _ _) _ _ _) _ ?_
    rintro ⟨h1, h2, h3, h4, h5, h6, h7⟩
    split <;> exact ⟨h1, h2, by simp_all, by simp_all, h5, h6, h7⟩
  · rw [if_neg c]
    exact hz

theorem onward_pwrCfgWrite {z s : State} (hz : z.Onward s) (v : Word) : z.Onward (s.pwrCfgWrite v) := by
  unfold State.pwrCfgWrite
  try dsimp only
  repeat' with_reducible (first | assumption | apply onward_put | (refine onward_setPwrAside ?_ _ (by with_unfolding_all exact fun _ c => c)) | apply onward_storeAt | intro _ | apply onward_ite | split)

theorem onward_peakWrite {z s : State} (hz : z.Onward s) (v : Word) : z.Onward (s.peakWrite v) := by
  unfold State.peakWrite
  repeat' with_reducible (first | assumption | apply onward_put | apply onward_ite | split)

theorem onward_avsUrgent {z s : State} (hz : z.Onward s) (margin : Nat) : z.Onward (s.avsUrgent margin) := by
  unfold State.avsUrgent
  try dsimp only
  repeat' with_reducible (first | assumption | apply onward_bump | apply onward_put | (refine onward_setPwrAside ?_ _ (by with_unfolding_all exact fun _ c => c)) | intro _ | apply onward_ite | split)

theorem onward_avsLower {z s : State} (hz : z.Onward s)  : z.Onward (State.avsLower s) := by
  unfold State.avsLower
  repeat' with_reducible (first | assumption | apply onward_put | apply onward_ite | split)

theorem onward_avsBoundary {z s : State} (hz : z.Onward s) (x : Samples) : z.Onward (s.avsBoundary x) := by
  unfold State.avsBoundary
  dsimp only
  have k {u : State} (hu : z.Onward u) (l : Bool) : z.Onward (u.setPwr fun p => { p with avsLim := l }) :=
    onward_setPwrAside hu _ fun _ c => c
  refine onward_ite (onward_occAt (k ?_ _) _ _ _) (k ?_ _) <;>
    repeat' with_reducible (first | assumption | apply onward_bump | apply onward_each | apply onward_put | intro _ | apply onward_ite)

theorem onward_telEnd {z s : State} (hz : z.Onward s)  : z.Onward (State.telEnd s) := by
  unfold State.telEnd
  try dsimp only
  repeat' with_reducible (first | assumption | apply onward_put | (refine onward_setPwrAside ?_ _ (by with_unfolding_all exact fun _ c => c)) | intro _ | apply onward_ite | split)

theorem onward_telSample {z s : State} (hz : z.Onward s) (x : Samples) : z.Onward (s.telSample x) := by
  unfold State.telSample
  dsimp only
  refine onward_setPwr ?_ _ ?_
  · repeat' with_reducible (first | assumption | apply onward_put)
  · rintro ⟨h1, h2, h3, h4, h5, h6, h7⟩
    exact ⟨h1, h2, fun h => (Bool.and_eq_true_iff.mp h).1, fun h => (Bool.and_eq_true_iff.mp h).1, h5, h6, h7⟩

theorem onward_thermal {z s : State} (hz : z.Onward s) (x : Samples) : z.Onward (s.thermal x) := by
  unfold State.thermal
  try dsimp only
  repeat' with_reducible (first | assumption | apply onward_occAt | (refine onward_setPwrAside ?_ _ (by with_unfolding_all exact fun _ c => c)) | intro _ | apply onward_ite | split)

theorem onward_pwrBoundary {z s : State} (hz : z.Onward s) (x : Samples) : z.Onward (s.pwrBoundary x) := by
  unfold State.pwrBoundary
  try dsimp only
  repeat' with_reducible (first | assumption | apply onward_avsBoundary | apply onward_put | (refine onward_setPwrAside ?_ _ (by with_unfolding_all exact fun _ c => c)) | apply onward_syncPwr | apply onward_telSample | apply onward_thermal | intro _ | apply onward_ite | split)

theorem onward_applyKey {z s : State} (hz : z.Onward s) (exchange : Bool) (k : Nat) : z.Onward (s.applyKey exchange k) := by
  unfold State.applyKey
  try dsimp only
  repeat' with_reducible (first | assumption | apply onward_setAct | apply onward_setReg | apply onward_ite | split)

theorem onward_applyKeys {z s : State} (hz : z.Onward s) (g : Grp) (exchange : Bool) (p : Nat → Bool) : z.Onward (s.applyKeys g exchange p) := by
  unfold State.applyKeys
  try dsimp only
  repeat' with_reducible (first | assumption | apply onward_applyKey | apply onward_each | intro _)

theorem onward_deficits {z s : State} (hz : z.Onward s) (before : List (Nat × Nat)) : z.Onward (s.deficits before) := by
  unfold State.deficits
  try dsimp only
  repeat' with_reducible (first | assumption | apply onward_each | apply onward_setQueue | intro _ | apply onward_ite | split)

theorem onward_groupHook {z s : State} (hz : z.Onward s) (s0 : State) (g : Grp) : z.Onward (s.groupHook s0 g) := by
  unfold State.groupHook
  try dsimp only
  repeat' with_reducible (first | assumption | apply onward_bndSlices | apply onward_deficits | apply onward_dumpMoved | apply onward_each | apply onward_eyeDigestStart | apply onward_insExtents | apply onward_put | apply onward_sanNew | apply onward_syncBlocked | refine onward_insExtents_eq (by assumption) ?_ | intro _ | apply onward_ite | split)

theorem onward_swapGroup {z s : State} (hz : z.Onward s) (g : Grp) (exchange : Bool) (p : Nat → Bool) : z.Onward (s.swapGroup g exchange p).1 := by
  unfold State.swapGroup
  repeat' with_reducible (first | assumption | apply onward_applyKeys | apply onward_cfgErr | apply onward_groupHook | apply onward_ite | split)

theorem onward_swapGroup_eq {z s t : State} {g : Grp} {exchange : Bool} (p : Nat → Bool) {r} (e : (State.swapGroup s g exchange p) = (t, r)) (hz : z.Onward s) : z.Onward t := by
  have g := onward_swapGroup hz g exchange p
  rw [e] at g
  exact g

theorem onward_activate {z s : State} (hz : z.Onward s) (g : Grp) : z.Onward (s.activate g) := by
  unfold State.activate
  try dsimp only
  repeat' with_reducible (first | assumption | apply onward_applyKeys | intro _)

theorem onward_stgReset {z s : State} (hz : z.Onward s)  : z.Onward (State.stgReset s) := by
  unfold State.stgReset
  try dsimp only
  repeat' with_reducible (first | assumption | apply onward_each | apply onward_setReg | intro _)

theorem onward_loaderSelReset {z s : State} (hz : z.Onward s)  : z.Onward (State.loaderSelReset s) := by
  unfold State.loaderSelReset
  try dsimp only
  repeat' with_reducible (first | assumption | apply onward_each | apply onward_setReg | intro _ | split)

theorem onward_setLoadState {z s : State} (hz : z.Onward s) (v : Nat) : z.Onward (s.setLoadState v) := by
  unfold State.setLoadState
  repeat' with_reducible (first | assumption | apply onward_put)

theorem onward_setActiveId {z s : State} (hz : z.Onward s) (v : Nat) : z.Onward (s.setActiveId v) := by
  unfold State.setActiveId
  repeat' with_reducible (first | assumption | apply onward_put)

theorem onward_setStagedId {z s : State} (hz : z.Onward s) (v : Nat) : z.Onward (s.setStagedId v) := by
  unfold State.setStagedId
  repeat' with_reducible (first | assumption | apply onward_put)

theorem onward_updLoad {z s : State} (hz : z.Onward s) (f : Load → Load) : z.Onward (s.updLoad f) := by
  unfold State.updLoad
  try dsimp only
  repeat' with_reducible (first | assumption | apply onward_setLas | intro _)

theorem onward_setStep {z s : State} (hz : z.Onward s) (v : Nat) : z.Onward (s.setStep v) := by
  unfold State.setStep
  repeat' with_reducible (first | assumption | apply onward_put)

theorem onward_bootFrom {z s : State} (hz : z.Onward s) (img : Nat) : z.Onward (s.bootFrom img) := by
  unfold State.bootFrom
  try dsimp only
  repeat' with_reducible (first | assumption | apply onward_put | apply onward_setLas | intro _)

theorem onward_bootEntry {z s : State} (hz : z.Onward s)  : z.Onward (State.bootEntry s) := by
  unfold State.bootEntry
  try dsimp only
  repeat' with_reducible (first | assumption | apply onward_bootFrom | apply onward_put | apply onward_setLas | intro _ | apply onward_ite | split)

theorem onward_bootFail {z s : State} (hz : z.Onward s)  : z.Onward (State.bootFail s) := by
  unfold State.bootFail
  try dsimp only
  repeat' with_reducible (first | assumption | apply onward_bootFrom | apply onward_setFlt | apply onward_setLas | apply onward_setStep | intro _ | apply onward_ite | split)

theorem onward_firmwareDone {z s : State} (hz : z.Onward s) (ok : Bool) (svn : Nat) : z.Onward (s.firmwareDone ok svn) := by
  unfold State.firmwareDone
  try dsimp only
  repeat' with_reducible (first | assumption | apply onward_bootFail | apply onward_each | apply onward_put | apply onward_setLas | apply onward_setStep | intro _ | apply onward_ite | split)

theorem onward_confirmWrite {z s : State} (hz : z.Onward s) (v : Word) : z.Onward (s.confirmWrite v) := by
  unfold State.confirmWrite
  try dsimp only
  repeat' with_reducible (first | assumption | apply onward_put | apply onward_setFlt | apply onward_setLas | intro _ | apply onward_ite | split)

theorem onward_confirmTimeout {z s : State} (hz : z.Onward s)  : z.Onward (State.confirmTimeout s) := by
  unfold State.confirmTimeout
  repeat' with_reducible (first | assumption | apply onward_bootFail | apply onward_ite | split)

theorem onward_prefWrite {z s : State} (hz : z.Onward s) (v : Word) : z.Onward (s.prefWrite v) := by
  unfold State.prefWrite
  try dsimp only
  repeat' with_reducible (first | assumption | apply onward_setLas | apply onward_storeAt | intro _)

theorem onward_loadEvent {z s : State} (hz : z.Onward s) (st : Nat) (code : Nat) (build : Nat) : z.Onward (s.loadEvent st code build) := by
  unfold State.loadEvent
  repeat' with_reducible (first | assumption | apply onward_event)

theorem onward_loadFail {z s : State} (hz : z.Onward s) (e : LoadErr) : z.Onward (s.loadFail e) := by
  unfold State.loadFail
  try dsimp only
  repeat' with_reducible (first | assumption | apply onward_bootFail | apply onward_loadEvent | apply onward_occAt | apply onward_put | apply onward_setLas | apply onward_setLoadState | intro _ | apply onward_ite | split)

theorem onward_loadTo {z s : State} (hz : z.Onward s) (e : Option LoadErr) (next : Nat) : z.Onward (s.loadTo e next) := by
  unfold State.loadTo
  repeat' with_reducible (first | assumption | apply onward_loadFail | apply onward_setLoadState | split)

theorem onward_loadBegin {z s : State} (hz : z.Onward s) (src : Nat) : z.Onward (s.loadBegin src) := by
  unfold State.loadBegin
  try dsimp only
  repeat' with_reducible (first | assumption | apply onward_put | apply onward_setLas | apply onward_setLoadState | intro _ | apply onward_ite | split)

theorem onward_loadCtlWrite {z s : State} (hz : z.Onward s) (v : Word) : z.Onward (s.loadCtlWrite v) := by
  unfold State.loadCtlWrite
  try dsimp only
  repeat' with_reducible (first | assumption | apply onward_loadBegin | apply onward_loadFail | apply onward_put | apply onward_secNext | apply onward_storeAt | apply onward_ite | split)

theorem onward_fetchDone {z s : State} (hz : z.Onward s) (srcErr : Option Nat) : z.Onward (s.fetchDone srcErr) := by
  unfold State.fetchDone
  try dsimp only
  repeat' with_reducible (first | assumption | apply onward_loadTo | apply onward_updLoad | intro _ | apply onward_ite | split)

theorem onward_authDone {z s : State} (hz : z.Onward s) (sigOk : Bool) : z.Onward (s.authDone sigOk) := by
  unfold State.authDone
  repeat' with_reducible (first | assumption | apply onward_loadTo | apply onward_secNext | apply onward_ite | split)

theorem onward_checkDone {z s : State} (hz : z.Onward s) (srcErr : Option Nat) (digestOk : List Bool) : z.Onward (s.checkDone srcErr digestOk) := by
  unfold State.checkDone
  try dsimp only
  repeat' with_reducible (first | assumption | apply onward_loadTo | apply onward_updLoad | intro _ | apply onward_ite | split)

theorem onward_recWrites {z s : State} (hz : z.Onward s) (l : List RecWrite) : z.Onward (s.recWrites l) := by
  unfold State.recWrites
  try dsimp only
  repeat' with_reducible (first | assumption | apply onward_each | apply onward_setReg | intro _)

theorem onward_grpReset {z s : State} (hz : z.Onward s) (g : Grp) : z.Onward (s.grpReset g) := by
  unfold State.grpReset
  try dsimp only
  repeat' with_reducible (first | assumption | apply onward_each | apply onward_setReg | intro _)

theorem onward_miss {z s : State} (hz : z.Onward s) (b : Nat) (x : Missed) : z.Onward (s.miss b x) := by
  unfold State.miss
  try dsimp only
  repeat' with_reducible (first | assumption | apply onward_setAcs | intro _)

theorem onward_commitWrite {z s : State} (hz : z.Onward s) (w : RecWrite) : z.Onward (s.commitWrite w) := by
  unfold State.commitWrite
  repeat' with_reducible (first | assumption | apply onward_miss | apply onward_recWrites | split)

theorem onward_commitGrp {z s : State} (hz : z.Onward s) (l : Load) (g : Grp) : z.Onward (s.commitGrp l g) := by
  unfold State.commitGrp
  try dsimp only
  repeat' with_reducible (first | assumption | apply onward_activate | apply onward_commitWrite | apply onward_each | apply onward_groupHook | apply onward_grpReset | apply onward_recWrites | apply onward_setLas | intro _ | apply onward_ite | split)

theorem onward_grpDone {z s : State} (hz : z.Onward s)  : z.Onward (State.grpDone s) := by
  unfold State.grpDone
  try dsimp only
  repeat' with_reducible (first | assumption | apply onward_commitGrp | apply onward_setLas | apply onward_updLoad | intro _ | split)

theorem onward_commitStart {z s : State} (hz : z.Onward s)  : z.Onward (State.commitStart s) := by
  unfold State.commitStart
  try dsimp only
  repeat' with_reducible (first | assumption | apply onward_loadFail | apply onward_recWrites | apply onward_setLas | apply onward_setLoadState | intro _ | apply onward_ite | split)

theorem onward_cohExtents {z s : State} (hz : z.Onward s)  : z.Onward (State.cohExtents s) := by
  unfold State.cohExtents
  try dsimp only
  repeat' with_reducible (first | assumption | apply onward_each | apply onward_put | intro _)

theorem onward_syncQueues {z s : State} (hz : z.Onward s)  : z.Onward (State.syncQueues s) := by
  unfold State.syncQueues
  try dsimp only
  repeat' with_reducible (first | assumption | apply onward_each | apply onward_put | intro _)

theorem onward_bootDone {z s : State} (hz : z.Onward s) (l : Load) : z.Onward (s.bootDone l) := by
  unfold State.bootDone
  try dsimp only
  repeat' with_reducible (first | assumption | apply onward_capRestore | apply onward_cohExtents | apply onward_each | apply onward_fillMeters | apply onward_put | apply onward_setActiveId | apply onward_setLas | apply onward_setStagedId | apply onward_syncBuf | apply onward_syncFrames | apply onward_syncPortIds | apply onward_syncQueues | apply onward_syncVsw | intro _)

theorem onward_commitAll {z : State} (n : Nat) : ∀ {s : State}, z.Onward s → z.Onward (s.commitAll n) := by
  induction n with
  | zero => intro s h; exact h
  | succ k ih =>
    intro s h
    unfold State.commitAll
    split
    · exact ih (onward_grpDone h)
    · exact h

theorem onward_commitDone {z s : State} (hz : z.Onward s)  : z.Onward (State.commitDone s) := by
  unfold State.commitDone
  try dsimp only
  repeat' with_reducible (first | assumption | apply onward_bootDone | apply onward_commitAll | apply onward_loadEvent | apply onward_setLas | apply onward_setLoadState | apply onward_setStagedId | intro _ | apply onward_ite | split)

theorem onward_restartLoad {z s : State} (hz : z.Onward s) (sigOk : Bool) (digestOk : List Bool) : z.Onward (s.restartLoad sigOk digestOk) := by
  unfold State.restartLoad
  try dsimp only
  repeat' with_reducible (first | assumption | apply onward_activate | apply onward_each | apply onward_groupHook | apply onward_grpReset | apply onward_loadEvent | apply onward_occAt | apply onward_put | apply onward_recWrites | apply onward_setActiveId | apply onward_setLas | apply onward_setLoadState | apply onward_setStagedId | apply onward_syncVsw | intro _ | apply onward_ite | split)

theorem onward_dieReset {z s : State} (h : z.Onward s) (cause : Nat) : z.Onward (s.dieReset cause) := by
  unfold State.dieReset
  dsimp only
  apply onward_drawNonce
  apply onward_syncPwr
  repeat' apply onward_put
  exact h.trans ⟨fun c => RegFile.wf_keep _ _ c, fun _ => rfl, fun _ => rfl, fun _ => rfl, fun _ => rfl, fun _ => rfl, fun _ => rfl, fun _ => rfl,
    fun _ => rfl, List.suffix_refl _, Nat.le_refl _, rfl, id⟩

theorem onward_regulatorEnable {z s : State} (hz : z.Onward s)  : z.Onward (State.regulatorEnable s) := by
  unfold State.regulatorEnable
  split
  · rename_i hc
    apply onward_setMdl
    apply onward_dieReset
    refine onward_setPwr hz _ ?_
    rintro ⟨h1, h2, h3, h4, h5, h6, h7⟩
    exact ⟨h1, fun _ => of_decide_eq_true (Bool.and_eq_true_iff.mp hc).1, h3, h4, h5, h6, h7⟩
  · exact hz

theorem onward_toStep2 {z s : State} (hz : z.Onward s)  : z.Onward (State.toStep2 s) := by
  unfold State.toStep2
  repeat' with_reducible (first | assumption | apply onward_setStep | apply onward_ite | split)

theorem onward_aonRelease {z s : State} (hz : z.Onward s)  : z.Onward (State.aonRelease s) := by
  unfold State.aonRelease
  try dsimp only
  repeat' with_reducible (first | assumption | apply onward_occAt | apply onward_setMdl | apply onward_syncPwr | apply onward_toStep2 | intro _ | apply onward_ite | split)

end Sys2Proof.Machine
end

