-- ==== Sys2Proof/Laws/Onward7.lean ====
section
/-!
SUPPORT. What the operations keep (part 7 of 8), in the order in which they call each other.
-/
set_option linter.all false
namespace Sys2Proof.Machine
set_option Elab.async false
open Sys2Proof

theorem onward_perstAssert {z s : State} (hz : z.Onward s)  : z.Onward (State.perstAssert s) := by
  unfold State.perstAssert
  try dsimp only
  repeat' with_reducible (first | assumption | apply onward_dieReset | apply onward_setMdl | intro _ | apply onward_ite | split)

theorem onward_perstRelease {z s : State} (hz : z.Onward s)  : z.Onward (State.perstRelease s) := by
  unfold State.perstRelease
  try dsimp only
  repeat' with_reducible (first | assumption | apply onward_setMdl | apply onward_toStep2 | intro _)

theorem onward_pulseEnd {z s : State} (hz : z.Onward s)  : z.Onward (State.pulseEnd s) := by
  unfold State.pulseEnd
  try dsimp only
  repeat' with_reducible (first | assumption | apply onward_setMdl | apply onward_toStep2 | intro _)

theorem onward_powerUpTests {z s : State} (hz : z.Onward s) (ok : Bool) : z.Onward (s.powerUpTests ok) := by
  unfold State.powerUpTests
  try dsimp only
  repeat' with_reducible (first | assumption | apply onward_bootEntry | apply onward_clearMem | apply onward_each | apply onward_ideAllInsecure | apply onward_keyZero | apply onward_put | apply onward_selfTest | apply onward_setLifecycle | apply onward_setSec | intro _ | apply onward_ite | split)

theorem onward_coreReset {z s : State} (hz : z.Onward s) (c : Nat) : z.Onward (s.coreReset c) := by
  unfold State.coreReset
  try dsimp only
  repeat' with_reducible (first | assumption | apply onward_each | apply onward_put | apply onward_setCore | apply onward_setMgt | apply onward_unland | apply onward_unqueue | intro _)

theorem onward_mgmtClear {z s : State} (h : z.Onward s) : z.Onward s.mgmtClear := by
  unfold State.mgmtClear
  dsimp only
  apply onward_releaseIn
  apply onward_secNext
  apply onward_syncWake
  apply onward_each
  · intro t x g; exact onward_syncFn g x
  · apply onward_setVmp
    apply onward_setMgt
    apply onward_each
    · intro t x g; exact onward_coreReset g x
    · apply onward_setLas
      exact h.trans ⟨fun c => RegFile.wf_keep s.regs (fun k => !mgmtClears k) c, fun c => RegFile.wf_keep s.act (fun k => !mgmtClears k) c, id, id, id, id, id, id, id, List.suffix_refl _, Nat.le_refl _, rfl, id⟩

theorem onward_rstWrite {z s : State} (hz : z.Onward s) (v : Word) : z.Onward (s.rstWrite v) := by
  unfold State.rstWrite
  try dsimp only
  repeat' with_reducible (first | assumption | apply onward_dieReset | apply onward_mgmtClear | apply onward_put | apply onward_setMdl | intro _ | apply onward_ite | split)

theorem onward_mgmtRestart {z s : State} (hz : z.Onward s)  : z.Onward (State.mgmtRestart s) := by
  unfold State.mgmtRestart
  try dsimp only
  repeat' with_reducible (first | assumption | apply onward_restartLoad | apply onward_setMdl | intro _ | apply onward_ite | split)

theorem onward_insoleStarted {z s : State} (hz : z.Onward s) (trained : List Bool) : z.Onward (s.insoleStarted trained) := by
  unfold State.insoleStarted
  try dsimp only
  repeat' with_reducible (first | assumption | apply onward_each | apply onward_occ | apply onward_put | apply onward_setLwt | apply onward_setMdl | apply onward_setStep | apply onward_syncLwt | apply onward_zeroFill | (refine onward_setIns ?_ _ (by rfl)) | intro _ | apply onward_ite | split)

theorem onward_bootWakes {z s : State} (hz : z.Onward s)  : z.Onward (State.bootWakes s) := by
  unfold State.bootWakes
  try dsimp only
  repeat' with_reducible (first | assumption | apply onward_bankWake | apply onward_each | apply onward_setMdl | intro _ | apply onward_ite | split)

theorem onward_stepTurn {z s : State} (hz : z.Onward s)  : z.Onward (State.stepTurn s) := by
  unfold State.stepTurn
  try dsimp only
  repeat' with_reducible (first | assumption | apply onward_setStep | apply onward_startBindings | intro _ | apply onward_ite | split)

theorem onward_readyEvent {z s : State} (hz : z.Onward s) (part : Bool) : z.Onward (s.readyEvent part) := by
  unfold State.readyEvent
  try dsimp only
  repeat' with_reducible (first | assumption | apply onward_event | apply onward_put | apply onward_setMdl | apply onward_setStep | intro _)

theorem onward_readySend {z s : State} (hz : z.Onward s)  : z.Onward (State.readySend s) := by
  unfold State.readySend
  repeat' with_reducible (first | assumption | apply onward_readyEvent | apply onward_ite | split)

theorem onward_readyLimit {z s : State} (hz : z.Onward s)  : z.Onward (State.readyLimit s) := by
  unfold State.readyLimit
  repeat' with_reducible (first | assumption | apply onward_readyEvent | apply onward_startBindings | intro _ | apply onward_ite | split)

theorem onward_cageRelease {z s : State} (hz : z.Onward s) (b : Nat) : z.Onward (s.cageRelease b) := by
  unfold State.cageRelease
  try dsimp only
  repeat' with_reducible (first | assumption | apply onward_each | apply onward_portDetect | apply onward_setMdl | intro _ | apply onward_ite | split)

theorem onward_i3cOut {z s : State} (hz : z.Onward s) (code : Nat) (v : Nat) : z.Onward (s.i3cOut code v) := by
  unfold State.i3cOut
  repeat' with_reducible (first | assumption | apply onward_send)

theorem onward_i3cEntdaa {z s : State} (hz : z.Onward s) (addr : Nat) : z.Onward (s.i3cEntdaa addr) := by
  unfold State.i3cEntdaa
  try dsimp only
  repeat' with_reducible (first | assumption | apply onward_i3cOut | apply onward_setMdl | intro _ | apply onward_ite | split)

theorem onward_i3cRstdaa {z s : State} (hz : z.Onward s)  : z.Onward (State.i3cRstdaa s) := by
  unfold State.i3cRstdaa
  try dsimp only
  repeat' with_reducible (first | assumption | apply onward_setMdl | intro _ | apply onward_ite | split)

theorem onward_i3cSetnewda {z s : State} (hz : z.Onward s) (addr : Nat) : z.Onward (s.i3cSetnewda addr) := by
  unfold State.i3cSetnewda
  try dsimp only
  repeat' with_reducible (first | assumption | apply onward_setMdl | intro _ | apply onward_ite | split)

theorem onward_i3cGet {z s : State} (hz : z.Onward s) (code : Nat) (v : Nat) : z.Onward (s.i3cGet code v) := by
  unfold State.i3cGet
  repeat' with_reducible (first | assumption | apply onward_i3cOut | apply onward_ite | split)

theorem onward_i3cIbi {z s : State} (hz : z.Onward s) (on : Bool) : z.Onward (s.i3cIbi on) := by
  unfold State.i3cIbi
  try dsimp only
  repeat' with_reducible (first | assumption | apply onward_setMdl | intro _ | apply onward_ite | split)

theorem onward_i3cLimit {z s : State} (hz : z.Onward s) (read : Bool) (n : Nat) : z.Onward (s.i3cLimit read n) := by
  unfold State.i3cLimit
  try dsimp only
  repeat' with_reducible (first | assumption | apply onward_setMdl | intro _ | apply onward_ite | split)

theorem onward_i3cHotJoin {z s : State} (hz : z.Onward s)  : z.Onward (State.i3cHotJoin s) := by
  unfold State.i3cHotJoin
  try dsimp only
  repeat' with_reducible (first | assumption | apply onward_i3cOut | apply onward_setMdl | intro _ | apply onward_ite | split)

theorem onward_portFence {z s : State} (hz : z.Onward s) (n : Nat) : z.Onward (s.portFence n) := by
  unfold State.portFence
  try dsimp only
  repeat' with_reducible (first | assumption | apply onward_portDisable | apply onward_setVmp | intro _)

theorem onward_applyFence {z s : State} (hz : z.Onward s) (u : FUnit) : z.Onward (s.applyFence u) := by
  unfold State.applyFence
  try dsimp only
  repeat' with_reducible (first | assumption | apply onward_chanFence | apply onward_fencedDemote | apply onward_homeFence | apply onward_laneFence | apply onward_mlFence | apply onward_portFence | apply onward_setQp | apply onward_setVmp | intro _ | split)

theorem onward_settleFences {z : State} (n : Nat) : ∀ {s : State}, z.Onward s → z.Onward (s.settleFences n) := by
  induction n with
  | zero => intro s h; exact h
  | succ k ih =>
    intro s h
    unfold State.settleFences
    split
    · exact h
    · exact ih (onward_applyFence (onward_setFlt h _) _)

theorem onward_settle {z s : State} (hz : z.Onward s)  : z.Onward (State.settle s) := by
  unfold State.settle
  repeat' with_reducible (first | assumption | apply onward_settleFences)

theorem onward_applyRelease {z s : State} (hz : z.Onward s) (u : FUnit) : z.Onward (s.applyRelease u) := by
  unfold State.applyRelease
  repeat' with_reducible (first | assumption | apply onward_bankCleared | apply onward_chanRelease | apply onward_homeRelease | apply onward_laneRelease | apply onward_mlRelease | apply onward_portEnable | apply onward_setQp | apply onward_ite | split)

theorem onward_unitRelease {z s : State} (hz : z.Onward s) (u : FUnit) : z.Onward (s.unitRelease u) := by
  unfold State.unitRelease
  try dsimp only
  repeat' with_reducible (first | assumption | apply onward_applyRelease | apply onward_faultLog | apply onward_setFlt | intro _ | apply onward_ite | split)

theorem onward_clearBit {z s : State} (hz : z.Onward s) (p : Path) (n : Nat) : z.Onward (s.clearBit p n) := by
  unfold State.clearBit
  try dsimp only
  repeat' with_reducible (first | assumption | apply onward_bankCleared | apply onward_faultLog | apply onward_setAcs | apply onward_setFlt | apply onward_setSticky | intro _ | apply onward_ite | split)

theorem onward_stickyClear {z s : State} (hz : z.Onward s) (p : Path) (w : Nat) (v : Word) : z.Onward (s.stickyClear p w v) := by
  unfold State.stickyClear
  try dsimp only
  repeat' with_reducible (first | assumption | apply onward_clearBit | apply onward_each | intro _)

theorem onward_clearRefused {z s : State} (hz : z.Onward s) (n : Nat) (p : Path) : z.Onward (s.clearRefused n p) := by
  unfold State.clearRefused
  repeat' with_reducible (first | assumption | apply onward_bump | apply onward_faultLog | apply onward_put)

theorem onward_faultBoundary {z s : State} (hz : z.Onward s) (k : Nat) : z.Onward (s.faultBoundary k) := by
  unfold State.faultBoundary
  try dsimp only
  repeat' with_reducible (first | assumption | apply onward_clearRefused | apply onward_each | apply onward_setAcs | apply onward_setFlt | apply onward_setSticky | intro _)

theorem onward_setRestart {z s : State} (hz : z.Onward s) (v : Nat) : z.Onward (s.setRestart v) := by
  unfold State.setRestart
  repeat' with_reducible (first | assumption | apply onward_put)

theorem onward_restartWrite {z s : State} (hz : z.Onward s) (v : Word) : z.Onward (s.restartWrite v) := by
  unfold State.restartWrite
  try dsimp only
  repeat' with_reducible (first | assumption | apply onward_setFlt | apply onward_setRestart | apply onward_storeAt | intro _ | apply onward_ite | split)

theorem onward_restartVerified {z s : State} (hz : z.Onward s) (ok : Bool) (svn : Nat) : z.Onward (s.restartVerified ok svn) := by
  unfold State.restartVerified
  try dsimp only
  repeat' with_reducible (first | assumption | apply onward_put | apply onward_setFlt | apply onward_setRestart | intro _ | apply onward_ite | split)

theorem onward_restartHold {z s : State} (hz : z.Onward s)  : z.Onward (State.restartHold s) := by
  unfold State.restartHold
  try dsimp only
  repeat' with_reducible (first | assumption | apply onward_coreReset | apply onward_each | apply onward_put | apply onward_setLas | intro _ | apply onward_ite | split)

theorem onward_restartLoaded {z s : State} (hz : z.Onward s)  : z.Onward (State.restartLoaded s) := by
  unfold State.restartLoaded
  try dsimp only
  repeat' with_reducible (first | assumption | apply onward_each | apply onward_put | apply onward_setFlt | apply onward_setLas | apply onward_setRestart | intro _ | apply onward_ite | split)

theorem onward_restartRevert {z s : State} (hz : z.Onward s)  : z.Onward (State.restartRevert s) := by
  unfold State.restartRevert
  try dsimp only
  repeat' with_reducible (first | assumption | apply onward_occAt | apply onward_put | apply onward_setFlt | apply onward_setRestart | intro _ | apply onward_ite | split)

theorem onward_restartTimers {z s : State} (hz : z.Onward s)  : z.Onward (State.restartTimers s) := by
  unfold State.restartTimers
  try dsimp only
  repeat' with_reducible (first | assumption | apply onward_each | apply onward_setBnd | apply onward_setPort | intro _ | apply onward_ite | split)

theorem onward_dirtyLeft {z s : State} (hz : z.Onward s) (l : List Nat) : z.Onward (s.dirtyLeft l) := by
  unfold State.dirtyLeft
  repeat' with_reducible (first | assumption | apply onward_put)

theorem onward_gpfForward {z s : State} (hz : z.Onward s) (n : Nat) (phase : Nat) : z.Onward (s.gpfForward n phase) := by
  unfold State.gpfForward
  try dsimp only
  repeat' with_reducible (first | assumption | apply onward_each | apply onward_send | apply onward_setFlt | intro _ | apply onward_ite | split)

theorem onward_gpfPhase1 {z s : State} (hz : z.Onward s) (n : Nat) : z.Onward (s.gpfPhase1 n) := by
  unfold State.gpfPhase1
  repeat' with_reducible (first | assumption | apply onward_gpfForward | apply onward_ite | split)

theorem onward_cleanBehind {z s : State} (hz : z.Onward s) (ports : List Nat) : z.Onward (s.cleanBehind ports) := by
  unfold State.cleanBehind
  try dsimp only
  repeat' with_reducible (first | assumption | apply onward_each | apply onward_shelfClean | apply onward_wakeRequest | intro _ | apply onward_ite | split)

theorem onward_gpfPhase2 {z s : State} (hz : z.Onward s) (n : Nat) : z.Onward (s.gpfPhase2 n) := by
  unfold State.gpfPhase2
  try dsimp only
  repeat' with_reducible (first | assumption | apply onward_cleanBehind | apply onward_gpfForward | apply onward_setFlt | intro _ | apply onward_ite | split)

theorem onward_gpfStep {z s : State} (hz : z.Onward s)  : z.Onward (State.gpfStep s) := by
  unfold State.gpfStep
  try dsimp only
  repeat' with_reducible (first | assumption | apply onward_cleanBehind | apply onward_each | apply onward_gpfForward | apply onward_setFlt | intro _ | apply onward_ite | split)

theorem onward_gpfTimeout {z s : State} (hz : z.Onward s) (n : Nat) : z.Onward (s.gpfTimeout n) := by
  unfold State.gpfTimeout
  try dsimp only
  repeat' with_reducible (first | assumption | apply onward_dirtyLeft | apply onward_gpfForward | apply onward_occAt | apply onward_setFlt | intro _ | apply onward_ite | split)

theorem onward_gpfAnswer {z s : State} (hz : z.Onward s) (n : Nat) : z.Onward (s.gpfAnswer n) := by
  unfold State.gpfAnswer
  try dsimp only
  repeat' with_reducible (first | assumption | apply onward_each | apply onward_send | apply onward_setFlt | intro _)

theorem onward_setPd {z s : State} (hz : z.Onward s) (v : Nat) : z.Onward (s.setPd v) := by
  unfold State.setPd
  repeat' with_reducible (first | assumption | apply onward_put)

theorem onward_pwrdnWrite {z s : State} (hz : z.Onward s) (v : Word) : z.Onward (s.pwrdnWrite v) := by
  unfold State.pwrdnWrite
  try dsimp only
  repeat' with_reducible (first | assumption | apply onward_setFlt | intro _ | apply onward_ite | split)

theorem onward_pdClean {z s : State} (hz : z.Onward s)  : z.Onward (State.pdClean s) := by
  unfold State.pdClean
  try dsimp only
  repeat' with_reducible (first | assumption | apply onward_cleanBehind | apply onward_setFlt | apply onward_setPd | intro _)

theorem onward_pdGpf {z s : State} (hz : z.Onward s) (phase : Nat) : z.Onward (s.pdGpf phase) := by
  unfold State.pdGpf
  try dsimp only
  repeat' with_reducible (first | assumption | apply onward_each | apply onward_send | apply onward_setFlt | apply onward_setPd | intro _ | apply onward_ite | split)

theorem onward_pdCleaned {z s : State} (hz : z.Onward s)  : z.Onward (State.pdCleaned s) := by
  unfold State.pdCleaned
  try dsimp only
  repeat' with_reducible (first | assumption | apply onward_occAt | apply onward_pdGpf | intro _ | apply onward_ite | split)

theorem onward_pdDrained {z s : State} (hz : z.Onward s)  : z.Onward (State.pdDrained s) := by
  unfold State.pdDrained
  repeat' with_reducible (first | assumption | apply onward_pdClean | apply onward_ite | split)

theorem onward_pdDrainTimeout {z s : State} (hz : z.Onward s)  : z.Onward (State.pdDrainTimeout s) := by
  unfold State.pdDrainTimeout
  try dsimp only
  repeat' with_reducible (first | assumption | apply onward_dirtyLeft | apply onward_pdClean | apply onward_put | intro _ | apply onward_ite | split)

theorem onward_pdCleanDone {z s : State} (hz : z.Onward s)  : z.Onward (State.pdCleanDone s) := by
  unfold State.pdCleanDone
  try dsimp only
  repeat' with_reducible (first | assumption | apply onward_pdCleaned | intro _ | apply onward_ite | split)

theorem onward_pdCleanTimeout {z s : State} (hz : z.Onward s)  : z.Onward (State.pdCleanTimeout s) := by
  unfold State.pdCleanTimeout
  try dsimp only
  repeat' with_reducible (first | assumption | apply onward_dirtyLeft | apply onward_pdCleaned | apply onward_put | intro _ | apply onward_ite | split)

theorem onward_pdGpfDone {z s : State} (hz : z.Onward s)  : z.Onward (State.pdGpfDone s) := by
  unfold State.pdGpfDone
  try dsimp only
  repeat' with_reducible (first | assumption | apply onward_each | apply onward_mlCmdWrite | apply onward_occAt | apply onward_setFlt | apply onward_setPd | intro _ | apply onward_ite | split)

theorem onward_pdBoundary {z s : State} (hz : z.Onward s)  : z.Onward (State.pdBoundary s) := by
  unfold State.pdBoundary
  try dsimp only
  repeat' with_reducible (first | assumption | apply onward_cleanBehind | apply onward_each | apply onward_mlCmdWrite | apply onward_pdGpf | apply onward_put | apply onward_setFlt | apply onward_setPd | intro _ | apply onward_ite | split)

theorem onward_setPhase {z s : State} (hz : z.Onward s) (err : ℤ) : z.Onward (s.setPhase err) := by
  unfold State.setPhase
  try dsimp only
  repeat' with_reducible (first | assumption | apply onward_put | apply onward_usedFree | apply onward_ite | split)

theorem onward_markerRx {z s : State} (hz : z.Onward s) (m : Nat) (k : Marker) (rootOfs : ℤ) (arrival : ℤ) : z.Onward (s.markerRx m k rootOfs arrival) := by
  unfold State.markerRx
  try dsimp only
  repeat' with_reducible (first | assumption | apply onward_setPhase | apply onward_setTim | intro _ | apply onward_ite | split)

theorem onward_pinPulse {z s : State} (hz : z.Onward s) (long : Bool) (period : Nat) (ofs : ℤ) : z.Onward (s.pinPulse long period ofs) := by
  unfold State.pinPulse
  try dsimp only
  repeat' with_reducible (first | assumption | apply onward_setPhase | apply onward_setTim | intro _ | apply onward_ite | split)

theorem onward_alignTo {z s : State} (hz : z.Onward s) (st : Nat) : z.Onward (s.alignTo st) := by
  unfold State.alignTo
  repeat' with_reducible (first | assumption | apply onward_event | apply onward_put | apply onward_ite | split)

theorem onward_alignOut {z s : State} (hz : z.Onward s)  : z.Onward (State.alignOut s) := by
  unfold State.alignOut
  try dsimp only
  repeat' with_reducible (first | assumption | apply onward_alignTo | apply onward_occAt | apply onward_setTim | intro _)

theorem onward_alignAcquired {z s : State} (hz : z.Onward s)  : z.Onward (State.alignAcquired s) := by
  unfold State.alignAcquired
  try dsimp only
  repeat' with_reducible (first | assumption | apply onward_alignTo | apply onward_setTim | intro _ | apply onward_ite | split)

theorem onward_alignLost {z s : State} (hz : z.Onward s)  : z.Onward (State.alignLost s) := by
  unfold State.alignLost
  repeat' with_reducible (first | assumption | apply onward_alignOut | apply onward_ite | split)

theorem onward_sourceLost {z s : State} (hz : z.Onward s)  : z.Onward (State.sourceLost s) := by
  unfold State.sourceLost
  try dsimp only
  repeat' with_reducible (first | assumption | apply onward_alignOut | apply onward_alignTo | apply onward_occAt | apply onward_setTim | intro _ | apply onward_ite | split)

theorem onward_holdExpiry {z s : State} (hz : z.Onward s)  : z.Onward (State.holdExpiry s) := by
  unfold State.holdExpiry
  repeat' with_reducible (first | assumption | apply onward_alignOut | apply onward_ite | split)

theorem onward_backupTakes {z s : State} (hz : z.Onward s)  : z.Onward (State.backupTakes s) := by
  unfold State.backupTakes
  try dsimp only
  repeat' with_reducible (first | assumption | apply onward_setTim | intro _ | apply onward_ite | split)

theorem onward_reselect {z s : State} (hz : z.Onward s)  : z.Onward (State.reselect s) := by
  unfold State.reselect
  try dsimp only
  repeat' with_reducible (first | assumption | apply onward_put | apply onward_ite | split)

theorem onward_alignCounts {z s : State} (hz : z.Onward s)  : z.Onward (State.alignCounts s) := by
  unfold State.alignCounts
  try dsimp only
  repeat' with_reducible (first | assumption | apply onward_setTim | intro _ | apply onward_ite | split)

theorem onward_alignBoundary {z s : State} (hz : z.Onward s)  : z.Onward (State.alignBoundary s) := by
  unfold State.alignBoundary
  try dsimp only
  repeat' with_reducible (first | assumption | apply onward_alignCounts | apply onward_alignTo | apply onward_event | apply onward_occAt | apply onward_put | apply onward_reselect | apply onward_setTim | intro _ | apply onward_ite | split)

theorem onward_setSwap {z s : State} (hz : z.Onward s) (st : Nat) : z.Onward (s.setSwap st) := by
  unfold State.setSwap
  try dsimp only
  repeat' with_reducible (first | assumption | apply onward_put | intro _)

theorem onward_setSwapErr {z s : State} (hz : z.Onward s) (e : Nat) : z.Onward (s.setSwapErr e) := by
  unfold State.setSwapErr
  try dsimp only
  repeat' with_reducible (first | assumption | apply onward_put | intro _)

theorem onward_setArm {z s : State} (hz : z.Onward s) (a : Option Arm) : z.Onward (s.setArm a) := by
  unfold State.setArm
  try dsimp only
  repeat' with_reducible (first | assumption | apply onward_put | apply onward_setTim | intro _)

theorem onward_swapRefuse {z s : State} (hz : z.Onward s) (e : Nat) : z.Onward (s.swapRefuse e) := by
  unfold State.swapRefuse
  repeat' with_reducible (first | assumption | apply onward_setSwap | apply onward_setSwapErr | apply onward_ite | split)

theorem onward_armNow {z s : State} (hz : z.Onward s)  : z.Onward (State.armNow s) := by
  unfold State.armNow
  try dsimp only
  repeat' with_reducible (first | assumption | apply onward_setArm | apply onward_setSwap | apply onward_setSwapErr | apply onward_swapRefuse | apply onward_ite | split)

theorem onward_disarm {z s : State} (hz : z.Onward s)  : z.Onward (State.disarm s) := by
  unfold State.disarm
  repeat' with_reducible (first | assumption | apply onward_setArm | apply onward_setSwap | apply onward_setSwapErr | apply onward_swapRefuse | apply onward_ite | split)

theorem onward_swapCtlWrite {z s : State} (hz : z.Onward s) (p : Path) (v : Word) : z.Onward (s.swapCtlWrite p v) := by
  unfold State.swapCtlWrite
  try dsimp only
  repeat' with_reducible (first | assumption | apply onward_armNow | apply onward_disarm | apply onward_setLas | apply onward_storeAt | apply onward_swapRefuse | intro _ | apply onward_ite | split)

theorem onward_heldArms {z s : State} (hz : z.Onward s)  : z.Onward (State.heldArms s) := by
  unfold State.heldArms
  try dsimp only
  repeat' with_reducible (first | assumption | apply onward_armNow | apply onward_each | apply onward_setLas | apply onward_storeAt | intro _)

theorem onward_armRx {z s : State} (hz : z.Onward s) (g : Grp) (unit : Nat) : z.Onward (s.armRx g unit) := by
  unfold State.armRx
  try dsimp only
  repeat' with_reducible (first | assumption | apply onward_setTim | intro _ | apply onward_ite | split)

theorem onward_blockSwap {z s : State} (hz : z.Onward s) (g : Grp) (unit : Nat) (exchange : Bool) : z.Onward (s.blockSwap g unit exchange).1 := by
  unfold State.blockSwap
  try dsimp only
  repeat' with_reducible (first | assumption | apply onward_miss | apply onward_swapGroup | refine onward_swapGroup_eq (by assumption) ?_ | apply onward_ite | split)

theorem onward_blockSwap_eq {z s t : State} {g : Grp} {unit : Nat} {exchange : Bool} {r} (e : (State.blockSwap s g unit exchange) = (t, r)) (hz : z.Onward s) : z.Onward t := by
  have g := onward_blockSwap hz g unit exchange
  rw [e] at g
  exact g

theorem onward_applyBlock {z s : State} (hz : z.Onward s) (g : Grp) (unit : Nat) : z.Onward (s.applyBlock g unit) := by
  unfold State.applyBlock
  try dsimp only
  repeat' with_reducible (first | assumption | apply onward_blockSwap | apply onward_setTim | refine onward_blockSwap_eq (by assumption) ?_ | intro _ | apply onward_ite | split)

theorem onward_swapIdentity {z s : State} (hz : z.Onward s) (applied : List Grp) (exchange : Bool) : z.Onward (s.swapIdentity applied exchange) := by
  unfold State.swapIdentity
  try dsimp only
  repeat' with_reducible (first | assumption | apply onward_put | apply onward_setActiveId | apply onward_setStagedId | intro _ | apply onward_ite | split)

theorem onward_swapFinish {z s : State} (hz : z.Onward s)  : z.Onward (State.swapFinish s) := by
  unfold State.swapFinish
  try dsimp only
  repeat' with_reducible (first | assumption | apply onward_event | apply onward_put | apply onward_setArm | apply onward_setSwap | apply onward_swapIdentity | intro _ | apply onward_ite | split)

theorem onward_swapMiss {z s : State} (hz : z.Onward s) (e : Nat) : z.Onward (s.swapMiss e) := by
  unfold State.swapMiss
  repeat' with_reducible (first | assumption | apply onward_occAt | apply onward_setArm | apply onward_setSwap | apply onward_setSwapErr)

theorem onward_swapTurn {z s : State} (hz : z.Onward s) (n : Nat) : z.Onward (s.swapTurn n) := by
  unfold State.swapTurn
  try dsimp only
  repeat' with_reducible (first | assumption | apply onward_occAt | apply onward_put | apply onward_setSwap | apply onward_swapMiss | intro _ | apply onward_ite | split)

theorem onward_swapStep {z s : State} (hz : z.Onward s) (gs : List Grp) : z.Onward (s.swapStep gs) := by
  unfold State.swapStep
  try dsimp only
  repeat' with_reducible (first | assumption | apply onward_applyBlock | apply onward_each | intro _ | apply onward_ite | split)

theorem onward_swapLate {z s : State} (hz : z.Onward s) (g : Grp) (unit : Nat) : z.Onward (s.swapLate g unit) := by
  unfold State.swapLate
  repeat' with_reducible (first | assumption | apply onward_applyBlock | apply onward_drainAgain | apply onward_releaseIn | apply onward_swapFinish | apply onward_ite | split)

theorem onward_swapApply {z s : State} (hz : z.Onward s) (g : Grp) (unit : Nat) : z.Onward (s.swapApply g unit) := by
  unfold State.swapApply
  try dsimp only
  repeat' with_reducible (first | assumption | apply onward_applyBlock | apply onward_ite | split)

theorem onward_runWrite {z s : State} (hz : z.Onward s) (v : Word) : z.Onward (s.runWrite v) := by
  unfold State.runWrite
  try dsimp only
  repeat' with_reducible (first | assumption | apply onward_put | apply onward_setStep | apply onward_storeAt | apply onward_ite | split)

theorem onward_epochTurn {z s : State} (hz : z.Onward s) (first : Bool) (jumped : Bool) : z.Onward (s.epochTurn first jumped) := by
  unfold State.epochTurn
  try dsimp only
  repeat' with_reducible (first | assumption | apply onward_each | apply onward_setTim | intro _ | apply onward_ite | split)

theorem onward_epochEnd {z s : State} (hz : z.Onward s) (e : Epoch) : z.Onward (s.epochEnd e) := by
  unfold State.epochEnd
  try dsimp only
  repeat' with_reducible (first | assumption | apply onward_acctEpoch | apply onward_each | apply onward_heatEnd | apply onward_put | apply onward_setTim | apply onward_telEnd | intro _ | apply onward_ite | split)

theorem onward_numberTurn {z s : State} (hz : z.Onward s) (n : Nat) (jumped : Bool) : z.Onward (s.numberTurn n jumped) := by
  unfold State.numberTurn
  try dsimp only
  repeat' with_reducible (first | assumption | apply onward_setTim | intro _)

theorem onward_soleTurn {z s : State} (hz : z.Onward s)  : z.Onward (State.soleTurn s) := by
  unfold State.soleTurn
  try dsimp only
  repeat' with_reducible (first | assumption | apply onward_applyTags | apply onward_debugApply | apply onward_refillMeters | apply onward_refillShapers | apply onward_swapStep)

theorem onward_homeTurn {z s : State} (hz : z.Onward s)  : z.Onward (State.homeTurn s) := by
  unfold State.homeTurn
  try dsimp only
  repeat' with_reducible (first | assumption | apply onward_count | apply onward_each | apply onward_swapStep | intro _)

theorem onward_insoleTurn {z s : State} (hz : z.Onward s)  : z.Onward (State.insoleTurn s) := by
  unfold State.insoleTurn
  try dsimp only
  repeat' with_reducible (first | assumption | apply onward_applySanitised | apply onward_fencedDemote | apply onward_scrub | apply onward_swapStep)

theorem onward_dcdTry {z s : State} (hz : z.Onward s)  : z.Onward (State.dcdTry s) := by
  unfold State.dcdTry
  try dsimp only
  repeat' with_reducible (first | assumption | apply onward_armNow | apply onward_put | apply onward_setBnd | intro _ | apply onward_ite | split)

theorem onward_mgmtTurn {z s : State} (hz : z.Onward s) (old : Nat) (evs : List Ev) : z.Onward (s.mgmtTurn old evs) := by
  unfold State.mgmtTurn
  try dsimp only
  repeat' with_reducible (first | assumption | apply onward_bindingsRemove | apply onward_bootWakes | apply onward_dcdTry | apply onward_evCoalesce | apply onward_gpfStep | apply onward_pdBoundary | apply onward_reportsApply | apply onward_restartHold | apply onward_restartTimers | apply onward_sanSubmit | apply onward_setMgt | apply onward_sumOut | apply onward_swapStep | apply onward_wakeRefill | intro _)

theorem onward_aonTurn {z s : State} (hz : z.Onward s) (smp : Samples) (k : Nat) : z.Onward (s.aonTurn smp k) := by
  unfold State.aonTurn
  try dsimp only
  repeat' with_reducible (first | assumption | apply onward_alignBoundary | apply onward_faultBoundary | apply onward_put | apply onward_pwrBoundary | apply onward_returnSteps | apply onward_stepTurn | apply onward_swapStep)

theorem onward_bankTurn {z s : State} (hz : z.Onward s) (marks : List (Nat × Marker)) : z.Onward (s.bankTurn marks) := by
  unfold State.bankTurn
  try dsimp only
  repeat' with_reducible (first | assumption | apply onward_autoLace | apply onward_each | apply onward_send | apply onward_setTim | apply onward_swapStep | apply onward_usedFree | intro _ | apply onward_ite | split)

theorem onward_boundary {z s : State} (hz : z.Onward s) (smp : Samples) : z.Onward (s.boundary smp) := by
  unfold State.boundary
  try dsimp only
  repeat' with_reducible (first | assumption | apply onward_aonTurn | apply onward_bankTurn | apply onward_drainAgain | apply onward_each | apply onward_epochEnd | apply onward_epochTurn | apply onward_homeTurn | apply onward_insoleTurn | apply onward_mgmtTurn | apply onward_numberTurn | apply onward_releaseIn | apply onward_setMgt | apply onward_setTim | apply onward_settle | apply onward_soleTurn | apply onward_swapFinish | apply onward_swapTurn | intro _ | apply onward_ite | split)

theorem onward_csrRead {z s : State} (hz : z.Onward s) (p : Path) (o : Nat) : z.Onward (s.csrRead p o).1 := by
  unfold State.csrRead
  try dsimp only
  repeat' with_reducible (first | assumption | apply onward_setAcs | apply onward_setReg | intro _ | apply onward_ite | split)

theorem onward_csrRead_eq {z s t : State} {p : Path} {o : Nat} {r} (e : (State.csrRead s p o) = (t, r)) (hz : z.Onward s) : z.Onward t := by
  have g := onward_csrRead hz p o
  rw [e] at g
  exact g

theorem onward_gcmdWrite {z s : State} (hz : z.Onward s) (v : Word) : z.Onward (s.gcmdWrite v) := by
  unfold State.gcmdWrite
  try dsimp only
  repeat' with_reducible (first | assumption | apply onward_gcmd | apply onward_migIssue | apply onward_storeAt | apply onward_ite | split)

theorem onward_insShelfWrite {z s : State} (hz : z.Onward s) (p : Path) (v : Word) : z.Onward (s.insShelfWrite p v) := by
  unfold State.insShelfWrite
  try dsimp only
  repeat' with_reducible (first | assumption | apply onward_shelfClean | apply onward_shelfRelease | apply onward_ite | split)

theorem onward_tagWrWrite {z s : State} (hz : z.Onward s) (p : Path) (v : Word) : z.Onward (s.tagWrWrite p v) := by
  unfold State.tagWrWrite
  try dsimp only
  repeat' with_reducible (first | assumption | apply onward_put | apply onward_storeAt | (refine onward_setIns ?_ _ (by rfl)) | intro _ | apply onward_ite | split)

theorem onward_coreCtlWrite {z s : State} (hz : z.Onward s) (c : Nat) (v : Word) : z.Onward (s.coreCtlWrite c v) := by
  unfold State.coreCtlWrite
  try dsimp only
  repeat' with_reducible (first | assumption | apply onward_coreReset | apply onward_put | apply onward_storeAt | apply onward_ite | split)

theorem onward_plainWrite {z s : State} (hz : z.Onward s) (p : Path) (d : RegDef) (k : Nat) (v : Word) : z.Onward (s.plainWrite p d k v) := by
  unfold State.plainWrite
  try dsimp only
  repeat' with_reducible (first | assumption | apply onward_cfgErr | apply onward_setLas | apply onward_storeWord | intro _ | apply onward_ite | split)

theorem onward_wordNow {z s : State} (hz : z.Onward s) (p : Path) (d : RegDef) (k : Nat) (v : Word) : z.Onward (s.wordNow p d k v) := by
  unfold State.wordNow
  extract_lets o r b s1 s2
  have g1 : z.Onward s1 := onward_familyWrite hz _ _
  have g2 : z.Onward s2 := by
    show z.Onward (if F.LB_BANK_CTL_WAKE.of v = 1 then s1.bankWake b else s1)
    split
    · exact onward_bankWake g1 _
    · exact g1
  clear_value s2 s1 b o r
  refine onward_ite (onward_runWrite hz _) ?_
  refine onward_ite (onward_rstWrite hz _) ?_
  refine onward_ite (onward_pwrCfgWrite hz _) ?_
  refine onward_ite (onward_peakWrite hz _) ?_
  refine onward_ite (onward_syncPortIds (onward_plainWrite hz _ _ _ _) _) ?_
  refine onward_ite (onward_ite (onward_bankPark g2 _) g2) ?_
  refine onward_ite (onward_laneAdaptWrite hz _ _ _) ?_
  refine onward_ite (onward_marginWrite hz _ _ _) ?_
  refine onward_ite (onward_portCmdWrite hz _ _) ?_
  refine onward_ite (onward_mlCmdWrite hz _ _) ?_
  refine onward_ite (onward_laceWrite hz _ _) ?_
  refine onward_ite (onward_homeCtlWrite hz _ _) ?_
  refine onward_ite (onward_departClrWrite hz _ _) ?_
  refine onward_ite (onward_gcmdWrite hz _) ?_
  refine onward_ite (onward_insShelfWrite hz _ _) ?_
  refine onward_ite (onward_tagWrWrite hz _ _) ?_
  refine onward_ite (onward_bcmdWrite hz _ _) ?_
  refine onward_ite (onward_slCmdWrite hz _ _) ?_
  refine onward_ite (onward_shelfCmdWrite hz _ _) ?_
  refine onward_ite (onward_coreCtlWrite hz _ _) ?_
  refine onward_ite (onward_pwrdnWrite hz _) ?_
  refine onward_ite (onward_restartWrite hz _) ?_
  refine onward_ite (onward_stickyClear hz _ _ _) ?_
  refine onward_ite (onward_loadCtlWrite hz _) ?_
  refine onward_ite (onward_confirmWrite hz _) ?_
  refine onward_ite (onward_prefWrite hz _) ?_
  refine onward_ite (onward_swapCtlWrite hz _ _) ?_
  refine onward_ite (onward_qpCtlWrite hz _ _) ?_
  refine onward_ite (onward_qpDbWrite hz _ _) ?_
  exact onward_plainWrite hz _ _ _ _

theorem onward_offWrite {z s : State} (hz : z.Onward s) (p : Path) (d : RegDef) (k : Nat) (b : Nat) (v : Word) : z.Onward (s.offWrite p d k b v) := by
  unfold State.offWrite
  try dsimp only
  repeat' with_reducible (first | assumption | apply onward_bankPark | apply onward_bankWake | apply onward_miss | apply onward_occ | apply onward_setReg | apply onward_syncPortIds | intro _ | apply onward_ite | split)

end Sys2Proof.Machine
end

