-- ==== Sys2Proof/Laws/Onward8.lean ====
section
/-!
SUPPORT. What the operations keep (part 8 of 8), in the order in which they call each other.
-/
set_option linter.all false
namespace Sys2Proof.Machine
set_option Elab.async false
open Sys2Proof

theorem onward_applyMissed {z s : State} (hz : z.Onward s) (b : Nat) : z.Onward (s.applyMissed b) := by
  unfold State.applyMissed
  try dsimp only
  repeat' with_reducible (first | assumption | apply onward_each | apply onward_setAcs | apply onward_swapGroup | apply onward_wordNow | refine onward_swapGroup_eq (by assumption) ?_ | intro _ | split)

theorem onward_wordWrite {z s : State} (hz : z.Onward s) (p : Path) (d : RegDef) (k : Nat) (v : Word) : z.Onward (s.wordWrite p d k v) := by
  unfold State.wordWrite
  repeat' with_reducible (first | assumption | apply onward_offWrite | apply onward_wordNow | split)

theorem onward_wordHeld {z s : State} (hz : z.Onward s) (p : Path) (d : RegDef) (k : Nat) (v : Word) : z.Onward (s.wordHeld p d k v) := by
  unfold State.wordHeld
  try dsimp only
  repeat' with_reducible (first | assumption | apply onward_setLas | apply onward_wordWrite | intro _ | split)

theorem onward_csrWrite {z s : State} (hz : z.Onward s) (p : Path) (o : Nat) (v : Word) : z.Onward (s.csrWrite p o v) := by
  unfold State.csrWrite
  try dsimp only
  repeat' with_reducible (first | assumption | apply onward_setAcs | apply onward_wordHeld | intro _ | apply onward_ite | split)

theorem onward_heldWrites {z s : State} (hz : z.Onward s)  : z.Onward (State.heldWrites s) := by
  unfold State.heldWrites
  try dsimp only
  repeat' with_reducible (first | assumption | apply onward_each | apply onward_setLas | apply onward_wordWrite | intro _ | split)

theorem onward_writeDone {z s : State} (hz : z.Onward s)  : z.Onward (State.writeDone s) := by
  unfold State.writeDone
  repeat' with_reducible (first | assumption | apply onward_drainAgain | apply onward_releaseIn | apply onward_settle)

theorem onward_pathWrite {z s : State} (hz : z.Onward s) (p : Path) (o : Nat) (v : Word) : z.Onward (s.pathWrite p o v) := by
  unfold State.pathWrite
  repeat' with_reducible (first | assumption | apply onward_csrWrite | apply onward_send | apply onward_writeDone | apply onward_ite | split)

theorem onward_pathRead {z s : State} (hz : z.Onward s) (p : Path) (o : Nat) : z.Onward (s.pathRead p o) := by
  unfold State.pathRead
  try dsimp only
  repeat' with_reducible (first | assumption | apply onward_csrRead | apply onward_send | refine onward_csrRead_eq (by assumption) ?_ | apply onward_ite | split)

theorem onward_syncCore {z s : State} (hz : z.Onward s) (c : Nat) : z.Onward (s.syncCore c) := by
  unfold State.syncCore
  try dsimp only
  repeat' with_reducible (first | assumption | apply onward_put | intro _)

theorem onward_corePump {z s : State} (hz : z.Onward s) (c : Nat) : z.Onward (s.corePump c) := by
  unfold State.corePump
  try dsimp only
  repeat' with_reducible (first | assumption | apply onward_setCore | apply onward_syncCore | intro _)

theorem onward_storeError {z s : State} (hz : z.Onward s) (c : Nat) (addr : Nat) (cause : Nat) : z.Onward (s.storeError c addr cause) := by
  unfold State.storeError
  try dsimp only
  repeat' with_reducible (first | assumption | apply onward_bump | apply onward_occ | apply onward_put)

theorem onward_loadFault {z s : State} (hz : z.Onward s) (c : Nat) (addr : Nat) : z.Onward (s.loadFault c addr) := by
  unfold State.loadFault
  try dsimp only
  repeat' with_reducible (first | assumption | apply onward_setCore | intro _)

theorem onward_coreInsole {z s : State} (hz : z.Onward s) (c : Nat) (addr : Nat) (a : Nat) (n : Nat) (load : Bool) (v : Word) : z.Onward (s.coreInsole c addr a n load v) := by
  unfold State.coreInsole
  try dsimp only
  repeat' with_reducible (first | assumption | apply onward_ingress | apply onward_setMgt | intro _ | apply onward_ite | split)

theorem onward_coreLoadsGo {z s : State} (hz : z.Onward s) (c : Nat) : z.Onward (s.coreLoadsGo c) := by
  unfold State.coreLoadsGo
  try dsimp only
  repeat' with_reducible (first | assumption | apply onward_coreInsole | apply onward_each | apply onward_setCore | intro _ | apply onward_ite | split)

theorem onward_coreStore {z s : State} (hz : z.Onward s) (c : Nat) (addr : Nat) (n : Nat) (v : Word) : z.Onward (s.coreStore c addr n v) := by
  unfold State.coreStore
  try dsimp only
  repeat' with_reducible (first | assumption | apply onward_coreInsole | apply onward_corePump | apply onward_count | apply onward_loadFault | apply onward_setCore | apply onward_setMgt | apply onward_syncCore | intro _ | apply onward_ite | split)

theorem onward_coreLoad {z s : State} (hz : z.Onward s) (c : Nat) (addr : Nat) (n : Nat) (acc : CoreAcc) : z.Onward (s.coreLoad c addr n acc) := by
  unfold State.coreLoad
  try dsimp only
  repeat' with_reducible (first | assumption | apply onward_coreLoadsGo | apply onward_corePump | apply onward_count | apply onward_loadFault | apply onward_setCore | intro _ | apply onward_ite | split)

theorem onward_coreFence {z s : State} (hz : z.Onward s) (c : Nat) (ow : Bool) (ir : Bool) : z.Onward (s.coreFence c ow ir) := by
  unfold State.coreFence
  try dsimp only
  repeat' with_reducible (first | assumption | apply onward_corePump | apply onward_setCore | intro _ | apply onward_ite | split)

theorem onward_coreTrap {z s : State} (hz : z.Onward s) (c : Nat) : z.Onward (s.coreTrap c) := by
  unfold State.coreTrap
  try dsimp only
  repeat' with_reducible (first | assumption | apply onward_corePump | apply onward_setCore | intro _ | apply onward_ite | split)

theorem onward_storeEffect {z s : State} (hz : z.Onward s) (c : Nat) (x : CStore) : z.Onward (s.storeEffect c x) := by
  unfold State.storeEffect
  repeat' with_reducible (first | assumption | apply onward_csrWrite | apply onward_ite | split)

theorem onward_storeDone {z s : State} (hz : z.Onward s) (c : Nat) (err : Nat) (late : Bool) : z.Onward (s.storeDone c err late) := by
  unfold State.storeDone
  try dsimp only
  repeat' with_reducible (first | assumption | apply onward_bump | apply onward_corePump | apply onward_setCore | apply onward_storeEffect | apply onward_storeError | intro _ | apply onward_ite | split)

theorem onward_loadDone {z s : State} (hz : z.Onward s) (c : Nat) (err : Nat) (v : Word) (late : Bool) : z.Onward (s.loadDone c err v late) := by
  unfold State.loadDone
  try dsimp only
  repeat' with_reducible (first | assumption | apply onward_bump | apply onward_corePump | apply onward_csrRead | apply onward_loadFault | apply onward_setCore | refine onward_csrRead_eq (by assumption) ?_ | intro _ | apply onward_ite | split)

theorem onward_accessTimeout {z s : State} (hz : z.Onward s) (c : Nat) : z.Onward (s.accessTimeout c) := by
  unfold State.accessTimeout
  try dsimp only
  repeat' with_reducible (first | assumption | apply onward_corePump | apply onward_loadFault | apply onward_setCore | apply onward_storeError | intro _ | split)

theorem onward_coreAnswer {z s : State} (hz : z.Onward s) (m : Msg) : z.Onward (s.coreAnswer m) := by
  unfold State.coreAnswer
  try dsimp only
  repeat' with_reducible (first | assumption | apply onward_coreLoadsGo | apply onward_corePump | apply onward_loadFault | apply onward_setCore | apply onward_setMgt | apply onward_storeError | intro _ | apply onward_ite | split)

theorem onward_shankError {z s : State} (hz : z.Onward s) (x : Nat) (y : Nat) (cured : Bool) : z.Onward (s.shankError x y cured) := by
  unfold State.shankError
  repeat' with_reducible (first | assumption | apply onward_bump | apply onward_occAt | apply onward_put | apply onward_ite | split)

theorem onward_reasmDrop {z s : State} (hz : z.Onward s)  : z.Onward (State.reasmDrop s) := by
  unfold State.reasmDrop
  repeat' with_reducible (first | assumption | apply onward_bump)

theorem onward_mctpBridge {z s : State} (hz : z.Onward s) (path : Nat) (sw : Nat) (src : Nat) (dst : Nat) (tag : Nat) (body : List Byte) : z.Onward (s.mctpBridge path sw src dst tag body) := by
  unfold State.mctpBridge
  try dsimp only
  repeat' with_reducible (first | assumption | apply onward_bump | apply onward_enqueue | apply onward_setMgt | intro _ | apply onward_ite | split)

theorem onward_mctpWhole {z s : State} (hz : z.Onward s) (src : Nat) (tag : Nat) : z.Onward (s.mctpWhole src tag) := by
  unfold State.mctpWhole
  try dsimp only
  repeat' with_reducible (first | assumption | apply onward_reasmDrop | apply onward_setMgt | intro _ | apply onward_ite | split)

theorem onward_mctpPacket {z s : State} (hz : z.Onward s) (path : Nat) (src : Nat) (dst : Nat) (tag : Nat) (ty : Nat) (som : Bool) (eom : Bool) (body : List Byte) : z.Onward (s.mctpPacket path src dst tag ty som eom body) := by
  unfold State.mctpPacket
  try dsimp only
  repeat' with_reducible (first | assumption | apply onward_bump | apply onward_mctpBridge | apply onward_mctpWhole | apply onward_reasmDrop | apply onward_setMgt | intro _ | apply onward_ite | split)

theorem onward_answer {z s : State} (hz : z.Onward s) (eid : Nat) (tag : Nat) (ty : Nat) (cmd : Nat) (cc : Nat) (body : List Byte) : z.Onward (s.answer eid tag ty cmd cc body) := by
  unfold State.answer
  try dsimp only
  repeat' with_reducible (first | assumption | apply onward_send | apply onward_setMgt | intro _)

theorem onward_request {z s : State} (hz : z.Onward s) (eid : Nat) (tag : Nat) (ty : Nat) (cmd : Nat) (recovery : Bool) (f : State → State) (hf : ∀ t, z.Onward t → z.Onward (f t)) : z.Onward (s.request eid tag ty cmd recovery f) := by
  unfold State.request
  repeat' with_reducible (first | assumption | apply onward_answer | apply hf | apply onward_ite | split)

theorem onward_fwRequest {z s : State} (hz : z.Onward s) (eid : Nat) (tag : Nat) (i : Instr) (f : State → State) (hf : ∀ t, z.Onward t → z.Onward (f t)) : z.Onward (s.fwRequest eid tag i f) := by
  unfold State.fwRequest
  repeat' with_reducible (first | assumption | apply onward_firmware | apply onward_reasmDrop | apply hf | apply onward_ite | split)

theorem onward_setEid {z s : State} (hz : z.Onward s) (path : Nat) (eid : Nat) (tag : Nat) (new : Nat) : z.Onward (s.setEid path eid tag new) := by
  unfold State.setEid
  try dsimp only
  repeat' with_reducible (first | assumption | apply onward_answer | apply onward_put | apply onward_request | apply onward_send | apply onward_setMgt | intro _ | apply onward_ite | split)

theorem onward_allocEids {z s : State} (hz : z.Onward s) (path : Nat) (base : Nat) (n : Nat) : z.Onward (s.allocEids path base n) := by
  unfold State.allocEids
  try dsimp only
  repeat' with_reducible (first | assumption | apply onward_put | apply onward_setMgt | intro _ | apply onward_ite | split)

theorem onward_getEid {z s : State} (hz : z.Onward s) (path : Nat) (eid : Nat) (tag : Nat) : z.Onward (s.getEid path eid tag) := by
  unfold State.getEid
  try dsimp only
  repeat' with_reducible (first | assumption | apply onward_answer | apply onward_request | intro _)

theorem onward_getMctpVersion {z s : State} (hz : z.Onward s) (eid : Nat) (tag : Nat) : z.Onward (s.getMctpVersion eid tag) := by
  unfold State.getMctpVersion
  try dsimp only
  repeat' with_reducible (first | assumption | apply onward_answer | apply onward_request | apply onward_usedFree | intro _)

theorem onward_getMctpTypes {z s : State} (hz : z.Onward s) (eid : Nat) (tag : Nat) : z.Onward (s.getMctpTypes eid tag) := by
  unfold State.getMctpTypes
  try dsimp only
  repeat' with_reducible (first | assumption | apply onward_answer | apply onward_request | intro _)

theorem onward_getMctpVendor {z s : State} (hz : z.Onward s) (eid : Nat) (tag : Nat) : z.Onward (s.getMctpVendor eid tag) := by
  unfold State.getMctpVendor
  try dsimp only
  repeat' with_reducible (first | assumption | apply onward_answer | apply onward_request | apply onward_usedFree | intro _)

theorem onward_routingUpdate {z s : State} (hz : z.Onward s) (eid : Nat) (tag : Nat) : z.Onward (s.routingUpdate eid tag) := by
  unfold State.routingUpdate
  try dsimp only
  repeat' with_reducible (first | assumption | apply onward_answer | apply onward_request | intro _)

theorem onward_mctpArrive {z s : State} (hz : z.Onward s) (m : Msg) : z.Onward (s.mctpArrive m) := by
  unfold State.mctpArrive
  try dsimp only
  repeat' with_reducible (first | assumption | apply onward_enqueue | apply onward_mctpWhole | apply onward_send | apply onward_setMgt | intro _ | apply onward_ite | split)

theorem onward_vendor {z s : State} (hz : z.Onward s) (eid : Nat) (tag : Nat) (cmd : Nat) (cc : Nat) (body : List Byte) : z.Onward (s.vendor eid tag cmd cc body) := by
  unfold State.vendor
  repeat' with_reducible (first | assumption | apply onward_answer)

theorem onward_csrCheck {z s : State} (hz : z.Onward s) (slot : Nat) (o : Nat) (n : Nat) (k : Nat) : z.Onward (s.csrCheck slot o n k).1 := by
  unfold State.csrCheck
  try dsimp only
  repeat' with_reducible (first | assumption | apply onward_violate | apply onward_ite | split)

theorem onward_csrCheck_eq {z s t : State} {slot : Nat} {o : Nat} {n : Nat} {k : Nat} {r} (e : (State.csrCheck s slot o n k) = (t, r)) (hz : z.Onward s) : z.Onward t := by
  have g := onward_csrCheck hz slot o n k
  rw [e] at g
  exact g

theorem onward_readRegs {z : State} (p : Path) (slot o w n : Nat) :
    ∀ {s : State}, z.Onward s → ∀ (acc : List Byte) (i : Nat), z.Onward (s.readRegs p slot o w acc i n).1 := by
  induction n with
  | zero => intro s h acc i; exact h
  | succ k ih =>
    intro s h acc i
    unfold State.readRegs
    dsimp only
    split
    · exact ih (onward_csrRead (onward_csrCheck_eq (by assumption) h) _ _) _ _
    · exact onward_csrCheck_eq (by assumption) h

theorem onward_writeRegs {z : State} (p : Path) (slot o : Nat) (l : List Word) :
    ∀ {s : State}, z.Onward s → ∀ (i : Nat), z.Onward (s.writeRegs p slot o i l).1 := by
  induction l with
  | nil => intro s h i; exact h
  | cons v vs ih =>
    intro s h i
    unfold State.writeRegs
    split
    · exact ih (onward_csrWrite (onward_csrCheck_eq (by assumption) h) _ _ _) _
    · exact onward_csrCheck_eq (by assumption) h

theorem onward_vendorRead {z s : State} (hz : z.Onward s) (eid : Nat) (tag : Nat) (off : Nat) (width : Nat) (n : Nat) : z.Onward (s.vendorRead eid tag off width n) := by
  unfold State.vendorRead
  try dsimp only
  repeat' with_reducible (first | assumption | apply onward_readRegs | apply onward_request | apply onward_setLas | apply onward_vendor | refine onward_readRegs_eq (by assumption) ?_ | intro _ | apply onward_ite | split)

theorem onward_vendorWrite {z s : State} (hz : z.Onward s) (eid : Nat) (sw : Nat) (tag : Nat) (off : Nat) (width : Nat) (vals : List Word) : z.Onward (s.vendorWrite eid sw tag off width vals) := by
  unfold State.vendorWrite
  try dsimp only
  repeat' with_reducible (first | assumption | apply onward_ownerAccept | apply onward_request | apply onward_vendor | apply onward_writeDone | apply onward_writeRegs | refine onward_ownerAccept_eq (by assumption) ?_ | refine onward_writeRegs_eq (by assumption) ?_ | intro _ | apply onward_ite | split)

theorem onward_lastXfer {z s : State} (hz : z.Onward s) (eid : Nat) (sw : Nat) (tag : Nat) (len : Nat) (off : Nat) (data : List Byte) : z.Onward (s.lastXfer eid sw tag len off data) := by
  unfold State.lastXfer
  try dsimp only
  repeat' with_reducible (first | assumption | apply onward_insWrite | apply onward_ownerAccept | apply onward_request | apply onward_vendor | apply onward_violate | refine onward_ownerAccept_eq (by assumption) ?_ | intro _ | apply onward_ite | split)

theorem onward_secRelay {z s : State} (hz : z.Onward s) (eid : Nat) (sw : Nat) (tag : Nat) (r : SecRec) : z.Onward (s.secRelay eid sw tag r) := by
  unfold State.secRelay
  try dsimp only
  repeat' with_reducible (first | assumption | apply onward_ownerAccept | apply onward_request | apply onward_secCmd | apply onward_vendor | refine onward_ownerAccept_eq (by assumption) ?_ | intro _ | apply onward_ite | split)

theorem onward_eventReplay {z s : State} (hz : z.Onward s) (eid : Nat) (tag : Nat) (first : Nat) (n : Nat) : z.Onward (s.eventReplay eid tag first n) := by
  unfold State.eventReplay
  try dsimp only
  repeat' with_reducible (first | assumption | apply onward_request | apply onward_vendor | intro _ | apply onward_ite | split)

theorem onward_moduleInfo {z s : State} (hz : z.Onward s) (eid : Nat) (tag : Nat) : z.Onward (s.moduleInfo eid tag) := by
  unfold State.moduleInfo
  try dsimp only
  repeat' with_reducible (first | assumption | apply onward_request | apply onward_usedFree | apply onward_vendor | intro _ | apply onward_ite | split)

theorem onward_recoveryBoot {z s : State} (hz : z.Onward s) (eid : Nat) (tag : Nat) (img : Nat) : z.Onward (s.recoveryBoot eid tag img) := by
  unfold State.recoveryBoot
  try dsimp only
  repeat' with_reducible (first | assumption | apply onward_bootFrom | apply onward_setFlt | apply onward_setLas | apply onward_vendor | intro _ | apply onward_ite | split)

theorem onward_setDbg {z s : State} (hz : z.Onward s) (d : Option (Nat × Nat)) : z.Onward (s.setDbg d) := by
  unfold State.setDbg
  try dsimp only
  repeat' with_reducible (first | assumption | apply onward_put | apply onward_setMgt | intro _ | apply onward_ite | split)

theorem onward_dbgOpen {z s : State} (hz : z.Onward s) (path : Nat) (eid : Nat) (tag : Nat) : z.Onward (s.dbgOpen path eid tag) := by
  unfold State.dbgOpen
  try dsimp only
  repeat' with_reducible (first | assumption | apply onward_put | apply onward_setDbg | apply onward_vendor | apply onward_ite | split)

theorem onward_dbgClose {z s : State} (hz : z.Onward s) (path : Nat) (eid : Nat) (tag : Nat) : z.Onward (s.dbgClose path eid tag) := by
  unfold State.dbgClose
  repeat' with_reducible (first | assumption | apply onward_setDbg | apply onward_vendor | apply onward_ite | split)

theorem onward_dbgTimeout {z s : State} (hz : z.Onward s)  : z.Onward (State.dbgTimeout s) := by
  unfold State.dbgTimeout
  repeat' with_reducible (first | assumption | apply onward_setDbg | apply onward_ite | split)

theorem onward_dbgDeny {z s : State} (hz : z.Onward s) (addr : Nat) : z.Onward (s.dbgDeny addr) := by
  unfold State.dbgDeny
  repeat' with_reducible (first | assumption | apply onward_bump | apply onward_put)

theorem onward_dbgIssue {z s : State} (hz : z.Onward s) (d : DbgRun) : z.Onward (s.dbgIssue d) := by
  unfold State.dbgIssue
  try dsimp only
  repeat' with_reducible (first | assumption | apply onward_ingress | apply onward_setMgt | intro _ | apply onward_ite | split)

theorem onward_dbgAccess {z s : State} (hz : z.Onward s) (path eid tag : Nat) (write : Bool) (sp ident len addr : Nat) (data : List Byte) :
    z.Onward (s.dbgAccess path eid tag write sp ident len addr data) := by
  unfold State.dbgAccess
  extract_lets s1 k sl src m v lr c ws r1 r2
  have g1 : z.Onward s1 := onward_setDbg hz _
  have gw : z.Onward r1.1 := onward_writeRegs _ _ _ _ g1 _
  have gr : z.Onward r2.1 := onward_readRegs _ _ _ _ _ g1 _ _
  clear_value r2 r1 ws c lr v m src sl k s1
  refine onward_ite (hz) ?_
  refine onward_ite (onward_vendor hz _ _ _ _ _) ?_
  refine onward_ite (onward_vendor hz _ _ _ _ _) ?_
  refine onward_ite (onward_vendor g1 _ _ _ _ _) ?_
  refine onward_ite (onward_vendor g1 _ _ _ _ _) ?_
  refine onward_ite (onward_vendor g1 _ _ _ _ _) ?_
  refine onward_ite (onward_vendor (onward_dbgDeny (onward_violate g1 _) _) _ _ _ _ _) ?_
  refine onward_ite (onward_vendor (onward_dbgDeny (onward_violate g1 _) _) _ _ _ _ _) ?_
  refine onward_ite (onward_ite (onward_vendor g1 _ _ _ _ _) (onward_ite (onward_setLas g1 _) (onward_ite ?_ ?_))) (onward_settle (onward_dbgIssue g1 _))
  · apply onward_writeDone
    split <;> exact onward_vendor gw _ _ _ _ _
  · split <;> exact onward_vendor gr _ _ _ _ _

theorem onward_dbgAnswer {z s : State} (hz : z.Onward s) (m : Msg) : z.Onward (s.dbgAnswer m) := by
  unfold State.dbgAnswer
  try dsimp only
  repeat' with_reducible (first | assumption | apply onward_dbgDeny | apply onward_dbgIssue | apply onward_setMgt | apply onward_usedFree | apply onward_vendor | intro _ | apply onward_ite | split)

theorem onward_fmAnswer {z s : State} (hz : z.Onward s) (eid : Nat) (cmd : Nat) (cc : Nat) (body : List Byte) : z.Onward (s.fmAnswer eid cmd cc body) := by
  unfold State.fmAnswer
  repeat' with_reducible (first | assumption | apply onward_send)

theorem onward_fmServed {z s : State} (hz : z.Onward s) (eid : Nat) (cmd : Nat) (f : State → State) (hf : ∀ t, z.Onward t → z.Onward (f t)) : z.Onward (s.fmServed eid cmd f) := by
  unfold State.fmServed
  repeat' with_reducible (first | assumption | apply onward_fmAnswer | apply hf | apply onward_ite | split)

theorem onward_fmOwned {z s : State} (hz : z.Onward s) (eid : Nat) (sw : Nat) (cmd : Nat) (f : State → State) (hf : ∀ t, z.Onward t → z.Onward (f t)) : z.Onward (s.fmOwned eid sw cmd f) := by
  unfold State.fmOwned
  try dsimp only
  repeat' with_reducible (first | assumption | apply onward_fmAnswer | apply onward_fmServed | apply onward_ownerAccept | refine onward_ownerAccept_eq (by assumption) ?_ | intro _ | apply hf | apply onward_ite | split)

theorem onward_fmPort {z s : State} (hz : z.Onward s) (eid : Nat) (sw : Nat) (n : Nat) (op : Nat) : z.Onward (s.fmPort eid sw n op) := by
  unfold State.fmPort
  try dsimp only
  repeat' with_reducible (first | assumption | apply onward_fmAnswer | apply onward_fmOwned | apply onward_portCmdWrite | intro _ | apply onward_ite | split)

theorem onward_fmBind {z s : State} (hz : z.Onward s) (eid : Nat) (sw : Nat) (v : Nat) (b : Bound) : z.Onward (s.fmBind eid sw v b) := by
  unfold State.fmBind
  try dsimp only
  repeat' with_reducible (first | assumption | apply onward_bindCmd | apply onward_fmAnswer | apply onward_fmOwned | refine onward_bindCmd_eq (by assumption) ?_ | intro _ | apply onward_ite | split)

theorem onward_fmUnbind {z s : State} (hz : z.Onward s) (eid : Nat) (sw : Nat) (v : Nat) (umode : Nat) : z.Onward (s.fmUnbind eid sw v umode) := by
  unfold State.fmUnbind
  try dsimp only
  repeat' with_reducible (first | assumption | apply onward_fmAnswer | apply onward_fmOwned | apply onward_unbindCmd | refine onward_unbindCmd_eq (by assumption) ?_ | intro _ | apply onward_ite | split)

theorem onward_fmAer {z s : State} (hz : z.Onward s) (eid : Nat) (v : Nat) (err : Nat) : z.Onward (s.fmAer eid v err) := by
  unfold State.fmAer
  try dsimp only
  repeat' with_reducible (first | assumption | apply onward_fmAnswer | apply onward_fmServed | apply onward_send | intro _ | split)

theorem onward_fmConfig {z s : State} (hz : z.Onward s) (eid : Nat) (n : Nat) (rg : Nat) (write : Bool) (val : Nat) (len : Nat) : z.Onward (s.fmConfig eid n rg write val len) := by
  unfold State.fmConfig
  try dsimp only
  repeat' with_reducible (first | assumption | apply onward_enqueue | apply onward_fmAnswer | apply onward_fmServed | apply onward_setMgt | apply onward_settle | intro _ | apply onward_ite | split)

theorem onward_fmTunnel {z s : State} (hz : z.Onward s) (eid : Nat) (n : Nat) (ld : Nat) (body : List Byte) : z.Onward (s.fmTunnel eid n ld body) := by
  unfold State.fmTunnel
  try dsimp only
  repeat' with_reducible (first | assumption | apply onward_fmAnswer | apply onward_fmServed | apply onward_send | intro _ | apply onward_ite | split)

theorem onward_fmDcd {z s : State} (hz : z.Onward s) (eid : Nat) (sw : Nat) (obj : Nat) (ext : Nat) (add : Bool) (n : Nat) : z.Onward (s.fmDcd eid sw obj ext add n) := by
  unfold State.fmDcd
  try dsimp only
  repeat' with_reducible (first | assumption | apply onward_dcdTry | apply onward_each | apply onward_fmAnswer | apply onward_fmOwned | apply onward_put | apply onward_setBnd | apply onward_setLas | intro _ | apply onward_ite | split)

theorem onward_barRead {z : State} (b n : Nat) :
    ∀ {s : State}, z.Onward s → ∀ (acc : List Byte) (i : Nat), z.Onward (s.barRead b acc i n).1 := by
  induction n with
  | zero => intro s h acc i; exact h
  | succ k ih => intro s h acc i; exact ih (onward_csrRead h _ _) _ _

theorem onward_barAccess {z s : State} (hz : z.Onward s) (m : Msg) : z.Onward (s.barAccess m) := by
  unfold State.barAccess
  try dsimp only
  repeat' with_reducible (first | assumption | apply onward_accepted | apply onward_barRead | apply onward_csrRead | apply onward_csrWrite | apply onward_each | apply onward_respond | apply onward_writeDone | refine onward_barRead_eq (by assumption) ?_ | refine onward_csrRead_eq (by assumption) ?_ | intro _ | apply onward_ite | split)

theorem onward_clickerTakes {z s : State} (hz : z.Onward s) (m : Msg) : z.Onward (s.clickerTakes m) := by
  unfold State.clickerTakes
  try dsimp only
  repeat' with_reducible (first | assumption | apply onward_barAccess | apply onward_coreAnswer | apply onward_fmAnswer | apply onward_mctpArrive | apply onward_respond | apply onward_setMgt | intro _ | apply onward_ite | split)

theorem onward_clickerStep {z s : State} (hz : z.Onward s)  : z.Onward (State.clickerStep s) := by
  unfold State.clickerStep
  try dsimp only
  repeat' with_reducible (first | assumption | apply onward_clickerTakes | apply onward_dbgAnswer | apply onward_each | apply onward_setSole | intro _ | apply onward_ite | split)

theorem onward_heldJobsRun {z s : State} (hz : z.Onward s)  : z.Onward (State.heldJobsRun s) := by
  unfold State.heldJobsRun
  try dsimp only
  repeat' with_reducible (first | assumption | apply onward_dbgAccess | apply onward_each | apply onward_pathRead | apply onward_setLas | apply onward_vendorRead | intro _ | apply onward_ite | split)

theorem onward_heldRelease {z s : State} (hz : z.Onward s)  : z.Onward (State.heldRelease s) := by
  unfold State.heldRelease
  repeat' with_reducible (first | assumption | apply onward_grpDone | apply onward_heldJobsRun | apply onward_heldWrites | apply onward_writeDone)

theorem onward_readCmd {z s : State} (hz : z.Onward s) (p : Path) (o : Nat) : z.Onward (s.readCmd p o) := by
  unfold State.readCmd
  try dsimp only
  repeat' with_reducible (first | assumption | apply onward_pathRead | apply onward_setLas | intro _ | apply onward_ite | split)

theorem onward_commitEnd {z s : State} (hz : z.Onward s)  : z.Onward (State.commitEnd s) := by
  unfold State.commitEnd
  repeat' with_reducible (first | assumption | apply onward_commitDone | apply onward_heldArms | apply onward_heldJobsRun | apply onward_heldWrites | apply onward_writeDone)

theorem onward_lookAgain {z s : State} (hz : z.Onward s) (l : List (Nat × Msg)) : z.Onward (s.lookAgain l) := by
  unfold State.lookAgain
  try dsimp only
  repeat' with_reducible (first | assumption | apply onward_each | apply onward_homeIssue | apply onward_tierStep | intro _ | apply onward_ite | split)

theorem onward_remapFilled {z s : State} (hz : z.Onward s) (rng : Nat) (gran : Nat) (out : Nat) : z.Onward (s.remapFilled rng gran out) := by
  unfold State.remapFilled
  try dsimp only
  repeat' with_reducible (first | assumption | apply onward_lookAgain | apply onward_remapFill | apply onward_writeDone | refine onward_remapFill_eq (by assumption) ?_)

theorem onward_insReadDone {z s : State} (hz : z.Onward s) (ch : Nat) (client : Nat) (out : Nat) : z.Onward (s.insReadDone ch client out) := by
  unfold State.insReadDone
  try dsimp only
  repeat' with_reducible (first | assumption | apply onward_eccRead | apply onward_homeReadDone | apply onward_poolReadDone | apply onward_settle | apply onward_writeDone | refine onward_eccRead_eq (by assumption) ?_ | split)

theorem onward_migrationStart {z s : State} (hz : z.Onward s)  : z.Onward (State.migrationStart s) := by
  unfold State.migrationStart
  try dsimp only
  repeat' with_reducible (first | assumption | apply onward_each | apply onward_migIssue | apply onward_migNext | apply onward_writeDone | intro _)

theorem onward_migrationDrained {z s : State} (hz : z.Onward s) (rng : Nat) (gran : Nat) : z.Onward (s.migrationDrained rng gran) := by
  unfold State.migrationDrained
  repeat' with_reducible (first | assumption | apply onward_migDrained | apply onward_migIssue | apply onward_writeDone)

theorem onward_migFill {z s : State} (hz : z.Onward s) (g : Mig) (data : List Byte) (poison : Bool) : z.Onward (s.migFill g data poison) := by
  unfold State.migFill
  try dsimp only
  repeat' with_reducible (first | assumption | apply onward_each | apply onward_insWrite | intro _)

theorem onward_migrationCopied {z s : State} (hz : z.Onward s) (rng : Nat) (gran : Nat) (ok : Bool) (data : List Byte) (poison : Bool) : z.Onward (s.migrationCopied rng gran ok data poison) := by
  unfold State.migrationCopied
  repeat' with_reducible (first | assumption | apply onward_migAbandon | apply onward_migFill | apply onward_migSwitch | apply onward_send | apply onward_writeDone | refine onward_migAbandon_eq (by assumption) ?_ | refine onward_migSwitch_eq (by assumption) ?_ | apply onward_releaseHeld | apply onward_ite | split)

theorem onward_cleanEnd {z s : State} (hz : z.Onward s) (sh : Nat) : z.Onward (s.cleanEnd sh) := by
  unfold State.cleanEnd
  try dsimp only
  repeat' with_reducible (first | assumption | apply onward_event | apply onward_gpfStep | apply onward_setShelf | apply onward_shelfParking | apply onward_writeDone | (refine onward_setIns ?_ _ (by rfl)) | intro _ | apply onward_ite | split)

theorem onward_fwRun {z s : State} (hz : z.Onward s) (sh : Nat) (i : Instr) : z.Onward (s.fwRun sh i) := by
  unfold State.fwRun
  repeat' with_reducible (first | assumption | apply onward_dbgAccess | apply onward_dbgClose | apply onward_dbgOpen | apply onward_discoveryDone | apply onward_eventReplay | apply onward_fmAer | apply onward_fmBind | apply onward_fmConfig | apply onward_fmDcd | apply onward_fmPort | apply onward_fmTunnel | apply onward_fmUnbind | apply onward_getEid | apply onward_getMctpTypes | apply onward_getMctpVendor | apply onward_getMctpVersion | apply onward_lastXfer | apply onward_moduleInfo | apply onward_routingUpdate | apply onward_secRelay | apply onward_setEid | apply onward_shelfCmd | apply onward_shelfIdlePark | apply onward_shelfParkAck | apply onward_shelfWakeDone | apply onward_spdmAlgs | apply onward_spdmCert | apply onward_spdmChallenge | apply onward_spdmFinish | apply onward_spdmGetCaps | apply onward_spdmGetVersion | apply onward_spdmKeyEx | apply onward_spdmMeas | split)

theorem onward_fwResume {z s : State} (hz : z.Onward s)  : z.Onward (State.fwResume s) := by
  unfold State.fwResume
  try dsimp only
  repeat' with_reducible (first | assumption | apply onward_each | apply onward_fwRun | apply onward_setMgt | apply onward_shelfParking | intro _)

theorem onward_restartDone {z s : State} (hz : z.Onward s)  : z.Onward (State.restartDone s) := by
  unfold State.restartDone
  repeat' with_reducible (first | assumption | apply onward_fwResume | apply onward_restartLoaded | apply onward_ite | split)

theorem onward_coherentArrival {z s : State} (hz : z.Onward s) (h : Nat) (id : Nat) (ecc : Nat) : z.Onward (s.coherentArrival h id ecc) := by
  unfold State.coherentArrival
  repeat' with_reducible (first | assumption | apply onward_homeArrive | apply onward_homeSettle | apply onward_uncross | apply onward_writeDone | apply onward_ite | split)

theorem onward_snoopArrival {z s : State} (hz : z.Onward s) (h : Nat) (id : Nat) : z.Onward (s.snoopArrival h id) := by
  unfold State.snoopArrival
  repeat' with_reducible (first | assumption | apply onward_homeSettle | apply onward_snoopRsp | apply onward_uncross | apply onward_writeDone | apply onward_ite | split)

theorem onward_conflictArrival {z s : State} (hz : z.Onward s) (h : Nat) (id : Nat) : z.Onward (s.conflictArrival h id) := by
  unfold State.conflictArrival
  repeat' with_reducible (first | assumption | apply onward_biConflict | apply onward_uncross | apply onward_writeDone | apply onward_ite | split)

theorem onward_lanesFollow {z s0 s : State} (h : z.Onward s) (b : Nat) : z.Onward (State.lanesFollow s0 s b) := by
  unfold State.lanesFollow
  dsimp only
  split
  · exact onward_settle h
  · apply onward_settle
    apply onward_each
    · intro t x g; exact onward_laceStep (onward_mlTryInit (onward_syncRx g _) _) _
    · apply onward_each
      · intro t x g; exact onward_mlLaneLost g _ _
      · exact h

theorem onward_detectDone {z s : State} (hz : z.Onward s) (b : Nat) (l : Nat) : z.Onward (s.detectDone b l) := by
  unfold State.detectDone
  try dsimp only
  repeat' with_reducible (first | assumption | apply onward_attemptFail | apply onward_attemptStart | apply onward_laneDetected | apply onward_settle | apply onward_ite | split)

theorem onward_detectTimeout {z s : State} (hz : z.Onward s) (b : Nat) (l : Nat) : z.Onward (s.detectTimeout b l) := by
  unfold State.detectTimeout
  try dsimp only
  repeat' with_reducible (first | assumption | apply onward_attemptFail | apply onward_laneUndetected | apply onward_portDetect | apply onward_settle | intro _ | apply onward_ite | split)

theorem onward_bankLinksDown {z s : State} (hz : z.Onward s) (b : Nat) : z.Onward (s.bankLinksDown b) := by
  unfold State.bankLinksDown
  try dsimp only
  repeat' with_reducible (first | assumption | apply onward_each | apply onward_ltssmDetect | apply onward_mlLanesLost | apply onward_mlStart | intro _ | apply onward_ite | split)

theorem onward_bankTrains {z s : State} (hz : z.Onward s) (b : Nat) : z.Onward (s.bankTrains b) := by
  unfold State.bankTrains
  try dsimp only
  repeat' with_reducible (first | assumption | apply onward_each | apply onward_lanesTrain | apply onward_mlTrainOn | apply onward_portDetect | intro _ | apply onward_ite | split)

theorem onward_pllUnlock {z s : State} (hz : z.Onward s) (b : Nat) : z.Onward (s.pllUnlock b) := by
  unfold State.pllUnlock
  repeat' with_reducible (first | assumption | apply onward_bankLinksDown | apply onward_pllLost | apply onward_writeDone | apply onward_ite | split)

theorem onward_pllRetried {z s : State} (hz : z.Onward s) (b : Nat) (locked : Bool) : z.Onward (s.pllRetried b locked) := by
  unfold State.pllRetried
  try dsimp only
  repeat' with_reducible (first | assumption | apply onward_bankLinksDown | apply onward_bankTrains | apply onward_pllRelock | apply onward_writeDone | apply onward_ite | split)

theorem onward_bankReady {z s : State} (hz : z.Onward s) (b : Nat) (pllOk calOk : Bool) : z.Onward (s.bankReady b pllOk calOk) := by
  unfold State.bankReady
  try dsimp only
  repeat' with_reducible (first | assumption | apply onward_applyMissed | apply onward_bankFault | apply onward_bankUp | apply onward_each | apply onward_mlBankReady | apply onward_portDetect | apply onward_settle | apply onward_writeDone | intro _ | apply onward_ite | split)

theorem onward_flitArrive {z s : State} (hz : z.Onward s) (m : Nat) (ok : Bool) (corr : Nat) (unc : Nat) (h : FlitHdr) (ids : List Nat) (msgs : List Msg) : z.Onward (s.flitArrive m ok corr unc h ids msgs) := by
  unfold State.flitArrive
  try dsimp only
  repeat' with_reducible (first | assumption | apply onward_each | apply onward_flitRx | apply onward_ingress | apply onward_writeDone | refine onward_flitRx_eq (by assumption) ?_ | intro _)

theorem onward_fenceArrive {z s : State} (hz : z.Onward s) (m : Nat) (x : Msg) : z.Onward (s.fenceArrive m x) := by
  unfold State.fenceArrive
  repeat' with_reducible (first | assumption | apply onward_ingress | apply onward_writeDone | apply onward_ite | split)

theorem onward_secondaryReset {z s : State} (hz : z.Onward s) (n : Nat) (vs : Nat) (k : Nat) : z.Onward (s.secondaryReset n vs k) := by
  unfold State.secondaryReset
  repeat' with_reducible (first | assumption | apply onward_busReset | split)

theorem onward_migsLost {z s : State} (hz : z.Onward s) (n : Nat) : z.Onward (s.migsLost n) := by
  unfold State.migsLost
  try dsimp only
  repeat' with_reducible (first | assumption | apply onward_each | apply onward_migAbandon | refine onward_migAbandon_eq (by assumption) ?_ | apply onward_releaseHeld | intro _)

theorem onward_lossDeclared {z s : State} (hz : z.Onward s) (n : Nat) : z.Onward (s.lossDeclared n) := by
  unfold State.lossDeclared
  try dsimp only
  repeat' with_reducible (first | assumption | apply onward_lossAll | apply onward_migsLost | apply onward_setSec | apply onward_vampLoss | apply onward_writeDone | intro _ | apply onward_ite | split)

theorem onward_ideFailed {z s : State} (hz : z.Onward s) (n : Nat) (stream : Nat) : z.Onward (s.ideFailed n stream) := by
  unfold State.ideFailed
  try dsimp only
  repeat' with_reducible (first | assumption | apply onward_ideMacFail | apply onward_setSec | apply onward_settle | intro _ | apply onward_ite | split)

theorem onward_blockedArrive {z s : State} (hz : z.Onward s) (n : Nat) (m0 : Msg) : z.Onward (s.blockedArrive n m0) := by
  unfold State.blockedArrive
  try dsimp only
  repeat' with_reducible (first | assumption | apply onward_memLostNotice | apply onward_occ | apply onward_postedDrop | apply onward_send | intro _ | split)

theorem onward_requestArrival {z s : State} (hz : z.Onward s) (n : Nat) (r : Route) (m : Msg) : z.Onward (s.requestArrival n r m) := by
  unfold State.requestArrival
  repeat' with_reducible (first | assumption | apply onward_portRecovery | apply onward_arrive | apply onward_blockedArrive | apply onward_settle | apply onward_writeDone | apply onward_ite | split)

theorem onward_cellTimeAll {z s : State} (hz : z.Onward s) (ecc : List Nat) : z.Onward (s.cellTimeAll ecc) := by
  unfold State.cellTimeAll
  repeat' with_reducible (first | assumption | apply onward_cellTime | apply onward_clickerStep | apply onward_cobStep | apply onward_writeDone)

theorem onward_vampTakes {z s : State} (hz : z.Onward s) (id : Nat) (kind : Msg → Bool) (f : State → Msg → State) (hf : ∀ t x, z.Onward t → z.Onward (f t x)) : z.Onward (s.vampTakes id kind f) := by
  unfold State.vampTakes
  repeat' with_reducible (first | assumption | apply onward_uncross | apply onward_writeDone | apply hf | apply onward_ite | split)

theorem onward_vampMessage {z s : State} (hz : z.Onward s) (id : Nat) (kind : Nat) (rtid : Nat) (tag : Nat) : z.Onward (s.vampMessage id kind rtid tag) := by
  unfold State.vampMessage
  try dsimp only
  repeat' with_reducible (first | assumption | apply onward_vampMsg | apply onward_vampTakes | intro _)

theorem onward_noticeRx {z s : State} (hz : z.Onward s) (id : Nat) : z.Onward (s.noticeRx id) := by
  unfold State.noticeRx
  try dsimp only
  repeat' with_reducible (first | assumption | apply onward_setSole | intro _)

end Sys2Proof.Machine
end

