-- ==== Sys2Proof/Laws/Kept.lean ====
section
/-!
SUPPORT. What every command keeps: one lemma per meaning, from the lemmas of the operations it calls.
-/
namespace Sys2Proof.Machine
set_option Elab.async false
open Sys2Proof
set_option linter.unusedTactic false
set_option linter.unreachableTactic false
set_option linter.unnecessarySeqFocus false

theorem onward_execRegisterWrite {s t : State} {p off v} (h0 : execRegisterWrite p off v s = .next t) : s.Onward t := by
  unfold execRegisterWrite at h0
  rw [(within_next h0).2]
  have g := State.Onward.refl s
  repeat' with_reducible (first | assumption | apply onward_pathWrite | intro _ | apply onward_ite | split)

theorem onward_execLoReadSnapshot {s t : State} {p off} (h0 : execLoReadSnapshot p off s = .next t) : s.Onward t := by
  unfold execLoReadSnapshot at h0
  rw [(within_next h0).2]
  have g := State.Onward.refl s
  repeat' with_reducible (first | assumption | apply onward_readCmd | intro _ | apply onward_ite | split)

theorem onward_execLoWriteHold {s t : State} {p off v} (h0 : execLoWriteHold p off v s = .next t) : s.Onward t := by
  unfold execLoWriteHold at h0
  rw [(within_next h0).2]
  have g := State.Onward.refl s
  repeat' with_reducible (first | assumption | apply onward_pathWrite | intro _ | apply onward_ite | split)

theorem onward_execHiWriteApply {s t : State} {p off v} (h0 : execHiWriteApply p off v s = .next t) : s.Onward t := by
  unfold execHiWriteApply at h0
  rw [(within_next h0).2]
  have g := State.Onward.refl s
  repeat' with_reducible (first | assumption | apply onward_pathWrite | intro _ | apply onward_ite | split)

theorem onward_execStickyBitClear {s t : State} {p off v} (h0 : execStickyBitClear p off v s = .next t) : s.Onward t := by
  unfold execStickyBitClear at h0
  rw [(within_next h0).2]
  have g := State.Onward.refl s
  repeat' with_reducible (first | assumption | apply onward_pathWrite | intro _ | apply onward_ite | split)

theorem onward_execStitchBoundary {s t : State} {smp} (h0 : execStitchBoundary smp s = .next t) : s.Onward t := by
  unfold execStitchBoundary at h0
  rw [← Host.Outcome.next.inj h0]
  have g := State.Onward.refl s
  repeat' with_reducible (first | assumption | apply onward_boundary | intro _ | apply onward_ite | split)

theorem onward_execStitchRun {s t : State} {p v} (h0 : execStitchRun p v s = .next t) : s.Onward t := by
  unfold execStitchRun at h0
  rw [(within_next h0).2]
  have g := State.Onward.refl s
  repeat' with_reducible (first | assumption | apply onward_pathWrite | intro _ | apply onward_ite | split)

theorem onward_execSwapArm {s t : State} {p v} (h0 : execSwapArm p v s = .next t) : s.Onward t := by
  unfold execSwapArm at h0
  rw [(within_next h0).2]
  have g := State.Onward.refl s
  repeat' with_reducible (first | assumption | apply onward_pathWrite | intro _ | apply onward_ite | split)

theorem onward_execSwapDisarm {s t : State} {p v} (h0 : execSwapDisarm p v s = .next t) : s.Onward t := by
  unfold execSwapDisarm at h0
  rw [(within_next h0).2]
  have g := State.Onward.refl s
  repeat' with_reducible (first | assumption | apply onward_pathWrite | intro _ | apply onward_ite | split)

theorem onward_execSwapApply {s t : State} {g unit} (h0 : execSwapApply g unit s = .next t) : s.Onward t := by
  unfold execSwapApply at h0
  rw [(within_next h0).2]
  have g := State.Onward.refl s
  repeat' with_reducible (first | assumption | apply onward_swapApply | apply onward_writeDone | intro _ | apply onward_ite | split)

theorem onward_execArmStateRx {s t : State} {g unit} (h0 : execArmStateRx g unit s = .next t) : s.Onward t := by
  unfold execArmStateRx at h0
  rw [(within_next h0).2]
  have g := State.Onward.refl s
  repeat' with_reducible (first | assumption | apply onward_armRx | intro _ | apply onward_ite | split)

theorem onward_execSwapLateApply {s t : State} {g unit} (h0 : execSwapLateApply g unit s = .next t) : s.Onward t := by
  unfold execSwapLateApply at h0
  rw [(within_next h0).2]
  have g := State.Onward.refl s
  repeat' with_reducible (first | assumption | apply onward_swapLate | apply onward_writeDone | intro _ | apply onward_ite | split)

theorem onward_execStitchMarkerRx {s t : State} {m mk rootOfs arrival} (h0 : execStitchMarkerRx m mk rootOfs arrival s = .next t) : s.Onward t := by
  unfold execStitchMarkerRx at h0
  rw [(within_next h0).2]
  have g := State.Onward.refl s
  repeat' with_reducible (first | assumption | apply onward_markerRx | intro _ | apply onward_ite | split)

theorem onward_execAlignAcquired {s t : State} (h0 : execAlignAcquired  s = .next t) : s.Onward t := by
  unfold execAlignAcquired at h0
  rw [← Host.Outcome.next.inj h0]
  have g := State.Onward.refl s
  repeat' with_reducible (first | assumption | apply onward_alignAcquired | apply onward_settle | intro _ | apply onward_ite | split)

theorem onward_execAlignLost {s t : State} (h0 : execAlignLost  s = .next t) : s.Onward t := by
  unfold execAlignLost at h0
  rw [← Host.Outcome.next.inj h0]
  have g := State.Onward.refl s
  repeat' with_reducible (first | assumption | apply onward_alignLost | apply onward_settle | intro _ | apply onward_ite | split)

theorem onward_execSourceLost {s t : State} (h0 : execSourceLost  s = .next t) : s.Onward t := by
  unfold execSourceLost at h0
  rw [← Host.Outcome.next.inj h0]
  have g := State.Onward.refl s
  repeat' with_reducible (first | assumption | apply onward_settle | apply onward_sourceLost | intro _ | apply onward_ite | split)

theorem onward_execHoldoverExpiry {s t : State} (h0 : execHoldoverExpiry  s = .next t) : s.Onward t := by
  unfold execHoldoverExpiry at h0
  rw [← Host.Outcome.next.inj h0]
  have g := State.Onward.refl s
  repeat' with_reducible (first | assumption | apply onward_holdExpiry | apply onward_settle | intro _ | apply onward_ite | split)

theorem onward_execBackupRootTakeover {s t : State} (h0 : execBackupRootTakeover  s = .next t) : s.Onward t := by
  unfold execBackupRootTakeover at h0
  rw [← Host.Outcome.next.inj h0]
  have g := State.Onward.refl s
  repeat' with_reducible (first | assumption | apply onward_backupTakes | apply onward_settle | intro _ | apply onward_ite | split)

theorem onward_execStitchInPulse {s t : State} {long period ofs} (h0 : execStitchInPulse long period ofs s = .next t) : s.Onward t := by
  unfold execStitchInPulse at h0
  rw [← Host.Outcome.next.inj h0]
  have g := State.Onward.refl s
  repeat' with_reducible (first | assumption | apply onward_pinPulse | intro _ | apply onward_ite | split)

theorem onward_execEpochEnd {s t : State} {e} (h0 : execEpochEnd e s = .next t) : s.Onward t := by
  unfold execEpochEnd at h0
  rw [← Host.Outcome.next.inj h0]
  have g := State.Onward.refl s
  repeat' with_reducible (first | assumption | apply onward_epochEnd | apply onward_writeDone | intro _ | apply onward_ite | split)

theorem onward_execPerstAssert {s t : State} (h0 : execPerstAssert  s = .next t) : s.Onward t := by
  unfold execPerstAssert at h0
  rw [← Host.Outcome.next.inj h0]
  have g := State.Onward.refl s
  repeat' with_reducible (first | assumption | apply onward_perstAssert | intro _ | apply onward_ite | split)

theorem onward_execPerstRelease {s t : State} (h0 : execPerstRelease  s = .next t) : s.Onward t := by
  unfold execPerstRelease at h0
  rw [← Host.Outcome.next.inj h0]
  have g := State.Onward.refl s
  repeat' with_reducible (first | assumption | apply onward_perstRelease | intro _ | apply onward_ite | split)

theorem onward_execModuleResetCmd {s t : State} {p v} (h0 : execModuleResetCmd p v s = .next t) : s.Onward t := by
  unfold execModuleResetCmd at h0
  rw [(within_next h0).2]
  have g := State.Onward.refl s
  repeat' with_reducible (first | assumption | apply onward_pathWrite | intro _ | apply onward_ite | split)

theorem onward_execMgmtReset {s t : State} {p v} (h0 : execMgmtReset p v s = .next t) : s.Onward t := by
  unfold execMgmtReset at h0
  rw [(within_next h0).2]
  have g := State.Onward.refl s
  repeat' with_reducible (first | assumption | apply onward_pathWrite | intro _ | apply onward_ite | split)

theorem onward_execMgmtHoldWrite {s t : State} {p v} (h0 : execMgmtHoldWrite p v s = .next t) : s.Onward t := by
  unfold execMgmtHoldWrite at h0
  rw [(within_next h0).2]
  have g := State.Onward.refl s
  repeat' with_reducible (first | assumption | apply onward_pathWrite | intro _ | apply onward_ite | split)

theorem onward_execMgmtRestartDone {s t : State} (h0 : execMgmtRestartDone  s = .next t) : s.Onward t := by
  unfold execMgmtRestartDone at h0
  rw [← Host.Outcome.next.inj h0]
  have g := State.Onward.refl s
  repeat' with_reducible (first | assumption | apply onward_mgmtRestart | apply onward_writeDone | intro _ | apply onward_ite | split)

theorem onward_execModuleResetPulseEnd {s t : State} (h0 : execModuleResetPulseEnd  s = .next t) : s.Onward t := by
  unfold execModuleResetPulseEnd at h0
  rw [← Host.Outcome.next.inj h0]
  have g := State.Onward.refl s
  repeat' with_reducible (first | assumption | apply onward_pulseEnd | intro _ | apply onward_ite | split)

theorem onward_execAlwaysOnResetRelease {s t : State} (h0 : execAlwaysOnResetRelease  s = .next t) : s.Onward t := by
  unfold execAlwaysOnResetRelease at h0
  rw [← Host.Outcome.next.inj h0]
  have g := State.Onward.refl s
  repeat' with_reducible (first | assumption | apply onward_aonRelease | apply onward_settle | intro _ | apply onward_ite | split)

theorem onward_execPowerUpSelfTestDone {s t : State} {ok} (h0 : execPowerUpSelfTestDone ok s = .next t) : s.Onward t := by
  unfold execPowerUpSelfTestDone at h0
  rw [← Host.Outcome.next.inj h0]
  have g := State.Onward.refl s
  repeat' with_reducible (first | assumption | apply onward_powerUpTests | apply onward_settle | intro _ | apply onward_ite | split)

theorem onward_execCageResetRelease {s t : State} {b} (h0 : execCageResetRelease b s = .next t) : s.Onward t := by
  unfold execCageResetRelease at h0
  rw [(within_next h0).2]
  have g := State.Onward.refl s
  repeat' with_reducible (first | assumption | apply onward_cageRelease | intro _ | apply onward_ite | split)

theorem onward_execReadySend {s t : State} (h0 : execReadySend  s = .next t) : s.Onward t := by
  unfold execReadySend at h0
  rw [← Host.Outcome.next.inj h0]
  have g := State.Onward.refl s
  repeat' with_reducible (first | assumption | apply onward_readySend | apply onward_writeDone | intro _ | apply onward_ite | split)

theorem onward_execReadyLimitExpiry {s t : State} (h0 : execReadyLimitExpiry  s = .next t) : s.Onward t := by
  unfold execReadyLimitExpiry at h0
  rw [← Host.Outcome.next.inj h0]
  have g := State.Onward.refl s
  repeat' with_reducible (first | assumption | apply onward_readyLimit | apply onward_writeDone | intro _ | apply onward_ite | split)

theorem onward_execI3cEntdaa {s t : State} {addr} (h0 : execI3cEntdaa addr s = .next t) : s.Onward t := by
  unfold execI3cEntdaa at h0
  rw [← Host.Outcome.next.inj h0]
  have g := State.Onward.refl s
  repeat' with_reducible (first | assumption | apply onward_i3cEntdaa | intro _ | apply onward_ite | split)

theorem onward_execI3cRstdaa {s t : State} (h0 : execI3cRstdaa  s = .next t) : s.Onward t := by
  unfold execI3cRstdaa at h0
  rw [← Host.Outcome.next.inj h0]
  have g := State.Onward.refl s
  repeat' with_reducible (first | assumption | apply onward_i3cRstdaa | intro _ | apply onward_ite | split)

theorem onward_execI3cSetnewda {s t : State} {addr} (h0 : execI3cSetnewda addr s = .next t) : s.Onward t := by
  unfold execI3cSetnewda at h0
  rw [← Host.Outcome.next.inj h0]
  have g := State.Onward.refl s
  repeat' with_reducible (first | assumption | apply onward_i3cSetnewda | intro _ | apply onward_ite | split)

theorem onward_execI3cGetpid {s t : State} (h0 : execI3cGetpid  s = .next t) : s.Onward t := by
  unfold execI3cGetpid at h0
  rw [← Host.Outcome.next.inj h0]
  have g := State.Onward.refl s
  repeat' with_reducible (first | assumption | apply onward_i3cGet | intro _ | apply onward_ite | split)

theorem onward_execI3cGetbcr {s t : State} (h0 : execI3cGetbcr  s = .next t) : s.Onward t := by
  unfold execI3cGetbcr at h0
  rw [← Host.Outcome.next.inj h0]
  have g := State.Onward.refl s
  repeat' with_reducible (first | assumption | apply onward_i3cGet | intro _ | apply onward_ite | split)

theorem onward_execI3cGetdcr {s t : State} (h0 : execI3cGetdcr  s = .next t) : s.Onward t := by
  unfold execI3cGetdcr at h0
  rw [← Host.Outcome.next.inj h0]
  have g := State.Onward.refl s
  repeat' with_reducible (first | assumption | apply onward_i3cGet | intro _ | apply onward_ite | split)

theorem onward_execI3cGetmxds {s t : State} (h0 : execI3cGetmxds  s = .next t) : s.Onward t := by
  unfold execI3cGetmxds at h0
  rw [← Host.Outcome.next.inj h0]
  have g := State.Onward.refl s
  repeat' with_reducible (first | assumption | apply onward_i3cGet | intro _ | apply onward_ite | split)

theorem onward_execI3cEnec {s t : State} (h0 : execI3cEnec  s = .next t) : s.Onward t := by
  unfold execI3cEnec at h0
  rw [← Host.Outcome.next.inj h0]
  have g := State.Onward.refl s
  repeat' with_reducible (first | assumption | apply onward_i3cIbi | intro _ | apply onward_ite | split)

theorem onward_execI3cDisec {s t : State} (h0 : execI3cDisec  s = .next t) : s.Onward t := by
  unfold execI3cDisec at h0
  rw [← Host.Outcome.next.inj h0]
  have g := State.Onward.refl s
  repeat' with_reducible (first | assumption | apply onward_i3cIbi | intro _ | apply onward_ite | split)

theorem onward_execI3cSetmrl {s t : State} {n} (h0 : execI3cSetmrl n s = .next t) : s.Onward t := by
  unfold execI3cSetmrl at h0
  rw [← Host.Outcome.next.inj h0]
  have g := State.Onward.refl s
  repeat' with_reducible (first | assumption | apply onward_i3cLimit | intro _ | apply onward_ite | split)

theorem onward_execI3cSetmwl {s t : State} {n} (h0 : execI3cSetmwl n s = .next t) : s.Onward t := by
  unfold execI3cSetmwl at h0
  rw [← Host.Outcome.next.inj h0]
  have g := State.Onward.refl s
  repeat' with_reducible (first | assumption | apply onward_i3cLimit | intro _ | apply onward_ite | split)

theorem onward_execI3cHotJoin {s t : State} (h0 : execI3cHotJoin  s = .next t) : s.Onward t := by
  unfold execI3cHotJoin at h0
  rw [← Host.Outcome.next.inj h0]
  have g := State.Onward.refl s
  repeat' with_reducible (first | assumption | apply onward_i3cHotJoin | intro _ | apply onward_ite | split)

theorem onward_execDiscoveryComplete {s t : State} {n kind lds dcd xr sn vendor} (h0 : execDiscoveryComplete n kind lds dcd xr sn vendor s = .next t) : s.Onward t := by
  unfold execDiscoveryComplete at h0
  rw [(within_next h0).2]
  have g := State.Onward.refl s
  repeat' with_reducible (first | assumption | apply onward_firmware | apply onward_discoveryDone | apply onward_writeDone | intro _ | apply onward_ite | split)

theorem onward_execDiscoveryTimeout {s t : State} {n} (h0 : execDiscoveryTimeout n s = .next t) : s.Onward t := by
  unfold execDiscoveryTimeout at h0
  rw [(within_next h0).2]
  have g := State.Onward.refl s
  repeat' with_reducible (first | assumption | apply onward_discoveryTimeout | apply onward_settle | intro _ | apply onward_ite | split)

theorem onward_execBindCommand {s t : State} {p v} (h0 : execBindCommand p v s = .next t) : s.Onward t := by
  unfold execBindCommand at h0
  rw [(within_next h0).2]
  have g := State.Onward.refl s
  repeat' with_reducible (first | assumption | apply onward_pathWrite | intro _ | apply onward_ite | split)

theorem onward_execUnbindCommand {s t : State} {p v} (h0 : execUnbindCommand p v s = .next t) : s.Onward t := by
  unfold execUnbindCommand at h0
  rw [(within_next h0).2]
  have g := State.Onward.refl s
  repeat' with_reducible (first | assumption | apply onward_pathWrite | intro _ | apply onward_ite | split)

theorem onward_execBindApply {s t : State} (h0 : execBindApply  s = .next t) : s.Onward t := by
  unfold execBindApply at h0
  rw [← Host.Outcome.next.inj h0]
  have g := State.Onward.refl s
  repeat' with_reducible (first | assumption | apply onward_bindApply | apply onward_writeDone | intro _ | apply onward_ite | split)

theorem onward_execUnbindApply {s t : State} {v hostDown} (h0 : execUnbindApply v hostDown s = .next t) : s.Onward t := by
  unfold execUnbindApply at h0
  rw [(within_next h0).2]
  have g := State.Onward.refl s
  repeat' with_reducible (first | assumption | apply onward_unbindApply | apply onward_writeDone | intro _ | apply onward_ite | split)

theorem onward_execSliceReset {s t : State} {p v} (h0 : execSliceReset p v s = .next t) : s.Onward t := by
  unfold execSliceReset at h0
  rw [(within_next h0).2]
  have g := State.Onward.refl s
  repeat' with_reducible (first | assumption | apply onward_pathWrite | intro _ | apply onward_ite | split)

theorem onward_execSliceRemove {s t : State} {p v} (h0 : execSliceRemove p v s = .next t) : s.Onward t := by
  unfold execSliceRemove at h0
  rw [(within_next h0).2]
  have g := State.Onward.refl s
  repeat' with_reducible (first | assumption | apply onward_pathWrite | intro _ | apply onward_ite | split)

theorem onward_execSliceGate {s t : State} {sl} (h0 : execSliceGate sl s = .next t) : s.Onward t := by
  unfold execSliceGate at h0
  rw [(within_next h0).2]
  have g := State.Onward.refl s
  repeat' with_reducible (first | assumption | apply onward_slGate | apply onward_writeDone | intro _ | apply onward_ite | split)

theorem onward_execSliceDrainTimeout {s t : State} {sl} (h0 : execSliceDrainTimeout sl s = .next t) : s.Onward t := by
  unfold execSliceDrainTimeout at h0
  rw [(within_next h0).2]
  have g := State.Onward.refl s
  repeat' with_reducible (first | assumption | apply onward_slDrainTimeout | apply onward_writeDone | intro _ | apply onward_ite | split)

theorem onward_execSliceCmdEnd {s t : State} {sl} (h0 : execSliceCmdEnd sl s = .next t) : s.Onward t := by
  unfold execSliceCmdEnd at h0
  rw [(within_next h0).2]
  have g := State.Onward.refl s
  repeat' with_reducible (first | assumption | apply onward_slEnd | apply onward_writeDone | intro _ | apply onward_ite | split)

theorem onward_execDumpFrameWriteDone {s t : State} {ok} (h0 : execDumpFrameWriteDone ok s = .next t) : s.Onward t := by
  unfold execDumpFrameWriteDone at h0
  rw [← Host.Outcome.next.inj h0]
  have g := State.Onward.refl s
  repeat' with_reducible (first | assumption | apply onward_dumpDone | apply onward_writeDone | intro _ | apply onward_ite | split)

theorem onward_execWakeGrant {s t : State} (h0 : execWakeGrant  s = .next t) : s.Onward t := by
  unfold execWakeGrant at h0
  rw [← Host.Outcome.next.inj h0]
  have g := State.Onward.refl s
  repeat' with_reducible (first | assumption | apply onward_wakeGrant | intro _ | apply onward_ite | split)

theorem onward_execShelfPark {s t : State} {p v} (h0 : execShelfPark p v s = .next t) : s.Onward t := by
  unfold execShelfPark at h0
  rw [(within_next h0).2]
  have g := State.Onward.refl s
  repeat' with_reducible (first | assumption | apply onward_pathWrite | intro _ | apply onward_ite | split)

theorem onward_execShelfWake {s t : State} {p v} (h0 : execShelfWake p v s = .next t) : s.Onward t := by
  unfold execShelfWake at h0
  rw [(within_next h0).2]
  have g := State.Onward.refl s
  repeat' with_reducible (first | assumption | apply onward_pathWrite | intro _ | apply onward_ite | split)

theorem onward_execShelfIdlePark {s t : State} {sh} (h0 : execShelfIdlePark sh s = .next t) : s.Onward t := by
  unfold execShelfIdlePark at h0
  rw [(within_next h0).2]
  have g := State.Onward.refl s
  repeat' with_reducible (first | assumption | apply onward_firmware | apply onward_shelfIdlePark | apply onward_writeDone | intro _ | apply onward_ite | split)

theorem onward_execShelfParkAck {s t : State} {sh} (h0 : execShelfParkAck sh s = .next t) : s.Onward t := by
  unfold execShelfParkAck at h0
  rw [(within_next h0).2]
  have g := State.Onward.refl s
  repeat' with_reducible (first | assumption | apply onward_firmware | apply onward_shelfParkAck | intro _ | apply onward_ite | split)

theorem onward_execShelfParkTimeout {s t : State} {sh} (h0 : execShelfParkTimeout sh s = .next t) : s.Onward t := by
  unfold execShelfParkTimeout at h0
  rw [(within_next h0).2]
  have g := State.Onward.refl s
  repeat' with_reducible (first | assumption | apply onward_shelfParkTimeout | intro _ | apply onward_ite | split)

theorem onward_execShelfWakeDone {s t : State} {sh} (h0 : execShelfWakeDone sh s = .next t) : s.Onward t := by
  unfold execShelfWakeDone at h0
  rw [(within_next h0).2]
  have g := State.Onward.refl s
  repeat' with_reducible (first | assumption | apply onward_firmware | apply onward_shelfWakeDone | apply onward_writeDone | intro _ | apply onward_ite | split)

theorem onward_execShelfWakeTimeout {s t : State} {sh} (h0 : execShelfWakeTimeout sh s = .next t) : s.Onward t := by
  unfold execShelfWakeTimeout at h0
  rw [(within_next h0).2]
  have g := State.Onward.refl s
  repeat' with_reducible (first | assumption | apply onward_shelfWakeTimeout | apply onward_writeDone | intro _ | apply onward_ite | split)

theorem onward_execUnitRelease {s t : State} {kind unit} (h0 : execUnitRelease kind unit s = .next t) : s.Onward t := by
  unfold execUnitRelease at h0
  rw [← Host.Outcome.next.inj h0]
  have g := State.Onward.refl s
  repeat' with_reducible (first | assumption | apply onward_unitRelease | apply onward_writeDone | intro _ | apply onward_ite | split)

theorem onward_execWarmRestart {s t : State} {p v} (h0 : execWarmRestart p v s = .next t) : s.Onward t := by
  unfold execWarmRestart at h0
  rw [(within_next h0).2]
  have g := State.Onward.refl s
  repeat' with_reducible (first | assumption | apply onward_pathWrite | intro _ | apply onward_ite | split)

theorem onward_execRestartVerifyDone {s t : State} {ok svn} (h0 : execRestartVerifyDone ok svn s = .next t) : s.Onward t := by
  unfold execRestartVerifyDone at h0
  rw [← Host.Outcome.next.inj h0]
  have g := State.Onward.refl s
  repeat' with_reducible (first | assumption | apply onward_restartVerified | intro _ | apply onward_ite | split)

theorem onward_execRestartLoadDone {s t : State} (h0 : execRestartLoadDone  s = .next t) : s.Onward t := by
  unfold execRestartLoadDone at h0
  rw [← Host.Outcome.next.inj h0]
  have g := State.Onward.refl s
  repeat' with_reducible (first | assumption | apply onward_restartDone | apply onward_restartLoaded | apply onward_writeDone | intro _ | apply onward_ite | split)

theorem onward_execRestartConfirmTimeout {s t : State} (h0 : execRestartConfirmTimeout  s = .next t) : s.Onward t := by
  unfold execRestartConfirmTimeout at h0
  rw [← Host.Outcome.next.inj h0]
  have g := State.Onward.refl s
  repeat' with_reducible (first | assumption | apply onward_restartRevert | apply onward_settle | intro _ | apply onward_ite | split)

theorem onward_execPowerdownGo {s t : State} {p v} (h0 : execPowerdownGo p v s = .next t) : s.Onward t := by
  unfold execPowerdownGo at h0
  rw [(within_next h0).2]
  have g := State.Onward.refl s
  repeat' with_reducible (first | assumption | apply onward_pathWrite | intro _ | apply onward_ite | split)

theorem onward_execPowerdownAbort {s t : State} {p v} (h0 : execPowerdownAbort p v s = .next t) : s.Onward t := by
  unfold execPowerdownAbort at h0
  rw [(within_next h0).2]
  have g := State.Onward.refl s
  repeat' with_reducible (first | assumption | apply onward_pathWrite | intro _ | apply onward_ite | split)

theorem onward_execPwrdnDrainDone {s t : State} (h0 : execPwrdnDrainDone  s = .next t) : s.Onward t := by
  unfold execPwrdnDrainDone at h0
  rw [← Host.Outcome.next.inj h0]
  have g := State.Onward.refl s
  repeat' with_reducible (first | assumption | apply onward_pdDrained | apply onward_writeDone | intro _ | apply onward_ite | split)

theorem onward_execPwrdnDrainTimeout {s t : State} (h0 : execPwrdnDrainTimeout  s = .next t) : s.Onward t := by
  unfold execPwrdnDrainTimeout at h0
  rw [← Host.Outcome.next.inj h0]
  have g := State.Onward.refl s
  repeat' with_reducible (first | assumption | apply onward_pdDrainTimeout | apply onward_writeDone | intro _ | apply onward_ite | split)

theorem onward_execPwrdnCleanDone {s t : State} (h0 : execPwrdnCleanDone  s = .next t) : s.Onward t := by
  unfold execPwrdnCleanDone at h0
  rw [← Host.Outcome.next.inj h0]
  have g := State.Onward.refl s
  repeat' with_reducible (first | assumption | apply onward_pdCleanDone | apply onward_writeDone | intro _ | apply onward_ite | split)

theorem onward_execPwrdnCleanTimeout {s t : State} (h0 : execPwrdnCleanTimeout  s = .next t) : s.Onward t := by
  unfold execPwrdnCleanTimeout at h0
  rw [← Host.Outcome.next.inj h0]
  have g := State.Onward.refl s
  repeat' with_reducible (first | assumption | apply onward_pdCleanTimeout | apply onward_writeDone | intro _ | apply onward_ite | split)

theorem onward_execPwrdnGpfDone {s t : State} (h0 : execPwrdnGpfDone  s = .next t) : s.Onward t := by
  unfold execPwrdnGpfDone at h0
  rw [← Host.Outcome.next.inj h0]
  have g := State.Onward.refl s
  repeat' with_reducible (first | assumption | apply onward_pdGpfDone | apply onward_writeDone | intro _ | apply onward_ite | split)

theorem onward_execGpfPhase1Request {s t : State} {n} (h0 : execGpfPhase1Request n s = .next t) : s.Onward t := by
  unfold execGpfPhase1Request at h0
  rw [(within_next h0).2]
  have g := State.Onward.refl s
  repeat' with_reducible (first | assumption | apply onward_gpfPhase1 | intro _ | apply onward_ite | split)

theorem onward_execGpfPhase2Request {s t : State} {n} (h0 : execGpfPhase2Request n s = .next t) : s.Onward t := by
  unfold execGpfPhase2Request at h0
  rw [(within_next h0).2]
  have g := State.Onward.refl s
  repeat' with_reducible (first | assumption | apply onward_gpfPhase2 | apply onward_writeDone | intro _ | apply onward_ite | split)

theorem onward_execGpfP2Timeout {s t : State} {n} (h0 : execGpfP2Timeout n s = .next t) : s.Onward t := by
  unfold execGpfP2Timeout at h0
  rw [(within_next h0).2]
  have g := State.Onward.refl s
  repeat' with_reducible (first | assumption | apply onward_gpfTimeout | apply onward_settle | intro _ | apply onward_ite | split)

theorem onward_execGpfPartnerComplete {s t : State} {n} (h0 : execGpfPartnerComplete n s = .next t) : s.Onward t := by
  unfold execGpfPartnerComplete at h0
  rw [(within_next h0).2]
  have g := State.Onward.refl s
  repeat' with_reducible (first | assumption | apply onward_gpfAnswer | intro _ | apply onward_ite | split)

theorem onward_execInsoleRequest {s t : State} {ch} (h0 : execInsoleRequest ch s = .next t) : s.Onward t := by
  unfold execInsoleRequest at h0
  rw [(within_next h0).2]
  have g := State.Onward.refl s
  repeat' with_reducible (first | assumption | apply onward_insServe | apply onward_writeDone | intro _ | apply onward_ite | split)

theorem onward_execInsoleReadDone {s t : State} {ch client out} (h0 : execInsoleReadDone ch client out s = .next t) : s.Onward t := by
  unfold execInsoleReadDone at h0
  rw [(within_next h0).2]
  have g := State.Onward.refl s
  repeat' with_reducible (first | assumption | apply onward_insReadDone | intro _ | apply onward_ite | split)

theorem onward_execInsoleStartupDone {s t : State} {trained} (h0 : execInsoleStartupDone trained s = .next t) : s.Onward t := by
  unfold execInsoleStartupDone at h0
  rw [← Host.Outcome.next.inj h0]
  have g := State.Onward.refl s
  repeat' with_reducible (first | assumption | apply onward_insoleStarted | apply onward_writeDone | intro _ | apply onward_ite | split)

theorem onward_execChannelFault {s t : State} {ch} (h0 : execChannelFault ch s = .next t) : s.Onward t := by
  unfold execChannelFault at h0
  rw [(within_next h0).2]
  have g := State.Onward.refl s
  repeat' with_reducible (first | assumption | apply onward_occ | apply onward_writeDone | intro _ | apply onward_ite | split)

theorem onward_execTagWriteGo {s t : State} {p v} (h0 : execTagWriteGo p v s = .next t) : s.Onward t := by
  unfold execTagWriteGo at h0
  rw [(within_next h0).2]
  have g := State.Onward.refl s
  repeat' with_reducible (first | assumption | apply onward_pathWrite | intro _ | apply onward_ite | split)

theorem onward_execTagCacheFillDone {s t : State} {line out} (h0 : execTagCacheFillDone line out s = .next t) : s.Onward t := by
  unfold execTagCacheFillDone at h0
  rw [← Host.Outcome.next.inj h0]
  have g := State.Onward.refl s
  repeat' with_reducible (first | assumption | apply onward_tagFilled | apply onward_writeDone | intro _ | apply onward_ite | split)

theorem onward_execRemapFillDone {s t : State} {rng gran out} (h0 : execRemapFillDone rng gran out s = .next t) : s.Onward t := by
  unfold execRemapFillDone at h0
  rw [← Host.Outcome.next.inj h0]
  have g := State.Onward.refl s
  repeat' with_reducible (first | assumption | apply onward_remapFilled | intro _ | apply onward_ite | split)

theorem onward_execHeatScanEnd {s t : State} (h0 : execHeatScanEnd  s = .next t) : s.Onward t := by
  unfold execHeatScanEnd at h0
  rw [← Host.Outcome.next.inj h0]
  have g := State.Onward.refl s
  repeat' with_reducible (first | assumption | apply onward_scanDone | intro _ | apply onward_ite | split)

theorem onward_execMigrationStart {s t : State} (h0 : execMigrationStart  s = .next t) : s.Onward t := by
  unfold execMigrationStart at h0
  rw [← Host.Outcome.next.inj h0]
  have g := State.Onward.refl s
  repeat' with_reducible (first | assumption | apply onward_migrationStart | intro _ | apply onward_ite | split)

theorem onward_execMigrationWritesDrained {s t : State} {rng gran} (h0 : execMigrationWritesDrained rng gran s = .next t) : s.Onward t := by
  unfold execMigrationWritesDrained at h0
  rw [← Host.Outcome.next.inj h0]
  have g := State.Onward.refl s
  repeat' with_reducible (first | assumption | apply onward_migrationDrained | intro _ | apply onward_ite | split)

theorem onward_execMigrationCopyDone {s t : State} {rng gran ok data poison} (h0 : execMigrationCopyDone rng gran ok data poison s = .next t) : s.Onward t := by
  unfold execMigrationCopyDone at h0
  rw [← Host.Outcome.next.inj h0]
  have g := State.Onward.refl s
  repeat' with_reducible (first | assumption | apply onward_migrationCopied | intro _ | apply onward_ite | split)

theorem onward_execFrameFree {s t : State} {frame} (h0 : execFrameFree frame s = .next t) : s.Onward t := by
  unfold execFrameFree at h0
  rw [← Host.Outcome.next.inj h0]
  have g := State.Onward.refl s
  repeat' with_reducible (first | assumption | apply onward_frameFreeDone | apply onward_writeDone | intro _ | apply onward_ite | split)

theorem onward_execGcmdPromote {s t : State} {p v} (h0 : execGcmdPromote p v s = .next t) : s.Onward t := by
  unfold execGcmdPromote at h0
  rw [(within_next h0).2]
  have g := State.Onward.refl s
  repeat' with_reducible (first | assumption | apply onward_pathWrite | intro _ | apply onward_ite | split)

theorem onward_execGcmdDemote {s t : State} {p v} (h0 : execGcmdDemote p v s = .next t) : s.Onward t := by
  unfold execGcmdDemote at h0
  rw [(within_next h0).2]
  have g := State.Onward.refl s
  repeat' with_reducible (first | assumption | apply onward_pathWrite | intro _ | apply onward_ite | split)

theorem onward_execGcmdPin {s t : State} {p v} (h0 : execGcmdPin p v s = .next t) : s.Onward t := by
  unfold execGcmdPin at h0
  rw [(within_next h0).2]
  have g := State.Onward.refl s
  repeat' with_reducible (first | assumption | apply onward_pathWrite | intro _ | apply onward_ite | split)

theorem onward_execGcmdUnpin {s t : State} {p v} (h0 : execGcmdUnpin p v s = .next t) : s.Onward t := by
  unfold execGcmdUnpin at h0
  rw [(within_next h0).2]
  have g := State.Onward.refl s
  repeat' with_reducible (first | assumption | apply onward_pathWrite | intro _ | apply onward_ite | split)

theorem onward_execGcmdReset {s t : State} {p v} (h0 : execGcmdReset p v s = .next t) : s.Onward t := by
  unfold execGcmdReset at h0
  rw [(within_next h0).2]
  have g := State.Onward.refl s
  repeat' with_reducible (first | assumption | apply onward_pathWrite | intro _ | apply onward_ite | split)

theorem onward_execShelfClean {s t : State} {p v} (h0 : execShelfClean p v s = .next t) : s.Onward t := by
  unfold execShelfClean at h0
  rw [(within_next h0).2]
  have g := State.Onward.refl s
  repeat' with_reducible (first | assumption | apply onward_pathWrite | intro _ | apply onward_ite | split)

theorem onward_execShelfRelease {s t : State} {p v} (h0 : execShelfRelease p v s = .next t) : s.Onward t := by
  unfold execShelfRelease at h0
  rw [(within_next h0).2]
  have g := State.Onward.refl s
  repeat' with_reducible (first | assumption | apply onward_pathWrite | intro _ | apply onward_ite | split)

theorem onward_execCleaningPassEnd {s t : State} {sh} (h0 : execCleaningPassEnd sh s = .next t) : s.Onward t := by
  unfold execCleaningPassEnd at h0
  rw [(within_next h0).2]
  have g := State.Onward.refl s
  repeat' with_reducible (first | assumption | apply onward_cleanEnd | intro _ | apply onward_ite | split)

theorem onward_execQpEnable {s t : State} {p v} (h0 : execQpEnable p v s = .next t) : s.Onward t := by
  unfold execQpEnable at h0
  rw [(within_next h0).2]
  have g := State.Onward.refl s
  repeat' with_reducible (first | assumption | apply onward_pathWrite | intro _ | apply onward_ite | split)

theorem onward_execQpDisable {s t : State} {p v} (h0 : execQpDisable p v s = .next t) : s.Onward t := by
  unfold execQpDisable at h0
  rw [(within_next h0).2]
  have g := State.Onward.refl s
  repeat' with_reducible (first | assumption | apply onward_pathWrite | intro _ | apply onward_ite | split)

theorem onward_execCobDoorbell {s t : State} {qp head v} (h0 : execCobDoorbell qp head v s = .next t) : s.Onward t := by
  unfold execCobDoorbell at h0
  rw [(within_next h0).2]
  have g := State.Onward.refl s
  repeat' with_reducible (first | assumption | apply onward_doorbell | intro _ | apply onward_ite | split)

theorem onward_execDescriptorFetchDone {s t : State} {qp ok data} (h0 : execDescriptorFetchDone qp ok data s = .next t) : s.Onward t := by
  unfold execDescriptorFetchDone at h0
  rw [(within_next h0).2]
  have g := State.Onward.refl s
  repeat' with_reducible (first | assumption | apply onward_descFetched | apply onward_settle | intro _ | apply onward_ite | split)

theorem onward_execDescriptorStart {s t : State} (h0 : execDescriptorStart  s = .next t) : s.Onward t := by
  unfold execDescriptorStart at h0
  rw [← Host.Outcome.next.inj h0]
  have g := State.Onward.refl s
  repeat' with_reducible (first | assumption | apply onward_descStart | intro _ | apply onward_ite | split)

theorem onward_execDescriptorComplete {s t : State} {qp ok} (h0 : execDescriptorComplete qp ok s = .next t) : s.Onward t := by
  unfold execDescriptorComplete at h0
  rw [(within_next h0).2]
  have g := State.Onward.refl s
  repeat' with_reducible (first | assumption | apply onward_descComplete | apply onward_writeDone | intro _ | apply onward_ite | split)

theorem onward_execCobDescTimeout {s t : State} {qp} (h0 : execCobDescTimeout qp s = .next t) : s.Onward t := by
  unfold execCobDescTimeout at h0
  rw [(within_next h0).2]
  have g := State.Onward.refl s
  repeat' with_reducible (first | assumption | apply onward_descTimeout | intro _ | apply onward_ite | split)

theorem onward_execLoadStart {s t : State} {p v} (h0 : execLoadStart p v s = .next t) : s.Onward t := by
  unfold execLoadStart at h0
  rw [(within_next h0).2]
  have g := State.Onward.refl s
  repeat' with_reducible (first | assumption | apply onward_pathWrite | intro _ | apply onward_ite | split)

theorem onward_execLoadAbort {s t : State} {p v} (h0 : execLoadAbort p v s = .next t) : s.Onward t := by
  unfold execLoadAbort at h0
  rw [(within_next h0).2]
  have g := State.Onward.refl s
  repeat' with_reducible (first | assumption | apply onward_pathWrite | intro _ | apply onward_ite | split)

theorem onward_execLoadFetchDone {s t : State} {srcErr} (h0 : execLoadFetchDone srcErr s = .next t) : s.Onward t := by
  unfold execLoadFetchDone at h0
  rw [← Host.Outcome.next.inj h0]
  have g := State.Onward.refl s
  repeat' with_reducible (first | assumption | apply onward_fetchDone | apply onward_settle | intro _ | apply onward_ite | split)

theorem onward_execLoadAuthDone {s t : State} {sigOk} (h0 : execLoadAuthDone sigOk s = .next t) : s.Onward t := by
  unfold execLoadAuthDone at h0
  rw [← Host.Outcome.next.inj h0]
  have g := State.Onward.refl s
  repeat' with_reducible (first | assumption | apply onward_authDone | apply onward_writeDone | intro _ | apply onward_ite | split)

theorem onward_execLoadCheckDone {s t : State} {srcErr digestOk} (h0 : execLoadCheckDone srcErr digestOk s = .next t) : s.Onward t := by
  unfold execLoadCheckDone at h0
  rw [← Host.Outcome.next.inj h0]
  have g := State.Onward.refl s
  repeat' with_reducible (first | assumption | apply onward_checkDone | apply onward_settle | intro _ | apply onward_ite | split)

theorem onward_execLoadCommitStart {s t : State} (h0 : execLoadCommitStart  s = .next t) : s.Onward t := by
  unfold execLoadCommitStart at h0
  rw [← Host.Outcome.next.inj h0]
  have g := State.Onward.refl s
  repeat' with_reducible (first | assumption | apply onward_commitStart | apply onward_writeDone | intro _ | apply onward_ite | split)

theorem onward_execLoadCommitDone {s t : State} (h0 : execLoadCommitDone  s = .next t) : s.Onward t := by
  unfold execLoadCommitDone at h0
  rw [← Host.Outcome.next.inj h0]
  have g := State.Onward.refl s
  repeat' with_reducible (first | assumption | apply onward_commitEnd | intro _ | apply onward_ite | split)

theorem onward_execHeldStgWriteRelease {s t : State} (h0 : execHeldStgWriteRelease  s = .next t) : s.Onward t := by
  unfold execHeldStgWriteRelease at h0
  rw [← Host.Outcome.next.inj h0]
  have g := State.Onward.refl s
  repeat' with_reducible (first | assumption | apply onward_heldRelease | intro _ | apply onward_ite | split)

theorem onward_execHeldArmRelease {s t : State} (h0 : execHeldArmRelease  s = .next t) : s.Onward t := by
  unfold execHeldArmRelease at h0
  rw [← Host.Outcome.next.inj h0]
  have g := State.Onward.refl s
  repeat' with_reducible (first | assumption | apply onward_heldArms | apply onward_writeDone | intro _ | apply onward_ite | split)

theorem onward_execFirmwareVerifyDone {s t : State} {ok svn} (h0 : execFirmwareVerifyDone ok svn s = .next t) : s.Onward t := by
  unfold execFirmwareVerifyDone at h0
  rw [← Host.Outcome.next.inj h0]
  have g := State.Onward.refl s
  repeat' with_reducible (first | assumption | apply onward_firmwareDone | apply onward_writeDone | intro _ | apply onward_ite | split)

theorem onward_execBootConfirm {s t : State} {p v} (h0 : execBootConfirm p v s = .next t) : s.Onward t := by
  unfold execBootConfirm at h0
  rw [(within_next h0).2]
  have g := State.Onward.refl s
  repeat' with_reducible (first | assumption | apply onward_pathWrite | intro _ | apply onward_ite | split)

theorem onward_execBootConfirmTimeout {s t : State} (h0 : execBootConfirmTimeout  s = .next t) : s.Onward t := by
  unfold execBootConfirmTimeout at h0
  rw [← Host.Outcome.next.inj h0]
  have g := State.Onward.refl s
  repeat' with_reducible (first | assumption | apply onward_confirmTimeout | apply onward_writeDone | intro _ | apply onward_ite | split)

theorem onward_execBootPrefWrite {s t : State} {p v} (h0 : execBootPrefWrite p v s = .next t) : s.Onward t := by
  unfold execBootPrefWrite at h0
  rw [(within_next h0).2]
  have g := State.Onward.refl s
  repeat' with_reducible (first | assumption | apply onward_pathWrite | intro _ | apply onward_ite | split)

theorem onward_execCoherentRequestArrival {s t : State} {h id ecc} (h0 : execCoherentRequestArrival h id ecc s = .next t) : s.Onward t := by
  unfold execCoherentRequestArrival at h0
  rw [(within_next h0).2]
  have g := State.Onward.refl s
  repeat' with_reducible (first | assumption | apply onward_coherentArrival | intro _ | apply onward_ite | split)

theorem onward_execDirSetFetchDone {s t : State} {h rgn line out} (h0 : execDirSetFetchDone h rgn line out s = .next t) : s.Onward t := by
  unfold execDirSetFetchDone at h0
  rw [(within_next h0).2]
  have g := State.Onward.refl s
  repeat' with_reducible (first | assumption | apply onward_dirFetched | apply onward_homeSettle | apply onward_writeDone | intro _ | apply onward_ite | split)

theorem onward_execHaMemoryResponse {s t : State} {h rgn line} (h0 : execHaMemoryResponse h rgn line s = .next t) : s.Onward t := by
  unfold execHaMemoryResponse at h0
  rw [(within_next h0).2]
  have g := State.Onward.refl s
  repeat' with_reducible (first | assumption | apply onward_homeMemRsp | apply onward_homeSettle | apply onward_writeDone | intro _ | apply onward_ite | split)

theorem onward_execSnoopResponseRx {s t : State} {h id} (h0 : execSnoopResponseRx h id s = .next t) : s.Onward t := by
  unfold execSnoopResponseRx at h0
  rw [(within_next h0).2]
  have g := State.Onward.refl s
  repeat' with_reducible (first | assumption | apply onward_snoopArrival | intro _ | apply onward_ite | split)

theorem onward_execBiconflictRx {s t : State} {h id} (h0 : execBiconflictRx h id s = .next t) : s.Onward t := by
  unfold execBiconflictRx at h0
  rw [(within_next h0).2]
  have g := State.Onward.refl s
  repeat' with_reducible (first | assumption | apply onward_conflictArrival | intro _ | apply onward_ite | split)

theorem onward_execTackTimeout {s t : State} {h rgn line} (h0 : execTackTimeout h rgn line s = .next t) : s.Onward t := by
  unfold execTackTimeout at h0
  rw [(within_next h0).2]
  have g := State.Onward.refl s
  repeat' with_reducible (first | assumption | apply onward_tackTimeout | apply onward_writeDone | intro _ | apply onward_ite | split)

theorem onward_execHoldWindowEnd {s t : State} {h rgn line} (h0 : execHoldWindowEnd h rgn line s = .next t) : s.Onward t := by
  unfold execHoldWindowEnd at h0
  rw [(within_next h0).2]
  have g := State.Onward.refl s
  repeat' with_reducible (first | assumption | apply onward_holdEnd | apply onward_writeDone | intro _ | apply onward_ite | split)

theorem onward_execConflictQueueAdmit {s t : State} {h} (h0 : execConflictQueueAdmit h s = .next t) : s.Onward t := by
  unfold execConflictQueueAdmit at h0
  rw [(within_next h0).2]
  have g := State.Onward.refl s
  repeat' with_reducible (first | assumption | apply onward_homeSettle | apply onward_queueAdmit | apply onward_writeDone | intro _ | apply onward_ite | split)

theorem onward_execEvictionTackGrant {s t : State} {h} (h0 : execEvictionTackGrant h s = .next t) : s.Onward t := by
  unfold execEvictionTackGrant at h0
  rw [(within_next h0).2]
  have g := State.Onward.refl s
  repeat' with_reducible (first | assumption | apply onward_homeSettle | apply onward_writeDone | intro _ | apply onward_ite | split)

theorem onward_execHaResumeClean {s t : State} {p h v} (h0 : execHaResumeClean p h v s = .next t) : s.Onward t := by
  unfold execHaResumeClean at h0
  rw [(within_next h0).2]
  have g := State.Onward.refl s
  repeat' with_reducible (first | assumption | apply onward_pathWrite | intro _ | apply onward_ite | split)

theorem onward_execHaDepartClear {s t : State} {p h v} (h0 : execHaDepartClear p h v s = .next t) : s.Onward t := by
  unfold execHaDepartClear at h0
  rw [(within_next h0).2]
  have g := State.Onward.refl s
  repeat' with_reducible (first | assumption | apply onward_pathWrite | intro _ | apply onward_ite | split)

theorem onward_execDepartureWalkEnd {s t : State} {h} (h0 : execDepartureWalkEnd h s = .next t) : s.Onward t := by
  unfold execDepartureWalkEnd at h0
  rw [(within_next h0).2]
  have g := State.Onward.refl s
  repeat' with_reducible (first | assumption | apply onward_walkDone | apply onward_writeDone | intro _ | apply onward_ite | split)

theorem onward_execLwtResend {s t : State} {id} (h0 : execLwtResend id s = .next t) : s.Onward t := by
  unfold execLwtResend at h0
  rw [← Host.Outcome.next.inj h0]
  have g := State.Onward.refl s
  repeat' with_reducible (first | assumption | apply onward_lwtResend | apply onward_writeDone | intro _ | apply onward_ite | split)

theorem onward_execLwtResendComplete {s t : State} {id} (h0 : execLwtResendComplete id s = .next t) : s.Onward t := by
  unfold execLwtResendComplete at h0
  rw [← Host.Outcome.next.inj h0]
  have g := State.Onward.refl s
  repeat' with_reducible (first | assumption | apply onward_lwtDone | apply onward_writeDone | intro _ | apply onward_ite | split)

theorem onward_execSnoopReissue {s t : State} {h} (h0 : execSnoopReissue h s = .next t) : s.Onward t := by
  unfold execSnoopReissue at h0
  rw [(within_next h0).2]
  have g := State.Onward.refl s
  repeat' with_reducible (first | assumption | apply onward_snoopReissue | apply onward_writeDone | intro _ | apply onward_ite | split)

theorem onward_execCoreDeviceLoad {s t : State} {c addr n acc} (h0 : execCoreDeviceLoad c addr n acc s = .next t) : s.Onward t := by
  unfold execCoreDeviceLoad at h0
  rw [(within_next h0).2]
  have g := State.Onward.refl s
  repeat' with_reducible (first | assumption | apply onward_coreLoad | apply onward_writeDone | intro _ | apply onward_ite | split)

theorem onward_execCoreDeviceStore {s t : State} {c addr n v} (h0 : execCoreDeviceStore c addr n v s = .next t) : s.Onward t := by
  unfold execCoreDeviceStore at h0
  rw [(within_next h0).2]
  have g := State.Onward.refl s
  repeat' with_reducible (first | assumption | apply onward_coreStore | apply onward_writeDone | intro _ | apply onward_ite | split)

theorem onward_execCoreFence {s t : State} {c ow ir} (h0 : execCoreFence c ow ir s = .next t) : s.Onward t := by
  unfold execCoreFence at h0
  rw [(within_next h0).2]
  have g := State.Onward.refl s
  repeat' with_reducible (first | assumption | apply onward_coreFence | intro _ | apply onward_ite | split)

theorem onward_execCoreTrap {s t : State} {c} (h0 : execCoreTrap c s = .next t) : s.Onward t := by
  unfold execCoreTrap at h0
  rw [(within_next h0).2]
  have g := State.Onward.refl s
  repeat' with_reducible (first | assumption | apply onward_coreTrap | intro _ | apply onward_ite | split)

theorem onward_execDeviceStoreComplete {s t : State} {c err late} (h0 : execDeviceStoreComplete c err late s = .next t) : s.Onward t := by
  unfold execDeviceStoreComplete at h0
  rw [(within_next h0).2]
  have g := State.Onward.refl s
  repeat' with_reducible (first | assumption | apply onward_storeDone | apply onward_writeDone | intro _ | apply onward_ite | split)

theorem onward_execDeviceLoadComplete {s t : State} {c err v late} (h0 : execDeviceLoadComplete c err v late s = .next t) : s.Onward t := by
  unfold execDeviceLoadComplete at h0
  rw [(within_next h0).2]
  have g := State.Onward.refl s
  repeat' with_reducible (first | assumption | apply onward_loadDone | apply onward_writeDone | intro _ | apply onward_ite | split)

theorem onward_execDeviceAccessTimeout {s t : State} {c} (h0 : execDeviceAccessTimeout c s = .next t) : s.Onward t := by
  unfold execDeviceAccessTimeout at h0
  rw [(within_next h0).2]
  have g := State.Onward.refl s
  repeat' with_reducible (first | assumption | apply onward_accessTimeout | apply onward_settle | intro _ | apply onward_ite | split)

theorem onward_execCoreReset {s t : State} {p c v} (h0 : execCoreReset p c v s = .next t) : s.Onward t := by
  unfold execCoreReset at h0
  rw [(within_next h0).2]
  have g := State.Onward.refl s
  repeat' with_reducible (first | assumption | apply onward_pathWrite | intro _ | apply onward_ite | split)

theorem onward_execCoreHoldWrite {s t : State} {p c v} (h0 : execCoreHoldWrite p c v s = .next t) : s.Onward t := by
  unfold execCoreHoldWrite at h0
  rw [(within_next h0).2]
  have g := State.Onward.refl s
  repeat' with_reducible (first | assumption | apply onward_pathWrite | intro _ | apply onward_ite | split)

theorem onward_execShankParityError {s t : State} {x y cured} (h0 : execShankParityError x y cured s = .next t) : s.Onward t := by
  unfold execShankParityError at h0
  rw [← Host.Outcome.next.inj h0]
  have g := State.Onward.refl s
  repeat' with_reducible (first | assumption | apply onward_settle | apply onward_shankError | intro _ | apply onward_ite | split)

theorem onward_execPortLinkUp {s t : State} {n rate width flit ver protos fmt lds bi} (h0 : execPortLinkUp n rate width flit ver protos fmt lds bi s = .next t) : s.Onward t := by
  unfold execPortLinkUp at h0
  rw [(within_next h0).2]
  have g := State.Onward.refl s
  repeat' with_reducible (first | assumption | apply onward_linkUpAll | apply onward_writeDone | intro _ | apply onward_ite | split)

theorem onward_execPortTrainTimeout {s t : State} {n} (h0 : execPortTrainTimeout n s = .next t) : s.Onward t := by
  unfold execPortTrainTimeout at h0
  rw [(within_next h0).2]
  have g := State.Onward.refl s
  repeat' with_reducible (first | assumption | apply onward_attemptTimeout | apply onward_settle | intro _ | apply onward_ite | split)

theorem onward_execPortLtssmDetect {s t : State} {n} (h0 : execPortLtssmDetect n s = .next t) : s.Onward t := by
  unfold execPortLtssmDetect at h0
  rw [(within_next h0).2]
  have g := State.Onward.refl s
  repeat' with_reducible (first | assumption | apply onward_ltssmDetect | apply onward_settle | intro _ | apply onward_ite | split)

theorem onward_execPortRecoveryEntry {s t : State} {n} (h0 : execPortRecoveryEntry n s = .next t) : s.Onward t := by
  unfold execPortRecoveryEntry at h0
  rw [(within_next h0).2]
  have g := State.Onward.refl s
  repeat' with_reducible (first | assumption | apply onward_portRecovery | intro _ | apply onward_ite | split)

theorem onward_execRecoveryWindowEnd {s t : State} {n} (h0 : execRecoveryWindowEnd n s = .next t) : s.Onward t := by
  unfold execRecoveryWindowEnd at h0
  rw [(within_next h0).2]
  have g := State.Onward.refl s
  repeat' with_reducible (first | assumption | apply onward_recoveryWindow | apply onward_settle | intro _ | apply onward_ite | split)

theorem onward_execXrEnableWrite {s t : State} {n en lopt} (h0 : execXrEnableWrite n en lopt s = .next t) : s.Onward t := by
  unfold execXrEnableWrite at h0
  rw [(within_next h0).2]
  have g := State.Onward.refl s
  repeat' with_reducible (first | assumption | apply onward_xrWrite | intro _ | apply onward_ite | split)

theorem onward_execXrAttemptFail {s t : State} {n} (h0 : execXrAttemptFail n s = .next t) : s.Onward t := by
  unfold execXrAttemptFail at h0
  rw [(within_next h0).2]
  have g := State.Onward.refl s
  repeat' with_reducible (first | assumption | apply onward_xrFail | intro _ | apply onward_ite | split)

theorem onward_execPortRetrain {s t : State} {p n v} (h0 : execPortRetrain p n v s = .next t) : s.Onward t := by
  unfold execPortRetrain at h0
  rw [(within_next h0).2]
  have g := State.Onward.refl s
  repeat' with_reducible (first | assumption | apply onward_pathWrite | intro _ | apply onward_ite | split)

theorem onward_execPortHotReset {s t : State} {p n v} (h0 : execPortHotReset p n v s = .next t) : s.Onward t := by
  unfold execPortHotReset at h0
  rw [(within_next h0).2]
  have g := State.Onward.refl s
  repeat' with_reducible (first | assumption | apply onward_pathWrite | intro _ | apply onward_ite | split)

theorem onward_execPortDisable {s t : State} {p n v} (h0 : execPortDisable p n v s = .next t) : s.Onward t := by
  unfold execPortDisable at h0
  rw [(within_next h0).2]
  have g := State.Onward.refl s
  repeat' with_reducible (first | assumption | apply onward_pathWrite | intro _ | apply onward_ite | split)

theorem onward_execHotResetReceived {s t : State} {n} (h0 : execHotResetReceived n s = .next t) : s.Onward t := by
  unfold execHotResetReceived at h0
  rw [(within_next h0).2]
  have g := State.Onward.refl s
  repeat' with_reducible (first | assumption | apply onward_hotReset | apply onward_writeDone | intro _ | apply onward_ite | split)

theorem onward_execSecondaryBusReset {s t : State} {n vs k} (h0 : execSecondaryBusReset n vs k s = .next t) : s.Onward t := by
  unfold execSecondaryBusReset at h0
  rw [(within_next h0).2]
  have g := State.Onward.refl s
  repeat' with_reducible (first | assumption | apply onward_secondaryReset | intro _ | apply onward_ite | split)

theorem onward_execNpCompletionRx {s t : State} {n msg} (h0 : execNpCompletionRx n msg s = .next t) : s.Onward t := by
  unfold execNpCompletionRx at h0
  rw [(within_next h0).2]
  have g := State.Onward.refl s
  repeat' with_reducible (first | assumption | apply onward_npArrive | apply onward_writeDone | intro _ | apply onward_ite | split)

theorem onward_execSwitchCplTimeout {s t : State} {n id} (h0 : execSwitchCplTimeout n id s = .next t) : s.Onward t := by
  unfold execSwitchCplTimeout at h0
  rw [(within_next h0).2]
  have g := State.Onward.refl s
  repeat' with_reducible (first | assumption | apply onward_cplTimeout | apply onward_writeDone | intro _ | apply onward_ite | split)

theorem onward_execHpLossTimeout {s t : State} {n} (h0 : execHpLossTimeout n s = .next t) : s.Onward t := by
  unfold execHpLossTimeout at h0
  rw [(within_next h0).2]
  have g := State.Onward.refl s
  repeat' with_reducible (first | assumption | apply onward_lossTimeout | intro _ | apply onward_ite | split)

theorem onward_execLinkLossDeclare {s t : State} {n} (h0 : execLinkLossDeclare n s = .next t) : s.Onward t := by
  unfold execLinkLossDeclare at h0
  rw [(within_next h0).2]
  have g := State.Onward.refl s
  repeat' with_reducible (first | assumption | apply onward_lossDeclared | intro _ | apply onward_ite | split)

theorem onward_execLinkLossComplete {s t : State} {n} (h0 : execLinkLossComplete n s = .next t) : s.Onward t := by
  unfold execLinkLossComplete at h0
  rw [(within_next h0).2]
  have g := State.Onward.refl s
  repeat' with_reducible (first | assumption | apply onward_lossComplete | intro _ | apply onward_ite | split)

theorem onward_execHpWaitExpiry {s t : State} {n} (h0 : execHpWaitExpiry n s = .next t) : s.Onward t := by
  unfold execHpWaitExpiry at h0
  rw [(within_next h0).2]
  have g := State.Onward.refl s
  repeat' with_reducible (first | assumption | apply onward_hpWaitEnd | intro _ | apply onward_ite | split)

theorem onward_execDrsReceived {s t : State} {n} (h0 : execDrsReceived n s = .next t) : s.Onward t := by
  unfold execDrsReceived at h0
  rw [(within_next h0).2]
  have g := State.Onward.refl s
  repeat' with_reducible (first | assumption | apply onward_hpWaitEnd | intro _ | apply onward_ite | split)

theorem onward_execIdeKeyProg {s t : State} {n stream ok} (h0 : execIdeKeyProg n stream ok s = .next t) : s.Onward t := by
  unfold execIdeKeyProg at h0
  rw [(within_next h0).2]
  have g := State.Onward.refl s
  repeat' with_reducible (first | assumption | apply onward_ideKeyProg | apply onward_settle | intro _ | apply onward_ite | split)

theorem onward_execIdeEstTimeout {s t : State} {n} (h0 : execIdeEstTimeout n s = .next t) : s.Onward t := by
  unfold execIdeEstTimeout at h0
  rw [(within_next h0).2]
  have g := State.Onward.refl s
  repeat' with_reducible (first | assumption | apply onward_ideLimit | apply onward_settle | intro _ | apply onward_ite | split)

theorem onward_execIdeMacFail {s t : State} {n stream} (h0 : execIdeMacFail n stream s = .next t) : s.Onward t := by
  unfold execIdeMacFail at h0
  rw [(within_next h0).2]
  have g := State.Onward.refl s
  repeat' with_reducible (first | assumption | apply onward_ideFailed | intro _ | apply onward_ite | split)

theorem onward_execIdeRekeyTimer {s t : State} {n} (h0 : execIdeRekeyTimer n s = .next t) : s.Onward t := by
  unfold execIdeRekeyTimer at h0
  rw [(within_next h0).2]
  have g := State.Onward.refl s
  repeat' with_reducible (first | assumption | apply onward_ideRekey | intro _ | apply onward_ite | split)

theorem onward_execMctpPacketRx {s t : State} {path src dst tag ty som eom body} (h0 : execMctpPacketRx path src dst tag ty som eom body s = .next t) : s.Onward t := by
  unfold execMctpPacketRx at h0
  rw [← Host.Outcome.next.inj h0]
  have g := State.Onward.refl s
  repeat' with_reducible (first | assumption | apply onward_mctpPacket | apply onward_writeDone | intro _ | apply onward_ite | split)

theorem onward_execSetEndpointId {s t : State} {path eid tag new} (h0 : execSetEndpointId path eid tag new s = .next t) : s.Onward t := by
  unfold execSetEndpointId at h0
  rw [← Host.Outcome.next.inj h0]
  have g := State.Onward.refl s
  repeat' with_reducible (first | assumption | apply onward_fwRequest | apply onward_setEid | intro _ | apply onward_ite | split)

theorem onward_execGetEndpointId {s t : State} {path eid tag} (h0 : execGetEndpointId path eid tag s = .next t) : s.Onward t := by
  unfold execGetEndpointId at h0
  rw [← Host.Outcome.next.inj h0]
  have g := State.Onward.refl s
  repeat' with_reducible (first | assumption | apply onward_fwRequest | apply onward_getEid | intro _ | apply onward_ite | split)

theorem onward_execGetMctpVersionSupport {s t : State} {path eid tag} (h0 : execGetMctpVersionSupport path eid tag s = .next t) : s.Onward t := by
  unfold execGetMctpVersionSupport at h0
  rw [← Host.Outcome.next.inj h0]
  have g := State.Onward.refl s
  repeat' with_reducible (first | assumption | apply onward_fwRequest | apply onward_getMctpVersion | intro _ | apply onward_ite | split)

theorem onward_execGetMessageTypeSupport {s t : State} {path eid tag} (h0 : execGetMessageTypeSupport path eid tag s = .next t) : s.Onward t := by
  unfold execGetMessageTypeSupport at h0
  rw [← Host.Outcome.next.inj h0]
  have g := State.Onward.refl s
  repeat' with_reducible (first | assumption | apply onward_fwRequest | apply onward_getMctpTypes | intro _ | apply onward_ite | split)

theorem onward_execGetVendorDefinedSupport {s t : State} {path eid tag} (h0 : execGetVendorDefinedSupport path eid tag s = .next t) : s.Onward t := by
  unfold execGetVendorDefinedSupport at h0
  rw [← Host.Outcome.next.inj h0]
  have g := State.Onward.refl s
  repeat' with_reducible (first | assumption | apply onward_fwRequest | apply onward_getMctpVendor | intro _ | apply onward_ite | split)

theorem onward_execAllocateEndpointIds {s t : State} {path base n} (h0 : execAllocateEndpointIds path base n s = .next t) : s.Onward t := by
  unfold execAllocateEndpointIds at h0
  rw [← Host.Outcome.next.inj h0]
  have g := State.Onward.refl s
  repeat' with_reducible (first | assumption | apply onward_allocEids | intro _ | apply onward_ite | split)

theorem onward_execRoutingInfoUpdate {s t : State} {path eid tag} (h0 : execRoutingInfoUpdate path eid tag s = .next t) : s.Onward t := by
  unfold execRoutingInfoUpdate at h0
  rw [← Host.Outcome.next.inj h0]
  have g := State.Onward.refl s
  repeat' with_reducible (first | assumption | apply onward_fwRequest | apply onward_routingUpdate | intro _ | apply onward_ite | split)

theorem onward_execCsrRead {s t : State} {eid tag off width n} (h0 : execCsrRead eid tag off width n s = .next t) : s.Onward t := by
  unfold execCsrRead at h0
  rw [← Host.Outcome.next.inj h0]
  have g := State.Onward.refl s
  repeat' with_reducible (first | assumption | apply onward_settle | apply onward_vendorRead | intro _ | apply onward_ite | split)

theorem onward_execCsrWrite {s t : State} {eid sw tag off width vals} (h0 : execCsrWrite eid sw tag off width vals s = .next t) : s.Onward t := by
  unfold execCsrWrite at h0
  rw [← Host.Outcome.next.inj h0]
  have g := State.Onward.refl s
  repeat' with_reducible (first | assumption | apply onward_vendorWrite | apply onward_writeDone | intro _ | apply onward_ite | split)

theorem onward_execLastXfer {s t : State} {eid sw tag len off data} (h0 : execLastXfer eid sw tag len off data s = .next t) : s.Onward t := by
  unfold execLastXfer at h0
  rw [← Host.Outcome.next.inj h0]
  have g := State.Onward.refl s
  repeat' with_reducible (first | assumption | apply onward_fwRequest | apply onward_lastXfer | apply onward_settle | intro _ | apply onward_ite | split)

theorem onward_execSecRelay {s t : State} {eid sw tag op nonce signer a b ok ids} (h0 : execSecRelay eid sw tag op nonce signer a b ok ids s = .next t) : s.Onward t := by
  unfold execSecRelay at h0
  rw [← Host.Outcome.next.inj h0]
  have g := State.Onward.refl s
  repeat' with_reducible (first | assumption | apply onward_fwRequest | apply onward_secRelay | apply onward_settle | intro _ | apply onward_ite | split)

theorem onward_execEventReplay {s t : State} {eid tag first n} (h0 : execEventReplay eid tag first n s = .next t) : s.Onward t := by
  unfold execEventReplay at h0
  rw [← Host.Outcome.next.inj h0]
  have g := State.Onward.refl s
  repeat' with_reducible (first | assumption | apply onward_fwRequest | apply onward_eventReplay | intro _ | apply onward_ite | split)

theorem onward_execModuleInfo {s t : State} {eid tag} (h0 : execModuleInfo eid tag s = .next t) : s.Onward t := by
  unfold execModuleInfo at h0
  rw [← Host.Outcome.next.inj h0]
  have g := State.Onward.refl s
  repeat' with_reducible (first | assumption | apply onward_fwRequest | apply onward_moduleInfo | intro _ | apply onward_ite | split)

theorem onward_execRecoveryBoot {s t : State} {eid tag img} (h0 : execRecoveryBoot eid tag img s = .next t) : s.Onward t := by
  unfold execRecoveryBoot at h0
  rw [← Host.Outcome.next.inj h0]
  have g := State.Onward.refl s
  repeat' with_reducible (first | assumption | apply onward_recoveryBoot | apply onward_writeDone | intro _ | apply onward_ite | split)

theorem onward_execDbgOpen {s t : State} {path eid tag} (h0 : execDbgOpen path eid tag s = .next t) : s.Onward t := by
  unfold execDbgOpen at h0
  rw [← Host.Outcome.next.inj h0]
  have g := State.Onward.refl s
  repeat' with_reducible (first | assumption | apply onward_fwRequest | apply onward_dbgOpen | intro _ | apply onward_ite | split)

theorem onward_execDbgAccess {s t : State} {path eid tag write sp ident len addr data} (h0 : execDbgAccess path eid tag write sp ident len addr data s = .next t) : s.Onward t := by
  unfold execDbgAccess at h0
  rw [← Host.Outcome.next.inj h0]
  have g := State.Onward.refl s
  repeat' with_reducible (first | assumption | apply onward_fwRequest | apply onward_dbgAccess | apply onward_writeDone | intro _ | apply onward_ite | split)

theorem onward_execDbgClose {s t : State} {path eid tag} (h0 : execDbgClose path eid tag s = .next t) : s.Onward t := by
  unfold execDbgClose at h0
  rw [← Host.Outcome.next.inj h0]
  have g := State.Onward.refl s
  repeat' with_reducible (first | assumption | apply onward_fwRequest | apply onward_dbgClose | intro _ | apply onward_ite | split)

theorem onward_execDbgIdleTimeout {s t : State} (h0 : execDbgIdleTimeout  s = .next t) : s.Onward t := by
  unfold execDbgIdleTimeout at h0
  rw [← Host.Outcome.next.inj h0]
  have g := State.Onward.refl s
  repeat' with_reducible (first | assumption | apply onward_dbgTimeout | intro _ | apply onward_ite | split)

theorem onward_execRequestArrival {s t : State} {n r msg} (h0 : execRequestArrival n r msg s = .next t) : s.Onward t := by
  unfold execRequestArrival at h0
  rw [(within_next h0).2]
  have g := State.Onward.refl s
  repeat' with_reducible (first | assumption | apply onward_requestArrival | intro _ | apply onward_ite | split)

theorem onward_execCellAllocateWaiting {s t : State} {c} (h0 : execCellAllocateWaiting c s = .next t) : s.Onward t := by
  unfold execCellAllocateWaiting at h0
  rw [← Host.Outcome.next.inj h0]
  have g := State.Onward.refl s
  repeat' with_reducible (first | assumption | apply onward_allocWaiting | apply onward_writeDone | intro _ | apply onward_ite | split)

theorem onward_execRedDeferRelease {s t : State} {id} (h0 : execRedDeferRelease id s = .next t) : s.Onward t := by
  unfold execRedDeferRelease at h0
  rw [← Host.Outcome.next.inj h0]
  have g := State.Onward.refl s
  repeat' with_reducible (first | assumption | apply onward_releaseRed | apply onward_writeDone | intro _ | apply onward_ite | split)

theorem onward_execActiveSlotClaim {s t : State} (h0 : execActiveSlotClaim  s = .next t) : s.Onward t := by
  unfold execActiveSlotClaim at h0
  rw [← Host.Outcome.next.inj h0]
  have g := State.Onward.refl s
  repeat' with_reducible (first | assumption | apply onward_claimWaiting | apply onward_writeDone | intro _ | apply onward_ite | split)

theorem onward_execQueueStateFetchDone {s t : State} {q out} (h0 : execQueueStateFetchDone q out s = .next t) : s.Onward t := by
  unfold execQueueStateFetchDone at h0
  rw [← Host.Outcome.next.inj h0]
  have g := State.Onward.refl s
  repeat' with_reducible (first | assumption | apply onward_queueFetched | apply onward_writeDone | intro _ | apply onward_ite | split)

theorem onward_execCellTime {s t : State} {ecc} (h0 : execCellTime ecc s = .next t) : s.Onward t := by
  unfold execCellTime at h0
  rw [← Host.Outcome.next.inj h0]
  have g := State.Onward.refl s
  repeat' with_reducible (first | assumption | apply onward_cellTimeAll | intro _ | apply onward_ite | split)

theorem onward_execCongestionAvgUpdate {s t : State} (h0 : execCongestionAvgUpdate  s = .next t) : s.Onward t := by
  unfold execCongestionAvgUpdate at h0
  rw [← Host.Outcome.next.inj h0]
  have g := State.Onward.refl s
  repeat' with_reducible (first | assumption | apply onward_avgTick | intro _ | apply onward_ite | split)

theorem onward_execFeedWindowEnter {s t : State} {feed} (h0 : execFeedWindowEnter feed s = .next t) : s.Onward t := by
  unfold execFeedWindowEnter at h0
  rw [(within_next h0).2]
  have g := State.Onward.refl s
  repeat' with_reducible (first | assumption | apply onward_feedEnter | intro _ | apply onward_ite | split)

theorem onward_execFeedWindowLeave {s t : State} {feed} (h0 : execFeedWindowLeave feed s = .next t) : s.Onward t := by
  unfold execFeedWindowLeave at h0
  rw [(within_next h0).2]
  have g := State.Onward.refl s
  repeat' with_reducible (first | assumption | apply onward_feedLeave | apply onward_settle | intro _ | apply onward_ite | split)

theorem onward_execBiasPresent {s t : State} (h0 : execBiasPresent  s = .next t) : s.Onward t := by
  unfold execBiasPresent at h0
  rw [← Host.Outcome.next.inj h0]
  have g := State.Onward.refl s
  repeat' with_reducible (first | assumption | apply onward_biasPresent | intro _ | apply onward_ite | split)

theorem onward_execBiasLoss {s t : State} (h0 : execBiasLoss  s = .next t) : s.Onward t := by
  unfold execBiasLoss at h0
  rw [← Host.Outcome.next.inj h0]
  have g := State.Onward.refl s
  repeat' with_reducible (first | assumption | apply onward_biasLoss | intro _ | apply onward_ite | split)

theorem onward_execInsertionDelayExpiry {s t : State} (h0 : execInsertionDelayExpiry  s = .next t) : s.Onward t := by
  unfold execInsertionDelayExpiry at h0
  rw [← Host.Outcome.next.inj h0]
  have g := State.Onward.refl s
  repeat' with_reducible (first | assumption | apply onward_insertionEnd | intro _ | apply onward_ite | split)

theorem onward_execPmEnRise {s t : State} (h0 : execPmEnRise  s = .next t) : s.Onward t := by
  unfold execPmEnRise at h0
  rw [← Host.Outcome.next.inj h0]
  have g := State.Onward.refl s
  repeat' with_reducible (first | assumption | apply onward_pmEnRise | intro _ | apply onward_ite | split)

theorem onward_execPmEnLow {s t : State} (h0 : execPmEnLow  s = .next t) : s.Onward t := by
  unfold execPmEnLow at h0
  rw [← Host.Outcome.next.inj h0]
  have g := State.Onward.refl s
  repeat' with_reducible (first | assumption | apply onward_pmEnLow | intro _ | apply onward_ite | split)

theorem onward_execLatchClear {s t : State} (h0 : execLatchClear  s = .next t) : s.Onward t := by
  unfold execLatchClear at h0
  rw [← Host.Outcome.next.inj h0]
  have g := State.Onward.refl s
  repeat' with_reducible (first | assumption | apply onward_latchClear | intro _ | apply onward_ite | split)

theorem onward_execCooldownEnd {s t : State} (h0 : execCooldownEnd  s = .next t) : s.Onward t := by
  unfold execCooldownEnd at h0
  rw [← Host.Outcome.next.inj h0]
  have g := State.Onward.refl s
  repeat' with_reducible (first | assumption | apply onward_cooldownEnd | intro _ | apply onward_ite | split)

theorem onward_execPowerGood {s t : State} (h0 : execPowerGood  s = .next t) : s.Onward t := by
  unfold execPowerGood at h0
  rw [← Host.Outcome.next.inj h0]
  have g := State.Onward.refl s
  repeat' with_reducible (first | assumption | apply onward_powerGood | intro _ | apply onward_ite | split)

theorem onward_execRegulatorEnable {s t : State} (h0 : execRegulatorEnable  s = .next t) : s.Onward t := by
  unfold execRegulatorEnable at h0
  rw [← Host.Outcome.next.inj h0]
  have g := State.Onward.refl s
  repeat' with_reducible (first | assumption | apply onward_regulatorEnable | intro _ | apply onward_ite | split)

theorem onward_execPowerGoodLost {s t : State} (h0 : execPowerGoodLost  s = .next t) : s.Onward t := by
  unfold execPowerGoodLost at h0
  rw [← Host.Outcome.next.inj h0]
  have g := State.Onward.refl s
  repeat' with_reducible (first | assumption | apply onward_powerGoodLost | intro _ | apply onward_ite | split)

theorem onward_execFastTrip {s t : State} (h0 : execFastTrip  s = .next t) : s.Onward t := by
  unfold execFastTrip at h0
  rw [← Host.Outcome.next.inj h0]
  have g := State.Onward.refl s
  repeat' with_reducible (first | assumption | apply onward_fetTrip | intro _ | apply onward_ite | split)

theorem onward_execBreakerTrip {s t : State} (h0 : execBreakerTrip  s = .next t) : s.Onward t := by
  unfold execBreakerTrip at h0
  rw [← Host.Outcome.next.inj h0]
  have g := State.Onward.refl s
  repeat' with_reducible (first | assumption | apply onward_fetTrip | intro _ | apply onward_ite | split)

theorem onward_execSoaTrip {s t : State} (h0 : execSoaTrip  s = .next t) : s.Onward t := by
  unfold execSoaTrip at h0
  rw [← Host.Outcome.next.inj h0]
  have g := State.Onward.refl s
  repeat' with_reducible (first | assumption | apply onward_fetTrip | intro _ | apply onward_ite | split)

theorem onward_execRampTimeout {s t : State} (h0 : execRampTimeout  s = .next t) : s.Onward t := by
  unfold execRampTimeout at h0
  rw [← Host.Outcome.next.inj h0]
  have g := State.Onward.refl s
  repeat' with_reducible (first | assumption | apply onward_rampTimeout | intro _ | apply onward_ite | split)

theorem onward_execFetOvertemp {s t : State} (h0 : execFetOvertemp  s = .next t) : s.Onward t := by
  unfold execFetOvertemp at h0
  rw [← Host.Outcome.next.inj h0]
  have g := State.Onward.refl s
  repeat' with_reducible (first | assumption | apply onward_fetTrip | intro _ | apply onward_ite | split)

theorem onward_execReverseCurrentTurnoff {s t : State} {feed} (h0 : execReverseCurrentTurnoff feed s = .next t) : s.Onward t := by
  unfold execReverseCurrentTurnoff at h0
  rw [(within_next h0).2]
  have g := State.Onward.refl s
  repeat' with_reducible (first | assumption | apply onward_reverseOff | apply onward_settle | intro _ | apply onward_ite | split)

theorem onward_execNvCommit {s t : State} {p v} (h0 : execNvCommit p v s = .next t) : s.Onward t := by
  unfold execNvCommit at h0
  rw [(within_next h0).2]
  have g := State.Onward.refl s
  repeat' with_reducible (first | assumption | apply onward_pathWrite | intro _ | apply onward_ite | split)

theorem onward_execPeakClear {s t : State} {p v} (h0 : execPeakClear p v s = .next t) : s.Onward t := by
  unfold execPeakClear at h0
  rw [(within_next h0).2]
  have g := State.Onward.refl s
  repeat' with_reducible (first | assumption | apply onward_pathWrite | intro _ | apply onward_ite | split)

theorem onward_execAvsRegularLower {s t : State} (h0 : execAvsRegularLower  s = .next t) : s.Onward t := by
  unfold execAvsRegularLower at h0
  rw [← Host.Outcome.next.inj h0]
  have g := State.Onward.refl s
  repeat' with_reducible (first | assumption | apply onward_avsLower | intro _ | apply onward_ite | split)

theorem onward_execAvsUrgentRaise {s t : State} {d margin} (h0 : execAvsUrgentRaise d margin s = .next t) : s.Onward t := by
  unfold execAvsUrgentRaise at h0
  rw [(within_next h0).2]
  have g := State.Onward.refl s
  repeat' with_reducible (first | assumption | apply onward_avsUrgent | intro _ | apply onward_ite | split)

theorem onward_execLaneMarkerRx {s t : State} {m lane gcnt skew} (h0 : execLaneMarkerRx m lane gcnt skew s = .next t) : s.Onward t := by
  unfold execLaneMarkerRx at h0
  rw [(within_next h0).2]
  have g := State.Onward.refl s
  repeat' with_reducible (first | assumption | apply onward_laceStep | apply onward_laneMarker | apply onward_settle | intro _ | apply onward_ite | split)

theorem onward_execFlitRx {s t : State} {m ok corr unc h ids msgs} (h0 : execFlitRx m ok corr unc h ids msgs s = .next t) : s.Onward t := by
  unfold execFlitRx at h0
  rw [(within_next h0).2]
  have g := State.Onward.refl s
  repeat' with_reducible (first | assumption | apply onward_flitArrive | intro _ | apply onward_ite | split)

theorem onward_execFlitTx {s t : State} {m} (h0 : execFlitTx m s = .next t) : s.Onward t := by
  unfold execFlitTx at h0
  rw [(within_next h0).2]
  have g := State.Onward.refl s
  repeat' with_reducible (first | assumption | apply onward_flitTx | apply onward_writeDone | intro _ | apply onward_ite | split)

theorem onward_execReplayTimerExpiry {s t : State} {m} (h0 : execReplayTimerExpiry m s = .next t) : s.Onward t := by
  unfold execReplayTimerExpiry at h0
  rw [(within_next h0).2]
  have g := State.Onward.refl s
  repeat' with_reducible (first | assumption | apply onward_replayExpiry | apply onward_settle | intro _ | apply onward_ite | split)

theorem onward_execSpillReadback {s t : State} {m seq ok} (h0 : execSpillReadback m seq ok s = .next t) : s.Onward t := by
  unfold execSpillReadback at h0
  rw [(within_next h0).2]
  have g := State.Onward.refl s
  repeat' with_reducible (first | assumption | apply onward_spillBack | apply onward_writeDone | intro _ | apply onward_ite | split)

theorem onward_execInitRx {s t : State} {m im} (h0 : execInitRx m im s = .next t) : s.Onward t := by
  unfold execInitRx at h0
  rw [(within_next h0).2]
  have g := State.Onward.refl s
  repeat' with_reducible (first | assumption | apply onward_initRx | apply onward_writeDone | intro _ | apply onward_ite | split)

theorem onward_execInitRetryTimer {s t : State} {m} (h0 : execInitRetryTimer m s = .next t) : s.Onward t := by
  unfold execInitRetryTimer at h0
  rw [(within_next h0).2]
  have g := State.Onward.refl s
  repeat' with_reducible (first | assumption | apply onward_initRetryEnd | intro _ | apply onward_ite | split)

theorem onward_execCredRx {s t : State} {m pool size} (h0 : execCredRx m pool size s = .next t) : s.Onward t := by
  unfold execCredRx at h0
  rw [(within_next h0).2]
  have g := State.Onward.refl s
  repeat' with_reducible (first | assumption | apply onward_credRx | intro _ | apply onward_ite | split)

theorem onward_execLinkdownRx {s t : State} {m} (h0 : execLinkdownRx m s = .next t) : s.Onward t := by
  unfold execLinkdownRx at h0
  rw [(within_next h0).2]
  have g := State.Onward.refl s
  repeat' with_reducible (first | assumption | apply onward_linkdownRx | apply onward_settle | intro _ | apply onward_ite | split)

theorem onward_execLaceReqRx {s t : State} {m arg} (h0 : execLaceReqRx m arg s = .next t) : s.Onward t := by
  unfold execLaceReqRx at h0
  rw [(within_next h0).2]
  have g := State.Onward.refl s
  repeat' with_reducible (first | assumption | apply onward_laceReq | intro _ | apply onward_ite | split)

theorem onward_execLaceReadyRx {s t : State} {m arg} (h0 : execLaceReadyRx m arg s = .next t) : s.Onward t := by
  unfold execLaceReadyRx at h0
  rw [(within_next h0).2]
  have g := State.Onward.refl s
  repeat' with_reducible (first | assumption | apply onward_laceReady | intro _ | apply onward_ite | split)

theorem onward_execUnlaceReqRx {s t : State} {m arg} (h0 : execUnlaceReqRx m arg s = .next t) : s.Onward t := by
  unfold execUnlaceReqRx at h0
  rw [(within_next h0).2]
  have g := State.Onward.refl s
  repeat' with_reducible (first | assumption | apply onward_unlaceReq | intro _ | apply onward_ite | split)

theorem onward_execUnlaceAckRx {s t : State} {m arg} (h0 : execUnlaceAckRx m arg s = .next t) : s.Onward t := by
  unfold execUnlaceAckRx at h0
  rw [(within_next h0).2]
  have g := State.Onward.refl s
  repeat' with_reducible (first | assumption | apply onward_unlaceAck | intro _ | apply onward_ite | split)

theorem onward_execLaceAbortRx {s t : State} {m arg} (h0 : execLaceAbortRx m arg s = .next t) : s.Onward t := by
  unfold execLaceAbortRx at h0
  rw [(within_next h0).2]
  have g := State.Onward.refl s
  repeat' with_reducible (first | assumption | apply onward_laceAbort | intro _ | apply onward_ite | split)

theorem onward_execFenceRx {s t : State} {m msg} (h0 : execFenceRx m msg s = .next t) : s.Onward t := by
  unfold execFenceRx at h0
  rw [(within_next h0).2]
  have g := State.Onward.refl s
  repeat' with_reducible (first | assumption | apply onward_fenceArrive | intro _ | apply onward_ite | split)

theorem onward_execFenceDoneRx {s t : State} {sw fid} (h0 : execFenceDoneRx sw fid s = .next t) : s.Onward t := by
  unfold execFenceDoneRx at h0
  rw [(within_next h0).2]
  have g := State.Onward.refl s
  repeat' with_reducible (first | assumption | apply onward_fenceDone | apply onward_writeDone | intro _ | apply onward_ite | split)

theorem onward_execFlushedRx {s t : State} {sw session} (h0 : execFlushedRx sw session s = .next t) : s.Onward t := by
  unfold execFlushedRx at h0
  rw [(within_next h0).2]
  have g := State.Onward.refl s
  repeat' with_reducible (first | assumption | apply onward_flushedRx | apply onward_writeDone | intro _ | apply onward_ite | split)

theorem onward_execMlRetrain {s t : State} {p m v} (h0 : execMlRetrain p m v s = .next t) : s.Onward t := by
  unfold execMlRetrain at h0
  rw [(within_next h0).2]
  have g := State.Onward.refl s
  repeat' with_reducible (first | assumption | apply onward_pathWrite | intro _ | apply onward_ite | split)

theorem onward_execMlDisable {s t : State} {p m v} (h0 : execMlDisable p m v s = .next t) : s.Onward t := by
  unfold execMlDisable at h0
  rw [(within_next h0).2]
  have g := State.Onward.refl s
  repeat' with_reducible (first | assumption | apply onward_pathWrite | intro _ | apply onward_ite | split)

theorem onward_execMlTrainTimeout {s t : State} {m} (h0 : execMlTrainTimeout m s = .next t) : s.Onward t := by
  unfold execMlTrainTimeout at h0
  rw [(within_next h0).2]
  have g := State.Onward.refl s
  repeat' with_reducible (first | assumption | apply onward_mlTrainTimeout | intro _ | apply onward_ite | split)

theorem onward_execGraceExpiry {s t : State} {m} (h0 : execGraceExpiry m s = .next t) : s.Onward t := by
  unfold execGraceExpiry at h0
  rw [(within_next h0).2]
  have g := State.Onward.refl s
  repeat' with_reducible (first | assumption | apply onward_graceExpiry | apply onward_writeDone | intro _ | apply onward_ite | split)

theorem onward_execMlFlushDone {s t : State} {m} (h0 : execMlFlushDone m s = .next t) : s.Onward t := by
  unfold execMlFlushDone at h0
  rw [(within_next h0).2]
  have g := State.Onward.refl s
  repeat' with_reducible (first | assumption | apply onward_mlFlushDone | apply onward_writeDone | intro _ | apply onward_ite | split)

theorem onward_execLaceGo {s t : State} {p m v} (h0 : execLaceGo p m v s = .next t) : s.Onward t := by
  unfold execLaceGo at h0
  rw [(within_next h0).2]
  have g := State.Onward.refl s
  repeat' with_reducible (first | assumption | apply onward_pathWrite | intro _ | apply onward_ite | split)

theorem onward_execUnlaceGo {s t : State} {p m v} (h0 : execUnlaceGo p m v s = .next t) : s.Onward t := by
  unfold execUnlaceGo at h0
  rw [(within_next h0).2]
  have g := State.Onward.refl s
  repeat' with_reducible (first | assumption | apply onward_pathWrite | intro _ | apply onward_ite | split)

theorem onward_execLaceTimeout {s t : State} {m} (h0 : execLaceTimeout m s = .next t) : s.Onward t := by
  unfold execLaceTimeout at h0
  rw [(within_next h0).2]
  have g := State.Onward.refl s
  repeat' with_reducible (first | assumption | apply onward_laceTimeout | intro _ | apply onward_ite | split)

theorem onward_execRouteFailoverTimeout {s t : State} {sw} (h0 : execRouteFailoverTimeout sw s = .next t) : s.Onward t := by
  unfold execRouteFailoverTimeout at h0
  rw [(within_next h0).2]
  have g := State.Onward.refl s
  repeat' with_reducible (first | assumption | apply onward_routeTimeout | apply onward_writeDone | intro _ | apply onward_ite | split)

theorem onward_execFenceRetryTimeout {s t : State} {sw} (h0 : execFenceRetryTimeout sw s = .next t) : s.Onward t := by
  unfold execFenceRetryTimeout at h0
  rw [(within_next h0).2]
  have g := State.Onward.refl s
  repeat' with_reducible (first | assumption | apply onward_fenceRetry | intro _ | apply onward_ite | split)

theorem onward_execOwnerClaim {s t : State} {nonce signer snOk ids} (h0 : execOwnerClaim nonce signer snOk ids s = .next t) : s.Onward t := by
  unfold execOwnerClaim at h0
  rw [← Host.Outcome.next.inj h0]
  have g := State.Onward.refl s
  repeat' with_reducible (first | assumption | apply onward_secCmd | apply onward_settle | intro _ | apply onward_ite | split)

theorem onward_execKeyInstall {s t : State} {nonce signer usage ids} (h0 : execKeyInstall nonce signer usage ids s = .next t) : s.Onward t := by
  unfold execKeyInstall at h0
  rw [← Host.Outcome.next.inj h0]
  have g := State.Onward.refl s
  repeat' with_reducible (first | assumption | apply onward_secCmd | apply onward_settle | intro _ | apply onward_ite | split)

theorem onward_execKeyRevoke {s t : State} {nonce signer entry} (h0 : execKeyRevoke nonce signer entry s = .next t) : s.Onward t := by
  unfold execKeyRevoke at h0
  rw [← Host.Outcome.next.inj h0]
  have g := State.Onward.refl s
  repeat' with_reducible (first | assumption | apply onward_secCmd | apply onward_settle | intro _ | apply onward_ite | split)

theorem onward_execSvnRaise {s t : State} {nonce signer fw v} (h0 : execSvnRaise nonce signer fw v s = .next t) : s.Onward t := by
  unfold execSvnRaise at h0
  rw [← Host.Outcome.next.inj h0]
  have g := State.Onward.refl s
  repeat' with_reducible (first | assumption | apply onward_secCmd | apply onward_settle | intro _ | apply onward_ite | split)

theorem onward_execDebugUnlock {s t : State} {nonce signer snOk} (h0 : execDebugUnlock nonce signer snOk s = .next t) : s.Onward t := by
  unfold execDebugUnlock at h0
  rw [← Host.Outcome.next.inj h0]
  have g := State.Onward.refl s
  repeat' with_reducible (first | assumption | apply onward_secCmd | apply onward_settle | intro _ | apply onward_ite | split)

theorem onward_execDebugLock {s t : State} {nonce} (h0 : execDebugLock nonce s = .next t) : s.Onward t := by
  unfold execDebugLock at h0
  rw [← Host.Outcome.next.inj h0]
  have g := State.Onward.refl s
  repeat' with_reducible (first | assumption | apply onward_secCmd | apply onward_settle | intro _ | apply onward_ite | split)

theorem onward_execOwnerRelease {s t : State} {nonce signer} (h0 : execOwnerRelease nonce signer s = .next t) : s.Onward t := by
  unfold execOwnerRelease at h0
  rw [← Host.Outcome.next.inj h0]
  have g := State.Onward.refl s
  repeat' with_reducible (first | assumption | apply onward_secCmd | apply onward_settle | intro _ | apply onward_ite | split)

theorem onward_execReturn {s t : State} {nonce signer} (h0 : execReturn nonce signer s = .next t) : s.Onward t := by
  unfold execReturn at h0
  rw [← Host.Outcome.next.inj h0]
  have g := State.Onward.refl s
  repeat' with_reducible (first | assumption | apply onward_secCmd | apply onward_settle | intro _ | apply onward_ite | split)

theorem onward_execReturnFillDone {s t : State} (h0 : execReturnFillDone  s = .next t) : s.Onward t := by
  unfold execReturnFillDone at h0
  rw [← Host.Outcome.next.inj h0]
  have g := State.Onward.refl s
  repeat' with_reducible (first | assumption | apply onward_returnDone | apply onward_settle | intro _ | apply onward_ite | split)

theorem onward_execFlashWrite {s t : State} {nonce img ok data} (h0 : execFlashWrite nonce img ok data s = .next t) : s.Onward t := by
  unfold execFlashWrite at h0
  rw [← Host.Outcome.next.inj h0]
  have g := State.Onward.refl s
  repeat' with_reducible (first | assumption | apply onward_secCmd | apply onward_settle | intro _ | apply onward_ite | split)

theorem onward_execSelftest {s t : State} {nonce ok} (h0 : execSelftest nonce ok s = .next t) : s.Onward t := by
  unfold execSelftest at h0
  rw [← Host.Outcome.next.inj h0]
  have g := State.Onward.refl s
  repeat' with_reducible (first | assumption | apply onward_secCmd | apply onward_settle | intro _ | apply onward_ite | split)

theorem onward_execHealthTestFail {s t : State} (h0 : execHealthTestFail  s = .next t) : s.Onward t := by
  unfold execHealthTestFail at h0
  rw [← Host.Outcome.next.inj h0]
  have g := State.Onward.refl s
  repeat' with_reducible (first | assumption | apply onward_secFail | apply onward_settle | intro _ | apply onward_ite | split)

theorem onward_execSpdmGetVersion {s t : State} {who} (h0 : execSpdmGetVersion who s = .next t) : s.Onward t := by
  unfold execSpdmGetVersion at h0
  rw [← Host.Outcome.next.inj h0]
  have g := State.Onward.refl s
  repeat' with_reducible (first | assumption | apply onward_firmware | apply onward_spdmGetVersion | intro _ | apply onward_ite | split)

theorem onward_execSpdmGetCapabilities {s t : State} {who} (h0 : execSpdmGetCapabilities who s = .next t) : s.Onward t := by
  unfold execSpdmGetCapabilities at h0
  rw [← Host.Outcome.next.inj h0]
  have g := State.Onward.refl s
  repeat' with_reducible (first | assumption | apply onward_firmware | apply onward_spdmGetCaps | intro _ | apply onward_ite | split)

theorem onward_execSpdmNegotiateAlgorithms {s t : State} {who} (h0 : execSpdmNegotiateAlgorithms who s = .next t) : s.Onward t := by
  unfold execSpdmNegotiateAlgorithms at h0
  rw [← Host.Outcome.next.inj h0]
  have g := State.Onward.refl s
  repeat' with_reducible (first | assumption | apply onward_firmware | apply onward_spdmAlgs | intro _ | apply onward_ite | split)

theorem onward_execSpdmGetCertificate {s t : State} {who slot} (h0 : execSpdmGetCertificate who slot s = .next t) : s.Onward t := by
  unfold execSpdmGetCertificate at h0
  rw [← Host.Outcome.next.inj h0]
  have g := State.Onward.refl s
  repeat' with_reducible (first | assumption | apply onward_firmware | apply onward_spdmCert | intro _ | apply onward_ite | split)

theorem onward_execSpdmChallenge {s t : State} {who slot} (h0 : execSpdmChallenge who slot s = .next t) : s.Onward t := by
  unfold execSpdmChallenge at h0
  rw [← Host.Outcome.next.inj h0]
  have g := State.Onward.refl s
  repeat' with_reducible (first | assumption | apply onward_firmware | apply onward_spdmChallenge | intro _ | apply onward_ite | split)

theorem onward_execSpdmGetMeasurements {s t : State} {who idx} (h0 : execSpdmGetMeasurements who idx s = .next t) : s.Onward t := by
  unfold execSpdmGetMeasurements at h0
  rw [← Host.Outcome.next.inj h0]
  have g := State.Onward.refl s
  repeat' with_reducible (first | assumption | apply onward_firmware | apply onward_spdmMeas | intro _ | apply onward_ite | split)

theorem onward_execSpdmKeyExchange {s t : State} {who slot id} (h0 : execSpdmKeyExchange who slot id s = .next t) : s.Onward t := by
  unfold execSpdmKeyExchange at h0
  rw [← Host.Outcome.next.inj h0]
  have g := State.Onward.refl s
  repeat' with_reducible (first | assumption | apply onward_firmware | apply onward_spdmKeyEx | intro _ | apply onward_ite | split)

theorem onward_execSpdmFinish {s t : State} {who id} (h0 : execSpdmFinish who id s = .next t) : s.Onward t := by
  unfold execSpdmFinish at h0
  rw [← Host.Outcome.next.inj h0]
  have g := State.Onward.refl s
  repeat' with_reducible (first | assumption | apply onward_firmware | apply onward_spdmFinish | intro _ | apply onward_ite | split)

theorem onward_execEyeDigestDone {s t : State} (h0 : execEyeDigestDone  s = .next t) : s.Onward t := by
  unfold execEyeDigestDone at h0
  rw [← Host.Outcome.next.inj h0]
  have g := State.Onward.refl s
  repeat' with_reducible (first | assumption | apply onward_eyeDigestDone | intro _ | apply onward_ite | split)

theorem onward_execVampOutboundRequest {s t : State} {id} (h0 : execVampOutboundRequest id s = .next t) : s.Onward t := by
  unfold execVampOutboundRequest at h0
  rw [← Host.Outcome.next.inj h0]
  have g := State.Onward.refl s
  repeat' with_reducible (first | assumption | apply onward_vampOut | apply onward_vampTakes | intro _ | apply onward_ite | split)

theorem onward_execVampInboundRequest {s t : State} {id} (h0 : execVampInboundRequest id s = .next t) : s.Onward t := by
  unfold execVampInboundRequest at h0
  rw [← Host.Outcome.next.inj h0]
  have g := State.Onward.refl s
  repeat' with_reducible (first | assumption | apply onward_vampIn | apply onward_vampTakes | intro _ | apply onward_ite | split)

theorem onward_execVampCompletion {s t : State} {id} (h0 : execVampCompletion id s = .next t) : s.Onward t := by
  unfold execVampCompletion at h0
  rw [← Host.Outcome.next.inj h0]
  have g := State.Onward.refl s
  repeat' with_reducible (first | assumption | apply onward_vampCpl | apply onward_vampTakes | intro _ | apply onward_ite | split)

theorem onward_execVampMrdlk {s t : State} {id} (h0 : execVampMrdlk id s = .next t) : s.Onward t := by
  unfold execVampMrdlk at h0
  rw [← Host.Outcome.next.inj h0]
  have g := State.Onward.refl s
  repeat' with_reducible (first | assumption | apply onward_vampOut | apply onward_vampTakes | intro _ | apply onward_ite | split)

theorem onward_execVampUnlock {s t : State} {id} (h0 : execVampUnlock id s = .next t) : s.Onward t := by
  unfold execVampUnlock at h0
  rw [← Host.Outcome.next.inj h0]
  have g := State.Onward.refl s
  repeat' with_reducible (first | assumption | apply onward_vampTakes | apply onward_vampUnlock | intro _ | apply onward_ite | split)

theorem onward_execVampLockTimeout {s t : State} {n} (h0 : execVampLockTimeout n s = .next t) : s.Onward t := by
  unfold execVampLockTimeout at h0
  rw [(within_next h0).2]
  have g := State.Onward.refl s
  repeat' with_reducible (first | assumption | apply onward_lockTimeout | apply onward_writeDone | intro _ | apply onward_ite | split)

theorem onward_execVampIntxMessage {s t : State} {id rtid pin on} (h0 : execVampIntxMessage id rtid pin on s = .next t) : s.Onward t := by
  unfold execVampIntxMessage at h0
  rw [← Host.Outcome.next.inj h0]
  have g := State.Onward.refl s
  repeat' with_reducible (first | assumption | apply onward_vampMessage | intro _ | apply onward_ite | split)

theorem onward_execVampErrMessage {s t : State} {id rtid sev} (h0 : execVampErrMessage id rtid sev s = .next t) : s.Onward t := by
  unfold execVampErrMessage at h0
  rw [← Host.Outcome.next.inj h0]
  have g := State.Onward.refl s
  repeat' with_reducible (first | assumption | apply onward_vampMessage | intro _ | apply onward_ite | split)

theorem onward_execVampForwardMessage {s t : State} {id rtid} (h0 : execVampForwardMessage id rtid s = .next t) : s.Onward t := by
  unfold execVampForwardMessage at h0
  rw [← Host.Outcome.next.inj h0]
  have g := State.Onward.refl s
  repeat' with_reducible (first | assumption | apply onward_vampMessage | intro _ | apply onward_ite | split)

theorem onward_execVampConsumedMessage {s t : State} {id} (h0 : execVampConsumedMessage id s = .next t) : s.Onward t := by
  unfold execVampConsumedMessage at h0
  rw [← Host.Outcome.next.inj h0]
  have g := State.Onward.refl s
  repeat' with_reducible (first | assumption | apply onward_vampMessage | intro _ | apply onward_ite | split)

theorem onward_execVampMessageRelease {s t : State} {n} (h0 : execVampMessageRelease n s = .next t) : s.Onward t := by
  unfold execVampMessageRelease at h0
  rw [(within_next h0).2]
  have g := State.Onward.refl s
  repeat' with_reducible (first | assumption | apply onward_vampRelease | apply onward_writeDone | intro _ | apply onward_ite | split)

theorem onward_execAcceptanceNoticeRx {s t : State} {id} (h0 : execAcceptanceNoticeRx id s = .next t) : s.Onward t := by
  unfold execAcceptanceNoticeRx at h0
  rw [← Host.Outcome.next.inj h0]
  have g := State.Onward.refl s
  repeat' with_reducible (first | assumption | apply onward_noticeRx | intro _ | apply onward_ite | split)

theorem onward_execPfLineAgeExpiry {s t : State} {w slice addr} (h0 : execPfLineAgeExpiry w slice addr s = .next t) : s.Onward t := by
  unfold execPfLineAgeExpiry at h0
  rw [← Host.Outcome.next.inj h0]
  have g := State.Onward.refl s
  repeat' with_reducible (first | assumption | apply onward_pfAged | apply onward_settle | intro _ | apply onward_ite | split)

theorem onward_execVampNpTimeout {s t : State} {no} (h0 : execVampNpTimeout no s = .next t) : s.Onward t := by
  unfold execVampNpTimeout at h0
  rw [← Host.Outcome.next.inj h0]
  have g := State.Onward.refl s
  repeat' with_reducible (first | assumption | apply onward_vampNpTimeout | apply onward_writeDone | intro _ | apply onward_ite | split)

theorem onward_execVampConfigWrite {s t : State} {id what k} (h0 : execVampConfigWrite id what k s = .next t) : s.Onward t := by
  unfold execVampConfigWrite at h0
  rw [← Host.Outcome.next.inj h0]
  have g := State.Onward.refl s
  repeat' with_reducible (first | assumption | apply onward_vampCfgWrite | apply onward_vampTakes | intro _ | apply onward_ite | split)

theorem onward_execVampConfigRead {s t : State} {id what k} (h0 : execVampConfigRead id what k s = .next t) : s.Onward t := by
  unfold execVampConfigRead at h0
  rw [← Host.Outcome.next.inj h0]
  have g := State.Onward.refl s
  repeat' with_reducible (first | assumption | apply onward_vampCfgRead | apply onward_vampTakes | intro _ | apply onward_ite | split)

theorem onward_execViolationRecordWrite {s t : State} (h0 : execViolationRecordWrite  s = .next t) : s.Onward t := by
  unfold execViolationRecordWrite at h0
  rw [← Host.Outcome.next.inj h0]
  have g := State.Onward.refl s
  repeat' with_reducible (first | assumption | apply onward_settle | apply onward_violWrite | intro _ | apply onward_ite | split)

theorem onward_execFmBindVppb {s t : State} {eid sw v kind port obj slice} (h0 : execFmBindVppb eid sw v kind port obj slice s = .next t) : s.Onward t := by
  unfold execFmBindVppb at h0
  rw [← Host.Outcome.next.inj h0]
  have g := State.Onward.refl s
  repeat' with_reducible (first | assumption | apply onward_firmware | apply onward_fmBind | apply onward_writeDone | intro _ | apply onward_ite | split)

theorem onward_execFmUnbindVppb {s t : State} {eid sw v umode} (h0 : execFmUnbindVppb eid sw v umode s = .next t) : s.Onward t := by
  unfold execFmUnbindVppb at h0
  rw [← Host.Outcome.next.inj h0]
  have g := State.Onward.refl s
  repeat' with_reducible (first | assumption | apply onward_firmware | apply onward_fmUnbind | apply onward_writeDone | intro _ | apply onward_ite | split)

theorem onward_execFmGenerateAerEvent {s t : State} {eid sw v err} (h0 : execFmGenerateAerEvent eid sw v err s = .next t) : s.Onward t := by
  unfold execFmGenerateAerEvent at h0
  rw [← Host.Outcome.next.inj h0]
  have g := State.Onward.refl s
  repeat' with_reducible (first | assumption | apply onward_firmware | apply onward_fmAer | intro _ | apply onward_ite | split)

theorem onward_execFmPpbConfigRequest {s t : State} {eid sw n reg write val len} (h0 : execFmPpbConfigRequest eid sw n reg write val len s = .next t) : s.Onward t := by
  unfold execFmPpbConfigRequest at h0
  rw [← Host.Outcome.next.inj h0]
  have g := State.Onward.refl s
  repeat' with_reducible (first | assumption | apply onward_firmware | apply onward_fmConfig | apply onward_writeDone | intro _ | apply onward_ite | split)

theorem onward_execFmMldTunnel {s t : State} {eid sw n ld body} (h0 : execFmMldTunnel eid sw n ld body s = .next t) : s.Onward t := by
  unfold execFmMldTunnel at h0
  rw [← Host.Outcome.next.inj h0]
  have g := State.Onward.refl s
  repeat' with_reducible (first | assumption | apply onward_firmware | apply onward_fmTunnel | intro _ | apply onward_ite | split)

theorem onward_execFmDcdCapacityChange {s t : State} {eid sw obj ext add n} (h0 : execFmDcdCapacityChange eid sw obj ext add n s = .next t) : s.Onward t := by
  unfold execFmDcdCapacityChange at h0
  rw [← Host.Outcome.next.inj h0]
  have g := State.Onward.refl s
  repeat' with_reducible (first | assumption | apply onward_firmware | apply onward_fmDcd | apply onward_writeDone | intro _ | apply onward_ite | split)

theorem onward_execFmLeaseExpiry {s t : State} (h0 : execFmLeaseExpiry  s = .next t) : s.Onward t := by
  unfold execFmLeaseExpiry at h0
  rw [← Host.Outcome.next.inj h0]
  have g := State.Onward.refl s
  repeat' with_reducible (first | assumption | apply onward_leaseExpiry | intro _ | apply onward_ite | split)

theorem onward_execRemoteReportRx {s t : State} {sw kind val} (h0 : execRemoteReportRx sw kind val s = .next t) : s.Onward t := by
  unfold execRemoteReportRx at h0
  rw [(within_next h0).2]
  have g := State.Onward.refl s
  repeat' with_reducible (first | assumption | apply onward_reportRx | apply onward_writeDone | intro _ | apply onward_ite | split)

theorem onward_execRemoteReportRepeat {s t : State} {sw} (h0 : execRemoteReportRepeat sw s = .next t) : s.Onward t := by
  unfold execRemoteReportRepeat at h0
  rw [(within_next h0).2]
  have g := State.Onward.refl s
  repeat' with_reducible (first | assumption | apply onward_reportRepeat | apply onward_writeDone | intro _ | apply onward_ite | split)

theorem onward_execRemoteReportAckRx {s t : State} {sw kind val} (h0 : execRemoteReportAckRx sw kind val s = .next t) : s.Onward t := by
  unfold execRemoteReportAckRx at h0
  rw [(within_next h0).2]
  have g := State.Onward.refl s
  repeat' with_reducible (first | assumption | apply onward_reportAcked | intro _ | apply onward_ite | split)

theorem onward_execFmPhysicalPortControl {s t : State} {eid sw n op} (h0 : execFmPhysicalPortControl eid sw n op s = .next t) : s.Onward t := by
  unfold execFmPhysicalPortControl at h0
  rw [← Host.Outcome.next.inj h0]
  have g := State.Onward.refl s
  repeat' with_reducible (first | assumption | apply onward_firmware | apply onward_fmPort | apply onward_writeDone | intro _ | apply onward_ite | split)

theorem onward_execLaneDetectDone {s t : State} {b l} (h0 : execLaneDetectDone b l s = .next t) : s.Onward t := by
  unfold execLaneDetectDone at h0
  rw [(within_next h0).2]
  have g := State.Onward.refl s
  repeat' with_reducible (first | assumption | apply onward_detectDone | intro _ | apply onward_ite | split)

theorem onward_execLaneDetectTimeout {s t : State} {b l} (h0 : execLaneDetectTimeout b l s = .next t) : s.Onward t := by
  unfold execLaneDetectTimeout at h0
  rw [(within_next h0).2]
  have g := State.Onward.refl s
  repeat' with_reducible (first | assumption | apply onward_detectTimeout | intro _ | apply onward_ite | split)

theorem onward_execLaneCdrLock {s t : State} {b l ofs} (h0 : execLaneCdrLock b l ofs s = .next t) : s.Onward t := by
  unfold execLaneCdrLock at h0
  rw [(within_next h0).2]
  have g := State.Onward.refl s
  repeat' with_reducible (first | assumption | apply onward_laneCdrLocked | intro _ | apply onward_ite | split)

theorem onward_execLaneAdaptDone {s t : State} {b l} (h0 : execLaneAdaptDone b l s = .next t) : s.Onward t := by
  unfold execLaneAdaptDone at h0
  rw [(within_next h0).2]
  have g := State.Onward.refl s
  repeat' with_reducible (first | assumption | apply onward_laneAdapted | intro _ | apply onward_ite | split)

theorem onward_execLaneAdaptTimeout {s t : State} {b l} (h0 : execLaneAdaptTimeout b l s = .next t) : s.Onward t := by
  unfold execLaneAdaptTimeout at h0
  rw [(within_next h0).2]
  have g := State.Onward.refl s
  repeat' with_reducible (first | assumption | apply onward_laneAdapted | intro _ | apply onward_ite | split)

theorem onward_execTrainingBlockRx {s t : State} {b l blk mir own} (h0 : execTrainingBlockRx b l blk mir own s = .next t) : s.Onward t := by
  unfold execTrainingBlockRx at h0
  rw [(within_next h0).2]
  have g := State.Onward.refl s
  repeat' with_reducible (first | assumption | apply onward_lanesFollow | apply onward_trainingBlock | intro _ | apply onward_ite | split)

theorem onward_execLaneMapRetry {s t : State} {b l} (h0 : execLaneMapRetry b l s = .next t) : s.Onward t := by
  unfold execLaneMapRetry at h0
  rw [(within_next h0).2]
  have g := State.Onward.refl s
  repeat' with_reducible (first | assumption | apply onward_laneRetry | intro _ | apply onward_ite | split)

theorem onward_execLaneBlockLock {s t : State} {b l} (h0 : execLaneBlockLock b l s = .next t) : s.Onward t := by
  unfold execLaneBlockLock at h0
  rw [(within_next h0).2]
  have g := State.Onward.refl s
  repeat' with_reducible (first | assumption | apply onward_laneBlockLock | apply onward_lanesFollow | intro _ | apply onward_ite | split)

theorem onward_execLaneBlockLockLoss {s t : State} {b l} (h0 : execLaneBlockLockLoss b l s = .next t) : s.Onward t := by
  unfold execLaneBlockLockLoss at h0
  rw [(within_next h0).2]
  have g := State.Onward.refl s
  repeat' with_reducible (first | assumption | apply onward_laneBlockLoss | apply onward_lanesFollow | intro _ | apply onward_ite | split)

theorem onward_execLaneCdrLoss {s t : State} {b l} (h0 : execLaneCdrLoss b l s = .next t) : s.Onward t := by
  unfold execLaneCdrLoss at h0
  rw [(within_next h0).2]
  have g := State.Onward.refl s
  repeat' with_reducible (first | assumption | apply onward_laneCdrLoss | apply onward_lanesFollow | intro _ | apply onward_ite | split)

theorem onward_execLaneRelock {s t : State} {b l} (h0 : execLaneRelock b l s = .next t) : s.Onward t := by
  unfold execLaneRelock at h0
  rw [(within_next h0).2]
  have g := State.Onward.refl s
  repeat' with_reducible (first | assumption | apply onward_laneRelock | apply onward_lanesFollow | intro _ | apply onward_ite | split)

theorem onward_execLaneRelockTimeout {s t : State} {b l} (h0 : execLaneRelockTimeout b l s = .next t) : s.Onward t := by
  unfold execLaneRelockTimeout at h0
  rw [(within_next h0).2]
  have g := State.Onward.refl s
  repeat' with_reducible (first | assumption | apply onward_laneRelockTimeout | apply onward_lanesFollow | intro _ | apply onward_ite | split)

theorem onward_execLaneRelockStable {s t : State} {b l} (h0 : execLaneRelockStable b l s = .next t) : s.Onward t := by
  unfold execLaneRelockStable at h0
  rw [(within_next h0).2]
  have g := State.Onward.refl s
  repeat' with_reducible (first | assumption | apply onward_laneRelockStable | intro _ | apply onward_ite | split)

theorem onward_execAdaptUpdate {s t : State} {b l} (h0 : execAdaptUpdate b l s = .next t) : s.Onward t := by
  unfold execAdaptUpdate at h0
  rw [(within_next h0).2]
  have g := State.Onward.refl s
  repeat' with_reducible (first | assumption | apply onward_adaptUpdate | intro _ | apply onward_ite | split)

theorem onward_execAdaptFreezeWrite {s t : State} {p b l v} (h0 : execAdaptFreezeWrite p b l v s = .next t) : s.Onward t := by
  unfold execAdaptFreezeWrite at h0
  rw [(within_next h0).2]
  have g := State.Onward.refl s
  repeat' with_reducible (first | assumption | apply onward_pathWrite | intro _ | apply onward_ite | split)

theorem onward_execCoefSnapshot {s t : State} {p b l v} (h0 : execCoefSnapshot p b l v s = .next t) : s.Onward t := by
  unfold execCoefSnapshot at h0
  rw [(within_next h0).2]
  have g := State.Onward.refl s
  repeat' with_reducible (first | assumption | apply onward_pathWrite | intro _ | apply onward_ite | split)

theorem onward_execMarginScanStart {s t : State} {p b l v} (h0 : execMarginScanStart p b l v s = .next t) : s.Onward t := by
  unfold execMarginScanStart at h0
  rw [(within_next h0).2]
  have g := State.Onward.refl s
  repeat' with_reducible (first | assumption | apply onward_pathWrite | intro _ | apply onward_ite | split)

theorem onward_execMarginPointDone {s t : State} {b l pass} (h0 : execMarginPointDone b l pass s = .next t) : s.Onward t := by
  unfold execMarginPointDone at h0
  rw [(within_next h0).2]
  have g := State.Onward.refl s
  repeat' with_reducible (first | assumption | apply onward_marginPoint | intro _ | apply onward_ite | split)

theorem onward_execHostMarginCommand {s t : State} {b l start} (h0 : execHostMarginCommand b l start s = .next t) : s.Onward t := by
  unfold execHostMarginCommand at h0
  rw [(within_next h0).2]
  have g := State.Onward.refl s
  repeat' with_reducible (first | assumption | apply onward_hostMargin | intro _ | apply onward_ite | split)

theorem onward_execBankWake {s t : State} {p b v} (h0 : execBankWake p b v s = .next t) : s.Onward t := by
  unfold execBankWake at h0
  rw [(within_next h0).2]
  have g := State.Onward.refl s
  repeat' with_reducible (first | assumption | apply onward_pathWrite | intro _ | apply onward_ite | split)

theorem onward_execBankPark {s t : State} {p b v} (h0 : execBankPark p b v s = .next t) : s.Onward t := by
  unfold execBankPark at h0
  rw [(within_next h0).2]
  have g := State.Onward.refl s
  repeat' with_reducible (first | assumption | apply onward_pathWrite | intro _ | apply onward_ite | split)

theorem onward_execBankReady {s t : State} {b pllOk calOk} (h0 : execBankReady b pllOk calOk s = .next t) : s.Onward t := by
  unfold execBankReady at h0
  rw [(within_next h0).2]
  have g := State.Onward.refl s
  repeat' with_reducible (first | assumption | apply onward_bankReady | intro _ | apply onward_ite | split)

theorem onward_execBankParkDone {s t : State} {b} (h0 : execBankParkDone b s = .next t) : s.Onward t := by
  unfold execBankParkDone at h0
  rw [(within_next h0).2]
  have g := State.Onward.refl s
  repeat' with_reducible (first | assumption | apply onward_bankParked | intro _ | apply onward_ite | split)

theorem onward_execBankPllUnlock {s t : State} {b} (h0 : execBankPllUnlock b s = .next t) : s.Onward t := by
  unfold execBankPllUnlock at h0
  rw [(within_next h0).2]
  have g := State.Onward.refl s
  repeat' with_reducible (first | assumption | apply onward_pllUnlock | intro _ | apply onward_ite | split)

theorem onward_execBankRelockDone {s t : State} {b locked} (h0 : execBankRelockDone b locked s = .next t) : s.Onward t := by
  unfold execBankRelockDone at h0
  rw [(within_next h0).2]
  have g := State.Onward.refl s
  repeat' with_reducible (first | assumption | apply onward_pllRetried | intro _ | apply onward_ite | split)

theorem onward_execFamilyChange {s t : State} {p b v} (h0 : execFamilyChange p b v s = .next t) : s.Onward t := by
  unfold execFamilyChange at h0
  rw [(within_next h0).2]
  have g := State.Onward.refl s
  repeat' with_reducible (first | assumption | apply onward_pathWrite | intro _ | apply onward_ite | split)

theorem onward_execFamilyRelockDone {s t : State} {b} (h0 : execFamilyRelockDone b s = .next t) : s.Onward t := by
  unfold execFamilyRelockDone at h0
  rw [(within_next h0).2]
  have g := State.Onward.refl s
  repeat' with_reducible (first | assumption | apply onward_familyDone | apply onward_settle | intro _ | apply onward_ite | split)

/-- Every command, by its meaning's lemma. -/
theorem onward_exec {c : Instr} {s t : State} (h : exec c s = .next t) : s.Onward t := by
  cases c with
  | registerWrite _ _ _ => exact onward_execRegisterWrite h
  | loReadSnapshot _ _ => exact onward_execLoReadSnapshot h
  | loWriteHold _ _ _ => exact onward_execLoWriteHold h
  | hiWriteApply _ _ _ => exact onward_execHiWriteApply h
  | stickyBitClear _ _ _ => exact onward_execStickyBitClear h
  | stitchBoundary _ => exact onward_execStitchBoundary h
  | stitchRun _ _ => exact onward_execStitchRun h
  | swapArm _ _ => exact onward_execSwapArm h
  | swapDisarm _ _ => exact onward_execSwapDisarm h
  | swapApply _ _ => exact onward_execSwapApply h
  | armStateRx _ _ => exact onward_execArmStateRx h
  | swapLateApply _ _ => exact onward_execSwapLateApply h
  | stitchMarkerRx _ _ _ _ => exact onward_execStitchMarkerRx h
  | alignAcquired => exact onward_execAlignAcquired h
  | alignLost => exact onward_execAlignLost h
  | sourceLost => exact onward_execSourceLost h
  | holdoverExpiry => exact onward_execHoldoverExpiry h
  | backupRootTakeover => exact onward_execBackupRootTakeover h
  | stitchInPulse _ _ _ => exact onward_execStitchInPulse h
  | epochEnd _ => exact onward_execEpochEnd h
  | loadStart _ _ => exact onward_execLoadStart h
  | loadAbort _ _ => exact onward_execLoadAbort h
  | loadFetchDone _ => exact onward_execLoadFetchDone h
  | loadAuthDone _ => exact onward_execLoadAuthDone h
  | loadCheckDone _ _ => exact onward_execLoadCheckDone h
  | loadCommitStart => exact onward_execLoadCommitStart h
  | loadCommitDone => exact onward_execLoadCommitDone h
  | heldStgWriteRelease => exact onward_execHeldStgWriteRelease h
  | heldArmRelease => exact onward_execHeldArmRelease h
  | firmwareVerifyDone _ _ => exact onward_execFirmwareVerifyDone h
  | bootConfirm _ _ => exact onward_execBootConfirm h
  | bootConfirmTimeout => exact onward_execBootConfirmTimeout h
  | bootPrefWrite _ _ => exact onward_execBootPrefWrite h
  | laneDetectDone _ _ => exact onward_execLaneDetectDone h
  | laneDetectTimeout _ _ => exact onward_execLaneDetectTimeout h
  | laneCdrLock _ _ _ => exact onward_execLaneCdrLock h
  | laneAdaptDone _ _ => exact onward_execLaneAdaptDone h
  | laneAdaptTimeout _ _ => exact onward_execLaneAdaptTimeout h
  | trainingBlockRx _ _ _ _ _ => exact onward_execTrainingBlockRx h
  | laneMapRetry _ _ => exact onward_execLaneMapRetry h
  | laneBlockLock _ _ => exact onward_execLaneBlockLock h
  | laneBlockLockLoss _ _ => exact onward_execLaneBlockLockLoss h
  | laneCdrLoss _ _ => exact onward_execLaneCdrLoss h
  | laneRelock _ _ => exact onward_execLaneRelock h
  | laneRelockTimeout _ _ => exact onward_execLaneRelockTimeout h
  | laneRelockStable _ _ => exact onward_execLaneRelockStable h
  | adaptUpdate _ _ => exact onward_execAdaptUpdate h
  | adaptFreezeWrite _ _ _ _ => exact onward_execAdaptFreezeWrite h
  | coefSnapshot _ _ _ _ => exact onward_execCoefSnapshot h
  | marginScanStart _ _ _ _ => exact onward_execMarginScanStart h
  | marginPointDone _ _ _ => exact onward_execMarginPointDone h
  | hostMarginCommand _ _ _ => exact onward_execHostMarginCommand h
  | bankWake _ _ _ => exact onward_execBankWake h
  | bankPark _ _ _ => exact onward_execBankPark h
  | bankReady _ _ _ => exact onward_execBankReady h
  | bankParkDone _ => exact onward_execBankParkDone h
  | bankPllUnlock _ => exact onward_execBankPllUnlock h
  | bankRelockDone _ _ => exact onward_execBankRelockDone h
  | familyChange _ _ _ => exact onward_execFamilyChange h
  | portLinkUp _ _ _ _ _ _ _ _ _ => exact onward_execPortLinkUp h
  | portTrainTimeout _ => exact onward_execPortTrainTimeout h
  | portLtssmDetect _ => exact onward_execPortLtssmDetect h
  | portRecoveryEntry _ => exact onward_execPortRecoveryEntry h
  | recoveryWindowEnd _ => exact onward_execRecoveryWindowEnd h
  | xrEnableWrite _ _ _ => exact onward_execXrEnableWrite h
  | xrAttemptFail _ => exact onward_execXrAttemptFail h
  | portRetrain _ _ _ => exact onward_execPortRetrain h
  | portHotReset _ _ _ => exact onward_execPortHotReset h
  | portDisable _ _ _ => exact onward_execPortDisable h
  | hotResetReceived _ => exact onward_execHotResetReceived h
  | secondaryBusReset _ _ _ => exact onward_execSecondaryBusReset h
  | npCompletionRx _ _ => exact onward_execNpCompletionRx h
  | switchCplTimeout _ _ => exact onward_execSwitchCplTimeout h
  | hpLossTimeout _ => exact onward_execHpLossTimeout h
  | linkLossDeclare _ => exact onward_execLinkLossDeclare h
  | linkLossComplete _ => exact onward_execLinkLossComplete h
  | hpWaitExpiry _ => exact onward_execHpWaitExpiry h
  | drsReceived _ => exact onward_execDrsReceived h
  | ideKeyProg _ _ _ => exact onward_execIdeKeyProg h
  | ideEstTimeout _ => exact onward_execIdeEstTimeout h
  | ideMacFail _ _ => exact onward_execIdeMacFail h
  | ideRekeyTimer _ => exact onward_execIdeRekeyTimer h
  | laneMarkerRx _ _ _ _ => exact onward_execLaneMarkerRx h
  | flitRx _ _ _ _ _ _ _ => exact onward_execFlitRx h
  | flitTx _ => exact onward_execFlitTx h
  | replayTimerExpiry _ => exact onward_execReplayTimerExpiry h
  | spillReadback _ _ _ => exact onward_execSpillReadback h
  | initRx _ _ => exact onward_execInitRx h
  | initRetryTimer _ => exact onward_execInitRetryTimer h
  | credRx _ _ _ => exact onward_execCredRx h
  | linkdownRx _ => exact onward_execLinkdownRx h
  | laceReqRx _ _ => exact onward_execLaceReqRx h
  | laceReadyRx _ _ => exact onward_execLaceReadyRx h
  | unlaceReqRx _ _ => exact onward_execUnlaceReqRx h
  | unlaceAckRx _ _ => exact onward_execUnlaceAckRx h
  | laceAbortRx _ _ => exact onward_execLaceAbortRx h
  | fenceRx _ _ => exact onward_execFenceRx h
  | fenceDoneRx _ _ => exact onward_execFenceDoneRx h
  | flushedRx _ _ => exact onward_execFlushedRx h
  | mlRetrain _ _ _ => exact onward_execMlRetrain h
  | mlDisable _ _ _ => exact onward_execMlDisable h
  | mlTrainTimeout _ => exact onward_execMlTrainTimeout h
  | graceExpiry _ => exact onward_execGraceExpiry h
  | mlFlushDone _ => exact onward_execMlFlushDone h
  | laceGo _ _ _ => exact onward_execLaceGo h
  | unlaceGo _ _ _ => exact onward_execUnlaceGo h
  | laceTimeout _ => exact onward_execLaceTimeout h
  | routeFailoverTimeout _ => exact onward_execRouteFailoverTimeout h
  | fenceRetryTimeout _ => exact onward_execFenceRetryTimeout h
  | requestArrival _ _ _ => exact onward_execRequestArrival h
  | cellAllocateWaiting _ => exact onward_execCellAllocateWaiting h
  | redDeferRelease _ => exact onward_execRedDeferRelease h
  | activeSlotClaim => exact onward_execActiveSlotClaim h
  | queueStateFetchDone _ _ => exact onward_execQueueStateFetchDone h
  | cellTime _ => exact onward_execCellTime h
  | congestionAvgUpdate => exact onward_execCongestionAvgUpdate h
  | coherentRequestArrival _ _ _ => exact onward_execCoherentRequestArrival h
  | dirSetFetchDone _ _ _ _ => exact onward_execDirSetFetchDone h
  | haMemoryResponse _ _ _ => exact onward_execHaMemoryResponse h
  | snoopResponseRx _ _ => exact onward_execSnoopResponseRx h
  | biconflictRx _ _ => exact onward_execBiconflictRx h
  | tackTimeout _ _ _ => exact onward_execTackTimeout h
  | holdWindowEnd _ _ _ => exact onward_execHoldWindowEnd h
  | conflictQueueAdmit _ => exact onward_execConflictQueueAdmit h
  | evictionTackGrant _ => exact onward_execEvictionTackGrant h
  | haResumeClean _ _ _ => exact onward_execHaResumeClean h
  | haDepartClear _ _ _ => exact onward_execHaDepartClear h
  | departureWalkEnd _ => exact onward_execDepartureWalkEnd h
  | lwtResend _ => exact onward_execLwtResend h
  | lwtResendComplete _ => exact onward_execLwtResendComplete h
  | snoopReissue _ => exact onward_execSnoopReissue h
  | insoleRequest _ => exact onward_execInsoleRequest h
  | insoleReadDone _ _ _ => exact onward_execInsoleReadDone h
  | tagWriteGo _ _ => exact onward_execTagWriteGo h
  | remapFillDone _ _ _ => exact onward_execRemapFillDone h
  | heatScanEnd => exact onward_execHeatScanEnd h
  | migrationStart => exact onward_execMigrationStart h
  | migrationWritesDrained _ _ => exact onward_execMigrationWritesDrained h
  | migrationCopyDone _ _ _ _ _ => exact onward_execMigrationCopyDone h
  | frameFree _ => exact onward_execFrameFree h
  | gcmdPromote _ _ => exact onward_execGcmdPromote h
  | gcmdDemote _ _ => exact onward_execGcmdDemote h
  | gcmdPin _ _ => exact onward_execGcmdPin h
  | gcmdUnpin _ _ => exact onward_execGcmdUnpin h
  | gcmdReset _ _ => exact onward_execGcmdReset h
  | shelfClean _ _ => exact onward_execShelfClean h
  | shelfRelease _ _ => exact onward_execShelfRelease h
  | cleaningPassEnd _ => exact onward_execCleaningPassEnd h
  | insoleStartupDone _ => exact onward_execInsoleStartupDone h
  | channelFault _ => exact onward_execChannelFault h
  | discoveryComplete _ _ _ _ _ _ _ => exact onward_execDiscoveryComplete h
  | discoveryTimeout _ => exact onward_execDiscoveryTimeout h
  | bindCommand _ _ => exact onward_execBindCommand h
  | unbindCommand _ _ => exact onward_execUnbindCommand h
  | bindApply => exact onward_execBindApply h
  | unbindApply _ _ => exact onward_execUnbindApply h
  | sliceReset _ _ => exact onward_execSliceReset h
  | sliceRemove _ _ => exact onward_execSliceRemove h
  | sliceGate _ => exact onward_execSliceGate h
  | sliceDrainTimeout _ => exact onward_execSliceDrainTimeout h
  | sliceCmdEnd _ => exact onward_execSliceCmdEnd h
  | dumpFrameWriteDone _ => exact onward_execDumpFrameWriteDone h
  | qpEnable _ _ => exact onward_execQpEnable h
  | qpDisable _ _ => exact onward_execQpDisable h
  | cobDoorbell _ _ _ => exact onward_execCobDoorbell h
  | descriptorFetchDone _ _ _ => exact onward_execDescriptorFetchDone h
  | descriptorStart => exact onward_execDescriptorStart h
  | descriptorComplete _ _ => exact onward_execDescriptorComplete h
  | cobDescTimeout _ => exact onward_execCobDescTimeout h
  | wakeGrant => exact onward_execWakeGrant h
  | shelfPark _ _ => exact onward_execShelfPark h
  | shelfWake _ _ => exact onward_execShelfWake h
  | shelfIdlePark _ => exact onward_execShelfIdlePark h
  | shelfParkAck _ => exact onward_execShelfParkAck h
  | shelfParkTimeout _ => exact onward_execShelfParkTimeout h
  | shelfWakeDone _ => exact onward_execShelfWakeDone h
  | shelfWakeTimeout _ => exact onward_execShelfWakeTimeout h
  | fmBindVppb _ _ _ _ _ _ _ => exact onward_execFmBindVppb h
  | fmUnbindVppb _ _ _ _ => exact onward_execFmUnbindVppb h
  | fmGenerateAerEvent _ _ _ _ => exact onward_execFmGenerateAerEvent h
  | fmPpbConfigRequest _ _ _ _ _ _ _ => exact onward_execFmPpbConfigRequest h
  | fmMldTunnel _ _ _ _ _ => exact onward_execFmMldTunnel h
  | fmDcdCapacityChange _ _ _ _ _ _ => exact onward_execFmDcdCapacityChange h
  | fmLeaseExpiry => exact onward_execFmLeaseExpiry h
  | remoteReportRx _ _ _ => exact onward_execRemoteReportRx h
  | remoteReportRepeat _ => exact onward_execRemoteReportRepeat h
  | remoteReportAckRx _ _ _ => exact onward_execRemoteReportAckRx h
  | vampOutboundRequest _ => exact onward_execVampOutboundRequest h
  | vampInboundRequest _ => exact onward_execVampInboundRequest h
  | vampCompletion _ => exact onward_execVampCompletion h
  | vampMrdlk _ => exact onward_execVampMrdlk h
  | vampUnlock _ => exact onward_execVampUnlock h
  | vampLockTimeout _ => exact onward_execVampLockTimeout h
  | vampIntxMessage _ _ _ _ => exact onward_execVampIntxMessage h
  | vampErrMessage _ _ _ => exact onward_execVampErrMessage h
  | vampForwardMessage _ _ => exact onward_execVampForwardMessage h
  | vampConsumedMessage _ => exact onward_execVampConsumedMessage h
  | vampMessageRelease _ => exact onward_execVampMessageRelease h
  | acceptanceNoticeRx _ => exact onward_execAcceptanceNoticeRx h
  | pfLineAgeExpiry _ _ _ => exact onward_execPfLineAgeExpiry h
  | vampNpTimeout _ => exact onward_execVampNpTimeout h
  | vampConfigWrite _ _ _ => exact onward_execVampConfigWrite h
  | vampConfigRead _ _ _ => exact onward_execVampConfigRead h
  | violationRecordWrite => exact onward_execViolationRecordWrite h
  | ownerClaim _ _ _ _ => exact onward_execOwnerClaim h
  | keyInstall _ _ _ _ => exact onward_execKeyInstall h
  | keyRevoke _ _ _ => exact onward_execKeyRevoke h
  | svnRaise _ _ _ _ => exact onward_execSvnRaise h
  | debugUnlock _ _ _ => exact onward_execDebugUnlock h
  | debugLock _ => exact onward_execDebugLock h
  | ownerRelease _ _ => exact onward_execOwnerRelease h
  | returnModule _ _ => exact onward_execReturn h
  | returnFillDone => exact onward_execReturnFillDone h
  | flashWrite _ _ _ _ => exact onward_execFlashWrite h
  | selftest _ _ => exact onward_execSelftest h
  | healthTestFail => exact onward_execHealthTestFail h
  | spdmGetVersion _ => exact onward_execSpdmGetVersion h
  | spdmGetCapabilities _ => exact onward_execSpdmGetCapabilities h
  | spdmNegotiateAlgorithms _ => exact onward_execSpdmNegotiateAlgorithms h
  | spdmGetCertificate _ _ => exact onward_execSpdmGetCertificate h
  | spdmChallenge _ _ => exact onward_execSpdmChallenge h
  | spdmGetMeasurements _ _ => exact onward_execSpdmGetMeasurements h
  | spdmKeyExchange _ _ _ => exact onward_execSpdmKeyExchange h
  | spdmFinish _ _ => exact onward_execSpdmFinish h
  | eyeDigestDone => exact onward_execEyeDigestDone h
  | mctpPacketRx _ _ _ _ _ _ _ _ => exact onward_execMctpPacketRx h
  | setEndpointId _ _ _ _ => exact onward_execSetEndpointId h
  | getEndpointId _ _ _ => exact onward_execGetEndpointId h
  | getMctpVersionSupport _ _ _ => exact onward_execGetMctpVersionSupport h
  | getMessageTypeSupport _ _ _ => exact onward_execGetMessageTypeSupport h
  | getVendorDefinedSupport _ _ _ => exact onward_execGetVendorDefinedSupport h
  | allocateEndpointIds _ _ _ => exact onward_execAllocateEndpointIds h
  | routingInfoUpdate _ _ _ => exact onward_execRoutingInfoUpdate h
  | csrRead _ _ _ _ _ => exact onward_execCsrRead h
  | csrWrite _ _ _ _ _ _ => exact onward_execCsrWrite h
  | lastXfer _ _ _ _ _ _ => exact onward_execLastXfer h
  | secRelay _ _ _ _ _ _ _ _ _ _ => exact onward_execSecRelay h
  | eventReplay _ _ _ _ => exact onward_execEventReplay h
  | moduleInfo _ _ => exact onward_execModuleInfo h
  | recoveryBoot _ _ _ => exact onward_execRecoveryBoot h
  | dbgOpen _ _ _ => exact onward_execDbgOpen h
  | dbgAccess _ _ _ _ _ _ _ _ _ => exact onward_execDbgAccess h
  | dbgClose _ _ _ => exact onward_execDbgClose h
  | dbgIdleTimeout => exact onward_execDbgIdleTimeout h
  | coreDeviceLoad _ _ _ _ => exact onward_execCoreDeviceLoad h
  | coreDeviceStore _ _ _ _ => exact onward_execCoreDeviceStore h
  | coreFence _ _ _ => exact onward_execCoreFence h
  | coreTrap _ => exact onward_execCoreTrap h
  | deviceStoreComplete _ _ _ => exact onward_execDeviceStoreComplete h
  | deviceAccessTimeout _ => exact onward_execDeviceAccessTimeout h
  | coreReset _ _ _ => exact onward_execCoreReset h
  | coreHoldWrite _ _ _ => exact onward_execCoreHoldWrite h
  | shankParityError _ _ _ => exact onward_execShankParityError h
  | unitRelease _ _ => exact onward_execUnitRelease h
  | warmRestart _ _ => exact onward_execWarmRestart h
  | restartVerifyDone _ _ => exact onward_execRestartVerifyDone h
  | restartLoadDone => exact onward_execRestartLoadDone h
  | restartConfirmTimeout => exact onward_execRestartConfirmTimeout h
  | powerdownGo _ _ => exact onward_execPowerdownGo h
  | powerdownAbort _ _ => exact onward_execPowerdownAbort h
  | pwrdnDrainDone => exact onward_execPwrdnDrainDone h
  | pwrdnDrainTimeout => exact onward_execPwrdnDrainTimeout h
  | pwrdnCleanDone => exact onward_execPwrdnCleanDone h
  | pwrdnCleanTimeout => exact onward_execPwrdnCleanTimeout h
  | pwrdnGpfDone => exact onward_execPwrdnGpfDone h
  | gpfPhase1Request _ => exact onward_execGpfPhase1Request h
  | gpfPhase2Request _ => exact onward_execGpfPhase2Request h
  | gpfP2Timeout _ => exact onward_execGpfP2Timeout h
  | gpfPartnerComplete _ => exact onward_execGpfPartnerComplete h
  | feedWindowEnter _ => exact onward_execFeedWindowEnter h
  | feedWindowLeave _ => exact onward_execFeedWindowLeave h
  | biasPresent => exact onward_execBiasPresent h
  | biasLoss => exact onward_execBiasLoss h
  | insertionDelayExpiry => exact onward_execInsertionDelayExpiry h
  | pmEnRise => exact onward_execPmEnRise h
  | pmEnLow => exact onward_execPmEnLow h
  | latchClear => exact onward_execLatchClear h
  | cooldownEnd => exact onward_execCooldownEnd h
  | powerGood => exact onward_execPowerGood h
  | regulatorEnable => exact onward_execRegulatorEnable h
  | powerGoodLost => exact onward_execPowerGoodLost h
  | fastTrip => exact onward_execFastTrip h
  | breakerTrip => exact onward_execBreakerTrip h
  | soaTrip => exact onward_execSoaTrip h
  | rampTimeout => exact onward_execRampTimeout h
  | fetOvertemp => exact onward_execFetOvertemp h
  | reverseCurrentTurnoff _ => exact onward_execReverseCurrentTurnoff h
  | nvCommit _ _ => exact onward_execNvCommit h
  | peakClear _ _ => exact onward_execPeakClear h
  | avsRegularLower => exact onward_execAvsRegularLower h
  | avsUrgentRaise _ _ => exact onward_execAvsUrgentRaise h
  | perstAssert => exact onward_execPerstAssert h
  | perstRelease => exact onward_execPerstRelease h
  | moduleResetCmd _ _ => exact onward_execModuleResetCmd h
  | mgmtReset _ _ => exact onward_execMgmtReset h
  | mgmtHoldWrite _ _ => exact onward_execMgmtHoldWrite h
  | mgmtRestartDone => exact onward_execMgmtRestartDone h
  | cageResetRelease _ => exact onward_execCageResetRelease h
  | readySend => exact onward_execReadySend h
  | readyLimitExpiry => exact onward_execReadyLimitExpiry h
  | i3cEntdaa _ => exact onward_execI3cEntdaa h
  | i3cRstdaa => exact onward_execI3cRstdaa h
  | i3cSetnewda _ => exact onward_execI3cSetnewda h
  | i3cGetpid => exact onward_execI3cGetpid h
  | i3cGetbcr => exact onward_execI3cGetbcr h
  | i3cGetdcr => exact onward_execI3cGetdcr h
  | i3cGetmxds => exact onward_execI3cGetmxds h
  | i3cEnec => exact onward_execI3cEnec h
  | i3cDisec => exact onward_execI3cDisec h
  | i3cSetmrl _ => exact onward_execI3cSetmrl h
  | i3cSetmwl _ => exact onward_execI3cSetmwl h
  | i3cHotJoin => exact onward_execI3cHotJoin h
  | alwaysOnResetRelease => exact onward_execAlwaysOnResetRelease h
  | powerUpSelfTestDone _ => exact onward_execPowerUpSelfTestDone h
  | moduleResetPulseEnd => exact onward_execModuleResetPulseEnd h
  | familyRelockDone _ => exact onward_execFamilyRelockDone h
  | tagCacheFillDone _ _ => exact onward_execTagCacheFillDone h
  | deviceLoadComplete _ _ _ _ => exact onward_execDeviceLoadComplete h
  | fmPhysicalPortControl _ _ _ _ => exact onward_execFmPhysicalPortControl h

/-- A step: the queue aside. -/
theorem onward_step {s t : State} (h : step s = .next t) : ({ s with pending := s.pending.drop 1 } : State).Onward t := by
  unfold step at h
  split at h
  · rename_i e
    cases h
    rw [e]
    have k : ({ s with pending := ([] : List Instr).drop 1 } : State) = s := by
      rw [show ([] : List Instr).drop 1 = s.pending from e.symm]
    rw [k]
    exact .refl s
  · rename_i e
    rw [e]
    exact onward_exec h

end Sys2Proof.Machine
end

