-- ==== Sys2Proof/Laws/Frames.lean ====
section
/-!
SUPPORT. What single operations leave alone: the swap of a register, the bank control word, an accepted security command, and the five frames.
-/
namespace Sys2Proof.Machine
set_option Elab.async false
set_option linter.all false
open Sys2Proof

theorem act_applyKey (s : State) (x : Bool) (k j : Nat) :
    (s.applyKey x k).act.get j = if j = k then (s.act.get k &&& ~~~ stgMask k) ||| (s.regs.get k &&& stgMask k) else s.act.get j := by
  unfold State.applyKey
  cases x <;> exact RegFile.get_set _ _ _ _

theorem regs_applyKey_true (s : State) (k j : Nat) :
    (s.applyKey true k).regs.get j = if j = k then (s.regs.get k &&& ~~~ stgMask k) ||| (s.act.get k &&& stgMask k) else s.regs.get j := by
  unfold State.applyKey
  exact RegFile.get_set _ _ _ _

theorem word_back (a r m : Word) : (((a &&& ~~~ m) ||| (r &&& m)) &&& ~~~ m) ||| (((r &&& ~~~ m) ||| (a &&& m)) &&& m) = a := by
  ext i hi
  simp
  cases a[i] <;> cases r[i] <;> cases m[i] <;> rfl

theorem ctlMasks : ∀ b < 20, (match regAt (R.LB_BANK_CTL + dBank b) with
    | some d => d.off == R.LB_BANK_CTL && d.reach == .plain && !isLo d && !isHi d && d.maskOf (fun a => a = .rw || a = .stg) == 0x100 && d.maskOf (· = .w1c) == 0 && d.maskOf (· = .rwl) == 0
    | none => false) = true := by decide +kernel
theorem ctlMod : ∀ b < 20, (R.LB_BANK_CTL + dBank b) % entStride = R.LB_BANK_CTL + dBank b := by decide +kernel
theorem pathWrite_bankOff {s : State} {p : Path} {b : Nat} {v : Word} (ho : s.Open) (hb : b < 20) (h : s.bankState b ≠ 3) :
    s.pathWrite p (R.LB_BANK_CTL + dBank b) v = ((
      let s4 := (s.setReg (R.LB_BANK_CTL + dBank b) (s.reg (R.LB_BANK_CTL + dBank b))).miss b (.write ⟨p, R.LB_BANK_CTL + dBank b, R.LB_BANK_CTL + dBank b, v, 0x100⟩)
      let s5 := if F.LB_BANK_CTL_WAKE.of v = 1 then s4.bankWake b else s4
      if F.LB_BANK_CTL_PARK.of v = 1 then s5.bankPark b else s5).writeDone).send (.csr p true 0) := by
  have m := ctlMasks b hb
  rcases hd : regAt (R.LB_BANK_CTL + dBank b) with _ | d
  · rw [hd] at m
    cases m
  rw [hd] at m
  simp only [Bool.and_eq_true, beq_iff_eq, Bool.not_eq_true'] at m
  obtain ⟨⟨⟨⟨⟨⟨m1, m2⟩, m3⟩, m4⟩, m5⟩, m6⟩, m7⟩ := m
  have hk : s.keyAt p (R.LB_BANK_CTL + dBank b) = some (d, R.LB_BANK_CTL + dBank b) := by
    unfold State.keyAt
    rw [hd, Option.map_some, m2]
  have hc : s.commitHolds d ((R.LB_BANK_CTL + dBank b) % entStride) = none := by
    unfold State.commitHolds
    rw [ho.2.2.2]
  have hf := csrFails_LB_BANK_CTL b hb
  have hbo : s.bankOff (R.LB_BANK_CTL + dBank b) = some b := by
    unfold State.bankOff
    rw [bankOfOff_LB_BANK_CTL b hb]
    simp [h]
  have hw : s.offWrite p d (R.LB_BANK_CTL + dBank b) b v =
      (let s4 := (s.setReg (R.LB_BANK_CTL + dBank b) (s.reg (R.LB_BANK_CTL + dBank b))).miss b (.write ⟨p, R.LB_BANK_CTL + dBank b, R.LB_BANK_CTL + dBank b, v, 0x100⟩)
       let s5 := if F.LB_BANK_CTL_WAKE.of v = 1 then s4.bankWake b else s4
       if F.LB_BANK_CTL_PARK.of v = 1 then s5.bankPark b else s5) := by
    have hr : State.offWrite.rwl s d = 0 := by
      unfold State.offWrite.rwl
      rw [m7]
      split <;> rfl
    have z : (0x100 : Word) ≠ 0 := by decide
    have c : R.LB_BANK_CTL ≠ R.LB_BANK_CFG := by decide
    unfold State.offWrite
    dsimp only
    rw [hr, m5, m6, m7, m1, ctlMod b hb, if_neg z, if_neg c]
    have hx (w : Word) : w &&& 4294967295#32 &&& 4294967295#32 = w := by
      rw [show (4294967295#32 : Word) = BitVec.allOnes 32 from rfl, BitVec.and_allOnes, BitVec.and_allOnes]
    simp [hx]
  unfold State.pathWrite State.csrWrite State.wordHeld State.wordWrite
  rw [hk]
  dsimp only
  rw [hc, hf, m3, m4, hbo]
  simp only [Bool.false_and, Bool.false_eq_true, if_false, ho.1, List.find?_nil, hw]

theorem sec_accepted {s s1 : State} {r : SecRec} (h1 : s1 = s.put F.SEC_CMD_OP 0 r.op) (h2 : s1.sec.running = none) (h3 : s1.sec.waiting = [])
    (h4 : s1.verifying = false) (h5 : r.nonce = s1.nonce) (h6 : s1.signedBy r = true) (h7 : s1.stateForbids r.op = false) (h8 : s1.argError r = 0)
    (h9 : r.op ≠ opReturn) : s.secCmd r = (s1.secWork r).secDone 2 0 := by
  unfold State.secCmd
  dsimp only
  rw [← h1, h2, h3, h4]
  simp [State.secRun, h5, h6, h7, h8, h9]

theorem ctl_next {s : State} {f : PwrSt → PwrSt} {q : PwrSt} (h : (f s.pwr).settle = q) : s.ctlEvent f = (s.setPwr fun _ => q).syncPwr := by
  subst h
  rfl

theorem OnlyPower.refl (s : State) : s.OnlyPower s := ⟨rfl, fun _ _ => rfl⟩

theorem OnlyPower.put {s t : State} (h : s.OnlyPower t) {f : Fld} (hf : 0x100000 ≤ f.off ∧ f.off < 0x200000) (v : Nat) : s.OnlyPower (t.put f 0 v) := by
  obtain ⟨h1, h2⟩ := h
  refine ⟨?_, fun k hk => ?_⟩
  · rw [h1]; rfl
  · have : (t.put f 0 v).reg k = t.reg k := by
      unfold State.put
      rw [State.reg_setReg, if_neg (by omega)]
    rw [this, h2 k hk]

theorem OnlyPower.setPwr {s t : State} (h : s.OnlyPower t) (f : PwrSt → PwrSt) : s.OnlyPower (t.setPwr f) := by
  obtain ⟨h1, h2⟩ := h
  exact ⟨by rw [h1]; rfl, h2⟩

theorem OnlyPower.ite {s x y : State} {c : Prop} [Decidable c] (hx : s.OnlyPower x) (hy : s.OnlyPower y) : s.OnlyPower (if c then x else y) := by
  split
  · exact hx
  · exact hy

theorem OnlyPower.ctlEvent {s t : State} (h : s.OnlyPower t) (f : PwrSt → PwrSt) : s.OnlyPower (t.ctlEvent f) := by
  unfold State.ctlEvent State.syncPwr
  dsimp only
  repeat' first | exact OnlyPower.setPwr h _ | (refine OnlyPower.put ?_ (by decide) _)

theorem OnlySideband.of {s t : State} {m : ModSt} {o : List Out} (h : t = { s with mdl := m, out := o })
    (hm : m = { s.mdl with dynAddr := m.dynAddr, hotJoin := m.hotJoin, ibi := m.ibi, mrl := m.mrl, mwl := m.mwl }) : s.OnlySideband t := by
  subst h
  unfold State.OnlySideband
  simp only [State.mk.injEq, true_and, and_true]
  exact hm

theorem OnlySideband.refl (s : State) : s.OnlySideband s := rfl

theorem OnlyAttestation.refl (s : State) : s.OnlyAttestation s := rfl

theorem OnlyAttestation.send {s t : State} (h : s.OnlyAttestation t) (o : Out) : s.OnlyAttestation (t.send o) := by
  unfold State.OnlyAttestation at h ⊢
  unfold State.send
  rw [h]

theorem OnlyAttestation.usedFree {s t : State} (h : s.OnlyAttestation t) : s.OnlyAttestation t.usedFree := by
  unfold State.OnlyAttestation at h ⊢
  unfold State.usedFree
  rw [h]

theorem OnlyAttestation.conn {s t : State} (h : s.OnlyAttestation t) (who v : Nat) : s.OnlyAttestation (t.setConn who v) := by
  unfold State.OnlyAttestation at h ⊢
  unfold State.setConn State.setSec
  rw [h]

theorem OnlyAttestation.sess {s t : State} (h : s.OnlyAttestation t) (f : SecSt → List (Nat × Bool)) : s.OnlyAttestation (t.setSec fun x => { x with sessions := f x }) := by
  unfold State.OnlyAttestation at h ⊢
  unfold State.setSec
  rw [h]

theorem OnlyAttestation.wait {s t : State} (h : s.OnlyAttestation t) (f : SecSt → List (Nat × Bool)) : s.OnlyAttestation (t.setSec fun x => { x with digBusy := true, digWait := f x }) := by
  unfold State.OnlyAttestation at h ⊢
  unfold State.setSec
  rw [h]

theorem OnlyAttestation.spdmIf {s t : State} {who k : Nat} {f : State → State} (h : s.OnlyAttestation t) (hf : s.OnlyAttestation (f t)) :
    s.OnlyAttestation (t.spdmIf who k f) := by
  unfold State.spdmIf
  repeat' first | exact hf | exact OnlyAttestation.send h _ | split

theorem OnlyAttestation.firmware {s : State} {k : Nat} {i : Instr} {f : State → State} (h : s.OnlyAttestation (f s)) : s.OnlyAttestation (s.firmware k i f) := by
  unfold State.firmware
  split
  · rfl
  · exact h

theorem OnlyControl.refl (s : State) : s.OnlyControl s := ⟨rfl, fun _ _ _ => rfl⟩

theorem OnlyControl.send {s t : State} (h : s.OnlyControl t) (o : Out) : s.OnlyControl (t.send o) := by
  obtain ⟨h1, h2⟩ := h
  exact ⟨by unfold State.send; rw [h1], h2⟩

theorem OnlyControl.usedFree {s t : State} (h : s.OnlyControl t) : s.OnlyControl t.usedFree := by
  obtain ⟨h1, h2⟩ := h
  exact ⟨by unfold State.usedFree; rw [h1], h2⟩

theorem OnlyControl.put {s t : State} (h : s.OnlyControl t) {f : Fld} (hf : f.off = R.CLK_MCTP_STATUS ∨ f.off = R.CLK_MCTP_CNT) (v : Nat) :
    s.OnlyControl (t.put f 0 v) := by
  obtain ⟨h1, h2⟩ := h
  refine ⟨by unfold State.put State.setReg; rw [h1], fun k hk hc => ?_⟩
  have : (t.put f 0 v).reg k = t.reg k := by
    unfold State.put
    rw [State.reg_setReg, if_neg (by omega)]
  rw [this, h2 k hk hc]

theorem OnlyControl.mgt {s t : State} (h : s.OnlyControl t) (f : MgtSt → MgtSt)
    (hf : ∀ g, f g = { g with open_ := (f g).open_, vdmSet := (f g).vdmSet, poolReq := (f g).poolReq, i3cPool := (f g).i3cPool, fwJobs := (f g).fwJobs }) : s.OnlyControl (t.setMgt f) := by
  obtain ⟨h1, h2⟩ := h
  refine ⟨?_, h2⟩
  unfold State.setMgt
  rw [hf t.mgt, h1]

theorem OnlyControl.answer {s t : State} (h : s.OnlyControl t) (eid tag ty cmd cc : Nat) (b : List Byte) : s.OnlyControl (t.answer eid tag ty cmd cc b) := by
  unfold State.answer
  exact OnlyControl.send (OnlyControl.mgt h _ fun _ => rfl) _

theorem OnlyControl.request {s : State} {eid tag ty cmd : Nat} {r : Bool} {f : State → State} (h : s.OnlyControl (f s)) : s.OnlyControl (s.request eid tag ty cmd r f) := by
  unfold State.request
  split
  · exact OnlyControl.refl s
  · split
    · exact OnlyControl.answer (OnlyControl.refl s) _ _ _ _ _ _
    · exact h

theorem OnlyControl.fwRequest {s : State} {eid tag : Nat} {i : Instr} {f : State → State} (h : s.OnlyControl (f s)) : s.OnlyControl (s.fwRequest eid tag i f) := by
  unfold State.fwRequest State.firmware State.reasmDrop State.bump
  split
  · exact OnlyControl.put (OnlyControl.refl s) (Or.inr rfl) _
  · split
    · exact OnlyControl.mgt (OnlyControl.refl s) _ fun _ => rfl
    · exact h

theorem OnlyControl.ite {s x y : State} {c : Prop} [Decidable c] (hx : s.OnlyControl x) (hy : s.OnlyControl y) : s.OnlyControl (if c then x else y) := by
  split
  · exact hx
  · exact hy

theorem onlyCore_pump {s : State} {c : Nat} (hc : c < 4) (f : CoreSt → CoreSt) : State.OnlyCore c s ((s.setCore c f).corePump c) := by
  unfold State.corePump State.syncCore
  refine ⟨rfl, fun k hk => ?_, fun k hk => ?_⟩
  · simp [State.core, State.setCore, State.setMgt, State.put, State.setReg, Tab.getD_set, hk]
  · unfold State.put
    have e1 : F.CLK_CORE_STATUS_OUT.off = R.CLK_CORE_STATUS := rfl
    have e2 : F.CLK_CORE_STATUS_SB.off = R.CLK_CORE_STATUS := rfl
    rw [State.reg_setReg, State.reg_setReg, e1, e2, if_neg hk, if_neg hk]
    rfl

end Sys2Proof.Machine
end

