-- ==== Sys2Proof/Tests/Slice0.lean ====
section
/-!
SUPPORT. Tests: commands of units the part does not have, the reset state, and witnesses of the statements' hypotheses.
-/
namespace Sys2Proof.Machine
set_option linter.unusedVariables false
set_option linter.unusedSimpArgs false
set_option Elab.async false
open Sys2Proof

/-! ### Ill-formed commands, one for each check -/

theorem test_wf_core_path : (Instr.registerWrite (.core 4) 0 0).wf = false := by decide
theorem test_wf_mctp_path : (Instr.registerWrite (.mctp 256) 0 0).wf = false := by decide
theorem test_wf_loader_path : (Instr.registerWrite .loader 0 0).wf = false := by decide
theorem test_wf_bank : (Instr.bankReady 20 true true).wf = false := by decide
theorem test_wf_lane : (Instr.laneDetectDone 3 16).wf = false := by decide
theorem test_wf_lane_bank : (Instr.laneDetectDone 20 3).wf = false := by decide
theorem test_wf_port : (Instr.portTrainTimeout 64).wf = false := by decide
theorem test_wf_link : (Instr.flitTx 8).wf = false := by decide
theorem test_wf_link_lane : (Instr.laneMarkerRx 7 8 0 0).wf = false := by decide
theorem test_wf_home : (Instr.conflictQueueAdmit 4).wf = false := by decide
theorem test_wf_channel : (Instr.channelFault 4).wf = false := by decide
theorem test_wf_core : (Instr.coreTrap 4).wf = false := by decide
theorem test_wf_switch : (Instr.fenceRetryTimeout 64).wf = false := by decide
theorem test_wf_slice : (Instr.sliceGate 512).wf = false := by decide
theorem test_wf_vppb : (Instr.unbindApply 1024 false).wf = false := by decide
theorem test_wf_shelf : (Instr.shelfIdlePark 64).wf = false := by decide
theorem test_wf_feed : (Instr.feedWindowEnter 2).wf = false := by decide
theorem test_wf_domain : (Instr.avsUrgentRaise 4 0).wf = false := by decide
theorem test_wf_cage : (Instr.cageResetRelease 16).wf = false := by decide
theorem test_wf_group_unit : (Instr.armStateRx .ml 15).wf = false := by decide
theorem test_wf_source : (Instr.requestArrival 71 .none
  ⟨0, 0, .io, .mRd, .none, 0, 0, 0, 0, 0, 0, .green, 0, 0, 0, .bus, 0, 0, 4, none, 0, [], false, .ok, 0, false⟩).wf = false := by decide

-- witnesses: general


theorem test_wit_StepRunsFront : (fun (s : State) (c : Instr) (rest : List Instr) => s.pending = c :: rest)
    ({ State.reset with pending := [.i3cRstdaa] }) (.i3cRstdaa) ([]) := by decide +kernel

theorem test_wit_EmptyQueueIdles : (fun (s : State) => s.pending = []) (State.reset) := by decide +kernel


theorem test_wit_StepKeepsCanonical : (fun (s t : State) => s.canonical ∧ step s = .next t) (State.reset) (State.reset) :=
    ⟨by unfold State.canonical; decide +kernel, rfl⟩

theorem test_wit_StepKeepsPowerController : (fun (s t : State) => s.pwr.sound ∧ step s = .next t) (State.reset) (State.reset) :=
    ⟨by unfold PwrSt.sound; decide +kernel, rfl⟩

theorem test_wit_NothingTakenBack : (fun (c : Instr) (s t : State) => exec c s = .next t) (.coreFence 0 true true) (State.reset) (State.reset) :=
    by
  show exec (.coreFence 0 true true) State.reset = .next State.reset
  rfl

theorem test_wit_WellFormedCompletes_1 : (fun (c : Instr) (s : State) => c.wf = true) (.i3cRstdaa) (State.reset) := by decide +kernel
theorem test_wit_WellFormedCompletes_2 : (fun (c : Instr) (s : State) => c.wf = false) (.coreFence 4 true true) (State.reset) := by decide +kernel

theorem test_wit_EndOfCommand_1 : (fun (s : State) => s.bnd.heldIn = [] ∧ s.ins.again = [] ∧ s.flt.fenceQ = []) (State.reset) := by decide +kernel
theorem test_wit_EndOfCommand_2 : (fun (s : State) => s.flt.fenceQ = []) (State.reset) := by decide +kernel

theorem test_wit_LowReadTakesSnapshot_1 : (fun (s : State) (p : Path) (o k k2 : Nat) (d d2 : RegDef) => s.keyAt p o = some (d, k) ∧ s.keyAt p (o +
    4) = some (d2, k2) ∧ isLo d = true ∧ isHi d = false) (State.reset) (.bar) (R.GLB_STITCH_LO) (R.GLB_STITCH_LO) (R.GLB_STITCH_HI) ((regAt
    R.GLB_STITCH_LO).getD ⟨0, [], .plain, []⟩) ((regAt R.GLB_STITCH_HI).getD ⟨0, [], .plain, []⟩) := by decide +kernel
theorem test_wit_LowReadTakesSnapshot_2 : (fun (s : State) (p : Path) (o k : Nat) (d : RegDef) (w : Word) => s.keyAt p o = some (d, k) ∧ isHi d =
    true ∧ keyed s.acs.snaps p (k - 4) = some w) (State.reset.setAcs fun a => { a with snaps := [(.bar, R.GLB_STITCH_LO, 7)] }) (.bar)
    (R.GLB_STITCH_HI) (R.GLB_STITCH_HI) ((regAt R.GLB_STITCH_HI).getD ⟨0, [], .plain, []⟩) (7) := by decide +kernel
theorem test_wit_LowReadTakesSnapshot_3 : (fun (s : State) (p : Path) (o k : Nat) (d : RegDef) => s.keyAt p o = some (d, k) ∧ isHi d = true ∧ keyed
    s.acs.snaps p (k - 4) = none) (State.reset) (.bar) (R.GLB_STITCH_HI) (R.GLB_STITCH_HI) ((regAt R.GLB_STITCH_HI).getD ⟨0, [], .plain, []⟩) := by
    decide +kernel
theorem test_wit_LowReadTakesSnapshot_4 : (fun (s : State) (p q : Path) (o k : Nat) => (∀ d, s.keyAt q o = some (d, k) → isLo d = true → q ≠ p))
    (State.reset) (.bar) (.debug) (0) (0) := by intro d _ _; decide

theorem test_wit_PairWrites_1 : (fun (s : State) (p : Path) (o k : Nat) (d : RegDef) (v : Word) => s.keyAt p o = some (d, k) ∧ isLo d = true ∧
    d.writable = true) (State.reset) (.bar) (R.LAST_SWAP_TGT_LO) (R.LAST_SWAP_TGT_LO) ((regAt R.LAST_SWAP_TGT_LO).getD ⟨0, [], .plain, []⟩) (9) :=
    by decide +kernel
theorem test_wit_PairWrites_2 : (fun (s : State) (p : Path) (o k k0 : Nat) (d d0 : RegDef) (v lo : Word) => s.keyAt p o = some (d, k) ∧ s.keyAt p (o
    - 4) = some (d0, k0) ∧ isLo d = false ∧ isHi d = true ∧ keyed s.acs.holds p (k - 4) = some lo) (State.reset.setAcs fun a =>
    { a with holds := [(.bar, R.LAST_SWAP_TGT_LO, 9)] }) (.bar) (R.LAST_SWAP_TGT_HI) (R.LAST_SWAP_TGT_HI) (R.LAST_SWAP_TGT_LO) ((regAt
    R.LAST_SWAP_TGT_HI).getD ⟨0, [], .plain, []⟩) ((regAt R.LAST_SWAP_TGT_LO).getD ⟨0, [], .plain, []⟩) (1) (9) := by decide +kernel
theorem test_wit_PairWrites_3 : (fun (s : State) (p : Path) (o k : Nat) (d : RegDef) (v : Word) => s.keyAt p o = some (d, k) ∧ isLo d = false ∧ isHi
    d = true ∧ keyed s.acs.holds p (k - 4) = none) (State.reset) (.bar) (R.LAST_SWAP_TGT_HI) (R.LAST_SWAP_TGT_HI) ((regAt R.LAST_SWAP_TGT_HI).getD
    ⟨0, [], .plain, []⟩) (1) := by decide +kernel

theorem test_wit_DirectorySets_1 : (fun (n rgn line d : Nat) => line < 2 ^ 32 ∧ d = n * 2097152 + ((line % 2 ^ 21 ^^^ (line / 2 ^ 21) <<< 10 ^^^ rgn
    <<< 11) &&& 0x1FFFFF)) (3) (5) (0xFFFFFFFF) ((3 * 2097152 + ((0xFFFFFFFF % 2 ^ 21 ^^^ (0xFFFFFFFF / 2 ^ 21) <<< 10 ^^^ 5 <<< 11) &&& 0x1FFFFF)))
    := by decide +kernel
theorem test_wit_DirectorySets_2 : (fun (s : State) (n rgn line : Nat) (e : DirEntry) => s.entry? n rgn line = some e) (State.reset.setHome 2 fun x
    => { x with dir := [⟨5, 9, false, [], false, 0⟩] }) (2) (5) (9) (⟨5, 9, false, [], false, 0⟩) := by decide +kernel

theorem test_wit_MemoryBytes_2 : (fun (m : Mem) (a : Nat) (bs : List Byte) => m.wf = true) ([]) (0) ([1]) := by decide +kernel

theorem test_wit_RegisterFields_1 : (fun (s : State) (f : Fld) (d v : Nat) => f.acc ≠ .stg ∧ f.lsb + f.width ≤ 32) (State.reset)
    (F.GLB_STITCH_CTL_RUN) (0) (0) := by decide +kernel
theorem test_wit_RegisterFields_2 : (fun (s : State) (f g : Fld) (d e v : Nat) => (g.off + e ≠ f.off + d ∨ g.lsb + g.width ≤ f.lsb ∨ f.lsb + f.width
    ≤ g.lsb ∨ g.acc = .stg)) (State.reset) (F.GLB_STITCH_CTL_RUN) (F.GLB_RST_MGMT) (0) (0) (0) := by decide +kernel

theorem test_wit_StagedCopies_4 : (fun (s : State) (x : Bool) (k j : Nat) => j ≠ k) (State.reset) (true) (0) (1) := by decide +kernel

theorem test_wit_ViewedReads_1 : (fun (s : State) (p : Path) (d : RegDef) (k : Nat) => s.viewsActive p = true) (State.reset.put
    F.LAST_VIEW_CTL_VIEW_ACTIVE (ent 5) 1) (.debug) ((regAt R.GLB_RST).getD ⟨0, [], .plain, []⟩) (0) := by decide +kernel
theorem test_wit_ViewedReads_2 : (fun (s : State) (p : Path) (d : RegDef) (k : Nat) => s.viewsActive p = false) (State.reset) (.bar) ((regAt
    R.GLB_RST).getD ⟨0, [], .plain, []⟩) (0) := by decide +kernel
theorem test_wit_ViewedReads_3 : (fun (s : State) (p q : Path) (v : Nat) => p.code ≠ q.code) (State.reset) (.bar) (.debug) (0) := by decide +kernel

theorem test_wit_OccurrenceWhileSet_1 : (fun (s : State) (n inst : Nat) (u : Option FUnit) => s.pendingBit n = true ∧ perWindow n = false)
    (State.reset.setFlt fun f => { f with occs := [5] }) (5) (0) (none) := by decide +kernel
theorem test_wit_OccurrenceWhileSet_2 : (fun (s : State) (n inst : Nat) => s.pendingBit n = false ∧ (n < 1152 ∨ 1237 < n)) (State.reset) (5) (0) :=
    by decide +kernel

theorem test_wit_EnclaveOrder_1 : (fun (s : State) (r : SecRec) => r.nonce ≠ s.nonce) (State.reset) (secRecord 1 5 none 0 0 true []) := by
    decide +kernel
theorem test_wit_EnclaveOrder_2 : (fun (s : State) (r : SecRec) => r.nonce = s.nonce ∧ s.signedBy r = false) (State.reset) (secRecord 1 0 none 0 0
    true []) := by decide +kernel
theorem test_wit_EnclaveOrder_3 : (fun (s : State) (r : SecRec) => r.nonce = s.nonce ∧ s.signedBy r = true ∧ s.stateForbids r.op = true)
    (State.reset.put F.SEC_STATUS_LIFECYCLE 0 2) (secRecord 6 0 none 0 0 true []) := by decide +kernel
theorem test_wit_EnclaveOrder_4 : (fun (s : State) (r : SecRec) => r.nonce = s.nonce ∧ s.signedBy r = true ∧ s.stateForbids r.op = false ∧
    s.argError r ≠ 0) (State.reset) (secRecord 9 0 none 0 0 false []) := by decide +kernel

theorem test_wit_LockedRegions_1 : (fun (s : State) (slot sp a n k x : Nat) => slot ≠ 85 ∧ (¬ (slot = 84 ∧ s.get F.SEC_STATUS_LIFECYCLE 0 = 2)) ∧ a
    ≤ x ∧ x < a + n ∧ ((sp = 3 ∧ 0x40000000 ≤ x ∧ x < 0x41000000) ∨ (sp = 4 ∧ 0x1301000 ≤ x ∧ x < 0x1400000))) (State.reset) (5) (3) (0x3FFFFFFF)
    (2) (0) (0x40000000) := by decide +kernel
theorem test_wit_LockedRegions_2 : (fun (s : State) (slot a n k x : Nat) (l : Load) => (slot ≠ 84 ∨ s.on F.SEC_STATUS_DEBUG 0 = true) ∧ (k = 1 ∨ k =
    3) ∧ s.las.load = some l ∧ l.src = 0 ∧ 1 ≤ s.get F.LAST_LOAD_STATUS_STATE 0 ∧ s.get F.LAST_LOAD_STATUS_STATE 0 ≤ 5 ∧ a ≤ x ∧ x < a + n ∧
    0x12000000 ≤ x ∧ x < 0x14000000 ∧ a + n ≤ 0x40000000) (((State.reset.setLas fun y =>
    { y with load := some ⟨0, 0, false, 0, 0, 0, false, none, [], [], [], [], []⟩ }).put F.LAST_LOAD_STATUS_STATE 0 1)) (85) (0x13FFFFFF) (1) (1)
    (0x13FFFFFF) (⟨0, 0, false, 0, 0, 0, false, none, [], [], [], [], []⟩) := by decide +kernel
theorem test_wit_LockedRegions_3 : (fun (s : State) (slot sp a n k : Nat) => (slot = 85 ∨ (slot = 84 ∧ s.get F.SEC_STATUS_LIFECYCLE 0 = 2 ∧ s.on
    F.SEC_STATUS_DEBUG 0 = true)) ∧ (sp = 4 ∨ 0x14000000 ≤ a)) ((State.reset.put F.SEC_STATUS_LIFECYCLE 0 2).put F.SEC_STATUS_DEBUG 0 1) (84) (3)
    (0x40000000) (64) (1) := by decide +kernel
theorem test_wit_LockedRegions_4 : (fun (s : State) (ag k : Nat) (r : Route) (m : Msg) (sp : Nat) => accessKind m = some k ∧ (sp = (if ag < 64 then
    (if r == .mgmt then 4 else 0) else spaceNo m.space)) ∧ s.lockedReason ag sp m.addr (accessLen m) k ≠ 0) (State.reset) (81) (0) (.none)
    (⟨7, 0, .memM2S, .memRd, .none, 0, 81, 0, 72, 0, 0, .green, 0, 0, 0, .dpa, 0, 0x40000000, 64, none, 0, [], false, .ok, 0, false⟩) (3) :=
    ⟨by decide +kernel, by decide +kernel, by decide +kernel⟩

-- witnesses: access


theorem test_wit_RegisterAccess_1 : (fun (s : State) (p : Path) (off : Nat) (v : Word) (d : RegDef) (k : Nat) => p.isRequester = true ∧ s.Open ∧
    s.keyAt p off = some (d, k) ∧ csrFails off = false ∧ isLo d = false ∧ isHi d = false ∧ s.bankOff k = none ∧ commandRegs.contains d.off = false ∧
    d.maskOf (· = .stg) = 0) (State.reset) (.bar) (R.GLB_STITCH_HOLD) (5) ((regAt R.GLB_STITCH_HOLD).getD ⟨0, [], .plain, []⟩) (R.GLB_STITCH_HOLD)
    := by decide +kernel
theorem test_wit_RegisterAccess_2 : (fun (s : State) (p : Path) (off : Nat) (d d2 : RegDef) (k k2 : Nat) => p.isRequester = true ∧ s.Open ∧ csrFails
    off = false ∧ s.keyAt p off = some (d, k) ∧ s.keyAt p (off + 4) = some (d2, k2) ∧ isLo d = true ∧ isHi d = false ∧ d.off ≠ R.PMC_CTR_LO)
    (State.reset) (.bar) (R.GLB_STITCH_LO) ((regAt R.GLB_STITCH_LO).getD ⟨0, [], .plain, []⟩) ((regAt R.GLB_STITCH_HI).getD ⟨0, [], .plain, []⟩)
    (R.GLB_STITCH_LO) (R.GLB_STITCH_HI) := by decide +kernel
theorem test_wit_RegisterAccess_3 : (fun (s : State) (p : Path) (off : Nat) (d : RegDef) (k : Nat) (w : Word) => p.isRequester = true ∧ s.Open ∧
    csrFails off = false ∧ s.keyAt p off = some (d, k) ∧ isHi d = true ∧ keyed s.acs.snaps p (k - 4) = some w) (State.reset.setAcs fun a =>
    { a with snaps := [(.bar, R.GLB_STITCH_LO, 7)] }) (.bar) (R.GLB_STITCH_HI) ((regAt R.GLB_STITCH_HI).getD ⟨0, [], .plain, []⟩) (R.GLB_STITCH_HI)
    (7) := by decide +kernel
theorem test_wit_RegisterAccess_4 : (fun (s : State) (p : Path) (off : Nat) (v : Word) (d : RegDef) (k : Nat) => p.isRequester = true ∧ s.Open ∧
    s.Quiet ∧ csrFails off = false ∧ s.keyAt p off = some (d, k) ∧ isLo d = true ∧ d.writable = true) (State.reset) (.bar) (R.LAST_SWAP_TGT_LO) (9)
    ((regAt R.LAST_SWAP_TGT_LO).getD ⟨0, [], .plain, []⟩) (R.LAST_SWAP_TGT_LO) := by decide +kernel
theorem test_wit_RegisterAccess_5 : (fun (s : State) (p : Path) (off : Nat) (v : Word) (d d0 : RegDef) (k k0 : Nat) (lo : Word) => p.isRequester =
    true ∧ s.Open ∧ csrFails off = false ∧ s.keyAt p off = some (d, k) ∧ s.keyAt p (off - 4) = some (d0, k0) ∧ isLo d = false ∧ isHi d = true ∧
    keyed s.acs.holds p (k - 4) = some lo) (State.reset.setAcs fun a => { a with holds := [(.bar, R.LAST_SWAP_TGT_LO, 9)] }) (.bar)
    (R.LAST_SWAP_TGT_HI) (0) ((regAt R.LAST_SWAP_TGT_HI).getD ⟨0, [], .plain, []⟩) ((regAt R.LAST_SWAP_TGT_LO).getD ⟨0, [], .plain, []⟩)
    (R.LAST_SWAP_TGT_HI) (R.LAST_SWAP_TGT_LO) (9) := by decide +kernel
theorem test_wit_RegisterAccess_6 : (fun (s : State) (p : Path) (off : Nat) (v : Word) (w : Nat) => p.isRequester = true ∧ s.Open ∧ w < 70 ∧ off =
    R.FLT_STICKY + 4 * w) (State.reset) (.bar) (R.FLT_STICKY + 4 * 69) (0) (69) := by decide +kernel
theorem test_wit_RegisterAccess_7 : (fun (s : State) (p : Path) (v : Word) (s1 : State) => p.isRequester = true ∧ s.Open ∧ F.GLB_STITCH_CTL_RUN.of v
    = 1 ∧ s1 = (s.storeAt R.GLB_STITCH_CTL v).put F.GLB_STITCH_CTL_RUN 0 1 ∧ s1.step? ≠ 3) (State.reset) (.bar) (1) ((State.reset.storeAt
    R.GLB_STITCH_CTL 1).put F.GLB_STITCH_CTL_RUN 0 1) := ⟨by decide +kernel, by decide +kernel, by decide +kernel, rfl, by decide +kernel⟩

theorem test_wit_SwapCommands_1 : (fun (s : State) (p : Path) (v : Word) (s1 : State) => p.isRequester = true ∧ s.Open ∧ F.LAST_SWAP_CTL_ARM.of v =
    1 ∧ F.LAST_SWAP_CTL_DISARM.of v = 0 ∧ s.armBlocked (F.LAST_SWAP_CTL_MASK.of v) = false ∧ s1 = s.storeAt R.LAST_SWAP_CTL v ∧ s1.armError = 0)
    (State.reset.put F.LAST_SWAP_TGT_LO_TGT 0 2) (.bar) (0x1000001) ((State.reset.put F.LAST_SWAP_TGT_LO_TGT 0 2).storeAt R.LAST_SWAP_CTL 0x1000001)
    := ⟨by decide +kernel, by decide +kernel, by decide +kernel, by decide +kernel, by decide +kernel, rfl, by decide +kernel⟩
theorem test_wit_SwapCommands_2 : (fun (s : State) (p : Path) (v : Word) (s1 : State) (a : Arm) => p.isRequester = true ∧ s.Open ∧
    F.LAST_SWAP_CTL_ARM.of v = 0 ∧ F.LAST_SWAP_CTL_DISARM.of v = 1 ∧ s1 = s.storeAt R.LAST_SWAP_CTL v ∧ s1.tim.arm = some a ∧ s1.tim.num + 1 <
    a.target) (State.reset.setTim fun t => { t with arm := some ⟨2, 1, false, false, [], [], [], [], false⟩ }) (.bar) (0x2000000)
    ((State.reset.setTim fun t => { t with arm := some ⟨2, 1, false, false, [], [], [], [], false⟩ }).storeAt R.LAST_SWAP_CTL 0x2000000)
    (⟨2, 1, false, false, [], [], [], [], false⟩) :=
    ⟨by decide +kernel, by decide +kernel, by decide +kernel, by decide +kernel, rfl, by decide +kernel, by decide +kernel⟩
theorem test_wit_SwapCommands_3 : (fun (s : State) (g : Grp) (unit : Nat) (a : Arm) => g.hasUnit unit = true ∧ s.tim.arm = some a ∧ s.on
    F.GLB_STITCH_CTL_RUN 0 = true ∧ s.nextNum.1 = a.target ∧ a.fabric = false ∧ s.on F.LAST_SWAP_STATUS_LATE 0 = false ∧ a.mask.testBit g.bitNo =
    true ∧ (g.bitNo, unit) ∈ a.held ∧ (g.bitNo, unit) ∉ a.done ∧ g ≠ .lb ∧ g ≠ .ep ∧ g ≠ .ml ∧ s.groupOk g = true) ((State.reset.put
    F.GLB_STITCH_CTL_RUN 0 1).setTim fun t => { t with num := 1, running := true, arm := some ⟨2, 1, false, false, [(0, 0)], [], [], [], false⟩ })
    (.glb) (0) (⟨2, 1, false, false, [(0, 0)], [], [], [], false⟩) := by decide +kernel
theorem test_wit_SwapCommands_4 : (fun (s : State) (g : Grp) (unit : Nat) (a : Arm) => g.hasUnit unit = true ∧ s.tim.arm = some a ∧ a.mask.testBit
    g.bitNo = true ∧ (g.bitNo, unit) ∉ a.held) (State.reset.setTim fun t => { t with arm := some ⟨2, 8, false, false, [], [], [], [], false⟩ })
    (.ml) (19) (⟨2, 8, false, false, [], [], [], [], false⟩) := by decide +kernel
theorem test_wit_SwapCommands_5 : (fun (s : State) (g : Grp) (unit : Nat) (a : Arm) => g.hasUnit unit = true ∧ s.tim.arm = some a ∧ s.on
    F.LAST_SWAP_STATUS_LATE 0 = true ∧ (g.bitNo, unit) ∉ a.fresh) ((State.reset.put F.LAST_SWAP_STATUS_LATE 0 1).setTim fun t =>
    { t with arm := some ⟨2, 8, false, false, [(3, 16)], [], [], [], false⟩ }) (.ml) (16) (⟨2, 8, false, false, [(3, 16)], [], [], [], false⟩) := by
    decide +kernel

theorem test_wit_AlignmentCommands_1 : (fun (s : State) (m : Nat) (mk : Marker) (rootOfs arrival : Int) => m < 8 ∧ s.flows m = true ∧ s.tim.running
    = true ∧ (s.stSrc == srcAuto && s.on F.GLB_STITCH_STATUS_UPLINK_VALID 0 && s.get F.GLB_STITCH_STATUS_UPLINK 0 == m) = false) ((State.reset.put
    F.ML_LINK_STATUS_STATE (dLink 7) 3).setTim fun t => { t with running := true }) (7) (⟨5, 1, 0, 1, false, false, 0, 0⟩) (0) (3) := by
    decide +kernel
theorem test_wit_AlignmentCommands_2 : (fun (s : State) => s.astate = 2 ∧ 64 ≤ s.tim.okRun ∧ s.flt.fenceQ = []) ((State.reset.put
    F.GLB_STITCH_STATUS_STATE 0 2).setTim fun t => { t with okRun := 64 }) := by decide +kernel
theorem test_wit_AlignmentCommands_3 : (fun (s : State) => s.astate = 3 ∧ 4 ≤ s.tim.badRun) ((State.reset.put F.GLB_STITCH_STATUS_STATE 0 3).setTim
    fun t => { t with badRun := 4 }) := by decide +kernel
theorem test_wit_AlignmentCommands_4 : (fun (s : State) => s.srcLost = true ∧ s.astate = 3 ∧ s.get F.GLB_STITCH_HOLD_LIMIT 0 ≠ 0)
    ((((State.reset.put F.GLB_STITCH_CTL_SRC 0 2).put F.GLB_STITCH_STATUS_STATE 0 3).put F.GLB_STITCH_HOLD_LIMIT 0 5).setTim fun t =>
    { t with pinLost := true }) := by decide +kernel
theorem test_wit_AlignmentCommands_5 : (fun (s : State) => s.astate = 4 ∧ s.dueO s.tim.hold = true) ((State.reset.put F.GLB_STITCH_STATUS_STATE 0
    4).setTim fun t => { t with hold := some 6, bnd := 7 }) := by decide +kernel
theorem test_wit_AlignmentCommands_6 : (fun (s : State) (i : Nat) => s.backupNo = some i ∧ s.stSrc = srcAuto ∧ 1024 * i ≤ s.tim.backupRun ∧
    s.flt.fenceQ = []) ((State.reset.put F.GLB_STITCH_CTL_BK_EN 0 1).setTim fun t => { t with backupRun := 1024 }) (1) := by decide +kernel
theorem test_wit_AlignmentCommands_7 : (fun (s : State) (long : Bool) (period : Nat) (ofs x : Int) => s.stSrc = srcPin ∧ s.tim.running = true ∧ 2558
    ≤ period ∧ period ≤ 2562 ∧ long = false ∧ x = (ofs + signed 16 (s.get F.GLB_STITCH_PINADJ_DELAY 0)) % 20480) ((State.reset.put
    F.GLB_STITCH_CTL_SRC 0 2).setTim fun t => { t with running := true }) (false) (2562) (5) (5) :=
    ⟨by decide +kernel, by decide +kernel, by decide +kernel, by decide +kernel, by decide +kernel, by decide +kernel⟩
theorem test_wit_AlignmentCommands_8 : (fun (s : State) (e : Epoch) => e = .fw ∧ s.tim.epochEnds.contains .fw = true) (State.reset.setTim fun t =>
    { t with epochEnds := [.fw] }) (.fw) := by decide +kernel
theorem test_wit_AlignmentCommands_9 : (fun (s : State) (e : Epoch) => e = .heat ∧ s.tim.epochEnds.contains .heat = true ∧ s.on
    F.INS_TIER_STATUS_SCANNING 0 = false) (State.reset.setTim fun t => { t with epochEnds := [.heat] }) (.heat) := by decide +kernel
theorem test_wit_AlignmentCommands_10 : (fun (s : State) (smp : Samples) (s1 s2 s3 : State) => s.on F.GLB_STITCH_CTL_RUN 0 = true ∧ s.tim.epochEnds
    = [] ∧ s.tim.arm = none ∧ (s1 = (((s.setMgt fun g => { g with events := [] }).numberTurn s.nextNum.1 s.nextNum.2).soleTurn)) ∧ s2 =
    (s1.homeTurn.insoleTurn.mgmtTurn s.tim.num s.mgt.events).aonTurn smp s.flt.occs.length ∧ (s3 = s2.bankTurn (((List.range 8).filter s2.flows).map
    fun m => (m, (s2.setTim fun t => { t with seen := s.tim.seen }).markerFor m)))) ((State.reset.put F.GLB_STITCH_CTL_RUN 0 1))
    (⟨0, 0, 0, 0, 0, 0, 0, 0, 0, [], []⟩) (((((State.reset.put F.GLB_STITCH_CTL_RUN 0 1).setMgt fun g => { g with events := [] }).numberTurn
    (State.reset.put F.GLB_STITCH_CTL_RUN 0 1).nextNum.1 (State.reset.put F.GLB_STITCH_CTL_RUN 0 1).nextNum.2).soleTurn)) (((((((State.reset.put
    F.GLB_STITCH_CTL_RUN 0 1).setMgt fun g => { g with events := [] }).numberTurn (State.reset.put F.GLB_STITCH_CTL_RUN 0 1).nextNum.1
    (State.reset.put F.GLB_STITCH_CTL_RUN 0 1).nextNum.2).soleTurn).homeTurn.insoleTurn.mgmtTurn (State.reset.put F.GLB_STITCH_CTL_RUN 0 1).tim.num
    (State.reset.put F.GLB_STITCH_CTL_RUN 0 1).mgt.events).aonTurn ⟨0, 0, 0, 0, 0, 0, 0, 0, 0, [], []⟩ (State.reset.put F.GLB_STITCH_CTL_RUN 0
    1).flt.occs.length)) ((((((((State.reset.put F.GLB_STITCH_CTL_RUN 0 1).setMgt fun g => { g with events := [] }).numberTurn (State.reset.put
    F.GLB_STITCH_CTL_RUN 0 1).nextNum.1 (State.reset.put F.GLB_STITCH_CTL_RUN 0 1).nextNum.2).soleTurn).homeTurn.insoleTurn.mgmtTurn
    (State.reset.put F.GLB_STITCH_CTL_RUN 0 1).tim.num (State.reset.put F.GLB_STITCH_CTL_RUN 0 1).mgt.events).aonTurn
    ⟨0, 0, 0, 0, 0, 0, 0, 0, 0, [], []⟩ (State.reset.put F.GLB_STITCH_CTL_RUN 0 1).flt.occs.length).bankTurn (((List.range 8).filter
    ((((((State.reset.put F.GLB_STITCH_CTL_RUN 0 1).setMgt fun g => { g with events := [] }).numberTurn (State.reset.put F.GLB_STITCH_CTL_RUN 0
    1).nextNum.1 (State.reset.put F.GLB_STITCH_CTL_RUN 0 1).nextNum.2).soleTurn).homeTurn.insoleTurn.mgmtTurn (State.reset.put F.GLB_STITCH_CTL_RUN
    0 1).tim.num (State.reset.put F.GLB_STITCH_CTL_RUN 0 1).mgt.events).aonTurn ⟨0, 0, 0, 0, 0, 0, 0, 0, 0, [], []⟩ (State.reset.put
    F.GLB_STITCH_CTL_RUN 0 1).flt.occs.length).flows).map fun m => (m, (((((((State.reset.put F.GLB_STITCH_CTL_RUN 0 1).setMgt fun g =>
    { g with events := [] }).numberTurn (State.reset.put F.GLB_STITCH_CTL_RUN 0 1).nextNum.1 (State.reset.put F.GLB_STITCH_CTL_RUN 0
    1).nextNum.2).soleTurn).homeTurn.insoleTurn.mgmtTurn (State.reset.put F.GLB_STITCH_CTL_RUN 0 1).tim.num (State.reset.put F.GLB_STITCH_CTL_RUN 0
    1).mgt.events).aonTurn ⟨0, 0, 0, 0, 0, 0, 0, 0, 0, [], []⟩ (State.reset.put F.GLB_STITCH_CTL_RUN 0 1).flt.occs.length).setTim fun t =>
    { t with seen := (State.reset.put F.GLB_STITCH_CTL_RUN 0 1).tim.seen }).markerFor m)))) := ⟨by decide +kernel, rfl, rfl, rfl, rfl, rfl⟩

-- witnesses: last


theorem test_wit_LoadCommands_1 : (fun (s : State) (p : Path) (v : Word) (s1 : State) => p.isRequester = true ∧ s.Open ∧ F.LAST_LOAD_CTL_START.of v
    = 1 ∧ (s.loadState = 0 ∨ s.loadState = 6 ∨ s.loadState = 7) ∧ s1 = s.storeAt R.LAST_LOAD_CTL v ∧ s1.get F.LAST_LOAD_CTL_SRC 0 ≠ 0) (State.reset)
    (.bar) (5) (State.reset.storeAt R.LAST_LOAD_CTL 5) :=
    ⟨by decide +kernel, by decide +kernel, by decide +kernel, by decide +kernel, rfl, by decide +kernel⟩
theorem test_wit_LoadCommands_2 : (fun (s : State) (p : Path) (v : Word) (s3 : State) => p.isRequester = true ∧ s.Open ∧ F.LAST_LOAD_CTL_START.of v
    = 0 ∧ F.LAST_LOAD_CTL_ABORT.of v = 1 ∧ 1 ≤ s.loadState ∧ s.loadState ≤ 4 ∧ s3 = (s.storeAt R.LAST_LOAD_CTL v).loadFail ⟨19, 0, 0, none⟩)
    (State.reset.put F.LAST_LOAD_STATUS_STATE 0 4) (.bar) (2) (((State.reset.put F.LAST_LOAD_STATUS_STATE 0 4).storeAt R.LAST_LOAD_CTL 2).loadFail
    ⟨19, 0, 0, none⟩) := ⟨by decide +kernel, by decide +kernel, by decide +kernel, by decide +kernel, by decide +kernel, by decide +kernel, rfl⟩
theorem test_wit_LoadCommands_3 : (fun (s : State) (srcErr : Option Nat) (l : Load) => s.las.load = some l ∧ s.loadState = 1 ∧ s.fetchErr l.src
    l.boot = none ∧ srcErr = none) (((((State.reset.put F.LAST_LOAD_LEN_LEN 0 224).setMem loadBuf
    [0x4c,0x41,0x53,0x54,1,0,2,0,224,0,0,0,0,0,0,0,5]).setMem (loadBuf + 0x60) [0x80,0,0,0,128]).put F.LAST_LOAD_STATUS_STATE 0 1).setLas fun l =>
    { l with load := some ⟨0, 0, true, 5, 0, 0, false, some 0, [.pmc], [], [], [], []⟩ }) (none)
    (⟨0, 0, true, 5, 0, 0, false, some 0, [.pmc], [], [], [], []⟩) := by decide +kernel
theorem test_wit_LoadCommands_4 : (fun (s : State) (sigOk : Bool) (l : Load) => s.las.load = some l ∧ s.loadState = 2 ∧ s.authErr l.src l.boot sigOk
    = none ∧ s.sec.waiting = []) ((((((State.reset.put F.LAST_LOAD_LEN_LEN 0 224).setMem loadBuf
    [0x4c,0x41,0x53,0x54,1,0,2,0,224,0,0,0,0,0,0,0,5]).setMem (loadBuf + 0x60) [0x80,0,0,0,128]).put F.LAST_LOAD_STATUS_STATE 0 2).put
    F.SEC_KEY_INFO_STATE (ent 3) 1).put F.SEC_KEY_INFO_USAGE (ent 3) (2 ^ useLast) |>.setLas fun l =>
    { l with load := some ⟨0, 0, true, 5, 0, 0, false, some 0, [.pmc], [], [], [], []⟩ }) (true)
    (⟨0, 0, true, 5, 0, 0, false, some 0, [.pmc], [], [], [], []⟩) := by decide +kernel
theorem test_wit_LoadCommands_5 : (fun (s : State) (srcErr : Option Nat) (digestOk : List Bool) (l : Load) (structWrites : List RecWrite) (staged :
    List (Grp × List RecWrite)) => s.las.load = some l ∧ s.loadState = 3 ∧ srcErr = none ∧ s.checkBodies l.src digestOk = (none, structWrites,
    staged) ∧ baseErr l l.startId = none ∧ (l.partImg = true ∨ l.boot = true ∨ l.digests = s.las.structDigests)) (((((State.reset.put
    F.LAST_LOAD_LEN_LEN 0 224).setMem loadBuf [0x4c,0x41,0x53,0x54,1,0,2,0,224,0,0,0,0,0,0,0,5]).setMem (loadBuf + 0x60) [0x80,0,0,0,128]).put
    F.LAST_LOAD_STATUS_STATE 0 3).setLas fun l => { l with load := some ⟨0, 0, true, 5, 0, 0, false, some 0, [.pmc], [], [], [], []⟩ }) (none) ([])
    (⟨0, 0, true, 5, 0, 0, false, some 0, [.pmc], [], [], [], []⟩) ([]) ([]) := by decide +kernel
theorem test_wit_LoadCommands_6 : (fun (s : State) (l : Load) => s.las.load = some l ∧ s.loadState = 4 ∧ s.armShares l = false ∧ (baseErr l (if s.on
    F.LAST_ID_STATUS_MIXED 0 then none else some s.activeId) = none) ∧ l.boot = false) ((State.reset.put F.LAST_LOAD_STATUS_STATE 0 4).setLas fun l
    => { l with load := some ⟨0, 0, true, 5, 0, 0, false, some 0, [.pmc], [], [], [], []⟩ })
    (⟨0, 0, true, 5, 0, 0, false, some 0, [.pmc], [], [], [], []⟩) := by decide +kernel
theorem test_wit_LoadCommands_7 : (fun (s : State) (l : Load) => s.las.load = some l ∧ s.loadState = 5 ∧ l.boot = false ∧ l.groups ≠ [])
    ((State.reset.put F.LAST_LOAD_STATUS_STATE 0 5).setLas fun l =>
    { l with load := some ⟨0, 0, true, 5, 0, 0, false, some 0, [.pmc], [], [], [], []⟩, committing := some .pmc })
    (⟨0, 0, true, 5, 0, 0, false, some 0, [.pmc], [], [], [], []⟩) := by decide +kernel

theorem test_wit_HeldAndBootCommands_1 : (fun (s : State) (l : Load) (g : Grp) => s.las.load = some l ∧ s.las.committing = some g)
    (State.reset.setLas fun l => { l with load := some ⟨0, 0, true, 5, 0, 0, false, some 0, [.pmc], [], [], [], []⟩, committing := some .pmc })
    (⟨0, 0, true, 5, 0, 0, false, some 0, [.pmc], [], [], [], []⟩) (.pmc) := by decide +kernel
theorem test_wit_HeldAndBootCommands_2 : (fun (s : State) (p : Path) (v : Word) => s.las.heldArm = [(p, v)] ∧ s.armBlocked (F.LAST_SWAP_CTL_MASK.of
    v) = false) (State.reset.setLas fun l => { l with heldArm := [(.bar, 0x1000001)] }) (.bar) (0x1000001) := by decide +kernel
theorem test_wit_HeldAndBootCommands_3 : (fun (s : State) (ok : Bool) (svn : Nat) (s1 : State) => s.on F.GLB_RST_MGMT_HOLD 0 = false ∧
    s.las.fwRunning = false ∧ s.las.recovery = false ∧ ok = true ∧ s.get F.SEC_FW_SVN_MIN_SVN 0 ≤ svn ∧ s.on F.SEC_STATUS_SELFTEST_OK 0 = true ∧
    s.secError = false ∧ (s1 = ((s.put F.SEC_FW_SVN_SVN 0 svn).setLas fun l =>
    { l with fwRunning := true, confirm := some (s.after 58593750) }).each (List.range 4) fun t c => t.put F.CLK_CORE_STATUS_STATE (4 * c) (if t.on
    F.CLK_CORE_CTL_HOLD (4 * c) then 0 else 1)) ∧ s1.step? = 2) ((State.reset.put F.GLB_START_STATUS_STEP 0 2).put F.SEC_STATUS_SELFTEST_OK 0 1)
    (true) (0) ((((((State.reset.put F.GLB_START_STATUS_STEP 0 2).put F.SEC_STATUS_SELFTEST_OK 0 1).put F.SEC_FW_SVN_SVN 0 0).setLas fun l =>
    { l with fwRunning := true, confirm := some (State.after ((State.reset.put F.GLB_START_STATUS_STEP 0 2).put F.SEC_STATUS_SELFTEST_OK 0 1) 58593750) }).each
    (List.range 4) fun t c => t.put F.CLK_CORE_STATUS_STATE (4 * c) (if t.on F.CLK_CORE_CTL_HOLD (4 * c) then 0 else 1))) :=
    ⟨by decide +kernel, by decide +kernel, by decide +kernel, by decide +kernel, by decide +kernel, by decide +kernel, by decide +kernel, rfl, by decide +kernel⟩
theorem test_wit_HeldAndBootCommands_4 : (fun (s : State) (p : Path) (v : Word) (s1 : State) => p.isRequester = true ∧ s.Open ∧
    F.LAST_BOOT_CONFIRM.of v = 1 ∧ (s1 = ((s.setLas fun l => { l with tries := 0, confirm := none }).put F.LAST_BOOT_TRIES 0 0).setFlt fun f =>
    { f with restartTo := none }) ∧ s1.get F.FLT_RESTART_STATUS_STATE 0 ≠ 3) (State.reset) (.bar) (4) (((State.reset.setLas fun l =>
    { l with tries := 0, confirm := none }).put F.LAST_BOOT_TRIES 0 0).setFlt fun f => { f with restartTo := none }) :=
    ⟨by decide +kernel, by decide +kernel, by decide +kernel, rfl, by decide +kernel⟩
theorem test_wit_HeldAndBootCommands_5 : (fun (s : State) (e : Nat) => s.las.confirm = some e ∧ s.due e = true) ((State.reset.setLas fun l =>
    { l with confirm := some 9 }).setTim fun t => { t with bnd := 10 }) (9) := by decide +kernel
theorem test_wit_HeldAndBootCommands_6 : (fun (s : State) (p : Path) (v : Word) => p.isRequester = true ∧ s.Open) (State.reset) (.bar) (0) := by
    decide +kernel

-- witnesses: lanes


theorem test_wit_LaneTraining_1 : (fun (s : State) (b l : Nat) => b < 20 ∧ l < 16 ∧ 16 ≤ b ∧ s.laneState b l = 2) ((State.reset.put
    F.LB_LANE_STATUS_STATE (dLane 16 3) 2)) (16) (3) := by decide +kernel
theorem test_wit_LaneTraining_2 : (fun (s : State) (b l : Nat) => b < 20 ∧ l < 16 ∧ 16 ≤ b ∧ s.laneState b l = 2 ∧ s.dueO (s.lane b l).timer = true)
    ((State.reset.put F.LB_LANE_STATUS_STATE (dLane 16 3) 2).setTim (fun t => { t with bnd := 9 }) |>.setLane 16 3 fun x =>
    { x with timer := some 4 }) (16) (3) := by decide +kernel
theorem test_wit_LaneTraining_3 : (fun (s : State) (b l : Nat) (ofs : Int) => b < 20 ∧ l < 16 ∧ s.laneState b l = 3 ∧ (s.cdrRange b).1 ≤ ofs ∧ ofs ≤
    (s.cdrRange b).2 ∧ -32768 ≤ ofs ∧ ofs ≤ 32767 ∧ (s.lane b l).relock = none) ((State.reset.put F.LB_LANE_STATUS_STATE (dLane 16 3) 3)) (16) (3)
    (-2000) := by decide +kernel
theorem test_wit_LaneTraining_4 : (fun (s : State) (b l : Nat) => b < 20 ∧ l < 16 ∧ s.laneState b l = 4) ((State.reset.put F.LB_LANE_STATUS_STATE
    (dLane 16 3) 4)) (16) (3) := by decide +kernel
theorem test_wit_LaneTraining_5 : (fun (s : State) (b l : Nat) => b < 20 ∧ l < 16 ∧ s.laneState b l = 4 ∧ s.dueO (s.lane b l).timer = true)
    ((State.reset.put F.LB_LANE_STATUS_STATE (dLane 16 3) 4).setTim (fun t => { t with bnd := 9 }) |>.setLane 16 3 fun x =>
    { x with timer := some 4 }) (16) (3) := by decide +kernel
theorem test_wit_LaneTraining_6 : (fun (s : State) (b l blk : Nat) (mir own : Bool) => b < 20 ∧ l < 16 ∧ 16 ≤ b ∧ s.laneState b l = 5 ∧ blkOk blk =
    true ∧ blkMatch blk = true ∧ (s.lane b l).mirrored = mir ∧ (s.lane b l).matches_ + 1 < 16) ((State.reset.put F.LB_LANE_STATUS_STATE (dLane 16 3)
    5)) (16) (3) ((0xD2 <<< 2) + (0x3CA569 <<< 32) + (crc8 54 (0xD2 + (0x3CA569 <<< 30)) 0 <<< 56)) (false) (false) := by decide +kernel
theorem test_wit_LaneTraining_7 : (fun (s : State) (b l : Nat) => b < 20 ∧ l < 16 ∧ s.laneState b l = 1 ∧ s.dueO (s.lane b l).retry = true ∧
    s.bankState b = 3 ∧ (s.bank b).relocking = false ∧ (s.bank b).family = none ∧ (s.lane b l).fenced = false) (((((State.reset.put
    F.LB_LANE_STATUS_STATE (dLane 16 3) 1).put F.LB_BANK_STATUS_STATE (dBank 16) 3).setTim fun t => { t with bnd := 9 }).setLane 16 3 fun x =>
    { x with retry := some 4 })) (16) (3) := by decide +kernel
theorem test_wit_LaneTraining_8 : (fun (s : State) (b l : Nat) => b < 20 ∧ l < 16 ∧ 16 ≤ b ∧ s.laneState b l = 6 ∧ (s.lane b l).relock = none)
    ((State.reset.put F.LB_LANE_STATUS_STATE (dLane 16 3) 6)) (16) (3) := by decide +kernel

theorem test_wit_LaneLosses_1 : (fun (s : State) (b l : Nat) => b < 20 ∧ l < 16 ∧ 16 ≤ b ∧ s.laneState b l = 8) ((State.reset.put
    F.LB_LANE_STATUS_STATE (dLane 16 3) 8)) (16) (3) := by decide +kernel
theorem test_wit_LaneLosses_2 : (fun (s : State) (b l : Nat) => b < 20 ∧ l < 16 ∧ 3 ≤ s.laneState b l) ((State.reset.put F.LB_LANE_STATUS_STATE
    (dLane 16 3) 8)) (16) (3) := by decide +kernel
theorem test_wit_LaneLosses_3 : (fun (s : State) (b l e : Nat) => b < 20 ∧ l < 16 ∧ s.laneState b l = 6 ∧ (s.lane b l).relock = some (.block, e) ∧
    s.due e = false) ((State.reset.put F.LB_LANE_STATUS_STATE (dLane 16 3) 6).setLane 16 3 fun x => { x with relock := some (.block, 16) }) (16) (3)
    (16) := by decide +kernel
theorem test_wit_LaneLosses_4 : (fun (s : State) (b l : Nat) (k : Relock) (e : Nat) => b < 20 ∧ l < 16 ∧ (s.lane b l).relock = some (k, e) ∧ s.due e
    = true) ((State.reset.setTim fun t => { t with bnd := 17 }).setLane 16 3 fun x => { x with relock := some (.cdr, 16) }) (16) (3) (.cdr) (16) :=
    by decide +kernel
theorem test_wit_LaneLosses_5 : (fun (s : State) (b l : Nat) (k : Relock) (e : Nat) => b < 20 ∧ l < 16 ∧ (s.lane b l).stable = some (k, e) ∧ s.due e
    = true) ((State.reset.setTim fun t => { t with bnd := 17 }).setLane 16 3 fun x => { x with stable := some (.cdr, 16) }) (16) (3) (.cdr) (16) :=
    by decide +kernel
theorem test_wit_LaneLosses_6 : (fun (s : State) (b l : Nat) (r : State × List Nat) => b < 20 ∧ l < 16 ∧ 4 ≤ s.laneState b l ∧ s.on
    F.LB_LANE_ADAPT_FREEZE_CTLE (dLane b l) = true ∧ r = s.usedFree.usedFree.freeBytes (s.dfeTaps b l)) ((State.reset.put F.LB_LANE_STATUS_STATE
    (dLane 16 3) 8).put F.LB_LANE_ADAPT_FREEZE_CTLE (dLane 16 3) 1) (16) (3) (((State.reset.put F.LB_LANE_STATUS_STATE (dLane 16 3) 8).put
    F.LB_LANE_ADAPT_FREEZE_CTLE (dLane 16 3) 1).usedFree.usedFree.freeBytes (((State.reset.put F.LB_LANE_STATUS_STATE (dLane 16 3) 8).put
    F.LB_LANE_ADAPT_FREEZE_CTLE (dLane 16 3) 1).dfeTaps 16 3)) := ⟨by decide +kernel, by decide +kernel, by decide +kernel, by decide +kernel, rfl⟩
theorem test_wit_LaneLosses_7 : (fun (s : State) (p : Path) (b l : Nat) (v : Word) => p.isRequester = true ∧ s.Open ∧ b < 20 ∧ l < 16 ∧ s.bankState
    b = 3 ∧ F.LB_LANE_ADAPT_SNAP.of v = 0) ((State.reset.put F.LB_BANK_STATUS_STATE (dBank 16) 3)) (.bar) (16) (3) (7) := by decide +kernel
theorem test_wit_LaneLosses_8 : (fun (s : State) (p : Path) (b l : Nat) (v : Word) => p.isRequester = true ∧ s.Open ∧ b < 20 ∧ l < 16 ∧ s.bankState
    b = 3 ∧ F.LB_LANE_ADAPT_SNAP.of v = 1) ((State.reset.put F.LB_BANK_STATUS_STATE (dBank 16) 3)) (.bar) (16) (3) (16) := by decide +kernel
theorem test_wit_LaneLosses_9 : (fun (s : State) (p : Path) (b l : Nat) (v : Word) (s1 s2 : State) (mode k : Nat) => p.isRequester = true ∧ s.Open ∧
    b < 20 ∧ l < 16 ∧ s.bankState b = 3 ∧ F.LB_LANE_MARGIN_CTL_START.of v = 1 ∧ s1 = s.storeAt (R.LB_LANE_MARGIN_CTL + dLane b l) v ∧ (s1.lane b
    l).scan = none ∧ s1.on F.LB_LANE_MARGIN_STATUS_HOST (dLane b l) = false ∧ mode = s1.get F.LB_LANE_MARGIN_CTL_MODE (dLane b l) ∧ nextDir mode 0 =
    some k ∧ s1.laneState b l = 8 ∧ (s2 = s1.each ((List.range 4).filter fun j => mode.testBit j) fun t j => t.put (marginFld j) (dLane b l) 0))
    ((State.reset.put F.LB_BANK_STATUS_STATE (dBank 16) 3).put F.LB_LANE_STATUS_STATE (dLane 16 3) 8) (.bar) (16) (3) (5) (((State.reset.put
    F.LB_BANK_STATUS_STATE (dBank 16) 3).put F.LB_LANE_STATUS_STATE (dLane 16 3) 8).storeAt (R.LB_LANE_MARGIN_CTL + dLane 16 3) 5)
    ((((State.reset.put F.LB_BANK_STATUS_STATE (dBank 16) 3).put F.LB_LANE_STATUS_STATE (dLane 16 3) 8).storeAt (R.LB_LANE_MARGIN_CTL + dLane 16 3)
    5).put (marginFld 0) (dLane 16 3) 0) (1) (0) :=
    ⟨by decide +kernel, by decide +kernel, by decide +kernel, by decide +kernel, by decide +kernel, by decide +kernel, rfl, by decide +kernel, by decide +kernel, by decide +kernel, by decide +kernel, by decide +kernel, rfl⟩
theorem test_wit_LaneLosses_10 : (fun (s : State) (b l : Nat) (pass : Bool) (k n : Nat) => b < 20 ∧ l < 16 ∧ (s.lane b l).scan = some (k, n) ∧ pass
    = true ∧ n < marginLimit k) (State.reset.setLane 16 3 fun x => { x with scan := some (1, 31) }) (16) (3) (true) (1) (31) := by decide +kernel
theorem test_wit_LaneLosses_11 : (fun (s : State) (b l : Nat) (pass : Bool) (k n : Nat) => b < 20 ∧ l < 16 ∧ (s.lane b l).scan = some (k, n) ∧ (pass
    = false ∨ n = marginLimit k) ∧ nextDir (s.get F.LB_LANE_MARGIN_CTL_MODE (dLane b l)) (k + 1) = none) (State.reset.setLane 16 3 fun x =>
    { x with scan := some (3, 125) }) (16) (3) (true) (3) (125) := by decide +kernel
theorem test_wit_LaneLosses_12 : (fun (s : State) (b l : Nat) (start : Bool) => b < 20 ∧ l < 16 ∧ start = true ∧ (s.lane b l).scan = none)
    (State.reset) (16) (3) (true) := by decide +kernel

theorem test_wit_BankCommands_1 : (fun (s : State) (p : Path) (b : Nat) (v : Word) (s1 : State) => p.isRequester = true ∧ s.Open ∧ b < 20 ∧
    s.bankState b = 0 ∧ F.LB_BANK_CTL_WAKE.of v = 1 ∧ F.LB_BANK_CTL_PARK.of v = 0 ∧ s1 = (s.setReg (R.LB_BANK_CTL + dBank b) (s.reg (R.LB_BANK_CTL +
    dBank b))).miss b (.write ⟨p, R.LB_BANK_CTL + dBank b, R.LB_BANK_CTL + dBank b, v, 0x100⟩) ∧ s1.bankEn b = true ∧ s1.bankState b = 0)
    ((State.reset.put F.LB_BANK_CFG_EN (dBank 19) 1)) (.bar) (19) (1) (((((State.reset.put F.LB_BANK_CFG_EN (dBank 19) 1)).setReg (R.LB_BANK_CTL +
    dBank 19) (((State.reset.put F.LB_BANK_CFG_EN (dBank 19) 1)).reg (R.LB_BANK_CTL + dBank 19)))).miss 19 (.write
    ⟨.bar, R.LB_BANK_CTL + dBank 19, R.LB_BANK_CTL + dBank 19, 1, 0x100⟩)) :=
    ⟨by decide +kernel, by decide +kernel, by decide +kernel, by decide +kernel, by decide +kernel, by decide +kernel, rfl, by decide +kernel, by decide +kernel⟩
theorem test_wit_BankCommands_2 : (fun (s : State) (p : Path) (b : Nat) (v : Word) (s1 : State) => p.isRequester = true ∧ s.Open ∧ b < 20 ∧
    s.bankState b = 3 ∧ F.LB_BANK_CTL_WAKE.of v = 0 ∧ F.LB_BANK_CTL_PARK.of v = 1 ∧ s1 = s.familyWrite b v ∧ s1.bankState b = 3 ∧ s1.bankIdle b =
    true) ((((State.reset.put F.LB_BANK_STATUS_STATE (dBank 16) 3).put F.ML_LINK_CMD_DISABLE (dLink 0) 1).put F.ML_LINK_CMD_DISABLE (dLink 1) 1))
    (.bar) (16) (2) ((((State.reset.put F.LB_BANK_STATUS_STATE (dBank 16) 3).put F.ML_LINK_CMD_DISABLE (dLink 0) 1).put F.ML_LINK_CMD_DISABLE (dLink
    1) 1).familyWrite 16 2) :=
    ⟨by decide +kernel, by decide +kernel, by decide +kernel, by decide +kernel, by decide +kernel, by decide +kernel, rfl, by decide +kernel, by decide +kernel⟩
theorem test_wit_BankCommands_3 : (fun (s : State) (b : Nat) (pllOk calOk : Bool) (s1 : State) => b < 20 ∧ 16 ≤ b ∧ pllOk = true ∧ calOk = true ∧
    s.bankState b = 2 ∧ s.reachedO (s.bank b).timer = true ∧ s1 = (s.applyMissed b).bankUp b) ((State.reset.put F.LB_BANK_STATUS_STATE (dBank 16)
    2).setBank 16 fun x => { x with timer := some 0 }) (16) (true) (true) (State.bankUp (State.applyMissed ((State.reset.put F.LB_BANK_STATUS_STATE
    (dBank 16) 2).setBank 16 fun x => { x with timer := some 0 }) 16) 16) :=
    ⟨by decide +kernel, by decide +kernel, by decide +kernel, by decide +kernel, by decide +kernel, by decide +kernel, rfl⟩
theorem test_wit_BankCommands_4 : (fun (s : State) (b : Nat) => b < 20 ∧ s.bankState b = 4) (State.reset.put F.LB_BANK_STATUS_STATE (dBank 19) 4)
    (19) := by decide +kernel
theorem test_wit_BankCommands_5 : (fun (s : State) (b : Nat) => b < 20 ∧ s.bankState b = 3 ∧ (s.bank b).relocking = false ∧ (s.bank b).family = none
    ∧ (s.bank b).stable = none) ((State.reset.put F.LB_BANK_STATUS_STATE (dBank 16) 3)) (16) := by decide +kernel
theorem test_wit_BankCommands_6 : (fun (s : State) (b : Nat) (locked : Bool) (s1 : State) => b < 20 ∧ (s.bank b).relocking = true ∧ s1 = s.pllRelock
    b locked ∧ s1.bankState b = 3 ∧ (s1.bank b).relocking = false) ((State.reset.put F.LB_BANK_STATUS_STATE (dBank 16) 3).setBank 16 fun x =>
    { x with relocking := true, timer := some 0 }) (16) (true) (((State.reset.put F.LB_BANK_STATUS_STATE (dBank 16) 3).setBank 16 fun x =>
    { x with relocking := true, timer := some 0 }).pllRelock 16 true) :=
    ⟨by decide +kernel, by decide +kernel, rfl, by decide +kernel, by decide +kernel⟩
theorem test_wit_BankCommands_7 : (fun (s : State) (p : Path) (b : Nat) (v : Word) (s1 s2 : State) (r : Nat) => p.isRequester = true ∧ s.Open ∧ b <
    20 ∧ 16 ≤ b ∧ s.bankState b = 3 ∧ F.LB_BANK_CTL_WAKE.of v = 0 ∧ F.LB_BANK_CTL_PARK.of v = 0 ∧ s1 = s.storeAt (R.LB_BANK_CTL + dBank b) v ∧
    s1.get F.LB_BANK_CTL_FAMILY (dBank b) ≠ s.get F.LB_BANK_CTL_FAMILY (dBank b) ∧ (s2 = ((s1.put F.LB_BANK_STATUS_PLL_LOCK_A (dBank b) 0).setBank b
    fun x => { x with family := some (s.after 150) }).bankLanesIdle b) ∧ (r = (if s1.get F.LB_BANK_CTL_FAMILY (dBank b) = 0 then 0 else 1)))
    ((State.reset.put F.LB_BANK_STATUS_STATE (dBank 16) 3)) (.bar) (16) (0x100) ((State.reset.put F.LB_BANK_STATUS_STATE (dBank 16) 3).storeAt
    (R.LB_BANK_CTL + dBank 16) 0x100) ((((((State.reset.put F.LB_BANK_STATUS_STATE (dBank 16) 3).storeAt (R.LB_BANK_CTL + dBank 16) 0x100).put
    F.LB_BANK_STATUS_PLL_LOCK_A (dBank 16) 0).setBank 16 fun x =>
    { x with family := some ((State.reset.put F.LB_BANK_STATUS_STATE (dBank 16) 3).after 150) }).bankLanesIdle 16)) (1) :=
    ⟨by decide +kernel, by decide +kernel, by decide +kernel, by decide +kernel, by decide +kernel, by decide +kernel, by decide +kernel, rfl, by decide +kernel, rfl, by decide +kernel⟩
theorem test_wit_BankCommands_8 : (fun (s : State) (b : Nat) (s1 s2 : State) => b < 20 ∧ s.reachedO (s.bank b).family = true ∧ (s1 = (s.put
    F.LB_BANK_STATUS_PLL_LOCK_A (dBank b) 1).setBank b fun x => { x with family := none }) ∧ s1.mlState (2 * (b - 16)) = 1 ∧ s2 = s1.mlTrainOn (2 *
    (b - 16)) 0 ∧ s2.mlState (2 * (b - 16) + 1) = 1) (((State.reset.put F.ML_LINK_STATUS_STATE (dLink 0) 1).put F.ML_LINK_STATUS_STATE (dLink 1)
    1).setBank 16 fun x => { x with family := some 0 }) (16) (((((State.reset.put F.ML_LINK_STATUS_STATE (dLink 0) 1).put F.ML_LINK_STATUS_STATE
    (dLink 1) 1).setBank 16 fun x => { x with family := some 0 }).put F.LB_BANK_STATUS_PLL_LOCK_A (dBank 16) 1).setBank 16 fun x =>
    { x with family := none }) (State.mlTrainOn (((((State.reset.put F.ML_LINK_STATUS_STATE (dLink 0) 1).put F.ML_LINK_STATUS_STATE (dLink 1)
    1).setBank 16 fun x => { x with family := some 0 }).put F.LB_BANK_STATUS_PLL_LOCK_A (dBank 16) 1).setBank 16 fun x => { x with family := none })
    0 0) := ⟨by decide +kernel, by decide +kernel, rfl, by decide +kernel, rfl, by decide +kernel⟩

-- witnesses: ports

def msg004 : Msg := ⟨7, 0, .io, .mRd, .none, 0, 3, 0, 9, 0, 0, .green, 0, 0, 0, .bus, 0, 64, 4, none, 0, [], false, .ok, 0, false⟩
def bound0 : Bound := ⟨1, 12, 0, 0⟩
def linkUp0 : LinkUp := ⟨2, 4, false, 0, 1, 1, 1, false⟩
def sUp04 : State := (((State.reset.put F.EP_HP_STATUS_HP_STATE (dPort 9) 1).put F.EP_LINK_STATUS_CAP_RATE (dPort 9) 5).put F.LB_BANK_CFG_BIFUR (dBank 2) 4)
def sUp1 : State := (sUp04.linkUpRegs 9 linkUp0).each (sUp04.lanesOfPort 9) fun t l => if t.laneState (9 / 4) l = lsTune ∨ t.laneState (9 / 4) l = lsAlign then t.laneTo (9 / 4) l lsData else t
def sUp2 : State := ((sUp1.put F.EP_LINK_STATUS_ATTEMPTS (dPort 9) 0).put F.EP_XR_STATUS_ACTIVE (dPort 9) (bit ((2 : Nat) == 6 && (0 : Nat) == 3))).setPort 9 fun p => { p with attempt := none, aim := 2, everUp := true, loss := none, speedChange := none }
def sUp3 : State := ((sUp2.put F.EP_HP_STATUS_PRESENT (dPort 9) 1).bump F.EP_HP_STATUS_INSERTS (dPort 9) 1).put F.EP_XR_STATUS_FAILS (dPort 9) 0
def sXr : State := ((((State.reset.putAct F.EP_LINK_CTL_XR_POLICY (dPort 9) 1).put F.EP_PORT_CFG_XR_ALLOW (dPort 9) 1).put F.EP_PORT_CFG_MAXRATE (dPort 9) 6).put F.EP_XR_STATUS_PARTNER_CAP (dPort 9) 1)
def sBind : State := (((((((State.reset.put F.EP_PORT_CFG_MODE (dPort 9) 1).put F.BND_VSW_VALID (4) 1).put F.BND_VSW_UPORT (4) 9).put F.BND_VSW_FIRST (4) 4).put F.BND_VSW_COUNT (4) 2).put F.BND_VPPB_BIND_BOUND (ent 4) 1).put F.BND_VPPB_BIND_TARGET (ent 4) (1 + 12 * 8))
def sNp : State := State.reset.setPort 9 fun p => { p with np := [⟨msg004, false, some 5⟩] }
def sNpLate : State := sNp.setTim fun t => { t with bnd := 6 }

theorem test_wit_PortTraining_1 : (fun (s : State) (n rate width : Nat) (flit : Bool) (ver protos fmt lds : Nat) (bi : Bool) (u : LinkUp) (s1 s2 s3
    : State) => n < 64 ∧ u = ⟨rate, width, flit, ver, protos, fmt, lds, bi⟩ ∧ s.linkUpOk n u = true ∧ s.hp n = 1 ∧ (s.port n).lossAt = none ∧ width
    = (s.lanesOfPort n).length ∧ s.portMode n ≠ 7 ∧ (s1 = (s.linkUpRegs n u).each (s.lanesOfPort n) fun t l => if t.laneState (n / 4) l = lsTune ∨
    t.laneState (n / 4) l = lsAlign then t.laneTo (n / 4) l lsData else t) ∧ (s2 = ((s1.put F.EP_LINK_STATUS_ATTEMPTS (dPort n) 0).put
    F.EP_XR_STATUS_ACTIVE (dPort n) (bit (rate == 6 && ver == 3))).setPort n fun p =>
    { p with attempt := none, aim := rate, everUp := true, loss := none, speedChange := none }) ∧ s3 = ((s2.put F.EP_HP_STATUS_PRESENT (dPort n)
    1).bump F.EP_HP_STATUS_INSERTS (dPort n) 1).put F.EP_XR_STATUS_FAILS (dPort n) 0) (sUp04) (9) (2) (4) (false) (0) (1) (1) (1) (false) (linkUp0)
    (sUp1) (sUp2) (sUp3) :=
    ⟨by decide +kernel, rfl, by decide +kernel, by decide +kernel, by decide +kernel, by decide +kernel, by decide +kernel, rfl, rfl, rfl⟩
theorem test_wit_PortTraining_2 : (fun (s : State) (n : Nat) => n < 64 ∧ s.dueO (s.port n).attempt = true ∧ s.hp n = 1) (((State.reset.put
    F.EP_HP_STATUS_HP_STATE (dPort 9) 1).setTim (fun t => { t with bnd := 9 })).setPort 9 fun p => { p with attempt := some 3 }) (9) := by
    decide +kernel
theorem test_wit_PortTraining_3 : (fun (s : State) (n : Nat) => n < 64 ∧ 2 ≤ s.hp n ∧ s.hp n ≤ 5) ((State.reset.put F.EP_HP_STATUS_HP_STATE (dPort
    9) 5)) (9) := by decide +kernel
theorem test_wit_PortTraining_4 : (fun (s : State) (n lim : Nat) => n < 64 ∧ s.portUp n = true ∧ lim = s.get F.EP_HP_LOSS_LIMIT (dPort n))
    ((State.reset.setLtssm 9 4)) (9) ((State.reset.setLtssm 9 4).get F.EP_HP_LOSS_LIMIT (dPort 9)) :=
    ⟨by decide +kernel, by decide +kernel, by decide +kernel⟩
theorem test_wit_PortTraining_5 : (fun (s : State) (n lim : Nat) => n < 64 ∧ s.tim.num % 1024 = 0 ∧ lim = s.get F.EP_DS_CFG_RCV_LIMIT (dPort n) ∧
    lim ≠ 0 ∧ lim < (s.port n).recoveries ∧ 2 ≤ s.hp n ∧ s.hp n ≤ 5) ((((State.reset.put F.EP_HP_STATUS_HP_STATE (dPort 9) 4).putAct
    F.EP_DS_CFG_RCV_LIMIT (dPort 9) 3).setPort 9 fun p => { p with recoveries := 4 })) (9) (3) :=
    ⟨by decide +kernel, by decide +kernel, by decide +kernel, by decide +kernel, by decide +kernel, by decide +kernel, by decide +kernel⟩
theorem test_wit_PortTraining_6 : (fun (s : State) (n : Nat) (en lopt : Bool) => n < 64 ∧ en = true ∧ upMode (s.portMode n) = false ∧ s.on
    F.EP_LINK_CTL_XR_POLICY (dPort n) = true ∧ s.xrOk n = true ∧ s.on F.EP_XR_STATUS_PARTNER_CAP (dPort n) = true ∧ (s.port n).xrBar = false) (sXr)
    (9) (true) (false) := by decide +kernel
theorem test_wit_PortTraining_7 : (fun (s : State) (n : Nat) => n < 64 ∧ s.on F.EP_XR_STATUS_LOCAL_EN (dPort n) = true ∧ 2 ≤ s.hp n ∧ s.hp n ≤ 5 ∧
    (s.port n).xrBar = false ∧ s.on F.EP_LINK_CTL_XR_POLICY (dPort n) = true) (((State.reset.put F.EP_HP_STATUS_HP_STATE (dPort 9) 5).put
    F.EP_XR_STATUS_LOCAL_EN (dPort 9) 1).putAct F.EP_LINK_CTL_XR_POLICY (dPort 9) 1) (9) := by decide +kernel
theorem test_wit_PortTraining_8 : (fun (s : State) (p : Path) (n : Nat) (v : Word) (s1 : State) => p.isRequester = true ∧ s.Open ∧ n < 64 ∧
    s.bankState (n / 4) = 3 ∧ F.EP_LINK_CMD_RETRAIN.of v = 1 ∧ F.EP_LINK_CMD_HOT_RESET.of v = 0 ∧ s1 = s.storeAt (R.EP_LINK_CMD + dPort n) v ∧ s1.on
    F.EP_LINK_CMD_DISABLE (dPort n) = s.on F.EP_LINK_CMD_DISABLE (dPort n)) ((State.reset.put F.LB_BANK_STATUS_STATE (dBank 2) 3)) (.bar) (9) (1)
    ((State.reset.put F.LB_BANK_STATUS_STATE (dBank 2) 3).storeAt (R.EP_LINK_CMD + dPort 9) 1) :=
    ⟨by decide +kernel, by decide +kernel, by decide +kernel, by decide +kernel, by decide +kernel, by decide +kernel, rfl, by decide +kernel⟩
theorem test_wit_PortTraining_9 : (fun (s : State) (p : Path) (n : Nat) (v : Word) (s1 : State) => p.isRequester = true ∧ s.Open ∧ n < 64 ∧
    s.bankState (n / 4) = 3 ∧ F.EP_LINK_CMD_RETRAIN.of v = 0 ∧ F.EP_LINK_CMD_HOT_RESET.of v = 1 ∧ s1 = s.storeAt (R.EP_LINK_CMD + dPort n) v ∧ s1.on
    F.EP_LINK_CMD_DISABLE (dPort n) = s.on F.EP_LINK_CMD_DISABLE (dPort n)) ((State.reset.put F.LB_BANK_STATUS_STATE (dBank 2) 3)) (.bar) (9) (2)
    ((State.reset.put F.LB_BANK_STATUS_STATE (dBank 2) 3).storeAt (R.EP_LINK_CMD + dPort 9) 2) :=
    ⟨by decide +kernel, by decide +kernel, by decide +kernel, by decide +kernel, by decide +kernel, by decide +kernel, rfl, by decide +kernel⟩
theorem test_wit_PortTraining_10 : (fun (s : State) (p : Path) (n : Nat) (v : Word) (s1 : State) => p.isRequester = true ∧ s.Open ∧ n < 64 ∧
    s.bankState (n / 4) = 3 ∧ F.EP_LINK_CMD_RETRAIN.of v = 0 ∧ F.EP_LINK_CMD_HOT_RESET.of v = 0 ∧ s1 = s.storeAt (R.EP_LINK_CMD + dPort n) v ∧ s.on
    F.EP_LINK_CMD_DISABLE (dPort n) = false ∧ s1.on F.EP_LINK_CMD_DISABLE (dPort n) = true) ((State.reset.put F.LB_BANK_STATUS_STATE (dBank 2) 3))
    (.bar) (9) (4) ((State.reset.put F.LB_BANK_STATUS_STATE (dBank 2) 3).storeAt (R.EP_LINK_CMD + dPort 9) 4) :=
    ⟨by decide +kernel, by decide +kernel, by decide +kernel, by decide +kernel, by decide +kernel, by decide +kernel, rfl, by decide +kernel, by decide +kernel⟩

theorem test_wit_PortResets_1 : (fun (s : State) (n : Nat) (s1 : State) => n < 64 ∧ (s.portMode n = 1 ∨ s.portMode n = 5 ∨ s.portMode n = 7) ∧ s1 =
    (s.portStale n).departClear (s.ownSw * 64 + n)) (sBind) (9) ((sBind.portStale 9).departClear (sBind.ownSw * 64 + 9)) :=
    ⟨by decide +kernel, by decide +kernel, rfl⟩
theorem test_wit_PortResets_2 : (fun (s : State) (n vs k v : Nat) (b : Bound) => n < 64 ∧ s.vppbAt n vs k = some v ∧ s.bound? v = some b ∧ b.kind =
    1) (sBind) (9) (1) (0) (4) (bound0) := by decide +kernel
theorem test_wit_PortResets_3 : (fun (s : State) (n : Nat) (msg : Msg) (e : NpEntry) (s1 : State) => n < 64 ∧ ((s.port n).np.find? (fun e =>
    e.msg.id == msg.id) = some e) ∧ s.dueO e.timer = false ∧ s1 = s.npDrop n msg.id) (sNp) (9) (msg004) (⟨msg004, false, some 5⟩) (sNp.npDrop 9 msg004.id)
    := ⟨by decide +kernel, by decide +kernel, by decide +kernel, rfl⟩
theorem test_wit_PortResets_4 : (fun (s : State) (n id : Nat) (e : NpEntry) (s1 : State) => n < 64 ∧ ((s.port n).np.find? (fun e => e.msg.id == id)
    = some e) ∧ s.dueO e.timer = true ∧ (s.port n).lossAt = none ∧ s1 = ((s.npDrop n id).bump F.EP_NP_STATUS_TO_COUNT (dPort n) 1).occ 576 n)
    (sNpLate) (9) (msg004.id) (⟨msg004, false, some 5⟩) (((sNpLate.npDrop 9 msg004.id).bump F.EP_NP_STATUS_TO_COUNT (dPort 9) 1).occ 576 9) :=
    ⟨by decide +kernel, by decide +kernel, by decide +kernel, by decide +kernel, rfl⟩
theorem test_wit_PortResets_5 : (fun (s : State) (n : Nat) => n < 64 ∧ s.dueO (s.port n).loss = true ∧ 2 ≤ s.hp n ∧ s.hp n ≤ 5 ∧ (s.port n).lossAt =
    none) (((State.reset.put F.EP_HP_STATUS_HP_STATE (dPort 9) 2).setTim (fun t => { t with bnd := 9 })).setPort 9 fun p =>
    { p with loss := some 3 }) (9) := by decide +kernel
theorem test_wit_PortResets_6 : (fun (s : State) (n b : Nat) => n < 64 ∧ (s.port n).lossAt = some b ∧ b < s.tim.bnd ∧ 2 ≤ s.hp n ∧ s.hp n ≤ 5)
    (((State.reset.put F.EP_HP_STATUS_HP_STATE (dPort 9) 2).setTim (fun t => { t with bnd := 9 })).setPort 9 fun p => { p with lossAt := some 8 })
    (9) (8) := by decide +kernel
theorem test_wit_PortResets_7 : (fun (s : State) (n : Nat) (s1 : State) => n < 64 ∧ s.hp n = 6 ∧ (s.port n).np = [] ∧ s.queuedTo n = [] ∧ s1 =
    (s.bump F.EP_HP_STATUS_REMOVALS (dPort n) 1).hpTo n 0 ∧ s.ltssm n ≠ 7) ((State.reset.put F.EP_HP_STATUS_HP_STATE (dPort 9) 6)) (9)
    (((State.reset.put F.EP_HP_STATUS_HP_STATE (dPort 9) 6).bump F.EP_HP_STATUS_REMOVALS (dPort 9) 1).hpTo 9 0) :=
    ⟨by decide +kernel, by decide +kernel, by decide +kernel, by decide +kernel, rfl, by decide +kernel⟩

theorem test_wit_PortDiscoveryAndIde_1 : (fun (s : State) (n : Nat) => n < 64 ∧ s.hp n = 2 ∧ s.dueO (s.port n).wait = true) (((State.reset.put
    F.EP_HP_STATUS_HP_STATE (dPort 9) 2).setTim (fun t => { t with bnd := 9 })).setPort 9 fun p => { p with wait := some 3 }) (9) := by
    decide +kernel
theorem test_wit_PortDiscoveryAndIde_2 : (fun (s : State) (n : Nat) => n < 64 ∧ s.hp n = 2 ∧ s.on F.EP_HP_CFG_DRS_EN (dPort n) = true)
    ((State.reset.put F.EP_HP_STATUS_HP_STATE (dPort 9) 2).putAct F.EP_HP_CFG_DRS_EN (dPort 9) 1) (9) := by decide +kernel
theorem test_wit_PortDiscoveryAndIde_3 : (fun (s : State) (n stream : Nat) (ok : Bool) => n < 64 ∧ ok = true ∧ stream = 0 ∧ s.get
    F.EP_IDE_CFG_LINK_POLICY (dPort n) ≠ 0 ∧ s.secError = false ∧ s.lifecycle ≠ lcReturned ∧ s.sec.returning = none ∧ s.on F.EP_LINK_STATUS_DL_UP
    (dPort n) = true ∧ s.get F.EP_IDE_STATUS_LINK_STATE (dPort n) ≠ 1) ((State.reset.putAct F.EP_IDE_CFG_LINK_POLICY (dPort 9) 1).put
    F.EP_LINK_STATUS_DL_UP (dPort 9) 1) (9) (0) (true) := by decide +kernel
theorem test_wit_PortDiscoveryAndIde_4 : (fun (s : State) (n : Nat) => n < 64 ∧ s.dueO (s.port n).est = true ∧ s.get F.EP_IDE_STATUS_LINK_STATE
    (dPort n) ≠ 1) ((State.reset.setTim (fun t => { t with bnd := 9 })).setPort 9 fun p => { p with est := some 3 }) (9) := by decide +kernel
theorem test_wit_PortDiscoveryAndIde_5 : (fun (s : State) (n stream a : Nat) => n < 64 ∧ stream ≠ 0 ∧ a = s.get F.EP_IDE_STATUS_SEL_ACTIVE (dPort n)
    ∧ a.testBit (stream - 1) = true) (State.reset.put F.EP_IDE_STATUS_SEL_ACTIVE (dPort 9) 6) (9) (2) (6) :=
    ⟨by decide +kernel, by decide +kernel, by decide +kernel, by decide +kernel⟩
theorem test_wit_PortDiscoveryAndIde_6 : (fun (s : State) (n : Nat) (mine : List Nat) => n < 64 ∧ s.dueO (s.port n).rekey = true ∧ (mine =
    (s.sec.ideKeys.filter fun e => e.1 == n).map (·.2))) (((State.reset.setTim (fun t => { t with bnd := 9 })).setPort 9 fun p =>
    { p with rekey := some 3 }).setSec fun x => { x with ideKeys := [(9, 0), (8, 1)] }) (9) ([0]) :=
    ⟨by decide +kernel, by decide +kernel, by decide +kernel⟩

-- witnesses: mornu

def msg005 : Msg := ⟨7, 0, .io, .mRd, .none, 0, 3, 0, 9, 0, 0, .green, 0, 0, 0, .bus, 0, 64, 4, none, 0, [], false, .ok, 0, false⟩
def hdr0 : FlitHdr := ⟨0, false, false, false, false, 0, 0, 0, 0, 15, 0⟩
def sMl : State := (State.reset.put F.ML_LINK_STATUS_STATE (dLink 3) 3)
def sMlInit : State := ((State.reset.put F.ML_LINK_STATUS_STATE (dLink 3) 2).put F.GLB_FABRIC_ID_ID (0) 7)
def init0 : InitMsg := ⟨7, 3, 1, false, false, 0, 0, 0, 0, 0⟩
def flit0 : TxFlit := ⟨0, 0, false, [], .die⟩
def sTx : State := (sMl.setLink 3 fun l => { l with txq := [⟨2, { msg005 with op := .mWr }, 1⟩], farSize := l.farSize.set 2 4 })
def sLace1 : State := ((sMl.put F.LB_BANK_STATUS_STATE (dBank 17) 3).put F.ML_LINK_STATUS_LSET (dLink 3) 1)
def sLace3 : State := ((sMl.put F.LB_BANK_STATUS_STATE (dBank 17) 3).put F.ML_LINK_STATUS_LSET (dLink 3) 0)
def sDis : State := ((sMl.put F.LB_BANK_STATUS_STATE (dBank 17) 3).putAct F.ML_LINK_CTL_GRACE (dLink 3) 5)
def sFl : State := State.reset.put F.ML_LINK_STATUS_STATE (dLink 3) 5
def sFl2 : State := ((sFl.mlStart 3).setLink 3 fun l => { l with flushEnd := none, rep := [] }).each (List.range 8) fun t k => if k != 3 && t.mlState k == mlUpSt && t.on F.ML_PEER_VALID (dLink k) && t.get F.ML_PEER_FAR_SWITCH (dLink k) == 0 then t.repeatCtl k 0x0B (3 + sFl.session 3 * 65536) 64 else t

theorem test_wit_FabricReceive_1 : (fun (s : State) (m lane gcnt skew : Nat) => m < 8 ∧ lane < 8 ∧ s.mlaneState m lane = 8 ∧ skew ≤ 16 ∧ lane ∉
    (s.link m).deskewed) (State.reset.put F.LB_LANE_STATUS_STATE (dLane 17 (bankLane 3 5)) 8) (3) (5) (0) (16) := by decide +kernel
theorem test_wit_FabricReceive_2 : (fun (s : State) (m : Nat) (ok : Bool) (corr unc : Nat) (h : FlitHdr) (ids : List Nat) (msgs : List Msg) (s0 :
    State) => m < 8 ∧ s0 = ((s.bump F.ML_FEC_CNT_CORR (dLink m) corr).bump F.ML_ERR_CNT2_FEC_UNCORR (dLink m) unc).count (bankOfLink m) 6 (m % 2) 0
    corr ∧ s.mlState m = 3 ∧ ok = true ∧ unc = 0 ∧ h.ftype ≠ 1 ∧ h.ftype ≤ 2 ∧ h.crpool = 15 ∧ h.ackv = false ∧ h.nak = false ∧ s0.mlState m = 3)
    (sMl) (3) (true) (2) (0) (hdr0) ([]) ([]) (((sMl.bump F.ML_FEC_CNT_CORR (dLink 3) 2).bump F.ML_ERR_CNT2_FEC_UNCORR (dLink 3) 0).count
    (bankOfLink 3) 6 (3 % 2) 0 2) :=
    ⟨by decide +kernel, rfl, by decide +kernel, by decide +kernel, by decide +kernel, by decide +kernel, by decide +kernel, by decide +kernel, by decide +kernel, by decide +kernel, by decide +kernel⟩
theorem test_wit_FabricReceive_3 : (fun (s : State) (m v : Nat) (b : Bool) => m < 8 ∧ s.mlState m = 3 ∧ s.ctlDue m = [] ∧ (s.link m).unacked = [] ∧
    0 < s.window m ∧ s.spillOk m = true ∧ s.vcChoice m = some (v, b)) (sTx) (3) (2) (true) := by decide +kernel
theorem test_wit_FabricReceive_4 : (fun (s : State) (m e : Nat) => m < 8 ∧ (s.link m).timer = some e ∧ e ≤ s.soleClk ∧ (s.link m).unacked ≠ [] ∧
    s.mlState m = 3) ((sMl.setLink 3 fun l => { l with timer := some 0, unacked := [flit0] })) (3) (0) := by decide +kernel
theorem test_wit_FabricReceive_5 : (fun (s : State) (m seq : Nat) (ok : Bool) => m < 8 ∧ ((s.link m).unacked.any (fun f => f.seq == seq && f.kept ==
    .spilled) = true) ∧ ok = true ∧ s.sysOk (spillAddr m seq) = true) (((sMl.put F.INS_CH_STATUS_TRAINED (4 * chanOf (spillAddr 3 0)) 1).setLink 3
    fun l => { l with unacked := [{ flit0 with kept := .spilled }] })) (3) (flit0.seq) (true) := by decide +kernel
theorem test_wit_FabricReceive_6 : (fun (s : State) (m : Nat) (im : InitMsg) => m < 8 ∧ s.mlState m = 2 ∧ (s.link m).initRetry = none ∧ im.resume =
    false ∧ s.peerMismatch m im = false) (sMlInit) (3) (init0) := by decide +kernel
theorem test_wit_FabricReceive_7 : (fun (s : State) (m : Nat) => m < 8 ∧ s.mlState m = 2 ∧ s.dueO (s.link m).initRetry = true) (((sMlInit.setLink 3
    fun l => { l with initRetry := some 3 }).setTim fun t => { t with bnd := 9 })) (3) := by decide +kernel
theorem test_wit_FabricReceive_8 : (fun (s : State) (m pool size : Nat) => m < 8 ∧ s.mlState m = 2 ∧ pool ≤ 8) (sMlInit) (3) (8) (4) := by
    decide +kernel
theorem test_wit_FabricReceive_9 : (fun (s : State) (m g : Nat) => m < 8 ∧ s.mlState m = 3 ∧ (s.link m).pendSet = none ∧ g = s.get
    F.ML_LINK_CTL_GRACE (dLink m) ∧ g ≠ 0) (sMl.putAct F.ML_LINK_CTL_GRACE (dLink 3) 5) (3) (5) :=
    ⟨by decide +kernel, by decide +kernel, by decide +kernel, by decide +kernel, by decide +kernel⟩

theorem test_wit_LaceCommands_1 : (fun (s : State) (m arg : Nat) => m < 8 ∧ (s.link m).pendSet = none ∧ s.laceCheck m (ctlSet arg) false = 0)
    (sMl.put F.ML_LINK_STATUS_LSET (dLink 3) 1) (3) ((2 * 4096)) := by decide +kernel
theorem test_wit_LaceCommands_2 : (fun (s : State) (m arg : Nat) => m < 8 ∧ (s.link m).pendSet = some (ctlSet arg) ∧ (s.link m).laceTag = ctlTag arg
    ∧ (s.link m).unlacing = false) ((sMl.setLink 3 fun l => { l with pendSet := some 3, laceTag := 2 })) (3) ((3 * 256 + 2 * 4096)) := by
    decide +kernel
theorem test_wit_LaceCommands_3 : (fun (s : State) (m arg : Nat) => m < 8 ∧ ((s.mlState m = 3 ∧ s.lset m = ctlSet arg ∧ s.get F.ML_LACE_STATUS_TAG
    (dLink m) = ctlTag arg) = False) ∧ (s.link m).pendSet = none ∧ s.laceCheck m (ctlSet arg) true = 0) (sMl.put F.ML_LINK_STATUS_LSET (dLink 3) 0)
    (3) ((1 * 256 + 2 * 4096)) := by decide +kernel
theorem test_wit_LaceCommands_4 : (fun (s : State) (m arg : Nat) => m < 8 ∧ (s.link m).unlacing = true ∧ (s.link m).laceOwn = true ∧ (s.link
    m).laceTag = ctlTag arg ∧ arg / 65536 % 2 = 0) ((sMl.setLink 3 fun l =>
    { l with pendSet := some 1, laceTag := 2, unlacing := true, laceOwn := true })) (3) ((1 * 256 + 2 * 4096)) := by decide +kernel
theorem test_wit_LaceCommands_5 : (fun (s : State) (m arg v : Nat) => m < 8 ∧ (s.link m).pendSet = some v ∧ (s.link m).laceTag = ctlTag arg)
    ((sMl.setLink 3 fun l => { l with pendSet := some 1, laceTag := 2 })) (3) ((2 * 4096 + 7 * 2 ^ 20)) (1) := by decide +kernel
theorem test_wit_LaceCommands_6 : (fun (s : State) (p : Path) (m : Nat) (v : Word) (s1 : State) (tgt tag : Nat) => p.isRequester = true ∧ s.Open ∧ m
    < 8 ∧ s.bankState (16 + m / 2) = 3 ∧ F.ML_LACE_CTL_GO.of v = 1 ∧ s1 = s.storeAt (R.ML_LACE_CTL + dLink m) v ∧ (s1.link m).pendSet = none ∧
    s1.get F.ML_LACE_CTL_CMD (dLink m) = 1 ∧ tgt = s1.get F.ML_LACE_CTL_TGT_LSET (dLink m) ∧ s1.laceCheck m tgt false = 0 ∧ tag = (s1.link
    m).laceTag + 1 - 16 * (((s1.link m).laceTag + 1) / 16)) (sLace1) (.bar) (3) (0x11) (sLace1.storeAt (R.ML_LACE_CTL + dLink 3) 0x11) (0) (1) :=
    ⟨by decide +kernel, by decide +kernel, by decide +kernel, by decide +kernel, by decide +kernel, rfl, by decide +kernel, by decide +kernel, by decide +kernel, by decide +kernel, by decide +kernel⟩
theorem test_wit_LaceCommands_7 : (fun (s : State) (p : Path) (m : Nat) (v : Word) (s1 : State) (tgt tag : Nat) => p.isRequester = true ∧ s.Open ∧ m
    < 8 ∧ s.bankState (16 + m / 2) = 3 ∧ F.ML_LACE_CTL_GO.of v = 1 ∧ s1 = s.storeAt (R.ML_LACE_CTL + dLink m) v ∧ (s1.link m).pendSet = none ∧
    s1.get F.ML_LACE_CTL_CMD (dLink m) = 2 ∧ tgt = s1.get F.ML_LACE_CTL_TGT_LSET (dLink m) ∧ s1.laceCheck m tgt true = 0 ∧ tag = (s1.link m).laceTag
    + 1 - 16 * (((s1.link m).laceTag + 1) / 16)) (sLace3) (.bar) (3) (0x112) (sLace3.storeAt (R.ML_LACE_CTL + dLink 3) 0x112) (1) (1) :=
    ⟨by decide +kernel, by decide +kernel, by decide +kernel, by decide +kernel, by decide +kernel, rfl, by decide +kernel, by decide +kernel, by decide +kernel, by decide +kernel, by decide +kernel⟩
theorem test_wit_LaceCommands_8 : (fun (s : State) (m : Nat) => m < 8 ∧ s.dueO (s.link m).laceTo = true ∧ (s.link m).laceOwn = true) (((sMl.setLink
    3 fun l => { l with laceTo := some 3, laceOwn := true }).setTim fun t => { t with bnd := 9 })) (3) := by decide +kernel

theorem test_wit_FabricRoutes_1 : (fun (s : State) (m : Nat) (msg : Msg) => m < 8 ∧ s.mlState m = 3 ∧ msg.op = .fence ∧ msg.kind = .fence) (sMl) (3)
    ({ msg005 with op := .fence, kind := .fence }) := by decide +kernel
theorem test_wit_FabricRoutes_2 : (fun (s : State) (sw fid e : Nat) => sw < 64 ∧ (s.route sw).fence = some (fid, e) ∧ s.mlState (s.get
    F.SOLE_ROUTE_PRIMARY (4 * sw)) = 3) ((sMl.putAct F.SOLE_ROUTE_PRIMARY 20 3).setRoute 5 fun r =>
    { r with onAlt := true, fence := some (2, 256) }) (5) (2) (256) := by decide +kernel
theorem test_wit_FabricRoutes_3 : (fun (s : State) (sw session e : Nat) => sw < 64 ∧ session = s.session (s.get F.SOLE_ROUTE_PRIMARY (4 * sw)) ∧
    (s.route sw).wait = some e) (State.reset.setRoute 5 fun r => { r with wait := some 4 }) (5) (State.reset.session 0) (4) :=
    ⟨by decide +kernel, by decide +kernel, by decide +kernel⟩
theorem test_wit_FabricRoutes_4 : (fun (s : State) (p : Path) (m : Nat) (v : Word) (s1 : State) => p.isRequester = true ∧ s.Open ∧ m < 8 ∧
    s.bankState (16 + m / 2) = 3 ∧ F.ML_LINK_CMD_RETRAIN.of v = 1 ∧ s1 = s.storeAt (R.ML_LINK_CMD + dLink m) v ∧ s1.on F.ML_LINK_CMD_DISABLE (dLink
    m) = s.on F.ML_LINK_CMD_DISABLE (dLink m)) (sMl.put F.LB_BANK_STATUS_STATE (dBank 17) 3) (.bar) (3) (1) ((sMl.put F.LB_BANK_STATUS_STATE (dBank
    17) 3).storeAt (R.ML_LINK_CMD + dLink 3) 1) :=
    ⟨by decide +kernel, by decide +kernel, by decide +kernel, by decide +kernel, by decide +kernel, rfl, by decide +kernel⟩
theorem test_wit_FabricRoutes_5 : (fun (s : State) (p : Path) (m : Nat) (v : Word) (s1 s2 : State) => p.isRequester = true ∧ s.Open ∧ m < 8 ∧
    s.bankState (16 + m / 2) = 3 ∧ F.ML_LINK_CMD_RETRAIN.of v = 0 ∧ s1 = s.storeAt (R.ML_LINK_CMD + dLink m) v ∧ s.on F.ML_LINK_CMD_DISABLE (dLink
    m) = false ∧ s1.on F.ML_LINK_CMD_DISABLE (dLink m) = true ∧ s2 = s1.mlDown m ∧ s2.mlState m = 4) (sDis) (.bar) (3) (2) (sDis.storeAt
    (R.ML_LINK_CMD + dLink 3) 2) ((sDis.storeAt (R.ML_LINK_CMD + dLink 3) 2).mlDown 3) :=
    ⟨by decide +kernel, by decide +kernel, by decide +kernel, by decide +kernel, by decide +kernel, rfl, by decide +kernel, by decide +kernel, rfl, by decide +kernel⟩
theorem test_wit_FabricRoutes_6 : (fun (s : State) (m mask : Nat) => m < 8 ∧ s.mlState m = 1 ∧ s.dueO (s.link m).attempt = true ∧ (mask =
    ((List.range 8).filter fun l => s.mlaneState m (s.linkLane m l) == lsData).foldl (fun a l => a + 2 ^ l) 0)) ((((State.reset.put
    F.ML_LINK_STATUS_STATE (dLink 3) 1).setLink 3 fun l => { l with attempt := some 3 }).setTim fun t => { t with bnd := 9 })) (3) (0) :=
    ⟨by decide +kernel, by decide +kernel, by decide +kernel, by decide +kernel⟩
theorem test_wit_FabricRoutes_7 : (fun (s : State) (m : Nat) => m < 8 ∧ s.mlState m = 4 ∧ s.dueO (s.link m).grace = true) ((((State.reset.put
    F.ML_LINK_STATUS_STATE (dLink 3) 4).setLink 3 fun l => { l with grace := some 3 }).setTim fun t => { t with bnd := 9 })) (3) := by
    decide +kernel
theorem test_wit_FabricRoutes_8 : (fun (s : State) (m far : Nat) (s2 s3 : State) => m < 8 ∧ s.mlState m = 5 ∧ (s.link m).landed = [] ∧ (s.link
    m).fenceHeld = false ∧ far = s.get F.ML_PEER_FAR_SWITCH (dLink m) ∧ (s2 = ((s.mlStart m).setLink m fun l =>
    { l with flushEnd := none, rep := [] }).each (List.range 8) fun t k => if k != m && t.mlState k == mlUpSt && t.on F.ML_PEER_VALID (dLink k) &&
    t.get F.ML_PEER_FAR_SWITCH (dLink k) == far then t.repeatCtl k 0x0B (m + s.session m * 65536) 64 else t) ∧ (s3 = s2.each (s2.primaryOf m) fun t
    w => t.routeLeft m w)) (sFl) (3) (0) (sFl2) (sFl2.each (sFl2.primaryOf 3) fun t w => t.routeLeft 3 w) :=
    ⟨by decide +kernel, by decide +kernel, by decide +kernel, by decide +kernel, by decide +kernel, rfl, rfl⟩
theorem test_wit_FabricRoutes_9 : (fun (s : State) (sw : Nat) => sw < 64 ∧ s.dueO (s.route sw).wait = true ∧ s.mlState (s.get F.SOLE_ROUTE_ALT (4 *
    sw)) = 3) (((sMl.putAct F.SOLE_ROUTE_ALT 20 3).setRoute 5 fun r => { r with wait := some 4 }).setTim fun t => { t with bnd := 9 }) (5) := by
    decide +kernel
theorem test_wit_FabricRoutes_10 : (fun (s : State) (sw fid e : Nat) => sw < 64 ∧ (s.route sw).fence = some (fid, e) ∧ s.due e = true ∧ s.mlState
    (s.get F.SOLE_ROUTE_ALT (4 * sw)) = 3) (((sMl.putAct F.SOLE_ROUTE_ALT 20 3).setRoute 5 fun r => { r with fence := some (2, 4) }).setTim fun t =>
    { t with bnd := 9 }) (5) (2) (4) := by decide +kernel

-- witnesses: home

def msg006 : Msg := ⟨7, 0, .io, .mRd, .none, 0, 3, 0, 9, 0, 0, .green, 0, 0, 0, .bus, 0, 64, 4, none, 0, [], false, .ok, 0, false⟩
def tack0 : Tack := ⟨1, 5, .rdS, msg006, none, .dirf, [], [], false, true, 0, [], false, false, false, none, 0, false, false, false, [], [], []⟩
def queued0 : Queued := ⟨msg006, 0, 0, 0, 9, 1, 0, 0, .shared, false⟩
def lwt0 : LostWrite := ⟨0, { msg006 with dstSw := 5 }, false⟩
def tackTo : Tack := { tack0 with st := .mem, memRd := false, timer := some 3 }
def tackEv : Tack := { tack0 with st := .evict }
def sTo : State := ((State.reset.setTim fun t => { t with bnd := 9 }).setHome 2 fun x => { x with tacks := [tackTo] })
def sEv : State := (State.reset.setHome 2 fun x => { x with tacks := [tackEv] })
def sLwt : State := ((((State.reset.setLwt fun _ => [lwt0]).put F.ML_LINK_STATUS_STATE (dLink 3) 3).putAct F.SOLE_ROUTE_PRIMARY (20) 3).putAct F.SOLE_ROUTE_PVALID (20) 1)
def sAl : State := (((State.reset.setSole fun o => { o with waiting := [queued0] }).setQueue 0 fun x => { x with slot := true }).putAct F.SOLE_CLASS_RES_MIN (0) 8)
def sCl : State := (State.reset.setSole fun o => { o with slotWait := [queued0] }).setQueue 0 fun x => { x with slot := true }

theorem test_wit_CrossbarCommands_1 : (fun (s : State) (n : Nat) (r : Route) (msg : Msg) => n < 64 ∧ s.portUp n = true ∧ s.notNegotiated n msg =
    false ∧ s.on F.EP_IDE_STATUS_BLOCKED (dPort n) = false ∧ malformed n { msg with via := n, hops := 0, srcSw := s.ownSw, srcAg := n } = false)
    ((State.reset.setLtssm 9 4)) (9) (.none) (msg006) := by decide +kernel
theorem test_wit_CrossbarCommands_2 : (fun (s : State) (n : Nat) (r : Route) (msg : Msg) => n < 64 ∧ s.portUp n = true ∧ s.notNegotiated n msg =
    true) ((State.reset.setLtssm 9 4)) (9) (.none) ({ msg006 with kind := .memM2S, op := .memRd }) := by decide +kernel
theorem test_wit_CrossbarCommands_3 : (fun (s : State) (n : Nat) (r : Route) (msg : Msg) => 72 ≤ n ∧ n ≤ 84) (State.reset) (84) (.none) (msg006) := by
    decide +kernel
theorem test_wit_CrossbarCommands_4 : (fun (s : State) (c : Nat) (x : Queued) (ch : Charge) (t : State) => (firstWaiting (s.sole.waiting.filter fun
    x => x.msg.cls == c) = some x) ∧ s.source x.msg = some ch ∧ ((s.setSole fun o => { o with waiting := o.waiting.erase x }).claimSlot x.qidx =
    some t)) (sAl) (0) (queued0) (.min) ((sAl.setSole fun o => { o with waiting := [] }).touchQueue 0) :=
    ⟨by decide +kernel, by decide +kernel, by decide +kernel⟩
theorem test_wit_CrossbarCommands_5 : (fun (s : State) (id : Nat) (x : Queued) => (s.sole.deferred.find? (fun x => x.msg.id == id) = some x) ∧ s.qOf
    x.egress x.msg.cls < s.hardOf x.msg.cls) ((State.reset.putAct F.SOLE_CLASS_PROF_HARD 0 1).setSole fun o => { o with deferred := [queued0] }) (7)
    (queued0) := by decide +kernel
theorem test_wit_CrossbarCommands_6 : (fun (s : State) (x : Queued) (t : State) => firstWaiting s.sole.slotWait = some x ∧ s.claimSlot x.qidx = some
    t) (sCl) (queued0) (sCl.touchQueue 0) := ⟨by decide +kernel, by decide +kernel⟩
theorem test_wit_CrossbarCommands_7 : (fun (s : State) (q out : Nat) => q ∈ s.sole.fetching ∧ out ≤ 1 ∧ s.sysOk (queueAddr q) = true)
    ((State.reset.put F.INS_CH_STATUS_TRAINED (4 * chanOf (queueAddr 40)) 1).setSole fun o => { o with fetching := [40] }) (40) (1) := by
    decide +kernel
theorem test_wit_CrossbarCommands_8 : (fun (s : State) (ecc : List Nat) (s1 : State) => s1 = s.cellTime ecc) (State.reset) ([]) (State.cellTime
    State.reset []) := by decide +kernel
theorem test_wit_CrossbarCommands_9 : (fun (s : State) => s.tim.cells % 64 = 0) (State.reset) := by decide +kernel

theorem test_wit_HomeCommands_1 : (fun (s : State) (h id ecc : Nat) (m : Msg) => h < 4 ∧ s.crossed? (76 + h) id = some m ∧ isReq m = true ∧ m.op ≠
    .biConflict) ((State.reset.setSole fun o => { o with crossing := [(78, { msg006 with kind := .memM2S, op := .memRd })] })) (2) (7) (0)
    ({ msg006 with kind := .memM2S, op := .memRd }) := by decide +kernel
theorem test_wit_HomeCommands_2 : (fun (s : State) (h rgn line out : Nat) (s1 s2 : State) (ts : List Tack) => h < 4 ∧ s.fetching h (setIdx rgn line)
    = true ∧ s.answers (setAddr h (setIdx rgn line)) = true ∧ out = 0 ∧ s1 = s.svcDone 2 (setAddr h (setIdx rgn line)) ∧ (ts = (s1.home
    h).tacks.filter fun t => t.st == .dirf && setIdx t.rgn t.line == setIdx rgn line) ∧ (s2 = s1.each ts fun u t => u.updTack h t.rgn t.line fun t
    => { t with st := .lookup })) ((State.reset.setHome 2 fun x => { x with tacks := [tack0] })) (2) (1) (5) (0) ((State.reset.setHome 2 fun x =>
    { x with tacks := [tack0] }).svcDone 2 (setAddr 2 (setIdx 1 5))) (((State.reset.setHome 2 fun x => { x with tacks := [tack0] }).svcDone 2
    (setAddr 2 (setIdx 1 5))).each [tack0] fun u t => u.updTack 2 t.rgn t.line fun t => { t with st := .lookup }) ([tack0]) :=
    ⟨by decide +kernel, by decide +kernel, by decide +kernel, rfl, rfl, by decide +kernel, rfl⟩
theorem test_wit_HomeCommands_3 : (fun (s : State) (h rgn line k : Nat) (m : Msg) => h < 4 ∧ ((∀ c < 4, ∀ a ∈ (s.chan c).homeDone, ¬ (a.h = h ∧
    a.rgn = rgn ∧ a.line = line))) ∧ (s.sole.crossing.find? (fun e => e.1 == 76 + h && e.2.kind == .memS2M && e.2.sid == rgn && e.2.tag == line) =
    some (k, m))) (((State.reset.setHome 2 fun x => { x with tacks := [tack0] }).setSole fun o =>
    { o with crossing := [(78, { msg006 with kind := .memS2M, op := .memData, sid := 1, tag := 5 })] })) (2) (1) (5) (78)
    ({ msg006 with kind := .memS2M, op := .memData, sid := 1, tag := 5 }) := by decide +kernel
theorem test_wit_HomeCommands_4 : (fun (s : State) (h id : Nat) (m : Msg) => h < 4 ∧ s.crossed? (76 + h) id = some m ∧ isSnoopRsp m.op = true)
    ((State.reset.setSole fun o => { o with crossing := [(78, { msg006 with kind := .bi, op := .biRspI })] })) (2) (7)
    ({ msg006 with kind := .bi, op := .biRspI }) := by decide +kernel
theorem test_wit_HomeCommands_5 : (fun (s : State) (h id : Nat) (m : Msg) => h < 4 ∧ s.crossed? (76 + h) id = some m ∧ m.op = .biConflict)
    ((State.reset.setSole fun o => { o with crossing := [(78, { msg006 with op := .biConflict })] })) (2) (7) ({ msg006 with op := .biConflict }) := by
    decide +kernel
theorem test_wit_HomeCommands_6 : (fun (s : State) (h rgn line : Nat) (t t2 : Tack) (s1 : State) => h < 4 ∧ s.tack? h rgn line = some t ∧ s.dueO
    t.timer = true ∧ t.toSnoop = [] ∧ t.memWr = 0 ∧ t.memRd = false ∧ t.migration = false ∧ isWriteOp t.op = false ∧ s1 = (s.bump
    F.HA_TO_STATUS_TIMEOUTS (dHome h) 1).occ 80 h ∧ s1.tack? h rgn line = some t ∧ t2 =
    { t with toSnoop := [], reissue := [], memRd := false, memWr := 0, timer := none, data := t.lineData }) (sTo) (2) (1) (5) (tackTo)
    ({ tackTo with toSnoop := [], reissue := [], memRd := false, memWr := 0, timer := none, data := tackTo.lineData }) ((sTo.bump
    F.HA_TO_STATUS_TIMEOUTS (dHome 2) 1).occ 80 2) :=
    ⟨by decide +kernel, by decide +kernel, by decide +kernel, by decide +kernel, by decide +kernel, by decide +kernel, by decide +kernel, by decide +kernel, rfl, by decide +kernel, by decide +kernel⟩
theorem test_wit_HomeCommands_7 : (fun (s : State) (h rgn line : Nat) => h < 4) (State.reset) (2) (0) (0) := by decide +kernel

theorem test_wit_HomeQueues_1 : (fun (s : State) (h : Nat) (w : Wait) => h < 4 ∧ s.resNext h = some w) ((State.reset.setHome 2 fun x =>
    { x with resQ := [⟨0, 0, msg006⟩] })) (2) (⟨0, 0, msg006⟩) := by decide +kernel
theorem test_wit_HomeQueues_2 : (fun (s : State) (h : Nat) (w : Tack) (s1 : State) => h < 4 ∧ s.evictWaiting h = [w] ∧ s1 = s.evictOne h w) (sEv)
    (2) (tackEv) (sEv.evictOne 2 tackEv) := ⟨by decide +kernel, by decide +kernel, rfl⟩
theorem test_wit_HomeQueues_3 : (fun (s : State) (p : Path) (h : Nat) (v : Word) (s1 : State) => p.isRequester = true ∧ s.Open ∧ h < 4 ∧
    F.HA_CTL_RESUME_CLEAN.of v = 1 ∧ s1 = s.storeAt (R.HA_CTL + dHome h) v ∧ (s1.home h).tacks = []) (State.reset) (.bar) (2) (1)
    (State.reset.storeAt (R.HA_CTL + dHome 2) 1) :=
    ⟨by decide +kernel, by decide +kernel, by decide +kernel, by decide +kernel, rfl, by decide +kernel⟩
theorem test_wit_HomeQueues_4 : (fun (s : State) (p : Path) (h : Nat) (v : Word) (s1 : State) (f : Nat) => p.isRequester = true ∧ s.Open ∧ h < 4 ∧
    F.HA_DEPART_CLR_GO.of v = 1 ∧ s1 = s.storeAt (R.HA_DEPART_CLR + dHome h) v ∧ f = s1.get F.HA_DEPART_CLR_FPID (dHome h) ∧ f ∈ (s1.home
    h).departed ∧ f ∈ (s1.home h).walked) ((State.reset.setHome 2 fun x => { x with departed := [0], walked := [0] })) (.bar) (2) (0x80000000)
    ((State.reset.setHome 2 fun x => { x with departed := [0], walked := [0] }).storeAt (R.HA_DEPART_CLR + dHome 2) 0x80000000) (0) :=
    ⟨by decide +kernel, by decide +kernel, by decide +kernel, by decide +kernel, rfl, by decide +kernel, by decide +kernel, by decide +kernel⟩
theorem test_wit_HomeQueues_5 : (fun (s : State) (h : Nat) => h < 4 ∧ (s.home h).walking ≠ [] ∧ s.reached (s.home h).walkEnd = true ∧ ((s.home
    h).dir.filter (fun e => !e.ovf && (s.tack? h e.rgn e.line).isNone && e.sharers.any (s.home h).walking.contains) = [])) ((State.reset.setHome 2
    fun x => { x with walking := [70] })) (2) := by decide +kernel
theorem test_wit_HomeQueues_6 : (fun (s : State) (id : Nat) (r : LostWrite) (m : Nat) => (s.lwt.find? (fun r => r.msg.id == id && !r.resent) = some
    r) ∧ s.linkFor r.msg.dstSw = some m ∧ s.mlState m = 3) (sLwt) (7) (lwt0) (3) := by decide +kernel
theorem test_wit_HomeQueues_7 : (fun (s : State) (id : Nat) (r : LostWrite) (m : Msg) => (s.lwt.find? (fun r => r.msg.id == id && r.resent) = some
    r) ∧ s.crossed? 76 id = some m ∧ isResp m.op = true) (((State.reset.setLwt fun _ => [{ lwt0 with resent := true }]).setSole fun o =>
    { o with crossing := [(76, { msg006 with op := .cmp })] })) (7) ({ lwt0 with resent := true }) ({ msg006 with op := .cmp }) := by decide +kernel
theorem test_wit_HomeQueues_8 : (fun (s : State) (h : Nat) (t : Tack) (f : Nat) => h < 4 ∧ (s.home h).tacks = [t] ∧ (t.reissue.filter (fun f =>
    t.toSnoop.contains f && s.canSnoop h t f) = [f])) ((State.reset.setHome 2 fun x =>
    { x with tacks := [{ tack0 with reissue := [9], toSnoop := [9] }] })) (2) ({ tack0 with reissue := [9], toSnoop := [9] }) (9) := by
    decide +kernel

-- witnesses: insole

def msg007 : Msg := ⟨7, 0, .memM2S, .memRd, .none, 0, 3, 0, 9, 0, 0, .green, 0, 0, 0, .dpa, 0, 0x200000000, 64, none, 0, [], false, .ok, 0, false⟩
def tagWait0 : TagWait := ⟨3, 9, msg007, ⟨0, 0, 0, 0, 0, 0, 0, none, 0, 0, 0, none, 0, 0, none, 0⟩, 0, []⟩
def sTier : State := ((((((((((State.reset.setIns fun i => { i with promo := [(50, 2, 3)], remap := i.remap.set 3 { Remap.home with v := true, heat := 100 } }).putAct F.INS_TR_CFG_VALID (ent 2) 1).putAct F.INS_TR_SIZE_SIZE_GIB (ent 2) 1).putAct F.INS_TR_CFG_PORT (ent 2) 9).put F.EP_HP_STATUS_HP_STATE (dPort 9) 4).put F.INS_CARVE_CACHE_UNITS (0) 1).putAct F.INS_TIER_CFG_MIG_BUDGET (0) 4).putAct F.INS_TIER_CFG_MIG_OPEN (0) 4).putAct F.INS_TR_CFG_PROMOTE (ent 2) 1).put F.INS_GCMD_GRAN_GRANULE (0) 3)
def sTag : State := ((State.reset.put F.INS_TAG_ADDR_HI_DPA (0) 2).put F.INS_CARVE_POOL_UNITS (0) 64)
def sTw : State := State.reset.setSec fun x => { x with tagWait := [tagWait0] }
def sTierD : State := sTier.setIns fun i => { i with remap := i.remap.set 3 { Remap.home with v := true, st := 1, d := true } }

theorem test_wit_InsoleMemory_1 : (fun (s : State) (ch k : Nat) (m : Msg) (turns : List Nat) => ch < 4 ∧ (s.sole.crossing.find? (fun e => e.1 == 72
    + ch) = some (k, m)) ∧ s.insPick [true, !(s.chan ch).home.isEmpty, !(s.chan ch).svc.isEmpty] (s.chan ch).turns = some (0, turns) ∧ isRead m.op =
    true) (State.reset.setSole fun o => { o with crossing := [(74, msg007)] }) (2) (74) (msg007) ([3, 4, 8]) := by decide +kernel
theorem test_wit_InsoleMemory_2 : (fun (s : State) (ch client out : Nat) (m : Msg) (rest : List Msg) (s1 s2 : State) => ch < 4 ∧ client = 0 ∧
    (s.chan ch).reads = m :: rest ∧ (s1 = s.setChan ch fun c => { c with reads := rest }) ∧ s1.answers m.addr = true ∧ out = 0 ∧ s2 = s1.mirrorRead
    m.addr) (State.reset.setChan 2 fun c => { c with reads := [msg007] }) (2) (0) (0) (msg007) ([]) ((State.reset.setChan 2 fun c =>
    { c with reads := [msg007] }).setChan 2 fun c => { c with reads := [] }) (((State.reset.setChan 2 fun c => { c with reads := [msg007] }).setChan 2
    fun c => { c with reads := [] }).mirrorRead msg007.addr) :=
    ⟨by decide +kernel, by decide +kernel, by decide +kernel, rfl, by decide +kernel, by decide +kernel, rfl⟩
theorem test_wit_InsoleMemory_3 : (fun (s : State) (trained : List Bool) (s1 : State) => s.step? = 4 ∧ s.on F.GLB_START_STATUS_STOPPED 0 = false ∧
    (∀ c < 4, trained.getD c true = true) ∧ (s1 = s.each (List.range 4) fun t c => t.put F.INS_CH_STATUS_TRAINED (4 * c) 1)) (State.reset.put
    F.GLB_START_STATUS_STEP 0 4) ([]) ((State.reset.put F.GLB_START_STATUS_STEP 0 4).each (List.range 4) fun t c => t.put F.INS_CH_STATUS_TRAINED (4
    * c) 1) := ⟨by decide +kernel, by decide +kernel, by decide +kernel, rfl⟩
theorem test_wit_InsoleMemory_4 : (fun (s : State) (ch : Nat) => ch < 4) (State.reset) (3) := by decide +kernel
theorem test_wit_InsoleMemory_5 : (fun (s : State) (p : Path) (v : Word) (s1 : State) (a : Nat) => p.isRequester = true ∧ s.Open ∧
    F.INS_TAG_WR_GO.of v = 1 ∧ s1 = s.storeAt R.INS_TAG_WR v ∧ a = s1.get F.INS_TAG_ADDR_LO_DPA 0 * 4096 + s1.get F.INS_TAG_ADDR_HI_DPA 0 * 2 ^ 32 ∧
    s1.inPool a = true ∧ s1.get F.INS_PEXT_STATE (ent (extentOf a)) ≠ 1) (sTag) (.bar) (0x13) (sTag.storeAt R.INS_TAG_WR 0x13) (0x200000000) :=
    ⟨by decide +kernel, by decide +kernel, by decide +kernel, rfl, by decide +kernel, by decide +kernel, by decide +kernel⟩
theorem test_wit_InsoleMemory_6 : (fun (s : State) (line out : Nat) (w : TagWait) (a : Nat) (s1 : State) => (s.sec.tagWait.filter (fun w => w.line
    == line) = [w]) ∧ a = 0x14000000 + 64 * line ∧ (s1 = (s.setSec fun x => { x with tagWait := x.tagWait.filter fun w => w.line != line }).svcDone
    5 a) ∧ s1.answers a = true ∧ out = 0) (sTw) (3) (0) (tagWait0) ((0x14000000 + 64 * 3)) ((sTw.setSec fun x =>
    { x with tagWait := x.tagWait.filter fun w => w.line != 3 }).svcDone 5 (0x14000000 + 64 * 3)) :=
    ⟨by decide +kernel, by decide +kernel, rfl, by decide +kernel, by decide +kernel⟩
theorem test_wit_InsoleMemory_7 : (fun (s : State) (rng gran out : Nat) (f : Nat × Nat × Nat × Msg) (a : Nat) (s1 : State) (e : Remap) =>
    (s.ins.fills.filter (fun f => f.1 == rng && f.2.1 == gran) = [f]) ∧ a = remapAddr (s.remapIdx rng gran) ∧ (s1 = (s.setIns fun i =>
    { i with fills := i.fills.filter fun f => !(f.1 == rng && f.2.1 == gran) }).svcDone 4 a) ∧ s1.answers a = true ∧ out = 0 ∧ Remap.ofWord (s1.memN
    a 8) = some e) (State.reset.setIns fun i => { i with fills := [(2, 3, 72, msg007)] }) (2) (3) (0) ((2, 3, 72, msg007)) (remapAddr
    (State.reset.remapIdx 2 3)) (((State.reset.setIns fun i => { i with fills := [(2, 3, 72, msg007)] }).setIns fun i =>
    { i with fills := i.fills.filter fun f => !(f.1 == 2 && f.2.1 == 3) }).svcDone 4 (remapAddr (State.reset.remapIdx 2 3))) (Remap.home) :=
    ⟨by decide +kernel, by decide +kernel, rfl, by decide +kernel, by decide +kernel, by decide +kernel⟩

theorem test_wit_TieringCommands_1 : (fun (s : State) (p : Nat) (ids : List Nat) (s1 : State) (cand hot cold : List (Nat × Nat × Nat)) =>
    s.ins.scanEnd = some p ∧ (ids = s.touched.filter fun i => (s.granOf i).isSome) ∧ (s1 = s.each ids fun t i => t.remapSet i (scanOne p (s.get
    F.INS_TIER_CFG_DECAY 0) (t.remapAt i))) ∧ (cand = ids.filterMap fun i => (s1.granOf i).map fun g => ((s1.remapAt i).heat, g.1, g.2)) ∧ (hot =
    (cand.filter fun c => s1.canPromote c.2.1 c.2.2).foldl (fun l c => insertBy (fun x y => decide (y.1 < x.1)) c l) []) ∧ (cold = (cand.filter fun
    c => s1.canDemote c.2.1 c.2.2).foldl (fun l c => insertBy (fun x y => decide (x.1 < y.1)) c l) [])) (State.reset.setIns fun i =>
    { i with scanEnd := some 0 }) (0) ([]) (State.reset.setIns fun i => { i with scanEnd := some 0 }) ([]) ([]) ([]) :=
    ⟨by decide +kernel, by decide +kernel, rfl, by decide +kernel, rfl, rfl⟩
theorem test_wit_TieringCommands_2 : (fun (s : State) (h r g f : Nat) (rest : List (Nat × Nat × Nat)) (s1 : State) => s.on
    F.INS_TIER_STATUS_SCANNING 0 = false ∧ s.ins.started < s.get F.INS_TIER_CFG_MIG_BUDGET 0 ∧ ((s.ins.migs.filter fun g => g.kind != 2).length <
    s.get F.INS_TIER_CFG_MIG_OPEN 0) ∧ (s.ins.promo.dropWhile (fun c => !s.canPromote c.2.1 c.2.2) = (h, r, g) :: rest) ∧ s.frameFree? = some f ∧
    (s1 = ((s.setIns fun i => { i with promo := rest }).migStart r g 0 f false (s.coherentGran r g)).setIns fun i =>
    { i with started := i.started + 1 })) (sTier) (50) (2) (3) (0) ([]) (((sTier.setIns fun i => { i with promo := [] }).migStart 2 3 0 0 false
    (sTier.coherentGran 2 3)).setIns fun i => { i with started := i.started + 1 }) :=
    ⟨by decide +kernel, by decide +kernel, by decide +kernel, by decide +kernel, by decide +kernel, rfl⟩
theorem test_wit_TieringCommands_3 : (fun (s : State) (rng gran : Nat) => s.outstanding (s.remapIdx rng gran) true = 0) (State.reset) (0) (0) := by
    decide +kernel
theorem test_wit_TieringCommands_4 : (fun (s : State) (rng gran : Nat) (ok : Bool) (data : List Byte) (poison : Bool) (g : Mig) => s.mig? rng gran =
    some g ∧ g.copying = true ∧ g.coh = false ∧ ok = true ∧ s.backBound rng = true ∧ g.kind = 0 ∧ s.frameWriteFails = false) (sTier.setIns fun i =>
    { i with migs := [⟨2, 3, 0, 0, true, 0, false, false, 0, [], []⟩] }) (2) (3) (true) ([]) (true) (⟨2, 3, 0, 0, true, 0, false, false, 0, [], []⟩)
    := by decide +kernel
theorem test_wit_TieringCommands_5 : (fun (s : State) (frame : Nat) => frame ∈ s.ins.freeing ∧ (∀ e ∈ s.ins.oldReads, e.2 ≠ frame))
    (State.reset.setIns fun i => { i with freeing := [4], frames := [4] }) (4) := by decide +kernel
theorem test_wit_TieringCommands_6 : (fun (s : State) (p : Path) (v : Word) (rng gran : Nat) (s1 : State) (r : Remap) (f : Nat) => p.isRequester =
    true ∧ s.Open ∧ F.INS_GCMD_GO.of v = 1 ∧ F.INS_GCMD_OP.of v = 0 ∧ rng = F.INS_GCMD_RNG.of v ∧ s1 = s.storeAt R.INS_GCMD v ∧ gran = s1.get
    F.INS_GCMD_GRAN_GRANULE 0 ∧ s1.granOk rng gran = true ∧ r = s1.remapAt (s1.remapIdx rng gran) ∧ r.st = 0 ∧ s1.shelfState (s1.rngShelf rng) ≠ 3 ∧
    s1.shelfState (s1.rngShelf rng) ≠ 4 ∧ s1.backBound rng = true ∧ s1.frameFree? = some f) (sTier) (.bar) (0x80000002) (2) (3) (sTier.storeAt
    R.INS_GCMD 0x80000002) ({ Remap.home with v := true, heat := 100 }) (0) :=
    ⟨by decide +kernel, by decide +kernel, by decide +kernel, by decide +kernel, by decide +kernel, rfl, by decide +kernel, by decide +kernel, rfl, by decide +kernel, by decide +kernel, by decide +kernel, by decide +kernel, by decide +kernel⟩
theorem test_wit_TieringCommands_7 : (fun (s : State) (p : Path) (v : Word) (rng gran : Nat) (s1 : State) (r : Remap) => p.isRequester = true ∧
    s.Open ∧ F.INS_GCMD_GO.of v = 1 ∧ F.INS_GCMD_OP.of v = 1 ∧ rng = F.INS_GCMD_RNG.of v ∧ s1 = s.storeAt R.INS_GCMD v ∧ gran = s1.get
    F.INS_GCMD_GRAN_GRANULE 0 ∧ s1.granOk rng gran = true ∧ r = s1.remapAt (s1.remapIdx rng gran) ∧ r.st = 1 ∧ r.d = true ∧ s1.shelfState
    (s1.rngShelf rng) ≠ 3 ∧ s1.shelfState (s1.rngShelf rng) ≠ 4 ∧ s1.backBound rng = true) (sTierD) (.bar) (0x80000102) (2) (3) (sTierD.storeAt
    R.INS_GCMD 0x80000102) ({ Remap.home with v := true, st := 1, d := true }) :=
    ⟨by decide +kernel, by decide +kernel, by decide +kernel, by decide +kernel, by decide +kernel, rfl, by decide +kernel, by decide +kernel, rfl, by decide +kernel, by decide +kernel, by decide +kernel, by decide +kernel, by decide +kernel⟩
theorem test_wit_TieringCommands_8 : (fun (s : State) (p : Path) (v : Word) (rng gran : Nat) (s1 : State) (r : Remap) => p.isRequester = true ∧
    s.Open ∧ F.INS_GCMD_GO.of v = 1 ∧ F.INS_GCMD_OP.of v = 2 ∧ rng = F.INS_GCMD_RNG.of v ∧ s1 = s.storeAt R.INS_GCMD v ∧ gran = s1.get
    F.INS_GCMD_GRAN_GRANULE 0 ∧ s1.granOk rng gran = true ∧ r = s1.remapAt (s1.remapIdx rng gran) ∧ r.st ≤ 1) (sTier) (.bar) (0x80000202) (2) (3)
    (sTier.storeAt R.INS_GCMD 0x80000202) ({ Remap.home with v := true, heat := 100 }) :=
    ⟨by decide +kernel, by decide +kernel, by decide +kernel, by decide +kernel, by decide +kernel, rfl, by decide +kernel, by decide +kernel, rfl, by decide +kernel⟩
theorem test_wit_TieringCommands_9 : (fun (s : State) (p : Path) (v : Word) (rng gran : Nat) (s1 : State) (r : Remap) => p.isRequester = true ∧
    s.Open ∧ F.INS_GCMD_GO.of v = 1 ∧ F.INS_GCMD_OP.of v = 3 ∧ rng = F.INS_GCMD_RNG.of v ∧ s1 = s.storeAt R.INS_GCMD v ∧ gran = s1.get
    F.INS_GCMD_GRAN_GRANULE 0 ∧ s1.granOk rng gran = true ∧ r = s1.remapAt (s1.remapIdx rng gran) ∧ r.st ≤ 1) (sTier) (.bar) (0x80000302) (2) (3)
    (sTier.storeAt R.INS_GCMD 0x80000302) ({ Remap.home with v := true, heat := 100 }) :=
    ⟨by decide +kernel, by decide +kernel, by decide +kernel, by decide +kernel, by decide +kernel, rfl, by decide +kernel, by decide +kernel, rfl, by decide +kernel⟩
theorem test_wit_TieringCommands_10 : (fun (s : State) (p : Path) (v : Word) (rng gran : Nat) (s1 : State) (r : Remap) => p.isRequester = true ∧
    s.Open ∧ F.INS_GCMD_GO.of v = 1 ∧ F.INS_GCMD_OP.of v = 4 ∧ rng = F.INS_GCMD_RNG.of v ∧ s1 = s.storeAt R.INS_GCMD v ∧ gran = s1.get
    F.INS_GCMD_GRAN_GRANULE 0 ∧ s1.granOk rng gran = true ∧ r = s1.remapAt (s1.remapIdx rng gran) ∧ r.st = 0 ∧ r.d = false) (sTier) (.bar)
    (0x80000402) (2) (3) (sTier.storeAt R.INS_GCMD 0x80000402) ({ Remap.home with v := true, heat := 100 }) :=
    ⟨by decide +kernel, by decide +kernel, by decide +kernel, by decide +kernel, by decide +kernel, rfl, by decide +kernel, by decide +kernel, rfl, by decide +kernel, by decide +kernel⟩

theorem test_wit_ShelfCleaning_1 : (fun (s : State) (p : Path) (v : Word) (sh : Nat) (ids : List Nat) => p.isRequester = true ∧ s.Open ∧ sh = s.sel
    p F.INS_SHSEL_SHELF ∧ F.INS_SHELF_CMD_CLEAN.of v = 1 ∧ F.INS_SHELF_CMD_RELEASE.of v = 0 ∧ s.shelfState sh = 0 ∧ (ids = (s.dirtyIdx fun r =>
    s.rngShelf r == sh).filter fun i => (s.remapAt i).st == 1)) (State.reset) (.bar) (1) (0) ([]) :=
    ⟨by decide +kernel, by decide +kernel, by decide +kernel, by decide +kernel, by decide +kernel, by decide +kernel, by decide +kernel⟩
theorem test_wit_ShelfCleaning_2 : (fun (s : State) (p : Path) (v : Word) (sh : Nat) => p.isRequester = true ∧ s.Open ∧ sh = s.sel p
    F.INS_SHSEL_SHELF ∧ F.INS_SHELF_CMD_CLEAN.of v = 0 ∧ F.INS_SHELF_CMD_RELEASE.of v = 1 ∧ (s.shelfState sh = 1 ∨ s.shelfState sh = 2))
    (State.reset.put F.INS_SHELF_STATUS_STATE (ent 0) 2) (.bar) (2) (0) :=
    ⟨by decide +kernel, by decide +kernel, by decide +kernel, by decide +kernel, by decide +kernel, by decide +kernel⟩
theorem test_wit_ShelfCleaning_3 : (fun (s : State) (sh : Nat) (s1 : State) => sh < 64 ∧ s.shelfState sh = 1 ∧ (∀ g ∈ s.ins.migs, g.kind = 2 →
    s.rngShelf g.rng ≠ sh) ∧ (s1 = (s.setShelf sh 2).setIns fun i => { i with cleaning := i.cleaning.filter (· != sh) }) ∧ s1.bndShelf sh ≠ 1)
    (State.reset.put F.INS_SHELF_STATUS_STATE (ent 5) 1) (5) (((State.reset.put F.INS_SHELF_STATUS_STATE (ent 5) 1).setShelf 5 2).setIns fun i =>
    { i with cleaning := i.cleaning.filter (· != 5) }) := ⟨by decide +kernel, by decide +kernel, by decide +kernel, rfl, by decide +kernel⟩

-- witnesses: binding

def sVsw : State := ((((((State.reset.put F.BND_VSW_VALID (0) 1).put F.BND_VSW_UPORT (0) 9).put F.BND_VSW_COUNT (0) 1).put F.EP_PORT_CFG_MODE (dPort 9) 4).putAct F.INS_OBJ_CFG_VALID (ent 2) 1).put F.BND_SL_STATUS_STATE (ent 0) 1)
def sBnd : State := ((sVsw.put F.BND_VPPB_BIND_BOUND (ent 0) 1).put F.BND_VPPB_BIND_TARGET (ent 0) (1 + 12 * 8))
def sBa : State := ((State.reset.setBnd fun x => { x with binds := [⟨3, some .bar, 4, 3, 1, 0, 0⟩] }).setTim (fun t => { t with bnd := 9 }))
def sl0 : SlCmd := ⟨3, 7, false, false, none, false, none, false⟩
def sSl : State := ((State.reset.setBnd fun x => { x with slCmds := [sl0] }).setTim (fun t => { t with bnd := 9 }))
def frame0 : Frame := ⟨0, 0, 0, 0, 0, false, 0, 0, 0, false, 0x100000, 0, none, [], [], [], []⟩
def sDump : State := (((((State.reset.setCnt fun c => { c with bufs := [frame0] }).put F.INS_CH_STATUS_TRAINED (0) 1).put F.INS_CH_STATUS_TRAINED (4) 1).put F.INS_CH_STATUS_TRAINED (8) 1).put F.INS_CH_STATUS_TRAINED (12) 1)
def sIdle : State := ((State.reset.putAct F.BND_SHELF_TIME_PARK_IDLE (ent 5) 1).putAct F.BND_SHELF_CFG_PARK_EN (ent 5) 1)

theorem test_wit_BindingCommands_1 : (fun (s : State) (n kind lds : Nat) (dcd xr : Bool) (sn : Option Nat) (vendor : Nat) (s1 : State) => n < 64 ∧
    s.hp n = 3 ∧ s.get F.EP_HP_CFG_POLICY (dPort n) = 0 ∧ s.get F.EP_IDE_CFG_LINK_POLICY (dPort n) = 0 ∧ upMode (s.portMode n) = false ∧ xr = false
    ∧ (s1 = ((s.partnerSet n ⟨kind, lds, dcd, false, sn, vendor⟩).setPort n fun x => { x with disc := none }).put F.EP_XR_STATUS_PARTNER_CAP (dPort
    n) 0) ∧ s.restarting = false) ((State.reset.put F.EP_HP_STATUS_HP_STATE (dPort 9) 3).putAct F.EP_HP_CFG_POLICY (dPort 9) 0) (9) (2) (4) (false)
    (false) (none) (0) (((((State.reset.put F.EP_HP_STATUS_HP_STATE (dPort 9) 3).putAct F.EP_HP_CFG_POLICY (dPort 9) 0).partnerSet 9
    ⟨2, 4, false, false, none, 0⟩).setPort 9 fun x => { x with disc := none }).put F.EP_XR_STATUS_PARTNER_CAP (dPort 9) 0) :=
    ⟨by decide +kernel, by decide +kernel, by decide +kernel, by decide +kernel, by decide +kernel, by decide +kernel, rfl, by decide +kernel⟩
theorem test_wit_BindingCommands_2 : (fun (s : State) (n : Nat) => n < 64 ∧ s.hp n = 3 ∧ s.dueO (s.port n).disc = true) (((State.reset.put
    F.EP_HP_STATUS_HP_STATE (dPort 9) 3).setTim (fun t => { t with bnd := 9 })).setPort 9 fun p => { p with disc := some 3 }) (9) := by
    decide +kernel
theorem test_wit_BindingCommands_3 : (fun (s : State) (p : Path) (v : Word) (vp : Nat) (s1 : State) (b : Bound) => p.isRequester = true ∧ s.Open ∧
    vp = s.sel p F.BND_VSEL_VPPB ∧ s1 = s.storeAt (R.BND_BCMD + ent vp) v ∧ F.BND_BCMD_GO.of v = 1 ∧ F.BND_BCMD_OP.of v = 0 ∧ b =
    ⟨F.BND_BCMD_KIND.of v, F.BND_BCMD_PORT.of v, F.BND_BCMD_LD_OBJ.of v, F.BND_BCMD_SLICE.of v⟩ ∧ s1.bindBusy (some p) = false ∧ s1.bindReason vp b
    = 0) (sVsw) (.bar) (0x80002018) (0) (sVsw.storeAt (R.BND_BCMD + ent 0) 0x80002018) (⟨3, 0, 2, 0⟩) :=
    ⟨by decide +kernel, by decide +kernel, by decide +kernel, rfl, by decide +kernel, by decide +kernel, rfl, by decide +kernel, by decide +kernel⟩
theorem test_wit_BindingCommands_4 : (fun (s : State) (p : Path) (v : Word) (vp : Nat) (s1 : State) (b : Bound) => p.isRequester = true ∧ s.Open ∧
    vp = s.sel p F.BND_VSEL_VPPB ∧ s1 = s.storeAt (R.BND_BCMD + ent vp) v ∧ F.BND_BCMD_GO.of v = 1 ∧ F.BND_BCMD_OP.of v = 1 ∧ s1.bindBusy (some p) =
    false ∧ s1.bound? vp = some b ∧ (∀ u ∈ s1.bnd.unbinds, u.vppb ≠ vp) ∧ F.BND_BCMD_UMODE.of v ≠ 1) (sBnd) (.bar) (0x80000005) (0) (sBnd.storeAt
    (R.BND_BCMD + ent 0) 0x80000005) (⟨1, 12, 0, 0⟩) :=
    ⟨by decide +kernel, by decide +kernel, by decide +kernel, rfl, by decide +kernel, by decide +kernel, by decide +kernel, by decide +kernel, by decide +kernel, by decide +kernel⟩
theorem test_wit_BindingCommands_5 : (fun (s : State) (c : BindCmd) (s1 : State) => s.bnd.binds = [c] ∧ s.since c.since = true ∧ c.kind = 3 ∧ (s1 =
    s.setBnd fun x => { x with binds := x.binds.filter fun c => !s.since c.since })) (sBa) (⟨3, some .bar, 4, 3, 1, 0, 0⟩) (sBa.setBnd fun x =>
    { x with binds := x.binds.filter fun c => !sBa.since c.since }) := ⟨by decide +kernel, by decide +kernel, by decide +kernel, rfl⟩
theorem test_wit_BindingCommands_6 : (fun (s : State) (v : Nat) (hostDown : Bool) (u : Unbind) => v < 1024 ∧ (s.bnd.unbinds.find? (fun u => u.vppb
    == v) = some u) ∧ s.since u.since = true ∧ (u.umode = 2 ∨ hostDown = true)) (((State.reset.setBnd fun x =>
    { x with unbinds := [⟨3, none, 4, 2⟩] }).setTim (fun t => { t with bnd := 9 }))) (4) (true) (⟨3, none, 4, 2⟩) := by decide +kernel

theorem test_wit_SliceCommands_1 : (fun (s : State) (p : Path) (v : Word) (sl : Nat) (s1 : State) (target : Nat) => p.isRequester = true ∧ s.Open ∧
    sl = s.sel p F.BND_SSEL_SLICE ∧ s1 = s.storeAt (R.BND_SL_CMD + ent sl) v ∧ F.BND_SL_CMD_GO.of v = 1 ∧ F.BND_SL_CMD_OP.of v = 0 ∧
    F.BND_SL_CMD_SCOPE.of v = 0 ∧ target = s.get F.BND_SL_TGT_LO_TGT (ent sl) + s.get F.BND_SL_TGT_HI_TGT (ent sl) * 2 ^ 32 ∧ s.slCheck sl false
    target = 0) (State.reset.put F.BND_SL_STATUS_STATE (ent 0) 1) (.bar) (0x80000000) (0) ((State.reset.put F.BND_SL_STATUS_STATE (ent 0) 1).storeAt
    (R.BND_SL_CMD + ent 0) 0x80000000) (0) :=
    ⟨by decide +kernel, by decide +kernel, by decide +kernel, rfl, by decide +kernel, by decide +kernel, by decide +kernel, by decide +kernel, by decide +kernel⟩
theorem test_wit_SliceCommands_2 : (fun (s : State) (p : Path) (v : Word) (sl : Nat) (s1 : State) (target : Nat) => p.isRequester = true ∧ s.Open ∧
    sl = s.sel p F.BND_SSEL_SLICE ∧ s1 = s.storeAt (R.BND_SL_CMD + ent sl) v ∧ F.BND_SL_CMD_GO.of v = 1 ∧ F.BND_SL_CMD_OP.of v = 1 ∧
    F.BND_SL_CMD_SCOPE.of v = 0 ∧ target = s.get F.BND_SL_TGT_LO_TGT (ent sl) + s.get F.BND_SL_TGT_HI_TGT (ent sl) * 2 ^ 32 ∧ s.slCheck sl false
    target = 0) (State.reset.put F.BND_SL_STATUS_STATE (ent 0) 1) (.bar) (0x80000001) (0) ((State.reset.put F.BND_SL_STATUS_STATE (ent 0) 1).storeAt
    (R.BND_SL_CMD + ent 0) 0x80000001) (0) :=
    ⟨by decide +kernel, by decide +kernel, by decide +kernel, rfl, by decide +kernel, by decide +kernel, by decide +kernel, by decide +kernel, by decide +kernel⟩
theorem test_wit_SliceCommands_3 : (fun (s : State) (sl : Nat) (c : SlCmd) (s1 : State) => sl < 512 ∧ (s.bnd.slCmds.find? (fun c => c.slice == sl &&
    !c.running) = some c) ∧ c.target = none ∧ s.since c.since = true ∧ c.squash = false ∧ (s1 = (s.setBnd fun b =>
    { b with slCmds := b.slCmds.map fun x => if x.slice == sl then { c with running := true, since := s.tim.bnd, timer := some (s.after (s.get F.BND_SL_CFG_DRAIN (ent sl))) } else x }).slStatus
    sl 2 0) ∧ s1.qpState sl ≠ qpEnabled) (sSl) (7) (sl0) ((sSl.setBnd fun b =>
    { b with slCmds := b.slCmds.map fun x => if x.slice == 7 then { sl0 with running := true, since := sSl.tim.bnd, timer := some (sSl.after (sSl.get F.BND_SL_CFG_DRAIN (ent 7))) } else x }).slStatus
    7 2 0) := ⟨by decide +kernel, by decide +kernel, by decide +kernel, by decide +kernel, by decide +kernel, rfl, by decide +kernel⟩
theorem test_wit_SliceCommands_4 : (fun (s : State) (sl : Nat) (c : SlCmd) => sl < 512 ∧ (s.bnd.slCmds.find? (fun c => c.slice == sl && c.running &&
    s.dueO c.timer) = some c) ∧ s.get F.BND_SL_STATUS_OUT (ent sl) ≠ 0) ((((State.reset.setBnd fun x =>
    { x with slCmds := [{ sl0 with running := true, timer := some 5 }] }).setTim (fun t => { t with bnd := 9 })).put F.BND_SL_STATUS_OUT (ent 7) 1))
    (7) ({ sl0 with running := true, timer := some 5 }) := by decide +kernel
theorem test_wit_SliceCommands_5 : (fun (s : State) (sl : Nat) (c : SlCmd) => sl < 512 ∧ (s.bnd.slCmds.find? (fun c => c.slice == sl && c.running &&
    s.since c.since) = some c) ∧ s.get F.BND_SL_STATUS_OUT (ent sl) = 0 ∧ c.remove = true) (((State.reset.setBnd fun x =>
    { x with slCmds := [{ sl0 with running := true, remove := true }] }).setTim (fun t => { t with bnd := 9 }))) (7)
    ({ sl0 with running := true, remove := true }) := by decide +kernel
theorem test_wit_SliceCommands_6 : (fun (s : State) (sl : Nat) (c : SlCmd) => sl < 512 ∧ (s.bnd.slCmds.find? (fun c => c.slice == sl && c.running &&
    s.since c.since) = some c) ∧ s.get F.BND_SL_STATUS_OUT (ent sl) = 0 ∧ c.remove = false) (((State.reset.setBnd fun x =>
    { x with slCmds := [{ sl0 with running := true }] }).setTim (fun t => { t with bnd := 9 }))) (7) ({ sl0 with running := true }) := by
    decide +kernel
theorem test_wit_SliceCommands_7 : (fun (s : State) (ok : Bool) (f : Frame) (rest : List Frame) (a : Nat) (s1 : State) => s.cnt.bufs = f :: rest ∧ a
    = f.base + frameBytes * f.slot ∧ (s1 = (s.setCnt fun c => { c with bufs := rest }).syncDump) ∧ ok = true ∧ s.dumpOk f a = true ∧ f.host = false)
    (sDump) (true) (frame0) ([]) (frame0.base + frameBytes * frame0.slot) ((sDump.setCnt fun c => { c with bufs := [] }).syncDump) :=
    ⟨by decide +kernel, by decide +kernel, rfl, by decide +kernel, by decide +kernel, by decide +kernel⟩
theorem test_wit_SliceCommands_8 : (fun (s : State) (st k : Nat) (rest : List (Nat × Nat)) => s.bnd.wakeQ = (st, k) :: rest ∧ st < s.tim.num ∧ k <
    20 ∧ s.wakeCost k ≤ s.get F.BND_WAKE_STATUS_TOKENS 0) (((State.reset.setBnd fun x => { x with wakeQ := [(2, 4)] }).setTim fun t =>
    { t with num := 3 }).putAct F.BND_WCOST_COST (4 * 4) 0) (2) (4) ([]) := by decide +kernel

theorem test_wit_ShelfCommands_1 : (fun (s : State) (p : Path) (v : Word) (sh : Nat) => p.isRequester = true ∧ s.Open ∧ sh = s.sel p
    F.BND_SHSEL_SHELF ∧ F.BND_SHELF_CMD_PARK.of v = 1 ∧ F.BND_SHELF_CMD_WAKE.of v = 0 ∧ s.bndShelf sh = 0 ∧ s.restarting = false) (State.reset)
    (.bar) (1) (0) :=
    ⟨by decide +kernel, by decide +kernel, by decide +kernel, by decide +kernel, by decide +kernel, by decide +kernel, by decide +kernel⟩
theorem test_wit_ShelfCommands_2 : (fun (s : State) (p : Path) (v : Word) (sh : Nat) => p.isRequester = true ∧ s.Open ∧ sh = s.sel p
    F.BND_SHSEL_SHELF ∧ F.BND_SHELF_CMD_PARK.of v = 0 ∧ F.BND_SHELF_CMD_WAKE.of v = 1 ∧ s.bndShelf sh = 3 ∧ s.restarting = false) (State.reset.put
    F.BND_SHELF_STATUS_STATE (ent 0) 3) (.bar) (2) (0) :=
    ⟨by decide +kernel, by decide +kernel, by decide +kernel, by decide +kernel, by decide +kernel, by decide +kernel, by decide +kernel⟩
theorem test_wit_ShelfCommands_3 : (fun (s : State) (sh idle : Nat) => sh < 64 ∧ idle = s.get F.BND_SHELF_TIME_PARK_IDLE (ent sh) * 1024 ∧
    s.bndShelf sh = 0 ∧ s.on F.BND_SHELF_CFG_PARK_EN (ent sh) = true ∧ 0 < idle ∧ (∀ n ∈ s.shelfPorts sh, (s.port n).lastReq + idle ≤ s.tim.bnd) ∧
    s.restarting = false) (sIdle) (5) (1024) :=
    ⟨by decide +kernel, by decide +kernel, by decide +kernel, by decide +kernel, by decide +kernel, by decide +kernel, by decide +kernel⟩
theorem test_wit_ShelfCommands_4 : (fun (s : State) (sh : Nat) (s1 : State) => sh < 64 ∧ s.bndShelf sh = 2 ∧ s1 = ((s.setBndShelf sh 3).shelfTimer
    sh false).shelfParked sh ∧ sh ∉ s1.bnd.pendWake ∧ s.restarting = false) (State.reset.put F.BND_SHELF_STATUS_STATE (ent 5) 2) (5)
    ((((State.reset.put F.BND_SHELF_STATUS_STATE (ent 5) 2).setBndShelf 5 3).shelfTimer 5 false).shelfParked 5) :=
    ⟨by decide +kernel, by decide +kernel, rfl, by decide +kernel, by decide +kernel⟩
theorem test_wit_ShelfCommands_5 : (fun (s : State) (sh : Nat) => sh < 64 ∧ s.bndShelf sh = 2 ∧ s.dueO (s.bnd.shelfTo.find sh) = true)
    ((State.reset.put F.BND_SHELF_STATUS_STATE (ent 5) 2).setTim (fun t => { t with bnd := 9 })|>.setBnd fun b =>
    { b with shelfTo := b.shelfTo.set 5 3 }) (5) := by decide +kernel
theorem test_wit_ShelfCommands_6 : (fun (s : State) (sh : Nat) (s1 : State) => sh < 64 ∧ s.bndShelf sh = 5 ∧ (∀ n ∈ s.shelfPorts sh, s.hp n = 4) ∧
    s1 = ((s.shelfTimer sh false).setBndShelf sh 0).bump F.BND_SHELF_STATUS_WAKES (ent sh) 1 ∧ s.restarting = false) (State.reset.put
    F.BND_SHELF_STATUS_STATE (ent 5) 5) (5) ((((State.reset.put F.BND_SHELF_STATUS_STATE (ent 5) 5).shelfTimer 5 false).setBndShelf 5 0).bump
    F.BND_SHELF_STATUS_WAKES (ent 5) 1) := ⟨by decide +kernel, by decide +kernel, by decide +kernel, rfl, by decide +kernel⟩
theorem test_wit_ShelfCommands_7 : (fun (s : State) (sh : Nat) (r : State × List Msg) => sh < 64 ∧ s.bndShelf sh = 5 ∧ s.dueO (s.bnd.shelfTo.find
    sh) = true ∧ r = ((((s.shelfTimer sh false).shelfErr sh 3).setBndShelf sh 3).occ 384 sh).shelfWakeFailed sh) ((State.reset.put
    F.BND_SHELF_STATUS_STATE (ent 5) 5).setTim (fun t => { t with bnd := 9 })|>.setBnd fun b => { b with shelfTo := b.shelfTo.set 5 3 }) (5)
    (State.shelfWakeFailed (((((State.reset.put F.BND_SHELF_STATUS_STATE (ent 5) 5).setTim (fun t => { t with bnd := 9 })|>.setBnd fun b =>
    { b with shelfTo := b.shelfTo.set 5 3 }) |>.shelfTimer 5 false).shelfErr 5 3).setBndShelf 5 3 |>.occ 384 5) 5) :=
    ⟨by decide +kernel, by decide +kernel, by decide +kernel, rfl⟩

-- witnesses: cobfab

def desc0 : Desc := ⟨0, 7, 0, 1, false, false, 0, 0, 64, 0, 0, 0, 5, .ready, 0, 0, 0, false, none, none, 0, 0⟩
def sQp : State := (((State.reset.put F.COB_QP_STATE_STATE (ent 7) 1).put F.BND_SL_STATUS_STATE (ent 7) 1).putAct F.COB_QP_CFG_VALID (ent 7) 1)
def sQf : State := sQp.setCob fun c => { c with tails := c.tails.set 7 1 }
def sQd : State := (((sQp.setCob fun c => { c with descs := [{ desc0 with st := .ended, op := 0 }] }).putAct F.COB_QP_CFG_RING_DPA (ent 7) 1).put F.COB_QP_CFG_PRIV (ent 7) 1)
def sOwn09 : State := (((((((((State.reset.put F.BND_VSW_VALID (0) 1).put F.BND_VSW_UPORT (0) 9).put F.BND_VSW_COUNT (0) 1).put F.EP_PORT_CFG_MODE (dPort 9) 4).putAct F.INS_OBJ_CFG_VALID (ent 2) 1).put F.BND_SL_STATUS_STATE (ent 0) 1).put F.BND_FM_OWNED (0) 1).put F.BND_FM_OWNER_EID (0) 20).put F.BND_FM_OWNER_SW (0) 3)
def sDcd : State := (sOwn09.put F.INS_OBJ_CFG_COUNT (ent 2) 8).put F.INS_OBJ_CFG_VALID (ent 2) 1

theorem test_wit_CobblerCommands_1 : (fun (s : State) (p : Path) (v : Word) (q : Nat) => p.isRequester = true ∧ s.Open ∧ q = s.sel p F.COB_QSEL_QP ∧
    F.COB_QP_CTL_ENABLE.of v = 1 ∧ F.COB_QP_CTL_DISABLE.of v = 0 ∧ s.on F.COB_QP_CFG_VALID (ent q) = true) ((State.reset.putAct F.COB_QP_CFG_VALID
    (ent 0) 1)) (.bar) (1) (0) := ⟨by decide +kernel, by decide +kernel, by decide +kernel, by decide +kernel, by decide +kernel, by decide +kernel⟩
theorem test_wit_CobblerCommands_2 : (fun (s : State) (p : Path) (v : Word) (q : Nat) => p.isRequester = true ∧ s.Open ∧ q = s.sel p F.COB_QSEL_QP ∧
    F.COB_QP_CTL_ENABLE.of v = 0 ∧ F.COB_QP_CTL_DISABLE.of v = 1) (State.reset) (.bar) (2) (0) :=
    ⟨by decide +kernel, by decide +kernel, by decide +kernel, by decide +kernel, by decide +kernel⟩
theorem test_wit_CobblerCommands_3 : (fun (s : State) (qp : Nat) (head : Bool) (v : Nat) => qp < 512 ∧ head = false ∧ v < s.sqSize qp ∧ s.qpState qp
    = 1 ∧ s.slState qp = 1) (sQp) (7) (false) (15) := by decide +kernel
theorem test_wit_CobblerCommands_4 : (fun (s : State) (qp : Nat) (head : Bool) (v : Nat) => qp < 512 ∧ head = true ∧ v < s.cqSize qp ∧ s.qpState qp
    = 1 ∧ s.slState qp = 1) (sQp) (7) (true) (15) := by decide +kernel
theorem test_wit_CobblerCommands_5 : (fun (s : State) (qp : Nat) (ok : Bool) (data : List Byte) (k : Nat) => qp < 512 ∧ s.fetchable qp = true ∧ ok =
    true ∧ s.ringDpa qp = false ∧ k = s.get F.COB_QP_STATE_SQ_HEAD (ent qp)) (sQf) (7) (true) ([]) (0) :=
    ⟨by decide +kernel, by decide +kernel, by decide +kernel, by decide +kernel, by decide +kernel⟩
theorem test_wit_CobblerCommands_6 : (fun (s : State) (q : Nat) (d : Desc) (before : List Desc) => ((s.cob.descs.filter fun d => d.st ==
    .running).length < s.get F.COB_CFG_MAX_OPEN 0) ∧ s.qpTurn = some q ∧ s.nextReady q = some (d, before) ∧ d.op ≠ 0) (sQp.setCob fun c =>
    { c with descs := [desc0] }) (7) (desc0) ([]) := by decide +kernel
theorem test_wit_CobblerCommands_7 : (fun (s : State) (qp : Nat) (ok : Bool) (d : Desc) (a : Nat) (s1 : State) (t : Nat) => qp < 512 ∧
    (s.cob.descs.find? (fun d => d.qp == qp && d.st == .ended && decide (d.postAt ≤ s.tim.bnd)) = some d) ∧ s.qpState qp ≠ qpError ∧ s.cqFull qp =
    false ∧ ok = true ∧ s.ringDpa qp = true ∧ a = s.cqBase qp + 16 * s.cob.cqTails.getD qp 0 ∧ s.answers a = true ∧ a + 16 ≤ insBytes ∧ d.status =
    csSuccess ∧ d.notify = false ∧ (s1 = ((s.setCob fun c => { c with descs := c.descs.filter fun e => e.no != d.no }).sanEnd d).insWrite a (leBytes
    16 (s.cqEntry d)) false) ∧ t = (s.cob.cqTails.getD qp 0 + 1) % s.cqSize qp) (sQd) (7) (true) ({ desc0 with st := .ended, op := 0 }) (0)
    (((sQd.setCob fun c => { c with descs := c.descs.filter fun e => e.no != 0 }).sanEnd { desc0 with st := .ended, op := 0 }).insWrite 0 (leBytes
    16 (sQd.cqEntry { desc0 with st := .ended, op := 0 })) false) (1) :=
    ⟨by decide +kernel, by decide +kernel, by decide +kernel, by decide +kernel, by decide +kernel, by decide +kernel, by decide +kernel, by decide +kernel, by decide +kernel, by decide +kernel, by decide +kernel, rfl, by decide +kernel⟩
theorem test_wit_CobblerCommands_8 : (fun (s : State) (qp : Nat) (d : Desc) => qp < 512 ∧ (s.cob.descs.find? (fun d => d.qp == qp && d.st ==
    .running && s.dueO d.timer) = some d)) ((sQp.setCob fun c => { c with descs := [{ desc0 with st := .running, timer := some 3 }] }).setTim fun t
    => { t with bnd := 9 }) (7) ({ desc0 with st := .running, timer := some 3 }) := by decide +kernel

theorem test_wit_FabricManagerCommands_1 : (fun (s : State) (eid sw v kind port obj slice : Nat) (t : State) (r : State × Nat) => s.ownerAccept eid
    sw = (t, true) ∧ r = t.bindCmd none v ⟨kind, port, obj, slice⟩ ∧ s.restarting = false ∧ s.las.recovery = false) (sOwn09) (20) (3) (0) (3) (0) (2)
    (0) ((sOwn09.ownerAccept 20 3).1) ((sOwn09.ownerAccept 20 3).1.bindCmd none 0 ⟨3, 0, 2, 0⟩) :=
    ⟨by decide +kernel, rfl, by decide +kernel, by decide +kernel⟩
theorem test_wit_FabricManagerCommands_2 : (fun (s : State) (eid sw v umode : Nat) (t : State) (r : State × Nat) => s.ownerAccept eid sw = (t, true)
    ∧ r = t.unbindCmd none v umode ∧ s.restarting = false ∧ s.las.recovery = false) (sOwn09) (20) (3) (0) (0) ((sOwn09.ownerAccept 20 3).1)
    ((sOwn09.ownerAccept 20 3).1.unbindCmd none 0 0) := ⟨by decide +kernel, rfl, by decide +kernel, by decide +kernel⟩
theorem test_wit_FabricManagerCommands_3 : (fun (s : State) (eid sw v err u : Nat) => s.upOf v = some u ∧ s.restarting = false ∧ s.las.recovery =
    false) (sOwn09) (20) (0) (0) (0) (9) := by decide +kernel
theorem test_wit_FabricManagerCommands_4 : (fun (s : State) (eid sw n reg : Nat) (write : Bool) (val len id : Nat) (m : Msg) => n < 64 ∧ id = 2 ^
    123 + s.mgt.seq ∧ write = false ∧ m =
    { s.mctpMsg s.ownSw 0 0 0 [] with id := id, kind := .io, op := .cfgRd, dstAg := n, body := 1 + 0, sid := 0, addr := reg, len := len, data := [] }
    ∧ s.restarting = false ∧ s.las.recovery = false) (State.reset) (20) (0) (9) (0) (false) (0) (0) (2 ^ 123)
    ({ State.reset.mctpMsg State.reset.ownSw 0 0 0 [] with id := 2 ^ 123, kind := .io, op := .cfgRd, dstAg := 9, body := 1 + 0, sid := 0, addr := 0, len := 0, data := [] })
    := by decide +kernel
theorem test_wit_FabricManagerCommands_5 : (fun (s : State) (eid sw n ld : Nat) (body : List Byte) => n < 64 ∧ s.get F.BND_PARTNER_KIND (ent n) = 3
    ∧ ld < s.get F.BND_PARTNER_LDS (ent n) ∧ s.restarting = false ∧ s.las.recovery = false) (((State.reset.put F.BND_PARTNER_KIND (ent 9) 3).put
    F.BND_PARTNER_LDS (ent 9) 4)) (0) (0) (9) (3) ([]) := by decide +kernel
theorem test_wit_FabricManagerCommands_6 : (fun (s : State) (eid sw obj ext : Nat) (add : Bool) (n : Nat) (t s1 : State) (cnt : Nat) =>
    s.ownerAccept eid sw = (t, true) ∧ add = false ∧ cnt = t.staged F.INS_OBJ_CFG_COUNT (ent obj) ∧ obj < 512 ∧ t.staged F.INS_OBJ_CFG_VALID (ent
    obj) ≠ 0 ∧ n ≤ cnt ∧ (s1 = (t.put F.INS_OBJ_CFG_COUNT (ent obj) (cnt - n)).setLas fun l =>
    { l with direct := if l.direct.contains .ins then l.direct else l.direct ++ [.ins] }) ∧ s.restarting = false ∧ s.las.recovery = false) (sDcd)
    (20) (3) (2) (0) (false) (8) ((sDcd.ownerAccept 20 3).1) (((sDcd.ownerAccept 20 3).1.put F.INS_OBJ_CFG_COUNT (ent 2) (8 - 8)).setLas fun l =>
    { l with direct := if l.direct.contains .ins then l.direct else l.direct ++ [.ins] }) (8) :=
    ⟨by decide +kernel, by decide +kernel, by decide +kernel, by decide +kernel, by decide +kernel, by decide +kernel, rfl, by decide +kernel, by decide +kernel⟩
theorem test_wit_FabricManagerCommands_7 : (fun (s : State) => s.on F.BND_FM_OWNED 0 = true ∧ s.dueO s.bnd.lease = true) ((sOwn09.setTim fun t =>
    { t with bnd := 9 }).setBnd fun b => { b with lease := some 3 }) := by decide +kernel
theorem test_wit_FabricManagerCommands_8 : (fun (s : State) (sw kind val : Nat) (s1 : State) => sw < 64 ∧ (s1 = s.setBnd fun b =>
    { b with reportsRx := if b.reportsRx.contains (kind, val) then b.reportsRx else b.reportsRx ++ [(kind, val)] })) (State.reset) (5) (0) (0)
    (State.reset.setBnd fun b => { b with reportsRx := if b.reportsRx.contains (0, 0) then b.reportsRx else b.reportsRx ++ [(0, 0)] }) :=
    ⟨by decide +kernel, rfl⟩
theorem test_wit_FabricManagerCommands_9 : (fun (s : State) (sw : Nat) (due : List Report) (s1 : State) => sw < 64 ∧ (due = s.bnd.reports.filter fun
    r => r.sw == sw && s.reached r.next) ∧ (s1 = s.setBnd fun b =>
    { b with reports := b.reports.map fun r => if r.sw == sw && s.reached r.next then { r with next := s.after 256 } else r })) (State.reset) (5)
    ([]) (State.reset) := ⟨by decide +kernel, rfl, rfl⟩
theorem test_wit_FabricManagerCommands_10 : (fun (s : State) (sw kind val : Nat) => sw < 64) (State.reset) (5) (0) (0) := by decide +kernel
theorem test_wit_FabricManagerCommands_11 : (fun (s : State) (eid sw n op : Nat) (t : State) => s.ownerAccept eid sw = (t, true) ∧ n < 64 ∧ op = 0 ∧
    s.restarting = false ∧ s.las.recovery = false) (sOwn09) (20) (3) (9) (0) ((sOwn09.ownerAccept 20 3).1) :=
    ⟨by decide +kernel, by decide +kernel, by decide +kernel, by decide +kernel, by decide +kernel⟩

-- witnesses: vamp

def msg010 : Msg := ⟨7, 0, .io, .mRd, .none, 0, 3, 0, 80, 0, 0, .green, 0, 0, 0, .bus, 4, 64, 4, none, 0, [], false, .ok, 0, false⟩
def sFn : State := (((State.reset.put F.BND_VPPB_BIND_BOUND (ent 4) 1).put F.BND_VPPB_BIND_TARGET (ent 4) (4 + 2 * 512)).putAct F.VAMP_FN_CFG_PORT (ent 2) 9)
def sWin : State := ((((((State.reset.putAct F.VAMP_FN_CFG_PORT (ent 2) 9).putAct F.VAMP_WIN_CFG_VALID (ent 5) 1).putAct F.VAMP_WIN_CFG_DIR (ent 5) 1).putAct F.VAMP_WIN_CFG_FN (ent 5) 2).putAct F.VAMP_WIN_CFG_WR (ent 5) 1).putAct F.VAMP_WIN_TGT_TKIND (ent 5) 1)
def sBar : State := (((sFn.putAct F.VAMP_WIN_CFG_VALID (ent 5) 1).putAct F.VAMP_WIN_CFG_FN (ent 5) 2).putAct F.VAMP_WIN_CFG_BAR (ent 5) 2)
def sRt : State := (((State.reset.putAct F.VAMP_FN_CFG_VALID (ent 2) 1).putAct F.VAMP_FN_CFG_PORT (ent 2) 9).putAct F.VAMP_FN_CFG_RTID (ent 2) 77)
def msgIn : Msg := { msg010 with op := .mWr, sid := 1033, data := [1, 2, 3, 4] }
def msgM : Msg := { msg010 with op := .msg, sid := 1033 }
def msgC : Msg := { msg010 with op := .cplD, id := vampId 3 }
def msgU : Msg := { msg010 with op := .unlock }
def track0 : VTrack := ⟨true, msg010, 9, 5, 3, 64, 0, false, 3, false⟩
def lock0 : VLock := ⟨9, reqFpid msgU, 0, 3, false⟩
def sLk : State := (sFn.setVmp fun v => { v with locks := [lock0] })
def sTr : State := ((State.reset.setSole fun o => { o with crossing := [(80, msgC)] }).setVmp fun v => { v with tracks := [track0] })
def sQ : State := (State.reset.setVmp fun v => { v with inq := [⟨9, 3, msg010, 0⟩] })
def viol0 : Viol := ⟨0, 0, 0, 0, 0, 0, 0, none, 0, 0, 0, none, 0, 0, none, 0⟩
def sVi : State := (State.reset.setSec fun x => { x with violQ := [viol0] })

theorem test_wit_VampRequests_1 : (fun (s : State) (id : Nat) (m : Msg) (s1 : State) (f : Nat) => s.crossed? 80 id = some m ∧ isReq m = true ∧
    fromHost m = true ∧ outPlain m.op = true ∧ s1 = s.uncross 80 id ∧ s1.fnOf m.sid = some f ∧ s1.lockBroken (s1.fnPort f) m = false ∧ s1.lockedOut
    (s1.fnPort f) m = false) ((sFn.setSole fun o => { o with crossing := [(80, msg010)] })) (7) (msg010) ((sFn.setSole fun o =>
    { o with crossing := [(80, msg010)] }).uncross 80 7) (2) :=
    ⟨by decide +kernel, by decide +kernel, by decide +kernel, by decide +kernel, rfl, by decide +kernel, by decide +kernel, by decide +kernel⟩
theorem test_wit_VampRequests_2 : (fun (s : State) (id : Nat) (m : Msg) (s1 : State) (w : Nat) => s.crossed? 80 id = some m ∧ isReq m = true ∧
    fromHost m = false ∧ m.op = .mWr ∧ s.inRoom m = true ∧ s1 = s.uncross 80 id ∧ s1.inMatch (m.sid - 1024) m = some w ∧ s1.winFenced w = false)
    ((sWin.setSole fun o => { o with crossing := [(80, msgIn)] })) (7) (msgIn) ((sWin.setSole fun o => { o with crossing := [(80, msgIn)] }).uncross
    80 7) (5) :=
    ⟨by decide +kernel, by decide +kernel, by decide +kernel, by decide +kernel, by decide +kernel, rfl, by decide +kernel, by decide +kernel⟩
theorem test_wit_VampRequests_3 : (fun (s : State) (id : Nat) (m : Msg) (s1 : State) (t : VTrack) => s.crossed? 80 id = some m ∧ isResp m.op = true
    ∧ s1 = s.uncross 80 id ∧ (s1.vmp.tracks.find? (fun t => vampId t.tag == m.id) = some t) ∧ s1.due t.timer = false ∧ t.detached = false ∧ m.status
    = .ok ∧ t.extra = 0) (sTr) (vampId 3) (msgC) (sTr.uncross 80 (vampId 3)) (track0) :=
    ⟨by decide +kernel, by decide +kernel, rfl, by decide +kernel, by decide +kernel, by decide +kernel, by decide +kernel, by decide +kernel⟩
theorem test_wit_VampRequests_4 : (fun (s : State) (id : Nat) (m : Msg) (s1 : State) (f : Nat) => s.crossed? 80 id = some m ∧ m.op = .mRdLk ∧
    fromHost m = true ∧ s1 = s.uncross 80 id ∧ s1.fnOf m.sid = some f ∧ s1.lockBroken (s1.fnPort f) m = false ∧ s1.lockedOut (s1.fnPort f) m =
    false) ((sFn.setSole fun o => { o with crossing := [(80, { msg010 with op := .mRdLk })] })) (7) ({ msg010 with op := .mRdLk }) ((sFn.setSole fun o
    => { o with crossing := [(80, { msg010 with op := .mRdLk })] }).uncross 80 7) (2) :=
    ⟨by decide +kernel, by decide +kernel, by decide +kernel, rfl, by decide +kernel, by decide +kernel, by decide +kernel⟩
theorem test_wit_VampRequests_5 : (fun (s : State) (id : Nat) (m : Msg) (s1 : State) (f : Nat) (k : VLock) => s.crossed? 80 id = some m ∧ m.op =
    .unlock ∧ fromHost m = true ∧ s1 = s.uncross 80 id ∧ s1.fnOf m.sid = some f ∧ s1.lockBroken (s1.fnPort f) m = false ∧ s1.lock? (s1.fnPort f) =
    some k ∧ s1.lockedOut (s1.fnPort f) m = false) ((sLk.setSole fun o => { o with crossing := [(80, msgU)] })) (7) (msgU) ((sLk.setSole fun o =>
    { o with crossing := [(80, msgU)] }).uncross 80 7) (2) (lock0) :=
    ⟨by decide +kernel, by decide +kernel, by decide +kernel, rfl, by decide +kernel, by decide +kernel, by decide +kernel, by decide +kernel⟩
theorem test_wit_VampRequests_6 : (fun (s : State) (n : Nat) (k : VLock) => n < 64 ∧ s.lock? n = some k ∧ s.due k.timer = true) ((sLk.setTim fun t
    => { t with bnd := 99 })) (9) (lock0) := by decide +kernel
theorem test_wit_VampRequests_7 : (fun (s : State) (id rtid pin : Nat) (on : Bool) (m : Msg) (s1 : State) (f : Nat) => s.crossed? 80 id = some m ∧
    m.op = .msg ∧ fromHost m = false ∧ s.inRoom m = true ∧ s1 = s.uncross 80 id ∧ s1.fnsAt (m.sid - 1024) rtid = [f]) ((sRt.setSole fun o =>
    { o with crossing := [(80, msgM)] })) (7) (77) (0) (true) (msgM) ((sRt.setSole fun o => { o with crossing := [(80, msgM)] }).uncross 80 7) (2)
    := ⟨by decide +kernel, by decide +kernel, by decide +kernel, by decide +kernel, rfl, by decide +kernel⟩
theorem test_wit_VampRequests_8 : (fun (s : State) (id rtid sev : Nat) (m : Msg) (s1 : State) (f : Nat) => s.crossed? 80 id = some m ∧ m.op = .msg ∧
    fromHost m = false ∧ s.inRoom m = true ∧ s1 = s.uncross 80 id ∧ s1.fnsAt (m.sid - 1024) rtid = [f]) ((sRt.setSole fun o =>
    { o with crossing := [(80, msgM)] })) (7) (77) (0) (msgM) ((sRt.setSole fun o => { o with crossing := [(80, msgM)] }).uncross 80 7) (2) :=
    ⟨by decide +kernel, by decide +kernel, by decide +kernel, by decide +kernel, rfl, by decide +kernel⟩
theorem test_wit_VampRequests_9 : (fun (s : State) (id rtid : Nat) (m : Msg) (s1 : State) (f : Nat) => s.crossed? 80 id = some m ∧ m.op = .msg ∧
    fromHost m = false ∧ s.inRoom m = true ∧ s1 = s.uncross 80 id ∧ s1.fnsAt (m.sid - 1024) rtid = [f]) ((sRt.setSole fun o =>
    { o with crossing := [(80, msgM)] })) (7) (77) (msgM) ((sRt.setSole fun o => { o with crossing := [(80, msgM)] }).uncross 80 7) (2) :=
    ⟨by decide +kernel, by decide +kernel, by decide +kernel, by decide +kernel, rfl, by decide +kernel⟩
theorem test_wit_VampRequests_10 : (fun (s : State) (id : Nat) (m : Msg) (s1 : State) => s.crossed? 80 id = some m ∧ m.op = .msg ∧ fromHost m =
    false ∧ s.inRoom m = true ∧ s1 = s.uncross 80 id) ((sRt.setSole fun o => { o with crossing := [(80, msgM)] })) (7) (msgM) ((sRt.setSole fun o =>
    { o with crossing := [(80, msgM)] }).uncross 80 7) := ⟨by decide +kernel, by decide +kernel, by decide +kernel, by decide +kernel, rfl⟩

theorem test_wit_VampEnds_1 : (fun (s : State) (n : Nat) (q : VMsg) (t : State) => n < 64 ∧ s.inUnaccepted n = false ∧ s.inTake n = some (q, t))
    (sQ) (9) (⟨9, 3, msg010, 0⟩) (sQ.setVmp fun v => { v with inq := v.inq.eraseP fun x => x.port == 9 }) :=
    ⟨by decide +kernel, by decide +kernel, rfl⟩
theorem test_wit_VampEnds_4 : (fun (s : State) (no : Nat) (t : VTrack) (s1 : State) => (s.vmp.tracks.find? (fun t => t.tag == no && s.due t.timer) =
    some t) ∧ t.detached = false ∧ s1 = s.trackAnswer t .ca [] false) ((sTr.setTim fun t => { t with bnd := 99 })) (3) (track0) ((sTr.setTim fun t
    => { t with bnd := 99 }).trackAnswer track0 .ca [] false) := ⟨by decide +kernel, by decide +kernel, rfl⟩
theorem test_wit_VampEnds_5 : (fun (s : State) (id what k : Nat) (m : Msg) (s1 : State) (f w bar : Nat) (high : Bool) => s.crossed? 80 id = some m ∧
    m.op = .cfgWr ∧ fromHost m = true ∧ s1 = s.uncross 80 id ∧ s1.fnOf m.sid = some f ∧ what = cfBar ∧ s1.barWin f k = some (w, high) ∧ bar = s1.get
    F.VAMP_WIN_CFG_BAR (ent w)) ((sBar.setSole fun o => { o with crossing := [(80, { msg010 with op := .cfgWr })] })) (7) (cfBar) (2)
    ({ msg010 with op := .cfgWr }) ((sBar.setSole fun o => { o with crossing := [(80, { msg010 with op := .cfgWr })] }).uncross 80 7) (2) (5) (2)
    (false) :=
    ⟨by decide +kernel, by decide +kernel, by decide +kernel, rfl, by decide +kernel, by decide +kernel, by decide +kernel, by decide +kernel⟩
theorem test_wit_VampEnds_6 : (fun (s : State) (id what k : Nat) (m : Msg) (s1 : State) (f w : Nat) => s.crossed? 80 id = some m ∧ m.op = .cfgRd ∧
    fromHost m = true ∧ s1 = s.uncross 80 id ∧ s1.fnOf m.sid = some f ∧ what = cfBar ∧ s1.barWin f k = some (w, true)) ((sBar.setSole fun o =>
    { o with crossing := [(80, { msg010 with op := .cfgRd })] })) (7) (cfBar) (3) ({ msg010 with op := .cfgRd }) ((sBar.setSole fun o =>
    { o with crossing := [(80, { msg010 with op := .cfgRd })] }).uncross 80 7) (2) (5) :=
    ⟨by decide +kernel, by decide +kernel, by decide +kernel, rfl, by decide +kernel, by decide +kernel, by decide +kernel⟩
theorem test_wit_VampEnds_7 : (fun (s : State) (v : Viol) (rest : List Viol) (s1 s2 : State) => s.sec.violQ = v :: rest ∧ (s1 = (((s.setSec fun x =>
    { x with violQ := rest }).put F.EYE_VIOL_STATUS_QUEUED 0 rest.length).sysWrite (0x3C000000 + 64 * (v.seq % 1048576)) (leBytes 64 v.word))) ∧ s2
    = (s1.put F.EYE_VIOL_LAST_LO_ADDR 0 v.addr).put F.EYE_VIOL_LAST_HI_ADDR 0 (v.addr / 2 ^ 32)) (sVi) (viol0) ([]) ((((sVi.setSec fun x =>
    { x with violQ := [] }).put F.EYE_VIOL_STATUS_QUEUED 0 0).sysWrite (0x3C000000 + 64 * (viol0.seq % 1048576)) (leBytes 64 viol0.word)))
    (((((sVi.setSec fun x => { x with violQ := [] }).put F.EYE_VIOL_STATUS_QUEUED 0 0).sysWrite (0x3C000000 + 64 * (viol0.seq % 1048576)) (leBytes
    64 viol0.word)).put F.EYE_VIOL_LAST_LO_ADDR 0 viol0.addr).put F.EYE_VIOL_LAST_HI_ADDR 0 (viol0.addr / 2 ^ 32)) := ⟨by decide +kernel, rfl, rfl⟩

-- witnesses: security

def sKey : State := ((((State.reset.put F.SEC_KEY_INFO_STATE (ent 5) 1).put F.SEC_KEY_INFO_USAGE (ent 5) 31).put F.SEC_KEY_INFO_STATE (ent 6) 1).put F.SEC_KEY_INFO_USAGE (ent 6) 31)
def sOwned : State := ((sKey.put F.SEC_STATUS_LIFECYCLE 0 1).setSec fun x => { x with owners := [5] })

theorem test_wit_SecurityCommands_1 : (fun (s : State) (nonce : Nat) (signer : Option Nat) (snOk : Bool) (ids : List Nat) (s1 : State) (e : Nat) =>
    s1 = s.put F.SEC_CMD_OP 0 1 ∧ s1.sec.running = none ∧ s1.sec.waiting = [] ∧ s1.verifying = false ∧ nonce = s1.nonce ∧ s1.signedBy (secRecord
    opClaim nonce signer 0 0 snOk ids) = true ∧ s1.lifecycle = 0 ∧ snOk = true ∧ ids.length = 12 ∧ s1.keyFree = some e) (sKey) (0) (some 5) (true)
    ([1,2,3,4,5,6,7,8,9,10,11,12]) (sKey.put F.SEC_CMD_OP 0 1) (3) :=
    ⟨rfl, by decide +kernel, by decide +kernel, by decide +kernel, by decide +kernel, by decide +kernel, by decide +kernel, by decide +kernel, by decide +kernel, by decide +kernel⟩
theorem test_wit_SecurityCommands_2 : (fun (s : State) (nonce : Nat) (signer : Option Nat) (usage : Nat) (ids : List Nat) (s1 : State) (e : Nat) =>
    s1 = s.put F.SEC_CMD_OP 0 2 ∧ s1.sec.running = none ∧ s1.sec.waiting = [] ∧ s1.verifying = false ∧ nonce = s1.nonce ∧ s1.signedBy (secRecord
    opInstall nonce signer usage 0 true ids) = true ∧ s1.lifecycle = 1 ∧ ids.length = 12 ∧ s1.keyFree = some e ∧ usage < 16) (sOwned) (0) (some 5)
    (3) ([1,2,3,4,5,6,7,8,9,10,11,12]) (sOwned.put F.SEC_CMD_OP 0 2) (3) :=
    ⟨rfl, by decide +kernel, by decide +kernel, by decide +kernel, by decide +kernel, by decide +kernel, by decide +kernel, by decide +kernel, by decide +kernel, by decide +kernel⟩
theorem test_wit_SecurityCommands_3 : (fun (s : State) (nonce : Nat) (signer : Option Nat) (entry : Nat) (s1 : State) => s1 = s.put F.SEC_CMD_OP 0 3
    ∧ s1.sec.running = none ∧ s1.sec.waiting = [] ∧ s1.verifying = false ∧ nonce = s1.nonce ∧ s1.signedBy (secRecord opRevoke nonce signer entry 0
    true []) = true ∧ entry < 32 ∧ s1.keyState entry = 1 ∧ s1.keyLeft entry 2 = true ∧ s1.keyLeft entry 0 = true ∧ s1.keyLeft entry 1 = true) (sKey)
    (0) (some 5) (6) (sKey.put F.SEC_CMD_OP 0 3) :=
    ⟨rfl, by decide +kernel, by decide +kernel, by decide +kernel, by decide +kernel, by decide +kernel, by decide +kernel, by decide +kernel, by decide +kernel, by decide +kernel, by decide +kernel⟩
theorem test_wit_SecurityCommands_4 : (fun (s : State) (nonce : Nat) (signer : Option Nat) (fw : Bool) (v : Nat) (s1 : State) => s1 = s.put
    F.SEC_CMD_OP 0 4 ∧ s1.sec.running = none ∧ s1.sec.waiting = [] ∧ s1.verifying = false ∧ nonce = s1.nonce ∧ s1.signedBy (secRecord opSvn nonce
    signer (bit fw) v true []) = true ∧ fw = true ∧ s1.get F.SEC_FW_SVN_MIN_SVN 0 ≤ v ∧ v ≤ s1.get F.SEC_FW_SVN_SVN 0) (sKey) (0) (some 5) (true)
    (0) (sKey.put F.SEC_CMD_OP 0 4) :=
    ⟨rfl, by decide +kernel, by decide +kernel, by decide +kernel, by decide +kernel, by decide +kernel, by decide +kernel, by decide +kernel, by decide +kernel⟩
theorem test_wit_SecurityCommands_5 : (fun (s : State) (nonce : Nat) (signer : Option Nat) (fw : Bool) (v : Nat) (s1 : State) => s1 = s.put
    F.SEC_CMD_OP 0 4 ∧ s1.sec.running = none ∧ s1.sec.waiting = [] ∧ s1.verifying = false ∧ nonce = s1.nonce ∧ s1.signedBy (secRecord opSvn nonce
    signer (bit fw) v true []) = true ∧ fw = false ∧ s1.get F.LAST_SVN_MIN_MIN 0 ≤ v ∧ v ≤ s1.get F.LAST_SVN_SVN 0) (sKey) (0) (some 5) (false) (0)
    (sKey.put F.SEC_CMD_OP 0 4) :=
    ⟨rfl, by decide +kernel, by decide +kernel, by decide +kernel, by decide +kernel, by decide +kernel, by decide +kernel, by decide +kernel, by decide +kernel⟩
theorem test_wit_SecurityCommands_6 : (fun (s : State) (nonce : Nat) (signer : Option Nat) (snOk : Bool) (s1 : State) => s1 = s.put F.SEC_CMD_OP 0 5
    ∧ s1.sec.running = none ∧ s1.sec.waiting = [] ∧ s1.verifying = false ∧ nonce = s1.nonce ∧ s1.signedBy (secRecord opUnlock nonce signer 0 0 snOk
    []) = true ∧ s1.lifecycle ≠ 2 ∧ snOk = true) (sKey) (0) (some 5) (true) (sKey.put F.SEC_CMD_OP 0 5) :=
    ⟨rfl, by decide +kernel, by decide +kernel, by decide +kernel, by decide +kernel, by decide +kernel, by decide +kernel, by decide +kernel⟩
theorem test_wit_SecurityCommands_7 : (fun (s : State) (nonce : Nat) (s1 : State) => s1 = s.put F.SEC_CMD_OP 0 6 ∧ s1.sec.running = none ∧
    s1.sec.waiting = [] ∧ s1.verifying = false ∧ nonce = s1.nonce ∧ s1.lifecycle ≠ 2) (sKey) (0) (sKey.put F.SEC_CMD_OP 0 6) :=
    ⟨rfl, by decide +kernel, by decide +kernel, by decide +kernel, by decide +kernel, by decide +kernel⟩
theorem test_wit_SecurityCommands_8 : (fun (s : State) (nonce : Nat) (signer : Option Nat) (s1 : State) => s1 = s.put F.SEC_CMD_OP 0 7 ∧
    s1.sec.running = none ∧ s1.sec.waiting = [] ∧ s1.verifying = false ∧ nonce = s1.nonce ∧ s1.signedBy (secRecord opRelease nonce signer 0 0 true
    []) = true ∧ s1.lifecycle = 1) (sOwned) (0) (some 5) (sOwned.put F.SEC_CMD_OP 0 7) :=
    ⟨rfl, by decide +kernel, by decide +kernel, by decide +kernel, by decide +kernel, by decide +kernel, by decide +kernel⟩
theorem test_wit_SecurityCommands_9 : (fun (s : State) (nonce img : Nat) (ok : Bool) (data : List Nat) (s1 : State) => s1 = s.put F.SEC_CMD_OP 0 9 ∧
    s1.sec.running = none ∧ s1.sec.waiting = [] ∧ s1.verifying = false ∧ nonce = s1.nonce ∧ ok = true ∧ s1.secError = false ∧ img % 2 ≠ s1.get
    F.LAST_BOOT_IMAGE 0) (sKey) (0) (1) (true) ([]) (sKey.put F.SEC_CMD_OP 0 9) :=
    ⟨rfl, by decide +kernel, by decide +kernel, by decide +kernel, by decide +kernel, by decide +kernel, by decide +kernel, by decide +kernel⟩
theorem test_wit_SecurityCommands_10 : (fun (s : State) (nonce : Nat) (ok : Bool) (s1 : State) => s1 = s.put F.SEC_CMD_OP 0 10 ∧ s1.sec.running =
    none ∧ s1.sec.waiting = [] ∧ s1.verifying = false ∧ nonce = s1.nonce ∧ ok = true) (sKey) (0) (true) (sKey.put F.SEC_CMD_OP 0 10) :=
    ⟨rfl, by decide +kernel, by decide +kernel, by decide +kernel, by decide +kernel, by decide +kernel⟩
theorem test_wit_SecurityCommands_11 : (fun (s : State) (nonce : Nat) (signer : Option Nat) (s1 : State) => s1 = s.put F.SEC_CMD_OP 0 8 ∧
    s1.sec.running = none ∧ s1.sec.waiting = [] ∧ s1.verifying = false ∧ nonce = s1.nonce ∧ s1.signedBy (secRecord opReturn nonce signer 0 0 true
    []) = true ∧ s1.lifecycle ≠ 2) (sKey) (0) (some 5) (sKey.put F.SEC_CMD_OP 0 8) :=
    ⟨rfl, by decide +kernel, by decide +kernel, by decide +kernel, by decide +kernel, by decide +kernel, by decide +kernel⟩
theorem test_wit_SecurityCommands_12 : (fun (s : State) (b : Nat) (s1 s2 : State) => s.sec.returning = some b ∧ s.reached (b + 4100) = true ∧ (s1 =
    ((s.clearMem 0x40000000 0x1000000).setSec fun x => { x with returning := none, dbgEver := true, dbgPend := none })) ∧ s2 = (s1.put
    F.SEC_STATUS_DEBUG 0 1).setLifecycle 2 ∧ s.on F.SEC_STATUS_DEBUG 0 = true ∧ s2.sec.running = some 8) (((State.reset.setTim fun t =>
    { t with bnd := 5000 }).put F.SEC_STATUS_DEBUG 0 1).setSec fun x => { x with returning := some 3, running := some 8 }) (3)
    (((((State.reset.setTim fun t => { t with bnd := 5000 }).put F.SEC_STATUS_DEBUG 0 1).setSec fun x =>
    { x with returning := some 3, running := some 8 }).clearMem 0x40000000 0x1000000).setSec fun x =>
    { x with returning := none, dbgEver := true, dbgPend := none }) ((((((((State.reset.setTim fun t => { t with bnd := 5000 }).put
    F.SEC_STATUS_DEBUG 0 1).setSec fun x => { x with returning := some 3, running := some 8 }).clearMem 0x40000000 0x1000000).setSec fun x =>
    { x with returning := none, dbgEver := true, dbgPend := none }).put F.SEC_STATUS_DEBUG 0 1)).setLifecycle 2) :=
    ⟨by decide +kernel, by decide +kernel, rfl, rfl, by decide +kernel, by decide +kernel⟩

theorem test_wit_Attestation_1 : (fun (s : State) (who : Nat) => s.secError = false ∧ 0 ≤ s.sec.conns.getD who 0 ∧ s.restarting = false ∧
    s.las.recovery = false) (State.reset) (3) := by decide +kernel
theorem test_wit_Attestation_2 : (fun (s : State) (who : Nat) => s.secError = false ∧ 1 ≤ s.sec.conns.getD who 0 ∧ s.restarting = false ∧
    s.las.recovery = false) ((State.reset.setSec fun x => { x with conns := x.conns.set 3 1 })) (3) := by decide +kernel
theorem test_wit_Attestation_3 : (fun (s : State) (who : Nat) => s.secError = false ∧ 2 ≤ s.sec.conns.getD who 0 ∧ s.restarting = false ∧
    s.las.recovery = false) ((State.reset.setSec fun x => { x with conns := x.conns.set 3 2 })) (3) := by decide +kernel
theorem test_wit_Attestation_4 : (fun (s : State) (who slot : Nat) => s.secError = false ∧ 3 ≤ s.sec.conns.getD who 0 ∧ s.slotOk slot = true ∧
    s.restarting = false ∧ s.las.recovery = false) ((State.reset.setSec fun x => { x with conns := x.conns.set 3 3 })) (3) (0) := by decide +kernel
theorem test_wit_Attestation_5 : (fun (s : State) (who slot : Nat) => s.secError = false ∧ 3 ≤ s.sec.conns.getD who 0 ∧ s.slotOk slot = true ∧
    s.restarting = false ∧ s.las.recovery = false) ((State.reset.setSec fun x => { x with conns := x.conns.set 3 3 })) (3) (0) := by decide +kernel
theorem test_wit_Attestation_6 : (fun (s : State) (who idx : Nat) => s.secError = false ∧ 3 ≤ s.sec.conns.getD who 0 ∧ s.lifecycle ≠ 2 ∧ 1 ≤ idx ∧
    idx ≤ 11 ∧ idx ≠ 10 ∧ s.restarting = false ∧ s.las.recovery = false) ((State.reset.setSec fun x => { x with conns := x.conns.set 3 3 })) (3) (4)
    := by decide +kernel
theorem test_wit_Attestation_7 : (fun (s : State) (who slot id : Nat) => s.secError = false ∧ 3 ≤ s.sec.conns.getD who 0 ∧ s.sec.sessions.length <
    16 ∧ s.slotOk slot = true ∧ ((s.sec.sessions.any fun e => e.1 == id) = false) ∧ s.restarting = false ∧ s.las.recovery = false)
    ((State.reset.setSec fun x => { x with conns := x.conns.set 3 3 })) (3) (0) (9) := by decide +kernel
theorem test_wit_Attestation_8 : (fun (s : State) (who id : Nat) => s.secError = false ∧ 3 ≤ s.sec.conns.getD who 0 ∧ ((s.sec.sessions.any fun e =>
    e.1 == id && !e.2) = true) ∧ s.restarting = false ∧ s.las.recovery = false) ((State.reset.setSec fun x =>
    { x with conns := x.conns.set 3 3, sessions := [(9, false)] })) (3) (9) := by decide +kernel
theorem test_wit_Attestation_9 : (fun (s : State) (who d : Nat) (s1 : State) => s.sec.digBusy = true ∧ s.sec.digWait = [(who, false)] ∧ d = digestOf
    10 s.ruleSet ∧ (s1 = s.setSec fun x => { x with digBusy := false, digest := some d, digWait := [] }) ∧ s1.lifecycle ≠ 2) (State.reset.setSec fun
    x => { x with digBusy := true, digWait := [(3, false)] }) (3) ((digestOf 10 (State.reset.setSec fun x =>
    { x with digBusy := true, digWait := [(3, false)] }).ruleSet)) ((State.reset.setSec fun x =>
    { x with digBusy := true, digWait := [(3, false)] }).setSec fun x =>
    { x with digBusy := false, digest := some (digestOf 10 (State.reset.setSec fun x => { x with digBusy := true, digWait := [(3, false)] }).ruleSet), digWait := [] })
    := ⟨by decide +kernel, by decide +kernel, rfl, rfl, by decide +kernel⟩

-- witnesses: manage

def sEye : State := ((((((State.reset.putAct F.EYE_SLOT_COUNT (328) 1).putAct F.EYE_SLOT_COUNT (336) 1).putAct F.EYE_WIN_ATTR_SPACE (ent 0) 4).putAct F.EYE_WIN_ATTR_RD (ent 0) 1).putAct F.EYE_WIN_ATTR_WR (ent 0) 1).putAct F.EYE_WIN_LIM_LO_LIMIT (ent 0) 0x3FFFF)
def sOwn12 : State := (((sEye.put F.BND_FM_OWNED (0) 1).put F.BND_FM_OWNER_EID (0) 8).put F.BND_FM_OWNER_SW (0) 2)
def sVdm : State := ((State.reset.putAct F.CLK_MCTP_CFG_VDM_EN (0) 1).put F.CLK_MCTP_STATUS_VDM_EID (0) 20)
def sDbg : State := (sEye.put F.SEC_STATUS_DEBUG 0 1).putAct F.DBG_CFG_I3C_EN 0 1
def sSes : State := sDbg.setDbg (some (8, 500))

theorem test_wit_ManagementControl_1 : (fun (s : State) (path src dst tag ty : Nat) (som eom : Bool) (body : List Byte) (w : Nat) => s.bindingOn
    path = true ∧ dst ≠ 0 ∧ dst ≠ s.ownEid path ∧ s.poolSw dst = some w) ((sVdm.put F.CLK_MCTP_STATUS_POOL_VALID 0 1).put
    F.CLK_MCTP_STATUS_POOL_BASE 0 64) (0) (0) (70) (0) (0) (true) (true) ([]) (6) := by decide +kernel
theorem test_wit_ManagementControl_2 : (fun (s : State) (path src dst tag ty : Nat) (som eom : Bool) (body : List Byte) (s1 : State) => s.bindingOn
    path = true ∧ s.restarting = false ∧ (dst = 0 ∨ dst = s.ownEid path) ∧ som = true ∧ eom = true ∧ ty ∈ [0, 5, 6, 7, 0x7E] ∧ body.length ≤ 8192 ∧
    (s1 = s.setMgt fun g => { g with reasm := g.reasm.filter fun r => !(r.src == src && r.tag == tag) }) ∧ ((s1.mgt.open_.filter fun e => e.1 ==
    src).length < 8)) (sVdm) (0) (0) (20) (0) (5) (true) (true) ([]) (sVdm.setMgt fun g =>
    { g with reasm := g.reasm.filter fun r => !(r.src == 0 && r.tag == 0) }) :=
    ⟨by decide +kernel, by decide +kernel, by decide +kernel, by decide +kernel, by decide +kernel, by decide +kernel, by decide +kernel, rfl, by decide +kernel⟩
theorem test_wit_ManagementControl_3 : (fun (s : State) (path eid tag new : Nat) => s.mctpTurn eid tag = true ∧ s.bindingOn path = true ∧ new % 256
    ≠ 0 ∧ new % 256 ≠ 255 ∧ path = 1 ∧ s.restarting = false) (State.reset.putAct F.CLK_MCTP_CFG_I3C_EN 0 1) (1) (8) (1) (20) := by decide +kernel
theorem test_wit_ManagementControl_4 : (fun (s : State) (path eid tag new : Nat) => s.mctpTurn eid tag = true ∧ s.bindingOn path = true ∧ new % 256
    ≠ 0 ∧ new % 256 ≠ 255 ∧ path = 0 ∧ s.mgt.vdmSet = true ∧ s.restarting = false) (sVdm.setMgt fun g => { g with vdmSet := true }) (0) (8) (1) (20)
    := by decide +kernel
theorem test_wit_ManagementControl_5 : (fun (s : State) (path eid tag : Nat) => s.mctpTurn eid tag = true ∧ s.restarting = false) (sVdm) (0) (8) (1)
    := by decide +kernel
theorem test_wit_ManagementControl_6 : (fun (s : State) (path eid tag : Nat) => s.mctpTurn eid tag = true ∧ s.restarting = false) (sVdm) (0) (8) (1)
    := by decide +kernel
theorem test_wit_ManagementControl_7 : (fun (s : State) (path eid tag : Nat) => s.mctpTurn eid tag = true ∧ s.restarting = false) (sVdm) (0) (8) (1)
    := by decide +kernel
theorem test_wit_ManagementControl_8 : (fun (s : State) (path eid tag : Nat) => s.mctpTurn eid tag = true ∧ s.restarting = false) (sVdm) (0) (8) (1)
    := by decide +kernel
theorem test_wit_ManagementControl_9 : (fun (s : State) (path base n : Nat) => 64 ≤ n ∧ path = 0 ∧ s.mgt.poolReq = true) (State.reset.setMgt fun g
    => { g with poolReq := true }) (0) (0) (64) := by decide +kernel
theorem test_wit_ManagementControl_10 : (fun (s : State) (path base n : Nat) => 64 ≤ n ∧ path = 1 ∧ s.on F.CLK_MCTP_STATUS_POOL_VALID 0 = false)
    (State.reset) (1) (0) (64) := by decide +kernel
theorem test_wit_ManagementControl_11 : (fun (s : State) (path eid tag : Nat) => s.mctpTurn eid tag = true ∧ s.restarting = false) (sVdm) (0) (8)
    (1) := by decide +kernel

theorem test_wit_ManagementVendor_1 : (fun (s : State) (eid tag off width n : Nat) (s1 : State) => s.mctpTurn eid tag = true ∧ s.las.recovery =
    false ∧ width = 2 ∧ n = 1 ∧ s.waitsBehind (.mctp eid) off = false ∧ s.csrCheck 82 off 4 0 = (s1, 0)) (sEye) (8) (1) (R.GLB_ID) (2) (1) (sEye) :=
    ⟨by decide +kernel, by decide +kernel, rfl, rfl, by decide +kernel, by decide +kernel⟩
theorem test_wit_ManagementVendor_2 : (fun (s : State) (eid sw tag off width : Nat) (vals : List Word) (s1 s2 : State) (v : Word) => s.mctpTurn eid
    tag = true ∧ s.las.recovery = false ∧ s.on F.BND_FM_OWNED 0 = true ∧ s.get F.BND_FM_OWNER_EID 0 = eid ∧ s.get F.BND_FM_OWNER_SW 0 = sw ∧ (s1 =
    s.setBnd fun b => { b with lease := s.leaseEnd }) ∧ width = 2 ∧ vals = [v] ∧ s1.csrCheck 82 off 4 1 = (s2, 0)) (sOwn12) (8) (2) (1)
    (R.GLB_FABRIC_ID) (2) ([5]) (sOwn12.setBnd fun b => { b with lease := sOwn12.leaseEnd }) (sOwn12.setBnd fun b => { b with lease := sOwn12.leaseEnd })
    (5) := ⟨by decide +kernel, by decide +kernel, by decide +kernel, by decide +kernel, by decide +kernel, rfl, rfl, rfl, by decide +kernel⟩
theorem test_wit_ManagementVendor_3 : (fun (s : State) (eid sw tag len off : Nat) (data : List Byte) (s1 : State) => s.mctpTurn eid tag = true ∧
    s.las.recovery = false ∧ s.on F.BND_FM_OWNED 0 = true ∧ s.get F.BND_FM_OWNER_EID 0 = eid ∧ s.get F.BND_FM_OWNER_SW 0 = sw ∧ (s1 = s.setBnd fun b
    => { b with lease := s.leaseEnd }) ∧ 4 < len ∧ len ≤ 8184 ∧ off + (len - 4) ≤ 33554432 ∧ s.loadBufLocked = false ∧ s.restarting = false) (sOwn12)
    (8) (2) (1) (8) (64) ([]) (sOwn12.setBnd fun b => { b with lease := sOwn12.leaseEnd }) :=
    ⟨by decide +kernel, by decide +kernel, by decide +kernel, by decide +kernel, by decide +kernel, rfl, by decide +kernel, by decide +kernel, by decide +kernel, by decide +kernel, by decide +kernel⟩
theorem test_wit_ManagementVendor_4 : (fun (s : State) (eid sw tag op nonce : Nat) (signer : Option Nat) (a b : Nat) (ok : Bool) (ids : List Nat)
    (s1 s2 : State) => s.mctpTurn eid tag = true ∧ s.las.recovery = false ∧ s.on F.BND_FM_OWNED 0 = true ∧ s.get F.BND_FM_OWNER_EID 0 = eid ∧ s.get
    F.BND_FM_OWNER_SW 0 = sw ∧ (s1 = s.setBnd fun b => { b with lease := s.leaseEnd }) ∧ s.sec.running = none ∧ s2 = s1.secCmd (secRecord op nonce
    signer a b ok ids) ∧ s.restarting = false) (sOwn12) (8) (2) (1) (6) (0) (none) (0) (0) (true) ([]) (sOwn12.setBnd fun b =>
    { b with lease := sOwn12.leaseEnd }) ((sOwn12.setBnd fun b => { b with lease := sOwn12.leaseEnd }).secCmd (secRecord 6 0 none 0 0 true [])) :=
    ⟨by decide +kernel, by decide +kernel, by decide +kernel, by decide +kernel, by decide +kernel, rfl, by decide +kernel, rfl, by decide +kernel⟩
theorem test_wit_ManagementVendor_5 : (fun (s : State) (eid tag first n : Nat) => s.mctpTurn eid tag = true ∧ s.las.recovery = false ∧ 1 ≤ n ∧ n ≤
    32 ∧ s.goneRec first = false ∧ s.restarting = false) (State.reset) (8) (1) (0) (32) := by decide +kernel
theorem test_wit_ManagementVendor_6 : (fun (s : State) (eid tag : Nat) => s.mctpTurn eid tag = true ∧ s.las.recovery = false ∧ s.restarting = false)
    (State.reset) (8) (1) := by decide +kernel
theorem test_wit_ManagementVendor_7 : (fun (s : State) (eid tag img : Nat) => s.mctpTurn eid tag = true ∧ s.las.recovery = true) (State.reset.setLas
    fun l => { l with recovery := true }) (8) (1) (1) := by decide +kernel
theorem test_wit_ManagementVendor_8 : (fun (s : State) (path eid tag : Nat) (s1 : State) => s.mctpTurn eid tag = true ∧ s.dbgOn path = true ∧
    s.mgt.dbg = none ∧ s1 = (s.setDbg (some (eid, s.dbgIdle))).put F.DBG_STATUS_DEBUG 0 (s.get F.SEC_STATUS_DEBUG 0) ∧ s.restarting = false) (sDbg)
    (1) (8) (1) ((sDbg.setDbg (some (8, sDbg.dbgIdle))).put F.DBG_STATUS_DEBUG 0 (sDbg.get F.SEC_STATUS_DEBUG 0)) :=
    ⟨by decide +kernel, by decide +kernel, by decide +kernel, rfl, by decide +kernel⟩
theorem test_wit_ManagementVendor_9 : (fun (s : State) (path eid tag : Nat) (write : Bool) (sp ident len addr : Nat) (data : List Byte) (s1 : State)
    => s.mctpTurn eid tag = true ∧ s.dbgOn path = true ∧ s.dbgMine eid = true ∧ s.mgt.dbgRun = none ∧ s1 = s.setDbg (some (eid, s.dbgIdle)) ∧ (sp =
    1 ∨ sp = 2 ∨ sp = 3) ∧ 1 ≤ len ∧ len ≤ 4096 ∧ s1.lockedReason 84 sp addr len (bit write) = 0 ∧ (s1.winCheck 84 sp ident (s1.get F.BND_AGSL_SLICE
    48) addr len (bit write)).1 = 0 ∧ s.restarting = false) (((sSes.putAct F.EYE_WIN_ATTR_SPACE (ent 0) 3))) (1) (8) (1) (true) (3) (0) (64)
    (0x1000) ([]) (((sSes.putAct F.EYE_WIN_ATTR_SPACE (ent 0) 3)).setDbg (some (8, ((sSes.putAct F.EYE_WIN_ATTR_SPACE (ent 0) 3)).dbgIdle))) :=
    ⟨by decide +kernel, by decide +kernel, by decide +kernel, by decide +kernel, rfl, by decide +kernel, by decide +kernel, by decide +kernel, by decide +kernel, by decide +kernel, by decide +kernel⟩
theorem test_wit_ManagementVendor_10 : (fun (s : State) (path eid tag : Nat) (write : Bool) (sp ident len addr : Nat) (data : List Byte) (s1 s2 :
    State) => s.mctpTurn eid tag = true ∧ s.dbgOn path = true ∧ s.dbgMine eid = true ∧ s.mgt.dbgRun = none ∧ s1 = s.setDbg (some (eid, s.dbgIdle)) ∧
    sp = 4 ∧ len = 4 ∧ addr % 4 = 0 ∧ write = false ∧ s1.lockedReason 84 sp addr len 0 = 0 ∧ (s1.winCheck 84 4 ident (s1.get F.BND_AGSL_SLICE 48)
    addr 4 0).1 = 0 ∧ s1.waitsBehind .debug addr = false ∧ s1.csrCheck 84 addr 4 0 = (s2, 0) ∧ s.restarting = false) (sSes) (1) (8) (1) (false) (4)
    (0) (4) (R.GLB_ID) ([]) (sSes.setDbg (some (8, sSes.dbgIdle))) (sSes.setDbg (some (8, sSes.dbgIdle))) :=
    ⟨by decide +kernel, by decide +kernel, by decide +kernel, by decide +kernel, rfl, rfl, rfl, by decide +kernel, rfl, by decide +kernel, by decide +kernel, by decide +kernel, by decide +kernel, by decide +kernel⟩
theorem test_wit_ManagementVendor_11 : (fun (s : State) (path eid tag : Nat) => s.mctpTurn eid tag = true ∧ s.dbgOn path = true ∧ s.dbgMine eid =
    true ∧ s.restarting = false) (sSes) (1) (8) (1) := by decide +kernel
theorem test_wit_ManagementVendor_12 : (fun (s : State) (d : Nat × Nat) => s.mgt.dbg = some d ∧ s.due d.2 = true) (sSes.setTim fun t =>
    { t with bnd := 999 }) ((8, 500)) := by decide +kernel

-- witnesses: corefault

def sUp13 : State := ((State.reset.put F.EP_PORT_CFG_MODE (dPort 9) 1).put F.EP_LINK_STATUS_LTSSM (dPort 9) 4)
def sRun : State := (State.reset.put F.CLK_CORE_STATUS_STATE (8) 1)
def stDev : CStore := ⟨0x8000, 4, 7, true, false, true, some 0⟩
def stCsr : CStore := ⟨0x10000000, 4, 7, true, false, true, some 0⟩

theorem test_wit_CoreAccesses_1 : (fun (s : State) (c addr n : Nat) (acc : CoreAcc) => c < 4 ∧ s.coreRuns c = true ∧ s.coreWaits c = false ∧ addr <
    0x10000) (sRun) (2) (16) (4) (.amo) := by decide +kernel
theorem test_wit_CoreAccesses_2 : (fun (s : State) (c addr n : Nat) (acc : CoreAcc) => c < 4 ∧ s.coreRuns c = true ∧ s.coreWaits c = false ∧
    0x10000000 ≤ addr ∧ addr < 0x14000000 ∧ acc = .load) (sRun) (2) (0x10000000) (4) (.load) := by decide +kernel
theorem test_wit_CoreAccesses_3 : (fun (s : State) (c addr n : Nat) (acc : CoreAcc) => c < 4 ∧ s.coreRuns c = true ∧ s.coreWaits c = false ∧
    0x10000000 ≤ addr ∧ addr < 0x14000000 ∧ acc ≠ .load) (sRun) (2) (0x10000000) (4) (.amo) := by decide +kernel
theorem test_wit_CoreAccesses_4 : (fun (s : State) (c addr n : Nat) (acc : CoreAcc) => c < 4 ∧ s.coreRuns c = true ∧ s.coreWaits c = false ∧
    0x4000000000 ≤ addr) (sRun) (2) (0x4000000000) (0) (.load) := by decide +kernel
theorem test_wit_CoreAccesses_5 : (fun (s : State) (c addr n : Nat) (v : Word) => c < 4 ∧ s.coreRuns c = true ∧ s.coreWaits c = false ∧ (((s.core
    c).sb.filter fun t => !t.complete).length < 16) ∧ 0x8000000 ≤ addr ∧ addr < 0x8200000) (sRun) (2) (0x8000000) (4) (0) := by decide +kernel
theorem test_wit_CoreAccesses_6 : (fun (s : State) (c addr n : Nat) (v : Word) => c < 4 ∧ s.coreRuns c = true ∧ s.coreWaits c = false ∧ (((s.core
    c).sb.filter fun t => !t.complete).length < 16) ∧ 0x10000000 ≤ addr ∧ addr < 0x14000000) (sRun) (2) (0x10000000) (4) (0) := by decide +kernel
theorem test_wit_CoreAccesses_7 : (fun (s : State) (c : Nat) (ow ir : Bool) => c < 4 ∧ s.coreRuns c = true ∧ s.coreWaits c = false) (sRun) (2)
    (true) (true) := by decide +kernel
theorem test_wit_CoreAccesses_8 : (fun (s : State) (c : Nat) => c < 4 ∧ s.coreRuns c = true) (sRun) (2) := by decide +kernel
theorem test_wit_CoreAccesses_9 : (fun (s : State) (c err : Nat) (late : Bool) (x : CStore) => c < 4 ∧ late = false ∧ (s.core c).dropped = [] ∧
    ((s.core c).sb.find? (fun t => t.device && t.accepted) = some x) ∧ s.storeCause x err = 0) ((sRun.setMgt fun g =>
    { g with cores := g.cores.set 2 { CoreSt.reset with sb := [stCsr] } })) (2) (0) (false) (stCsr) := by decide +kernel
theorem test_wit_CoreAccesses_10 : (fun (s : State) (c err : Nat) (late : Bool) (x : CStore) (xs : List CStore) => c < 4 ∧ late = true ∧ (s.core
    c).expired = x :: xs) ((sRun.setMgt fun g => { g with cores := g.cores.set 2 { CoreSt.reset with expired := [stCsr] } })) (2) (0) (true) (stCsr)
    ([]) := by decide +kernel
theorem test_wit_CoreAccesses_11 : (fun (s : State) (c err : Nat) (v : Word) (late : Bool) (l : CLoad) (w o : Nat) => c < 4 ∧ late = false ∧ (s.core
    c).loads.find? (·.out) = some l ∧ s.coreTarget l.addr = .remote w o ∧ err = 0) ((sRun.setMgt fun g =>
    { g with cores := g.cores.set 2 { CoreSt.reset with loads := [⟨0x204000000, 4, true, none⟩] } })) (2) (0) (0) (false)
    (⟨0x204000000, 4, true, none⟩) (1) (0) := by decide +kernel
theorem test_wit_CoreAccesses_12 : (fun (s : State) (c err : Nat) (v : Word) (late : Bool) (l : CLoad) (o : Nat) (s1 : State) (r : State × Word) =>
    c < 4 ∧ late = false ∧ (s.core c).loads.find? (·.out) = some l ∧ s.coreTarget l.addr = .csr o ∧ s.waitsBehind (.core c) o = false ∧ csrCause o
    l.n false = 0 ∧ (s1 = s.setCore c fun y => { y with loads := dropLoad y.loads }) ∧ r = s1.csrRead (.core c) (o / 4 * 4)) ((sRun.setMgt fun g =>
    { g with cores := g.cores.set 2 { CoreSt.reset with loads := [⟨0x10000000, 4, true, none⟩] } })) (2) (0) (0) (false)
    (⟨0x10000000, 4, true, none⟩) (0) ((sRun.setMgt fun g =>
    { g with cores := g.cores.set 2 { CoreSt.reset with loads := [⟨0x10000000, 4, true, none⟩] } }).setCore 2 fun y =>
    { y with loads := dropLoad y.loads }) (((sRun.setMgt fun g =>
    { g with cores := g.cores.set 2 { CoreSt.reset with loads := [⟨0x10000000, 4, true, none⟩] } }).setCore 2 fun y =>
    { y with loads := dropLoad y.loads }).csrRead (.core 2) 0) :=
    ⟨by decide +kernel, by decide +kernel, by decide +kernel, by decide +kernel, by decide +kernel, by decide +kernel, rfl, rfl⟩
theorem test_wit_CoreAccesses_13 : (fun (s : State) (c : Nat) (x : CStore) => c < 4 ∧ ((s.core c).sb.find? (fun t => t.device && t.accepted &&
    t.timer.any fun t => decide (t ≤ s.mgmtClk)) = some x)) ((sRun.setMgt fun g =>
    { g with cores := g.cores.set 2 { CoreSt.reset with sb := [stDev] } })) (2) (stDev) := by decide +kernel
theorem test_wit_CoreAccesses_14 : (fun (s : State) (p : Path) (c : Nat) (v : Word) (s1 : State) => p.isRequester = true ∧ s.Open ∧ c < 4 ∧
    F.CLK_CORE_CTL_RESET.of v = 1 ∧ s1 = s.storeAt (R.CLK_CORE_CTL + 4 * c) v ∧ s1.on F.CLK_CORE_CTL_HOLD (4 * c) = false ∧ s1.las.fwRunning = true)
    ((sRun.setLas fun l => { l with fwRunning := true }).put F.CLK_CORE_CTL_HOLD 8 0) (.bar) (2) (1) (((sRun.setLas fun l =>
    { l with fwRunning := true }).put F.CLK_CORE_CTL_HOLD 8 0).storeAt (R.CLK_CORE_CTL + 4 * 2) 1) :=
    ⟨by decide +kernel, by decide +kernel, by decide +kernel, by decide +kernel, rfl, by decide +kernel, by decide +kernel⟩
theorem test_wit_CoreAccesses_15 : (fun (s : State) (p : Path) (c : Nat) (v : Word) (s1 : State) => p.isRequester = true ∧ s.Open ∧ c < 4 ∧
    F.CLK_CORE_CTL_RESET.of v = 0 ∧ s1 = s.storeAt (R.CLK_CORE_CTL + 4 * c) v ∧ s.on F.CLK_CORE_CTL_HOLD (4 * c) = false ∧ s1.on F.CLK_CORE_CTL_HOLD
    (4 * c) = true) (sRun.put F.CLK_CORE_CTL_HOLD 8 0) (.bar) (2) (2) ((sRun.put F.CLK_CORE_CTL_HOLD 8 0).storeAt (R.CLK_CORE_CTL + 4 * 2) 2) :=
    ⟨by decide +kernel, by decide +kernel, by decide +kernel, by decide +kernel, rfl, by decide +kernel, by decide +kernel⟩
theorem test_wit_CoreAccesses_16 : (fun (s : State) (x y : Nat) (cured : Bool) => cured = true) (State.reset) (0) (0) (true) := by decide +kernel
theorem test_wit_CoreAccesses_17 : (fun (s : State) (x y : Nat) (cured : Bool) => cured = false) (State.reset) (0) (0) (false) := by decide +kernel

theorem test_wit_FaultUnits_1 : (fun (s : State) (kind unit n : Nat) => unitOf kind unit ∈ s.flt.released ∧ s.fenceOver (unitOf kind unit) = true ∧
    (s.flt.fences.find? (fun e => e.1 == unitOf kind unit) = some (unitOf kind unit, n))) ((State.reset.setFlt fun f =>
    { f with released := [.port 3], fences := [(.port 3, 40)] })) (2) (3) (40) := by decide +kernel
theorem test_wit_FaultUnits_2 : (fun (s : State) (p : Path) (v : Word) (s1 : State) => p.isRequester = true ∧ s.Open ∧ F.FLT_RESTART_GO.of v = 1 ∧
    s.restartState = 0 ∧ s1 = s.storeAt R.FLT_RESTART v) (State.reset) (.bar) (3) (State.reset.storeAt R.FLT_RESTART 3) :=
    ⟨by decide +kernel, by decide +kernel, by decide +kernel, by decide +kernel, rfl⟩
theorem test_wit_FaultUnits_3 : (fun (s : State) (ok : Bool) (svn : Nat) => s.restartState = 1 ∧ ok = true ∧ s.get F.SEC_FW_SVN_MIN_SVN 0 ≤ svn ∧
    s.on F.SEC_STATUS_SELFTEST_OK 0 = true ∧ s.secError = false) ((State.reset.setRestart 1).put F.SEC_STATUS_SELFTEST_OK 0 1) (true) (0) := by
    decide +kernel
theorem test_wit_FaultUnits_4 : (fun (s : State) (ok : Bool) (svn : Nat) => s.restartState = 1 ∧ ok = false) (State.reset.setRestart 1) (false) (0)
    := by decide +kernel
theorem test_wit_FaultUnits_5 : (fun (s s2 : State) => s.restarting = true ∧ s.flt.reverting = false ∧ (s2 = ((((s.put F.LAST_BOOT_IMAGE 0
    s.flt.restartImg).put F.SEC_FW_SVN_SVN 0 s.flt.restartSvn).setLas fun l => { l with fwRunning := true }).setFlt fun f =>
    { f with restartSvn := s.get F.SEC_FW_SVN_SVN 0, reverting := false, restartTo := some (s.after 58593750) }))) ((State.reset.setRestart
    2).setLas fun l => { l with fwRunning := false }) (((((((State.reset.setRestart 2).setLas fun l => { l with fwRunning := false }).put
    F.LAST_BOOT_IMAGE 0 ((State.reset.setRestart 2).setLas fun l => { l with fwRunning := false }).flt.restartImg).put F.SEC_FW_SVN_SVN 0
    ((State.reset.setRestart 2).setLas fun l => { l with fwRunning := false }).flt.restartSvn).setLas fun l => { l with fwRunning := true }).setFlt
    fun f =>
    { f with restartSvn := ((State.reset.setRestart 2).setLas fun l => { l with fwRunning := false }).get F.SEC_FW_SVN_SVN 0, reverting := false, restartTo := some (((State.reset.setRestart 2).setLas fun l => { l with fwRunning := false }).after 58593750) }))
    := ⟨by decide +kernel, by decide +kernel, rfl⟩
theorem test_wit_FaultUnits_6 : (fun (s : State) => s.restartState = 3 ∧ s.dueO s.flt.restartTo = true) ((((State.reset.setRestart 3).setFlt fun f
    => { f with restartTo := some 3 }).setTim (fun t => { t with bnd := 9 }))) := by decide +kernel
theorem test_wit_FaultUnits_7 : (fun (s : State) (p : Path) (v : Word) => p.isRequester = true ∧ s.Open ∧ F.FLT_PWRDN_CTL_GO.of v = 1 ∧
    F.FLT_PWRDN_CTL_ABORT.of v = 0 ∧ s.flt.pdStart = false ∧ (s.pdStep = 0 ∨ 6 ≤ s.pdStep)) (State.reset) (.bar) (1) := by decide +kernel
theorem test_wit_FaultUnits_8 : (fun (s : State) (p : Path) (v : Word) => p.isRequester = true ∧ s.Open ∧ F.FLT_PWRDN_CTL_GO.of v = 0 ∧
    F.FLT_PWRDN_CTL_ABORT.of v = 1 ∧ 1 ≤ s.pdStep ∧ s.pdStep ≤ 5) (State.reset.setPd 2) (.bar) (2) := by decide +kernel
theorem test_wit_FaultUnits_9 : (fun (s : State) => s.pdStep = 2 ∧ s.drained = true) (State.reset.setPd 2) := by decide +kernel
theorem test_wit_FaultUnits_10 : (fun (s : State) => s.pdStep = 2 ∧ s.reachedO s.flt.pdTimer = true ∧ s.drained = false) (((((State.reset.setPd
    2).setSole fun o =>
    { o with buf := [⟨⟨7, 0, .io, .mRd, .none, 0, 3, 0, 80, 0, 0, .green, 0, 0, 0, .bus, 4, 64, 4, none, 0, [], false, .ok, 0, false⟩, 0, 0, 0, 0, 1, 0, 0, .shared, true⟩] }).setFlt
    fun f => { f with pdTimer := some 3 }).setTim (fun t => { t with bnd := 9 }))) := by decide +kernel
theorem test_wit_FaultUnits_11 : (fun (s : State) => s.pdStep = 3 ∧ (s.dirtyIdx (fun _ => true) = []) ∧ s.ins.cleaning = []) (State.reset.setPd 3)
    := by decide +kernel
theorem test_wit_FaultUnits_12 : (fun (s : State) => s.pdStep = 3 ∧ s.reachedO s.flt.pdTimer = true) ((((State.reset.setPd 3).setFlt fun f =>
    { f with pdTimer := some 3 }).setTim (fun t => { t with bnd := 9 }))) := by decide +kernel
theorem test_wit_FaultUnits_13 : (fun (s : State) (ls : List Nat) => s.pdStep = 4 ∧ s.flt.pdPhase = 2 ∧ s.flt.pdWait = [] ∧ s.flt.pdFail = false ∧
    (ls = (List.range 8).filter fun m => !s.on F.ML_LINK_CMD_DISABLE (dLink m))) (((State.reset.setPd 4).setFlt fun f => { f with pdPhase := 2 }))
    ([0,1,2,3,4,5,6,7]) := ⟨by decide +kernel, by decide +kernel, by decide +kernel, by decide +kernel, by decide +kernel⟩
theorem test_wit_FaultUnits_14 : (fun (s : State) (n : Nat) => n < 64 ∧ upMode (s.portMode n) = true ∧ s.portUp n = true ∧ s.hostPartners n = [])
    (sUp13) (9) := by decide +kernel
theorem test_wit_FaultUnits_15 : (fun (s : State) (n : Nat) => n < 64 ∧ upMode (s.portMode n) = true ∧ s.portUp n = true ∧ s.gpfClean n = true ∧
    s.hostPartners n = []) (sUp13) (9) := by decide +kernel
theorem test_wit_FaultUnits_16 : (fun (s : State) (n : Nat) (e : Nat × Nat) (s1 : State) => n < 64 ∧ (s.flt.gpfBack.find? (fun e => e.1 == n) = some
    e) ∧ s.due e.2 = true ∧ (s1 = (s.dirtyLeft (s.dirtyRanges (s.hostPartners n))).setFlt fun f => { f with gpfBack := f.gpfBack.erase e }))
    (((State.reset.setFlt fun f => { f with gpfBack := [(9, 3)] }).setTim (fun t => { t with bnd := 9 }))) (9) ((9, 3)) (((State.reset.setFlt fun f
    => { f with gpfBack := [(9, 3)] }).setTim (fun t => { t with bnd := 9 })|>.dirtyLeft (((State.reset.setFlt fun f =>
    { f with gpfBack := [(9, 3)] }).setTim (fun t => { t with bnd := 9 })).dirtyRanges (((State.reset.setFlt fun f =>
    { f with gpfBack := [(9, 3)] }).setTim (fun t => { t with bnd := 9 })).hostPartners 9))).setFlt fun f =>
    { f with gpfBack := f.gpfBack.erase (9, 3) }) := ⟨by decide +kernel, by decide +kernel, by decide +kernel, rfl⟩
theorem test_wit_FaultUnits_17 : (fun (s : State) (n h ph : Nat) => n < 64 ∧ s.flt.gpfReqs = [(h, ph, [n])]) ((State.reset.setFlt fun f =>
    { f with gpfReqs := [(3, 1, [9])] })) (9) (3) (1) := by decide +kernel

theorem test_wit_RestartDefers_1 : (fun (s : State) (n kind lds : Nat) (dcd xr : Bool) (sn : Option Nat) (vendor : Nat) => n < 64 ∧ s.restarting =
    true) (((State.reset.setRestart 2).setLas fun l => { l with fwRunning := false })) (0) (0) (0) (true) (true) (none) (0) := by decide +kernel
theorem test_wit_RestartDefers_2 : (fun (s : State) (sh : Nat) => sh < 64 ∧ s.restarting = true) (((State.reset.setRestart 2).setLas fun l =>
    { l with fwRunning := false })) (0) := by decide +kernel
theorem test_wit_RestartDefers_3 : (fun (s : State) (who : Nat) => s.restarting = true) (((State.reset.setRestart 2).setLas fun l =>
    { l with fwRunning := false })) (0) := by decide +kernel
theorem test_wit_RestartDefers_4 : (fun (s : State) (eid sw v kind port obj slice : Nat) => s.restarting = true) (((State.reset.setRestart 2).setLas
    fun l => { l with fwRunning := false })) (0) (0) (0) (0) (0) (0) (0) := by decide +kernel
theorem test_wit_RestartDefers_5 : (fun (s : State) (eid tag first n : Nat) => (eid, tag) ∈ s.mgt.open_ ∧ s.restarting = true)
    (((State.reset.setRestart 2).setLas fun l => { l with fwRunning := false }).setMgt fun g => { g with open_ := [(8, 1)] }) (8) (1) (0) (0) := by
    decide +kernel
theorem test_wit_RestartDefers_6 : (fun (s : State) (eid tag first n : Nat) => (eid, tag) ∉ s.mgt.open_ ∧ s.restarting = true)
    (((State.reset.setRestart 2).setLas fun l => { l with fwRunning := false })) (8) (1) (0) (0) := by decide +kernel

-- witnesses: power


theorem test_wit_PowerController_1 : (fun (s : State) (feed : Nat) => feed = 0 ∧ s.pwr.ctl = 1 ∧ s.pwr.feedA = false ∧ s.pwr.feedB = false)
    ((State.reset.setPwr fun p => { p with ctl := 1 })) (0) := by decide +kernel
theorem test_wit_PowerController_2 : (fun (s : State) (feed : Nat) => feed = 1 ∧ s.pwr.ctl = 1 ∧ s.pwr.feedA = false ∧ s.pwr.feedB = false)
    ((State.reset.setPwr fun p => { p with ctl := 1 })) (1) := by decide +kernel
theorem test_wit_PowerController_3 : (fun (s : State) (feed : Nat) (s1 : State) => feed = 0 ∧ s.pwr.feedA = true ∧ s.pwr.regsOn = true ∧ s1 =
    s.occAt 21 0 none ∧ s1.pwr.ctl = 4 ∧ s1.pwr.feedB = false) ((State.reset.setPwr fun p => { p with ctl := 4, feedA := true, regsOn := true }))
    (0) ((State.reset.setPwr fun p => { p with ctl := 4, feedA := true, regsOn := true }).occAt 21 0 none) :=
    ⟨by decide +kernel, by decide +kernel, by decide +kernel, rfl, by decide +kernel, by decide +kernel⟩
theorem test_wit_PowerController_4 : (fun (s : State) (feed : Nat) (s1 : State) => feed = 1 ∧ s.pwr.feedB = true ∧ s.pwr.regsOn = true ∧ s1 =
    s.occAt 22 0 none ∧ s1.pwr.ctl = 4 ∧ s1.pwr.feedA = false) ((State.reset.setPwr fun p => { p with ctl := 4, feedB := true, regsOn := true }))
    (1) ((State.reset.setPwr fun p => { p with ctl := 4, feedB := true, regsOn := true }).occAt 22 0 none) :=
    ⟨by decide +kernel, by decide +kernel, by decide +kernel, rfl, by decide +kernel, by decide +kernel⟩
theorem test_wit_PowerController_5 : (fun (s : State) => s.pwr.ctl = 0 ∧ s.pwr.feedA = false ∧ s.pwr.feedB = false) ((State.reset.setPwr fun p =>
    { p with ctl := 0 })) := by decide +kernel
theorem test_wit_PowerController_7 : (fun (s : State) => s.pwr.insRun = true ∧ s.pwr.ctl = 2 ∧ (s.pwr.feedA = true ∨ s.pwr.feedB = true) ∧
    s.pwr.pmEn = true) ((State.reset.setPwr fun p => { p with ctl := 2, insRun := true, feedA := true, pmEn := true })) := by decide +kernel
theorem test_wit_PowerController_8 : (fun (s : State) => s.pwr.ctl = 2 ∧ (s.pwr.feedA = true ∨ s.pwr.feedB = true) ∧ s.pwr.insDone = true)
    ((State.reset.setPwr fun p => { p with ctl := 2, insDone := true, feedA := true })) := by decide +kernel
theorem test_wit_PowerController_9 : (fun (s : State) => s.pwr.ctl = 4 ∧ (s.pwr.feedA = true ∨ s.pwr.feedB = true)) ((State.reset.setPwr fun p =>
    { p with ctl := 4, feedB := true, pmEn := true })) := by decide +kernel
theorem test_wit_PowerController_10 : (fun (s : State) => s.pwr.pmEn = false ∧ s.pwr.feedA = true ∧ s.pwr.ctl = 5 ∧ s.pwr.cool = false)
    ((State.reset.setPwr fun p => { p with ctl := 5, latch := true, feedA := true })) := by decide +kernel
theorem test_wit_PowerController_11 : (fun (s : State) => s.pwr.ctl = 5 ∧ s.pwr.latch = true) ((State.reset.setPwr fun p =>
    { p with ctl := 5, latch := true, cool := true })) := by decide +kernel
theorem test_wit_PowerController_12 : (fun (s : State) => s.pwr.ctl = 3) ((State.reset.setPwr fun p => { p with ctl := 3 })) := by decide +kernel
theorem test_wit_PowerController_13 : (fun (s : State) => s.pwr.ctl = 4 ∧ s.pwr.regsOn = false) ((State.reset.setPwr fun p => { p with ctl := 4 }))
    := by decide +kernel
theorem test_wit_PowerController_14 : (fun (s : State) => s.pwr.ctl = 4) ((State.reset.setPwr fun p => { p with ctl := 4 })) := by decide +kernel
theorem test_wit_PowerController_15 : (fun (s : State) => (s.pwr.ctl = 3 ∨ s.pwr.ctl = 4)) ((State.reset.setPwr fun p => { p with ctl := 4 })) := by
    decide +kernel
theorem test_wit_PowerController_16 : (fun (s : State) => (s.pwr.ctl = 3 ∨ s.pwr.ctl = 4)) ((State.reset.setPwr fun p => { p with ctl := 4 })) := by
    decide +kernel
theorem test_wit_PowerController_17 : (fun (s : State) => (s.pwr.ctl = 3 ∨ s.pwr.ctl = 4)) ((State.reset.setPwr fun p => { p with ctl := 4 })) := by
    decide +kernel
theorem test_wit_PowerController_18 : (fun (s : State) => (s.pwr.ctl = 3 ∨ s.pwr.ctl = 4)) ((State.reset.setPwr fun p => { p with ctl := 4 })) := by
    decide +kernel
theorem test_wit_PowerController_19 : (fun (s : State) => s.pwr.ctl = 3) ((State.reset.setPwr fun p => { p with ctl := 3 })) := by decide +kernel
theorem test_wit_PowerController_20 : (fun (s : State) (feed : Nat) (s1 : State) => feed = 0 ∧ s.pwr.feedA = true ∧ s1 = (s.occAt 24 0 none).bump
    F.PWR_STATUS_REVERSALS 0 1 ∧ s1.pwr.ctl = 4) ((State.reset.setPwr fun p => { p with ctl := 4, feedA := true })) (0) (((State.reset.setPwr fun p
    => { p with ctl := 4, feedA := true }).occAt 24 0 none).bump F.PWR_STATUS_REVERSALS 0 1) :=
    ⟨by decide +kernel, by decide +kernel, rfl, by decide +kernel⟩
theorem test_wit_PowerController_21 : (fun (s : State) (p : Path) (v : Word) (s1 : State) => p.isRequester = true ∧ s.Open ∧ F.PWR_CFG_NV_COMMIT.of
    v = 1 ∧ s1 = s.storeAt R.PWR_CFG v) (State.reset) (.bar) (0x120) (State.reset.storeAt R.PWR_CFG 0x120) :=
    ⟨by decide +kernel, by decide +kernel, by decide +kernel, rfl⟩
theorem test_wit_PowerController_22 : (fun (s : State) (p : Path) (v : Word) => p.isRequester = true ∧ s.Open ∧ F.PWR_PIN_PEAK_CLR.of v = 1)
    (State.reset) (.bar) (0x80000000) := by decide +kernel
theorem test_wit_PowerController_23 : (fun (s : State) => s.avsOn = true ∧ s.get F.PWR_AVS_STATUS_LOWER_CNT 0 = 1024) (((State.reset.put
    F.PWR_AVS_STATUS_LOWER_CNT 0 1024).put F.LAST_LOCK_LOCKED 0 1).setTim fun t => { t with running := true }) := by decide +kernel
theorem test_wit_PowerController_24 : (fun (s : State) (d margin t : Nat) => d < 4 ∧ margin < s.get F.PWR_AVS_MARGIN_M_CRIT 0 ∧ (s.pwr.urgentAt =
    none ∨ s.pwr.urgentAt = some t ∧ t + 20000 ≤ s.soleClk)) (State.reset) (3) (0) (0) := by decide +kernel

-- witnesses: module

def sAon : State := (State.reset.setPwr fun p => { p with regsOn := true, ctl := 4 })

theorem test_wit_ModuleResets_1 : (fun (s : State) => s.pwr.regsOn = true ∧ s.mdl.aonHeld = false) (sAon) := by decide +kernel
theorem test_wit_ModuleResets_2 : (fun (s s1 : State) => (s1 = s.setMdl fun m => { m with perst := false }) ∧ s1.aonUp = true ∧ s1.step? = 1)
    ((sAon.setMdl fun m => { m with perst := true })) ((sAon.setMdl fun m => { m with perst := true }).setMdl fun m => { m with perst := false }) :=
    ⟨rfl, by decide +kernel, by decide +kernel⟩
theorem test_wit_ModuleResets_3 : (fun (s s1 : State) => (s1 = s.setMdl fun m => { m with pulse := false }) ∧ s1.aonUp = true ∧ s1.step? = 1)
    ((sAon.setMdl fun m => { m with pulse := true })) ((sAon.setMdl fun m => { m with pulse := true }).setMdl fun m => { m with pulse := false }) :=
    ⟨rfl, by decide +kernel, by decide +kernel⟩
theorem test_wit_ModuleResets_4 : (fun (s : State) (p : Path) (v : Word) => p.isRequester = true ∧ s.Open ∧ F.GLB_RST_MODULE.of v = 1) (State.reset)
    (.bar) (1) := by decide +kernel
theorem test_wit_ModuleResets_5 : (fun (s : State) (p : Path) (v : Word) => p.isRequester = true ∧ s.Open ∧ F.GLB_RST_MODULE.of v = 0 ∧
    F.GLB_RST_REFUSED.of v = 0 ∧ F.GLB_RST_MGMT.of v = 1 ∧ F.GLB_RST_MGMT_HOLD.of v = 0 ∧ s.mgmtRefused = false) (State.reset) (.bar) (2) := by
    decide +kernel
theorem test_wit_ModuleResets_6 : (fun (s : State) (p : Path) (v : Word) => p.isRequester = true ∧ s.Open ∧ F.GLB_RST_MODULE.of v = 0 ∧
    F.GLB_RST_REFUSED.of v = 0 ∧ F.GLB_RST_MGMT.of v = 1 ∧ F.GLB_RST_MGMT_HOLD.of v = 0 ∧ s.mgmtRefused = true) (State.reset.put
    F.LAST_LOAD_STATUS_STATE 0 5) (.bar) (2) := by decide +kernel
theorem test_wit_ModuleResets_7 : (fun (s : State) (p : Path) (v : Word) => p.isRequester = true ∧ s.Open ∧ F.GLB_RST_MODULE.of v = 0 ∧
    F.GLB_RST_REFUSED.of v = 0 ∧ F.GLB_RST_MGMT.of v = 0 ∧ F.GLB_RST_MGMT_HOLD.of v = 1 ∧ s.on F.GLB_RST_MGMT_HOLD 0 = false ∧ s.mgmtRefused =
    false) (State.reset) (.bar) (4) := by decide +kernel
theorem test_wit_ModuleResets_8 : (fun (s : State) (p : Path) (v : Word) => p.isRequester = true ∧ s.Open ∧ F.GLB_RST_MODULE.of v = 0 ∧
    F.GLB_RST_REFUSED.of v = 0 ∧ F.GLB_RST_MGMT.of v = 0 ∧ F.GLB_RST_MGMT_HOLD.of v = 0 ∧ s.on F.GLB_RST_MGMT_HOLD 0 = true) (State.reset.put
    F.GLB_RST_MGMT_HOLD 0 1) (.bar) (0) := by decide +kernel
theorem test_wit_ModuleResets_9 : (fun (s : State) => s.mdl.mgmtLoad = true ∧ s.las.fwRunning = true ∧ s.on F.GLB_RST_MGMT_HOLD 0 = false)
    ((State.reset.setMdl fun m => { m with mgmtLoad := true }).setLas fun l => { l with fwRunning := true }) := by decide +kernel
theorem test_wit_ModuleResets_10 : (fun (s s1 : State) => s.pwr.regsOn = true ∧ s.mdl.aonHeld = true ∧ (s.pwr.recCause < 3 ∨ 7 < s.pwr.recCause) ∧
    (s1 = (s.setMdl fun m => { m with aonHeld := false }).syncPwr) ∧ s1.aonUp = true ∧ s1.step? = 1) ((sAon.setMdl fun m =>
    { m with aonHeld := true })) (((sAon.setMdl fun m => { m with aonHeld := true }).setMdl fun m => { m with aonHeld := false }).syncPwr) :=
    ⟨by decide +kernel, by decide +kernel, by decide +kernel, rfl, by decide +kernel, by decide +kernel⟩
theorem test_wit_ModuleResets_11 : (fun (s : State) (ok : Bool) => s.step? = 2 ∧ s.on F.SEC_STATUS_SELFTEST_OK 0 = false ∧ s.secError = false ∧
    s.sec.returning = none) (State.reset.setStep 2) (true) := by decide +kernel
theorem test_wit_ModuleResets_12 : (fun (s : State) (b e : Nat) => b < 16 ∧ s.mdl.cages.find b = some e ∧ s.reached e = true) ((State.reset.setMdl
    fun m => { m with cages := [(3, 5)] }).setTim fun t => { t with bnd := 9 }) (3) (5) := by decide +kernel
theorem test_wit_ModuleResets_13 : (fun (s : State) => s.step? = 8 ∧ s.readyOk = true) (State.reset.setStep 8) := by decide +kernel
theorem test_wit_ModuleResets_14 : (fun (s s1 : State) => 5 ≤ s.step? ∧ s.step? ≤ 7 ∧ s.reachedO s.mdl.readyTo = true ∧ s1 = s.startBindings)
    (((State.reset.setMdl fun m => { m with readyTo := some 5 }).setStep 6).setTim fun t => { t with bnd := 9 }) ((((State.reset.setMdl fun m =>
    { m with readyTo := some 5 }).setStep 6).setTim fun t => { t with bnd := 9 }).startBindings) :=
    ⟨by decide +kernel, by decide +kernel, by decide +kernel, rfl⟩

theorem test_wit_Sideband_1 : (fun (s : State) (addr : Nat) => s.aonUp = true ∧ s.mdl.dynAddr = none) (sAon) (0) := by decide +kernel
theorem test_wit_Sideband_2 : (fun (s : State) => s.aonUp = true) (sAon) := by decide +kernel
theorem test_wit_Sideband_3 : (fun (s : State) (addr : Nat) => s.i3cHeld = true) ((sAon.setMdl fun m => { m with dynAddr := some 5 })) (0) := by
    decide +kernel
theorem test_wit_Sideband_4 : (fun (s : State) => s.i3cHeld = true) ((sAon.setMdl fun m => { m with dynAddr := some 5 })) := by decide +kernel
theorem test_wit_Sideband_5 : (fun (s : State) => s.i3cHeld = true) ((sAon.setMdl fun m => { m with dynAddr := some 5 })) := by decide +kernel
theorem test_wit_Sideband_6 : (fun (s : State) => s.i3cHeld = true) ((sAon.setMdl fun m => { m with dynAddr := some 5 })) := by decide +kernel
theorem test_wit_Sideband_7 : (fun (s : State) => s.i3cHeld = true) ((sAon.setMdl fun m => { m with dynAddr := some 5 })) := by decide +kernel
theorem test_wit_Sideband_8 : (fun (s : State) => s.aonUp = true) (sAon) := by decide +kernel
theorem test_wit_Sideband_9 : (fun (s : State) => s.aonUp = true) (sAon) := by decide +kernel
theorem test_wit_Sideband_10 : (fun (s : State) (n : Nat) => s.aonUp = true) (sAon) (0) := by decide +kernel
theorem test_wit_Sideband_11 : (fun (s : State) (n : Nat) => s.aonUp = true) (sAon) (0) := by decide +kernel
theorem test_wit_Sideband_12 : (fun (s : State) => s.aonUp = true ∧ s.mdl.dynAddr = none ∧ s.mdl.hotJoin = false) (sAon) := by decide +kernel

-- witnesses: frames


theorem test_wit_PowerFrame_1 : (fun (s t : State) => exec .biasPresent s = .next t) (State.reset) (State.reset.biasPresent) := by simp
    [exec, execBiasPresent, State.within]
theorem test_wit_PowerFrame_2 : (fun (s t : State) => exec .biasLoss s = .next t) (State.reset) (State.reset.biasLoss) := by simp
    [exec, execBiasLoss, State.within]
theorem test_wit_PowerFrame_3 : (fun (s t : State) => exec .insertionDelayExpiry s = .next t) (State.reset) (State.reset.insertionEnd) := by simp
    [exec, execInsertionDelayExpiry, State.within]
theorem test_wit_PowerFrame_4 : (fun (s t : State) => exec .pmEnRise s = .next t) (State.reset) (State.reset.pmEnRise) := by simp
    [exec, execPmEnRise, State.within]
theorem test_wit_PowerFrame_5 : (fun (s t : State) => exec .pmEnLow s = .next t) (State.reset) (State.reset.pmEnLow) := by simp
    [exec, execPmEnLow, State.within]
theorem test_wit_PowerFrame_6 : (fun (s t : State) => exec .latchClear s = .next t) (State.reset) (State.reset.latchClear) := by simp
    [exec, execLatchClear, State.within]
theorem test_wit_PowerFrame_7 : (fun (s t : State) => exec .cooldownEnd s = .next t) (State.reset) (State.reset.cooldownEnd) := by simp
    [exec, execCooldownEnd, State.within]
theorem test_wit_PowerFrame_8 : (fun (s t : State) => exec .powerGood s = .next t) (State.reset) (State.reset.powerGood) := by simp
    [exec, execPowerGood, State.within]
theorem test_wit_PowerFrame_9 : (fun (s t : State) => exec .powerGoodLost s = .next t) (State.reset) (State.reset.powerGoodLost) := by simp
    [exec, execPowerGoodLost, State.within]
theorem test_wit_PowerFrame_10 : (fun (s t : State) => exec .fastTrip s = .next t) (State.reset) (State.reset.fetTrip ocFast) := by simp
    [exec, execFastTrip, State.within]
theorem test_wit_PowerFrame_11 : (fun (s t : State) => exec .breakerTrip s = .next t) (State.reset) (State.reset.fetTrip ocBreaker) := by simp
    [exec, execBreakerTrip, State.within]
theorem test_wit_PowerFrame_12 : (fun (s t : State) => exec .soaTrip s = .next t) (State.reset) (State.reset.fetTrip ocSoa) := by simp
    [exec, execSoaTrip, State.within]
theorem test_wit_PowerFrame_13 : (fun (s t : State) => exec .fetOvertemp s = .next t) (State.reset) (State.reset.fetTrip ocFetOt) := by simp
    [exec, execFetOvertemp, State.within]
theorem test_wit_PowerFrame_14 : (fun (s t : State) => exec .rampTimeout s = .next t) (State.reset) (State.reset.rampTimeout) := by simp
    [exec, execRampTimeout, State.within]
theorem test_wit_PowerFrame_15 : (fun (s t : State) => exec .avsRegularLower s = .next t) (State.reset) (State.reset.avsLower) := by simp
    [exec, execAvsRegularLower, State.within]
theorem test_wit_PowerFrame_16 : (fun (s t : State) (feed : Nat) => exec (.feedWindowEnter feed) s = .next t) (State.reset) (State.reset.feedEnter
    0) (0) := by simp [exec, execFeedWindowEnter, State.within]
theorem test_wit_PowerFrame_17 : (fun (s t : State) (d margin : Nat) => exec (.avsUrgentRaise d margin) s = .next t) (State.reset)
    (State.reset.avsUrgent 0) (0) (0) := by simp [exec, execAvsUrgentRaise, State.within]

theorem test_wit_SidebandFrame_1 : (fun (s t : State) (addr : Nat) => exec (.i3cEntdaa addr) s = .next t) (State.reset) (State.reset.i3cEntdaa 0)
    (0) := by simp [exec, execI3cEntdaa, State.within]
theorem test_wit_SidebandFrame_2 : (fun (s t : State) => exec .i3cRstdaa s = .next t) (State.reset) (State.reset.i3cRstdaa) := by simp
    [exec, execI3cRstdaa, State.within]
theorem test_wit_SidebandFrame_3 : (fun (s t : State) (addr : Nat) => exec (.i3cSetnewda addr) s = .next t) (State.reset) (State.reset.i3cSetnewda
    0) (0) := by simp [exec, execI3cSetnewda, State.within]
theorem test_wit_SidebandFrame_4 : (fun (s t : State) => exec .i3cGetpid s = .next t) (State.reset) (State.reset.i3cGet 141
    State.reset.provisionalId) := by simp [exec, execI3cGetpid, State.within]
theorem test_wit_SidebandFrame_5 : (fun (s t : State) => exec .i3cGetbcr s = .next t) (State.reset) (State.reset.i3cGet 142 ((Config.device 1).toNat
    % 256)) := by simp [exec, execI3cGetbcr, State.within]
theorem test_wit_SidebandFrame_6 : (fun (s t : State) => exec .i3cGetdcr s = .next t) (State.reset) (State.reset.i3cGet 143 ((Config.device 2).toNat
    % 256)) := by simp [exec, execI3cGetdcr, State.within]
theorem test_wit_SidebandFrame_7 : (fun (s t : State) => exec .i3cGetmxds s = .next t) (State.reset) (State.reset.i3cGet 148 ((Config.device
    3).toNat % 65536)) := by simp [exec, execI3cGetmxds, State.within]
theorem test_wit_SidebandFrame_8 : (fun (s t : State) => exec .i3cEnec s = .next t) (State.reset) (State.reset.i3cIbi true) := by simp
    [exec, execI3cEnec, State.within]
theorem test_wit_SidebandFrame_9 : (fun (s t : State) => exec .i3cDisec s = .next t) (State.reset) (State.reset.i3cIbi false) := by simp
    [exec, execI3cDisec, State.within]
theorem test_wit_SidebandFrame_10 : (fun (s t : State) (n : Nat) => exec (.i3cSetmrl n) s = .next t) (State.reset) (State.reset.i3cLimit true 0) (0)
    := by simp [exec, execI3cSetmrl, State.within]
theorem test_wit_SidebandFrame_11 : (fun (s t : State) (n : Nat) => exec (.i3cSetmwl n) s = .next t) (State.reset) (State.reset.i3cLimit false 0)
    (0) := by simp [exec, execI3cSetmwl, State.within]
theorem test_wit_SidebandFrame_12 : (fun (s t : State) => exec .i3cHotJoin s = .next t) (State.reset) (State.reset.i3cHotJoin) := by simp
    [exec, execI3cHotJoin, State.within]

theorem test_wit_AttestationFrame_1 : (fun (s t : State) (who : Nat) => exec (.spdmGetVersion who) s = .next t) (State.reset)
    (State.reset.spdmGetVersion 0) (0) := by simp
    [exec, execSpdmGetVersion, State.within, State.fwRequest, State.firmware, (show State.reset.restarting = false by decide +kernel)]
theorem test_wit_AttestationFrame_2 : (fun (s t : State) (who : Nat) => exec (.spdmGetCapabilities who) s = .next t) (State.reset)
    (State.reset.spdmGetCaps 0) (0) := by simp
    [exec, execSpdmGetCapabilities, State.within, State.fwRequest, State.firmware, (show State.reset.restarting = false by decide +kernel)]
theorem test_wit_AttestationFrame_3 : (fun (s t : State) (who : Nat) => exec (.spdmNegotiateAlgorithms who) s = .next t) (State.reset)
    (State.reset.spdmAlgs 0) (0) := by simp
    [exec, execSpdmNegotiateAlgorithms, State.within, State.fwRequest, State.firmware, (show State.reset.restarting = false by decide +kernel)]
theorem test_wit_AttestationFrame_4 : (fun (s t : State) (who slot : Nat) => exec (.spdmGetCertificate who slot) s = .next t) (State.reset)
    (State.reset.spdmCert 0 0) (0) (0) := by simp
    [exec, execSpdmGetCertificate, State.within, State.fwRequest, State.firmware, (show State.reset.restarting = false by decide +kernel)]
theorem test_wit_AttestationFrame_5 : (fun (s t : State) (who slot : Nat) => exec (.spdmChallenge who slot) s = .next t) (State.reset)
    (State.reset.spdmChallenge 0 0) (0) (0) := by simp
    [exec, execSpdmChallenge, State.within, State.fwRequest, State.firmware, (show State.reset.restarting = false by decide +kernel)]
theorem test_wit_AttestationFrame_6 : (fun (s t : State) (who idx : Nat) => exec (.spdmGetMeasurements who idx) s = .next t) (State.reset)
    (State.reset.spdmMeas 0 0) (0) (0) := by simp
    [exec, execSpdmGetMeasurements, State.within, State.fwRequest, State.firmware, (show State.reset.restarting = false by decide +kernel)]
theorem test_wit_AttestationFrame_7 : (fun (s t : State) (who slot id : Nat) => exec (.spdmKeyExchange who slot id) s = .next t) (State.reset)
    (State.reset.spdmKeyEx 0 0 0) (0) (0) (0) := by simp
    [exec, execSpdmKeyExchange, State.within, State.fwRequest, State.firmware, (show State.reset.restarting = false by decide +kernel)]
theorem test_wit_AttestationFrame_8 : (fun (s t : State) (who id : Nat) => exec (.spdmFinish who id) s = .next t) (State.reset)
    (State.reset.spdmFinish 0 0) (0) (0) := by simp
    [exec, execSpdmFinish, State.within, State.fwRequest, State.firmware, (show State.reset.restarting = false by decide +kernel)]

theorem test_wit_ControlFrame_1 : (fun (s t : State) (path eid tag new : Nat) => exec (.setEndpointId path eid tag new) s = .next t) (State.reset)
    (State.reset.setEid 0 0 0 0) (0) (0) (0) (0) := by simp
    [exec, execSetEndpointId, State.within, State.fwRequest, State.firmware, (show State.reset.restarting = false by decide +kernel)]
theorem test_wit_ControlFrame_2 : (fun (s t : State) (path eid tag : Nat) => exec (.getEndpointId path eid tag) s = .next t) (State.reset)
    (State.reset.getEid 0 0 0) (0) (0) (0) := by simp
    [exec, execGetEndpointId, State.within, State.fwRequest, State.firmware, (show State.reset.restarting = false by decide +kernel)]
theorem test_wit_ControlFrame_3 : (fun (s t : State) (path eid tag : Nat) => exec (.getMctpVersionSupport path eid tag) s = .next t) (State.reset)
    (State.reset.getMctpVersion 0 0) (0) (0) (0) := by simp
    [exec, execGetMctpVersionSupport, State.within, State.fwRequest, State.firmware, (show State.reset.restarting = false by decide +kernel)]
theorem test_wit_ControlFrame_4 : (fun (s t : State) (path eid tag : Nat) => exec (.getMessageTypeSupport path eid tag) s = .next t) (State.reset)
    (State.reset.getMctpTypes 0 0) (0) (0) (0) := by simp
    [exec, execGetMessageTypeSupport, State.within, State.fwRequest, State.firmware, (show State.reset.restarting = false by decide +kernel)]
theorem test_wit_ControlFrame_5 : (fun (s t : State) (path eid tag : Nat) => exec (.getVendorDefinedSupport path eid tag) s = .next t) (State.reset)
    (State.reset.getMctpVendor 0 0) (0) (0) (0) := by simp
    [exec, execGetVendorDefinedSupport, State.within, State.fwRequest, State.firmware, (show State.reset.restarting = false by decide +kernel)]
theorem test_wit_ControlFrame_6 : (fun (s t : State) (path base n : Nat) => exec (.allocateEndpointIds path base n) s = .next t) (State.reset)
    (State.reset.allocEids 0 0 0) (0) (0) (0) := by simp
    [exec, execAllocateEndpointIds, State.within, State.fwRequest, State.firmware, (show State.reset.restarting = false by decide +kernel)]
theorem test_wit_ControlFrame_7 : (fun (s t : State) (path eid tag : Nat) => exec (.routingInfoUpdate path eid tag) s = .next t) (State.reset)
    (State.reset.routingUpdate 0 0) (0) (0) (0) := by simp
    [exec, execRoutingInfoUpdate, State.within, State.fwRequest, State.firmware, (show State.reset.restarting = false by decide +kernel)]

theorem test_wit_CoreFrame_1 : (fun (s t : State) (c : Nat) (ow ir : Bool) => exec (.coreFence c ow ir) s = .next t) (State.reset)
    (State.reset.coreFence 0 true true) (0) (true) (true) := by simp [exec, execCoreFence, State.within] <;> rfl
theorem test_wit_CoreFrame_2 : (fun (s t : State) (c : Nat) => exec (.coreTrap c) s = .next t) (State.reset) (State.reset.coreTrap 0) (0) := by simp
    [exec, execCoreTrap, State.within] <;> rfl


end Sys2Proof.Machine
end

section
/-!
PROOFS. Register pairs: what a path's list of taken or held words answers, the reads of a pair (R16) and its writes (R17).
-/
namespace Sys2Proof.Machine
open Sys2Proof

/-! ### Words kept for a path under a key -/

@[simp] theorem keyed_cons_same (l : List (Path × Nat × Word)) (p : Path) (k : Nat) (w : Word) : keyed ((p, k, w) :: l) p k = some w := by
  simp [keyed]

/-- Dropping what path `q` keeps under `j` leaves every other path's words, and the words under other keys. -/
theorem keyed_unkeyed_of_ne (l : List (Path × Nat × Word)) {p q : Path} {k j : Nat} (h : ¬(q = p ∧ j = k)) :
    keyed (unkeyed l q j) p k = keyed l p k := by
  have hkeep : ∀ e ∈ l,
      decide ((!(e.1 == q && e.2.1 == j)) = true ∧ (e.1 == p && e.2.1 == k) = true) = (e.1 == p && e.2.1 == k) := by
    rintro ⟨p', k', w⟩ -
    by_cases he : p' = p ∧ k' = k
    · obtain ⟨rfl, rfl⟩ := he
      have hother : (p' == q && k' == j) = false := by
        simpa using fun hq hj => h ⟨Eq.symm hq, Eq.symm hj⟩
      simp [hother]
    · have hmiss : (p' == p && k' == k) = false := by simpa using he
      simp only [hmiss, Bool.false_eq_true, and_false, decide_false]
  unfold keyed unkeyed
  rw [List.find?_filter, List.find?_congr hkeep]

/-- Replacing what path `q` keeps under `j` leaves every other path's words, and the words under other keys. -/
theorem keyed_replace_of_ne (l : List (Path × Nat × Word)) {p q : Path} {k j : Nat} (w : Word) (h : ¬(q = p ∧ j = k)) :
    keyed ((q, j, w) :: unkeyed l q j) p k = keyed l p k := by
  have hhead : (q == p && j == k) = false := by simpa using h
  rw [← keyed_unkeyed_of_ne l h]
  simp only [keyed, List.find?_cons, hhead]

/-! ### Reads of a pair (R16) -/

section Reads
variable {s : State} {p : Path} {o k : Nat} {d : RegDef}

theorem csrRead_none (hk : s.keyAt p o = none) : s.csrRead p o = (s, 0) := by
  simp [State.csrRead, hk]

theorem csrRead_hi_taken {w : Word} (hk : s.keyAt p o = some (d, k)) (hhi : isHi d = true) (hw : keyed s.acs.snaps p (k - 4) = some w) :
    s.csrRead p o = (s, w) := by
  simp [State.csrRead, hk, hhi, hw]

theorem csrRead_hi_live (hk : s.keyAt p o = some (d, k)) (hhi : isHi d = true) (hw : keyed s.acs.snaps p (k - 4) = none) :
    s.csrRead p o = (s, s.viewWord p d k) := by
  simp [State.csrRead, hk, hhi, hw]

theorem csrRead_single (hk : s.keyAt p o = some (d, k)) (hhi : isHi d = false) (hlo : isLo d = false) :
    s.csrRead p o = (s, s.viewWord p d k) := by
  simp [State.csrRead, hk, hhi, hlo]

theorem csrRead_lo_alone (hk : s.keyAt p o = some (d, k)) (hhi : isHi d = false) (hlo : isLo d = true) (hk2 : s.keyAt p (o + 4) = none) :
    s.csrRead p o = (s, s.viewWord p d k) := by
  simp [State.csrRead, hk, hhi, hlo, hk2]

/-- The counter that also latches PMC_CYC_RD (R451) takes its snapshot as every other pair does. -/
theorem csrRead_lo {d2 : RegDef} {k2 : Nat} (hk : s.keyAt p o = some (d, k)) (hhi : isHi d = false) (hlo : isLo d = true)
    (hk2 : s.keyAt p (o + 4) = some (d2, k2)) :
    (s.csrRead p o).2 = s.viewWord p d k ∧
      (s.csrRead p o).1.acs.snaps = (p, k, s.viewWord p d2 k2) :: unkeyed s.acs.snaps p k := by
  by_cases hctr : d.off = R.PMC_CTR_LO <;> simp [State.csrRead, hk, hhi, hlo, hk2, hctr]

end Reads

/-- What a read can do to the snapshots: nothing, or, at a _LO, replace the reading path's own snapshot of that pair. -/
theorem csrRead_snaps_cases (s : State) (q : Path) (o : Nat) :
    (s.csrRead q o).1.acs.snaps = s.acs.snaps ∨
      ∃ (d : RegDef) (k : Nat) (w : Word), s.keyAt q o = some (d, k) ∧ isLo d = true ∧
        (s.csrRead q o).1.acs.snaps = (q, k, w) :: unkeyed s.acs.snaps q k := by
  rcases hk : s.keyAt q o with _ | ⟨d, k⟩
  · exact .inl (by rw [csrRead_none hk])
  cases hhi : isHi d with
  | true =>
    rcases hw : keyed s.acs.snaps q (k - 4) with _ | w
    · exact .inl (by rw [csrRead_hi_live hk hhi hw])
    · exact .inl (by rw [csrRead_hi_taken hk hhi hw])
  | false =>
    cases hlo : isLo d with
    | false => exact .inl (by rw [csrRead_single hk hhi hlo])
    | true =>
      rcases hk2 : s.keyAt q (o + 4) with _ | ⟨d2, k2⟩
      · exact .inl (by rw [csrRead_lo_alone hk hhi hlo hk2])
      · exact .inr ⟨d, k, s.viewWord q d2 k2, rfl, hlo, (csrRead_lo hk hhi hlo hk2).2⟩

/-- A path's snapshot of a pair outlasts every read that is not that path's read of the pair's _LO. -/
theorem csrRead_keeps_snap {s : State} {p q : Path} {o k : Nat} (h : ∀ d, s.keyAt q o = some (d, k) → isLo d = true → q ≠ p) :
    keyed (s.csrRead q o).1.acs.snaps p k = keyed s.acs.snaps p k := by
  obtain hsame | ⟨d, j, w, hk, hlo, hnew⟩ := csrRead_snaps_cases s q o
  · rw [hsame]
  · have hne : ¬(q = p ∧ j = k) := by
      rintro ⟨hq, rfl⟩
      exact h d hk hlo hq
    rw [hnew, keyed_replace_of_ne _ w hne]

/-- Settles O9, by the equations of a read and the two ways it can leave the snapshots. -/
theorem lowReadTakesSnapshot : Obligations.LowReadTakesSnapshot := by
  refine ⟨?_, fun s p o k d w => csrRead_hi_taken, fun s p o k d => csrRead_hi_live, fun s p q o k => csrRead_keeps_snap⟩
  intro s p o k k2 d d2 hk hk2 hlo hhi
  obtain ⟨hword, hsnap⟩ := csrRead_lo hk hhi hlo hk2
  exact ⟨hword, by rw [hsnap, keyed_cons_same]⟩

/-! ### Writes of a pair (R17) -/

section Writes
variable {s : State} {p : Path} {o k : Nat} {d : RegDef} {v : Word}

theorem csrWrite_lo (hk : s.keyAt p o = some (d, k)) (hlo : isLo d = true) (hwr : d.writable = true) :
    s.csrWrite p o v = s.setAcs fun a => { a with holds := (p, k, v) :: unkeyed a.holds p k } := by
  simp [State.csrWrite, hk, hlo, hwr]

theorem csrWrite_hi_held {d0 : RegDef} {k0 : Nat} {lo : Word} (hk : s.keyAt p o = some (d, k)) (hk0 : s.keyAt p (o - 4) = some (d0, k0))
    (hlo : isLo d = false) (hhi : isHi d = true) (hheld : keyed s.acs.holds p (k - 4) = some lo) :
    s.csrWrite p o v =
      ((s.setAcs fun a => { a with holds := unkeyed a.holds p (k - 4) }).wordHeld p d0 k0 lo).wordHeld p d k v := by
  simp [State.csrWrite, hk, hlo, hhi, hheld, hk0]

theorem csrWrite_hi_alone (hk : s.keyAt p o = some (d, k)) (hlo : isLo d = false) (hhi : isHi d = true)
    (hheld : keyed s.acs.holds p (k - 4) = none) : s.csrWrite p o v = s.wordHeld p d k v := by
  simp [State.csrWrite, hk, hlo, hhi, hheld]

end Writes

/-- Settles O10, by the three equations of a write to a half of a pair. -/
theorem pairWrites : Obligations.PairWrites := by
  refine ⟨?_, fun s p o k k0 d d0 v lo => csrWrite_hi_held, fun s p o k d v => csrWrite_hi_alone⟩
  intro s p o k d v hk hlo hwr
  have hwrite := csrWrite_lo (v := v) hk hlo hwr
  exact ⟨hwrite, by rw [hwrite, State.setAcs_acs, keyed_cons_same]⟩

end Sys2Proof.Machine
end

section
/-!
PROOFS. The directory of a home slice: the index and the address of a line's set (R251), and what a lookup finds.
-/
namespace Sys2Proof.Machine
open Sys2Proof

/-! ### The directory set of a line (R251) -/

/-- The model's sums of powers of two are R251's bit fields, shifts and mask. -/
theorem setIdx_eq_fields (rgn line : Nat) :
    setIdx rgn line = (line % 2 ^ 21 ^^^ (line / 2 ^ 21) <<< 10 ^^^ rgn <<< 11) &&& 0x1FFFFF := by
  have hmask (x : Nat) : x &&& 0x1FFFFF = x % 2 ^ 21 := Nat.and_two_pow_sub_one_eq_mod x 21
  rw [hmask, Nat.shiftLeft_eq, Nat.shiftLeft_eq]
  rfl

/-- A set of 256 bytes is the unit in which the channels interleave (R32), so the set's number selects its channel. -/
theorem chanOf_setAddr (n idx : Nat) : chanOf (setAddr n idx) = (n * 2097152 + idx) % 4 := by
  unfold chanOf setAddr
  omega

/-! ### What a lookup finds -/

theorem entry?_holds_key {s : State} {n rgn line : Nat} {e : DirEntry} (h : s.entry? n rgn line = some e) :
    e.rgn = rgn ∧ e.line = line := by
  unfold State.entry? at h
  simpa using List.find?_some h

/-- Settles O11, by the index as R251 writes it, the channel of a set's address, and the key a lookup compares. -/
theorem directorySets : Obligations.DirectorySets := by
  refine ⟨?_, fun s n rgn line e => entry?_holds_key⟩
  rintro n rgn line d - rfl
  rw [← setIdx_eq_fields]
  exact ⟨rfl, chanOf_setAddr n (setIdx rgn line)⟩

end Sys2Proof.Machine
end

section
/-!
PROOFS. Locked regions (R384, R385): when an access touches one, the reason it gets, and the rejection at step 3 of ingress.
-/
namespace Sys2Proof.Machine
open Sys2Proof

/-! ### Ranges of bytes -/

/-- A byte of both ranges makes them overlap. -/
theorem overlaps_of_common_byte {a n b k x : Nat} (hax : a ≤ x) (hxn : x < a + n) (hbx : b ≤ x) (hxk : x < b + k) :
    overlaps a n b k = true := by
  simp [overlaps, hax.trans_lt hxk, hbx.trans_lt hxn]

theorem overlaps_eq_false_of_end_le {a n b k : Nat} (h : a + n ≤ b) : overlaps a n b k = false := by
  simp [overlaps, h]

theorem overlaps_eq_false_of_start_ge {a n b k : Nat} (h : b + k ≤ a) : overlaps a n b k = false := by
  simp [overlaps, h]

/-! ### The reason of a locked region -/

/-- Whether an access touches a byte of the regions that only the enclave reaches, and the debug master in RETURNED: the enclave area of the
Insole, in DPA space, and the SEC block outside its limited window, in CSR space (R11, R384). -/
def touchesEnclave (sp a n : Nat) : Bool :=
  (sp == 3 && overlaps a n 0x40000000 0x1000000) || (sp == 4 && overlaps a n 0x1301000 0xff000)

/-- Whether an access is a write or an atomic that touches the load buffer while it is write-protected (R81, R384). -/
def State.writesLoadBuf (s : State) (sp a n k : Nat) : Bool :=
  sp == 3 && (k == 1 || k == 3) && overlaps a n 0x12000000 0x2000000 && s.loadBufLocked

/-- Whether the locked regions of the enclave are open to a slot: its own, or that of the debug master in RETURNED (R384). -/
def State.opensEnclave (s : State) (slot : Nat) : Bool :=
  slot == 85 || (slot == 84 && s.get F.SEC_STATUS_LIFECYCLE 0 == 2)

/-- Whether a slot is that of the debug master and its own lock holds (R385). -/
def State.debugLocked (s : State) (slot : Nat) : Bool := slot == 84 && !s.on F.SEC_STATUS_DEBUG 0

/-- The order of the tests: the debug master's own lock, the regions of the enclave, the load buffer. -/
theorem lockedReason_eq (s : State) (slot sp a n k : Nat) :
    s.lockedReason slot sp a n k =
      if s.debugLocked slot then vLocked
      else if !s.opensEnclave slot && touchesEnclave sp a n then vLocked
      else if s.writesLoadBuf sp a n k then vLoadBuf
      else 0 := by
  unfold State.opensEnclave
  rw [Bool.not_or]
  rfl

section
variable {s : State} {slot sp a n k : Nat}

theorem lockedReason_of_touchesEnclave (hslot : s.opensEnclave slot = false) (ht : touchesEnclave sp a n = true) :
    s.lockedReason slot sp a n k = vLocked := by
  simp [lockedReason_eq, hslot, ht]

theorem lockedReason_of_writesLoadBuf (hdbg : s.debugLocked slot = false) (ht : touchesEnclave sp a n = false)
    (hw : s.writesLoadBuf sp a n k = true) : s.lockedReason slot sp a n k = vLoadBuf := by
  simp [lockedReason_eq, hdbg, ht, hw]

theorem lockedReason_eq_zero (hdbg : s.debugLocked slot = false) (hslot : s.opensEnclave slot = true)
    (hw : s.writesLoadBuf sp a n k = false) : s.lockedReason slot sp a n k = 0 := by
  simp [lockedReason_eq, hdbg, hslot, hw]

end

/-! ### To whom the regions are open -/

theorem opensEnclave_iff {s : State} {slot : Nat} :
    s.opensEnclave slot = true ↔ slot = 85 ∨ (slot = 84 ∧ s.get F.SEC_STATUS_LIFECYCLE 0 = 2) := by
  simp [State.opensEnclave]

theorem debugLocked_eq_false_iff {s : State} {slot : Nat} :
    s.debugLocked slot = false ↔ slot ≠ 84 ∨ s.on F.SEC_STATUS_DEBUG 0 = true := by
  simp [State.debugLocked, imp_iff_not_or]

/-! ### Which accesses touch a locked region -/

theorem touchesEnclave_of_byte {sp a n x : Nat} (hax : a ≤ x) (hxn : x < a + n)
    (hx : (sp = 3 ∧ 0x40000000 ≤ x ∧ x < 0x41000000) ∨ (sp = 4 ∧ 0x1301000 ≤ x ∧ x < 0x1400000)) :
    touchesEnclave sp a n = true := by
  obtain ⟨rfl, hlo, hhi⟩ | ⟨rfl, hlo, hhi⟩ := hx
  · have hover : overlaps a n 0x40000000 0x1000000 = true := overlaps_of_common_byte hax hxn hlo hhi
    simp [touchesEnclave, hover]
  · have hover : overlaps a n 0x1301000 0xff000 = true := overlaps_of_common_byte hax hxn hlo hhi
    simp [touchesEnclave, hover]

/-- A DPA access that ends below the enclave area does not touch it. -/
theorem touchesEnclave_eq_false_of_end_le {a n : Nat} (h : a + n ≤ 0x40000000) : touchesEnclave 3 a n = false := by
  simp [touchesEnclave, overlaps_eq_false_of_end_le h]

/-- A write or an atomic of a byte of the load buffer, while it is protected. -/
theorem writesLoadBuf_of_byte {s : State} {a n k x : Nat} (hs : s.loadBufLocked = true) (hk : k = 1 ∨ k = 3)
    (hax : a ≤ x) (hxn : x < a + n) (hlo : 0x12000000 ≤ x) (hhi : x < 0x14000000) : s.writesLoadBuf 3 a n k = true := by
  have hover : overlaps a n 0x12000000 0x2000000 = true := overlaps_of_common_byte hax hxn hlo hhi
  simp [State.writesLoadBuf, hs, hk, hover]

/-- The load buffer lies in DPA space and ends at 0x14000000. -/
theorem writesLoadBuf_eq_false {s : State} {sp a n k : Nat} (h : sp = 4 ∨ 0x14000000 ≤ a) :
    s.writesLoadBuf sp a n k = false := by
  obtain rfl | ha := h
  · rfl
  · have hover : overlaps a n 0x12000000 0x2000000 = false := overlaps_eq_false_of_start_ge ha
    simp [State.writesLoadBuf, hover]

/-- A load from the load buffer protects it from FETCH through COMMIT (R81). -/
theorem loadBufLocked_of_load {s : State} {l : Load} (hl : s.las.load = some l) (hsrc : l.src = 0)
    (hlo : 1 ≤ s.get F.LAST_LOAD_STATUS_STATE 0) (hhi : s.get F.LAST_LOAD_STATUS_STATE 0 ≤ 5) : s.loadBufLocked = true := by
  simp [State.loadBufLocked, hl, hsrc, hlo, hhi]

/-! ### Step 3 of ingress -/

/-- A locked region is checked before any window: its reason alone decides the rejection. -/
theorem examine3_of_lockedReason_ne_zero {s : State} {ag k sp : Nat} {r : Route} {m : Msg} (hk : accessKind m = some k)
    (hsp : sp = if ag < 64 then (if r == .mgmt then 4 else 0) else spaceNo m.space)
    (hlr : s.lockedReason ag sp m.addr (accessLen m) k ≠ 0) :
    s.examine3 ag r m = s.reject ag m { s.violOf ag m sp k with reason := s.lockedReason ag sp m.addr (accessLen m) k } := by
  subst hsp
  obtain ⟨lr, hlr⟩ := Nat.exists_eq_succ_of_ne_zero hlr
  simp only [State.examine3, hk, hlr]

/-- Settles O18, by the order of the tests of a locked region and the step that comes before the windows. -/
theorem lockedRegions : Obligations.LockedRegions := by
  refine ⟨?enclave, ?loadBuffer, ?opened, fun s ag k r m sp => examine3_of_lockedReason_ne_zero⟩
  case enclave =>
    intro s slot sp a n k x h85 h84 hax hxn hx
    have hslot : s.opensEnclave slot = false := by
      rw [Bool.eq_false_iff, ne_eq, opensEnclave_iff]
      exact not_or.mpr ⟨h85, h84⟩
    exact lockedReason_of_touchesEnclave hslot (touchesEnclave_of_byte hax hxn hx)
  case loadBuffer =>
    intro s slot a n k x l hdbg hk hl hsrc hst1 hst5 hax hxn hlo hhi hend
    have hlock : s.loadBufLocked = true := loadBufLocked_of_load hl hsrc hst1 hst5
    exact lockedReason_of_writesLoadBuf (debugLocked_eq_false_iff.mpr hdbg) (touchesEnclave_eq_false_of_end_le hend)
      (writesLoadBuf_of_byte hlock hk hax hxn hlo hhi)
  case opened =>
    intro s slot sp a n k hslot hoff
    have hdbg : slot ≠ 84 ∨ s.on F.SEC_STATUS_DEBUG 0 = true := by
      obtain rfl | ⟨-, -, hon⟩ := hslot
      · exact .inl (by decide)
      · exact .inr hon
    have hopen : slot = 85 ∨ (slot = 84 ∧ s.get F.SEC_STATUS_LIFECYCLE 0 = 2) :=
      hslot.imp_right fun ⟨h84, hret, _⟩ => ⟨h84, hret⟩
    exact lockedReason_eq_zero (debugLocked_eq_false_iff.mpr hdbg) (opensEnclave_iff.mpr hopen) (writesLoadBuf_eq_false hoff)

end Sys2Proof.Machine
end

section
/-!
PROOFS. What every command and every step keeps (spec/01, spec/18): the guard of a command (log entry 2), the queue (log entry 1), the invariants of
the stores and of the power entry controller, and the end of a command (log entry 4).
-/
namespace Sys2Proof.Machine
open Sys2Proof

/-! ### The guard of a command -/

theorem guarded_next {s t : State} : ∃ f, (Host.Outcome.next t : Outcome) = s.within true f := ⟨fun _ => t, rfl⟩

theorem guarded_of_eq {s : State} {ok wf : Bool} {f : State → State} (h : ok = wf) : ∃ g, s.within ok f = s.within wf g :=
  ⟨f, by rw [h]⟩

theorem isPath_and_isLane (p : Path) (b l : Nat) :
    (isPath p && isLane b l) = (p.isRequester && decide (b < 20) && decide (l < 16)) := by
  rw [isPath_eq, Bool.and_assoc, isLane]

/-- Every command is an effect on units that exist, and the check of them is the command's `wf`. -/
theorem exec_within (c : Instr) (s : State) : ∃ f, exec c s = s.within c.wf f := by
  unfold exec
  cases c with
  | stitchBoundary | alignAcquired | alignLost | sourceLost | holdoverExpiry | backupRootTakeover | stitchInPulse | epochEnd | loadFetchDone
  | loadAuthDone | loadCheckDone | loadCommitStart | loadCommitDone | heldStgWriteRelease | heldArmRelease | firmwareVerifyDone
  | bootConfirmTimeout | cellAllocateWaiting | redDeferRelease | activeSlotClaim | queueStateFetchDone | cellTime | congestionAvgUpdate
  | lwtResend | lwtResendComplete | remapFillDone | heatScanEnd | migrationStart | migrationWritesDrained | migrationCopyDone | frameFree
  | insoleStartupDone | bindApply | dumpFrameWriteDone | descriptorStart | wakeGrant | fmBindVppb | fmUnbindVppb | fmGenerateAerEvent
  | fmPpbConfigRequest | fmMldTunnel | fmDcdCapacityChange | fmLeaseExpiry | vampOutboundRequest | vampInboundRequest | vampCompletion
  | vampMrdlk | vampUnlock | vampIntxMessage | vampErrMessage | vampForwardMessage | vampConsumedMessage | acceptanceNoticeRx | pfLineAgeExpiry
  | vampNpTimeout | vampConfigWrite | vampConfigRead | violationRecordWrite | ownerClaim | keyInstall | keyRevoke | svnRaise | debugUnlock
  | debugLock | ownerRelease | returnModule | returnFillDone | flashWrite | selftest | healthTestFail | spdmGetVersion | spdmGetCapabilities
  | spdmNegotiateAlgorithms | spdmGetCertificate | spdmChallenge | spdmGetMeasurements | spdmKeyExchange | spdmFinish | eyeDigestDone
  | mctpPacketRx | setEndpointId | getEndpointId | getMctpVersionSupport | getMessageTypeSupport | getVendorDefinedSupport | allocateEndpointIds
  | routingInfoUpdate | csrRead | csrWrite | lastXfer | secRelay | eventReplay | moduleInfo | recoveryBoot | dbgOpen | dbgAccess | dbgClose
  | dbgIdleTimeout | shankParityError | unitRelease | restartVerifyDone | restartLoadDone | restartConfirmTimeout | pwrdnDrainDone
  | pwrdnDrainTimeout | pwrdnCleanDone | pwrdnCleanTimeout | pwrdnGpfDone | biasPresent | biasLoss | insertionDelayExpiry | pmEnRise | pmEnLow
  | latchClear | cooldownEnd | powerGood | regulatorEnable | powerGoodLost | fastTrip | breakerTrip | soaTrip | rampTimeout | fetOvertemp
  | avsRegularLower | perstAssert | perstRelease | mgmtRestartDone | readySend | readyLimitExpiry | i3cEntdaa | i3cRstdaa | i3cSetnewda
  | i3cGetpid | i3cGetbcr | i3cGetdcr | i3cGetmxds | i3cEnec | i3cDisec | i3cSetmrl | i3cSetmwl | i3cHotJoin | alwaysOnResetRelease
  | powerUpSelfTestDone | moduleResetPulseEnd | tagCacheFillDone | fmPhysicalPortControl => exact guarded_next
  | swapApply g unit | armStateRx g unit | swapLateApply g unit =>
    exact guarded_of_eq (blocks_contains g unit)
  | adaptFreezeWrite p b l | coefSnapshot p b l | marginScanStart p b l =>
    exact guarded_of_eq (isPath_and_isLane p b l)
  | _ => exact guarded_of_eq rfl

/-- Settles O7, by the guard that every command begins with. -/
theorem wellFormedCompletes : Obligations.WellFormedCompletes := by
  constructor
  · intro c s hwf
    obtain ⟨f, hf⟩ := exec_within c s
    exact ⟨f s, by rw [hf, hwf, within_true]⟩
  · intro c s hwf
    obtain ⟨f, hf⟩ := exec_within c s
    rw [hf, hwf, within_false]

/-! ### The queue -/

theorem step_of_pending_nil {s : State} (h : s.pending = []) : step s = .next s := by
  simp only [step, h]

theorem step_of_pending_cons {s : State} {c : Instr} {rest : List Instr} (h : s.pending = c :: rest) :
    step s = exec c { s with pending := rest } := by
  simp only [step, h]

/-- Settles O1. -/
theorem stepRunsFront : Obligations.StepRunsFront := fun _ _ _ => step_of_pending_cons

/-- Settles O2. -/
theorem emptyQueueIdles : Obligations.EmptyQueueIdles := fun _ => step_of_pending_nil

/-! ### Invariants -/

/-- Settles O6, by what every command keeps. -/
theorem nothingTakenBack : Obligations.NothingTakenBack := fun _ _ _ h => (onward_exec h).follows

/-- Settles O4: taking a command from the queue touches no store, and every command keeps the canonical forms. -/
theorem stepKeepsCanonical : Obligations.StepKeepsCanonical := fun _ _ hc h => (onward_step h).canonical hc

/-- Settles O5: taking a command from the queue leaves the controller alone, and every command keeps it sound. -/
theorem stepKeepsPowerController : Obligations.StepKeepsPowerController := fun _ _ hp h => (onward_step h).power hp

/-- Settles O3: at reset every store is empty, and the controller waits without bias. -/
theorem resetInvariants : Obligations.ResetInvariants := by
  refine ⟨?canonical, ?sound, rfl⟩
  case canonical => exact ⟨rfl, rfl, rfl, rfl, rfl, rfl, rfl, rfl, rfl⟩
  case sound => unfold PwrSt.sound; decide

/-! ### The end of a command -/

/-- Settles O8. -/
theorem endOfCommand : Obligations.EndOfCommand :=
  ⟨fun _ hin hagain hfences => writeDone_quiet ⟨hin, hagain, hfences⟩, fun _ => settle_nil⟩

end Sys2Proof.Machine
end

section
/-!
PROOFS. Reads after writes: the bytes of the Insole (spec/01), the fields of the register file (spec/00), the staged and the active copies of a register
(R57), and the view of a path (R60).
-/
namespace Sys2Proof.Machine
open Sys2Proof

/-! ### The Insole's bytes -/

/-- Settles O12, by the read of an address after a run of bytes is written. -/
theorem memoryBytes : Obligations.MemoryBytes :=
  ⟨fun m a j bs => Mem.get_sets bs m a j, fun m a bs => Mem.wf_sets bs m a, fun _ => rfl⟩

/-! ### Fields -/

/-- Settles O13. A field that reads differently would lie in the word that was written, in its bits, and in the live copy. -/
theorem registerFields : Obligations.RegisterFields := by
  refine ⟨fun s f d v => s.get_put f d v, fun s f g d e v hapart => ?_⟩
  obtain hkey | hbelow | habove | hstg := hapart
  · exact s.get_put_key f g d e v hkey
  · exact s.get_put_field f g d e v (.inl hbelow)
  · exact s.get_put_field f g d e v (.inr habove)
  · exact s.get_put_stg f g d e v hstg

/-! ### A swap of one register -/

theorem regs_applyKey_false (s : State) (k : Nat) : (s.applyKey false k).regs = s.regs := rfl

/-- Exchanging the staged fields of a register twice gives back its active copy. -/
theorem act_applyKey_twice (s : State) (k j : Nat) : ((s.applyKey true k).applyKey true k).act.get j = s.act.get j := by
  rw [act_applyKey]
  split
  · next h =>
    subst h
    rw [act_applyKey, regs_applyKey_true, if_pos rfl, if_pos rfl, word_back]
  · next h => rw [act_applyKey, if_neg h]

/-- Exchanging the staged fields of a register twice gives back its staged copy. -/
theorem regs_applyKey_twice (s : State) (k j : Nat) : ((s.applyKey true k).applyKey true k).regs.get j = s.regs.get j := by
  rw [regs_applyKey_true]
  split
  · next h =>
    subst h
    rw [act_applyKey, regs_applyKey_true, if_pos rfl, if_pos rfl, word_back]
  · next h => rw [regs_applyKey_true, if_neg h]

theorem regs_applyKey_of_ne (s : State) (x : Bool) {k j : Nat} (h : j ≠ k) : (s.applyKey x k).regs.get j = s.regs.get j := by
  cases x
  · rw [regs_applyKey_false]
  · rw [regs_applyKey_true, if_neg h]

/-- Settles O14, by the words a swap leaves in the active and in the staged copy of its register. -/
theorem stagedCopies : Obligations.StagedCopies := by
  refine ⟨fun s k => ⟨?_, regs_applyKey_false s k⟩, fun s k => ⟨?_, ?_⟩,
    fun s k j => ⟨act_applyKey_twice s k j, regs_applyKey_twice s k j⟩, fun s x k j hne => ⟨?_, regs_applyKey_of_ne s x hne⟩⟩
  · rw [act_applyKey, if_pos rfl]
  · rw [act_applyKey, if_pos rfl]
  · rw [regs_applyKey_true, if_pos rfl]
  · rw [act_applyKey, if_neg hne]

/-! ### The view of a path -/

theorem viewWord_of_viewsActive {s : State} {p : Path} (h : s.viewsActive p = true) (d : RegDef) (k : Nat) :
    s.viewWord p d k = ((s.liveWord d k &&& ~~~ d.maskOf (· = .stg)) ||| (s.act.get k &&& d.maskOf (· = .stg))) := by
  simp only [State.viewWord, h, if_true]

theorem viewWord_live {s : State} {p : Path} (h : s.viewsActive p = false) (d : RegDef) (k : Nat) :
    s.viewWord p d k = s.liveWord d k := by
  simp only [State.viewWord, h, Bool.false_eq_true, if_false]

theorem ent_injective : Function.Injective ent := fun _ _ h => Nat.eq_of_mul_eq_mul_right (by decide : 0 < entStride) h

/-- A path reads its own copy of a selector. -/
theorem sel_eq_get (s : State) (p : Path) {f : Fld} (h : f.acc ≠ .stg) : s.sel p f = s.get f (ent p.code) := by
  rw [State.sel, State.get, if_neg h]

/-- VIEW_ACTIVE is banked: each path has its own. -/
theorem viewsActive_put_of_ne (s : State) {p q : Path} (v : Nat) (h : p.code ≠ q.code) :
    (s.put F.LAST_VIEW_CTL_VIEW_ACTIVE (ent q.code) v).viewsActive p = s.viewsActive p := by
  unfold State.viewsActive
  rw [sel_eq_get _ _ (by decide), sel_eq_get _ _ (by decide), State.get_put_key]
  exact fun heq => h (ent_injective (Nat.add_left_cancel heq))

/-- Settles O15. -/
theorem viewedReads : Obligations.ViewedReads :=
  ⟨fun _ _ d k h => viewWord_of_viewsActive h d k, fun _ _ d k h => viewWord_live h d k, fun s _ _ v h => viewsActive_put_of_ne s v h⟩

end Sys2Proof.Machine
end

section
/-!
PROOFS. What a group of commands leaves alone: the power entry controller (spec/18) and the I3C sideband (R491).
-/
namespace Sys2Proof.Machine
open Sys2Proof

/-- What holds of the state a command answers holds of the state it completes with. -/
theorem of_next {P : State → Prop} {x t : State} (hx : P x) (h : (Host.Outcome.next x : Outcome) = .next t) : P t :=
  Host.Outcome.next.inj h ▸ hx

/-- The same for a command of a unit. -/
theorem of_within {P : State → Prop} {s t : State} {ok : Bool} {f : State → State} (hf : P (f s)) (h : s.within ok f = .next t) : P t :=
  (within_next h).2 ▸ hf

/-! ### The power entry controller and AVS (R459 to R477) -/

/-- An event of the controller that takes effect only under a condition. -/
theorem OnlyPower.ctlEvent_ite (s : State) (c : Prop) [Decidable c] (f : PwrSt → PwrSt) : s.OnlyPower (if c then s.ctlEvent f else s) :=
  OnlyPower.ite (OnlyPower.ctlEvent (OnlyPower.refl s) f) (OnlyPower.refl s)

theorem OnlyPower.feedEnter (s : State) (feed : Nat) : s.OnlyPower (s.feedEnter feed) := OnlyPower.ite (OnlyPower.refl s) (OnlyPower.ctlEvent (OnlyPower.refl s) _)

theorem OnlyPower.fetTrip (s : State) (cause : Nat) : s.OnlyPower (s.fetTrip cause) := OnlyPower.ctlEvent (OnlyPower.refl s) _

theorem OnlyPower.fetTrip_ite (s : State) (c : Prop) [Decidable c] (cause : Nat) : s.OnlyPower (if c then s.fetTrip cause else s) :=
  OnlyPower.ite (OnlyPower.fetTrip s cause) (OnlyPower.refl s)

theorem OnlyPower.avsLower (s : State) : s.OnlyPower s.avsLower :=
  OnlyPower.ite (OnlyPower.put (OnlyPower.put (OnlyPower.refl s) (by decide) _) (by decide) _) (OnlyPower.refl s)

theorem OnlyPower.avsUrgent (s : State) (margin : Nat) : s.OnlyPower (s.avsUrgent margin) :=
  OnlyPower.ite (OnlyPower.setPwr (OnlyPower.put (OnlyPower.put (OnlyPower.refl s) (by decide) _) (by decide) _) _) (OnlyPower.refl s)

/-- Settles O56: each of the commands is an event of the controller, under a condition of its own, or a step of AVS. -/
theorem powerFrame : Obligations.PowerFrame := by
  refine ⟨?biasPresent, ?biasLoss, ?insertionDelayExpiry, ?pmEnRise, ?pmEnLow, ?latchClear, ?cooldownEnd, ?powerGood, ?powerGoodLost,
    ?fastTrip, ?breakerTrip, ?soaTrip, ?fetOvertemp, ?rampTimeout, ?avsRegularLower, ?feedWindowEnter, ?avsUrgentRaise⟩
  case biasPresent | insertionDelayExpiry | latchClear => exact fun s _ h => of_next (OnlyPower.ctlEvent_ite s _ _) h
  case biasLoss | pmEnRise | pmEnLow | cooldownEnd | powerGood => exact fun s _ h => of_next (OnlyPower.ctlEvent (OnlyPower.refl s) _) h
  case powerGoodLost | rampTimeout => exact fun s _ h => of_next (OnlyPower.fetTrip_ite s _ _) h
  case fastTrip | breakerTrip | soaTrip | fetOvertemp => exact fun s _ h => of_next (OnlyPower.fetTrip s _) h
  case avsRegularLower => exact fun s _ h => of_next (OnlyPower.avsLower s) h
  case feedWindowEnter => exact fun s _ feed h => of_within (f := fun u => u.feedEnter feed) (OnlyPower.feedEnter s feed) h
  case avsUrgentRaise => exact fun s _ _ margin h => of_within (f := fun u => u.avsUrgent margin) (OnlyPower.avsUrgent s margin) h

/-! ### The I3C sideband (R491) -/

theorem OnlySideband.ite {s x : State} {c : Prop} [Decidable c] (hx : s.OnlySideband x) : s.OnlySideband (if c then x else s) := by
  split
  · exact hx
  · exact OnlySideband.refl s

theorem OnlySideband.setMdl (s : State) {f : ModSt → ModSt} (hf : ∀ m, f m =
    { m with dynAddr := (f m).dynAddr, hotJoin := (f m).hotJoin, ibi := (f m).ibi, mrl := (f m).mrl, mwl := (f m).mwl }) :
    s.OnlySideband (s.setMdl f) := OnlySideband.of rfl (hf s.mdl)

theorem OnlySideband.i3cEntdaa (s : State) (addr : Nat) : s.OnlySideband (s.i3cEntdaa addr) := OnlySideband.ite rfl

theorem OnlySideband.i3cHotJoin (s : State) : s.OnlySideband s.i3cHotJoin := OnlySideband.ite rfl

theorem OnlySideband.i3cGet (s : State) (code v : Nat) : s.OnlySideband (s.i3cGet code v) := OnlySideband.ite rfl

theorem OnlySideband.i3cIbi (s : State) (on : Bool) : s.OnlySideband (s.i3cIbi on) := OnlySideband.ite (OnlySideband.setMdl s fun _ => rfl)

theorem OnlySideband.i3cLimit (s : State) (read : Bool) (n : Nat) : s.OnlySideband (s.i3cLimit read n) := by
  cases read <;> exact OnlySideband.ite (OnlySideband.setMdl s fun _ => rfl)

/-- Settles O57: each of the commands updates the target's fields of the module, or answers on the bus. -/
theorem sidebandFrame : Obligations.SidebandFrame := by
  refine ⟨?entdaa, ?rstdaa, ?setnewda, ?getpid, ?getbcr, ?getdcr, ?getmxds, ?enec, ?disec, ?setmrl, ?setmwl, ?hotJoin⟩
  case entdaa => exact fun s _ addr h => of_next (OnlySideband.i3cEntdaa s addr) h
  case rstdaa => exact fun s _ h => of_next (OnlySideband.ite (OnlySideband.setMdl s fun _ => rfl)) h
  case setnewda => exact fun s _ _ h => of_next (OnlySideband.ite (OnlySideband.setMdl s fun _ => rfl)) h
  case getpid | getbcr | getdcr | getmxds => exact fun s _ h => of_next (OnlySideband.i3cGet s _ _) h
  case enec | disec => exact fun s _ h => of_next (OnlySideband.i3cIbi s _) h
  case setmrl | setmwl => exact fun s _ n h => of_next (OnlySideband.i3cLimit s _ n) h
  case hotJoin => exact fun s _ h => of_next (OnlySideband.i3cHotJoin s) h

end Sys2Proof.Machine
end

section
/-!
PROOFS. What requests of the management side leave alone: SPDM (R395 to R399), MCTP control (R402, R404), and the fences and traps of a core (R421).
-/
namespace Sys2Proof.Machine
open Sys2Proof

/-! ### SPDM requests -/

section Spdm
variable (s : State) (who : Nat)

theorem OnlyAttestation.ite {s x y : State} {c : Prop} [Decidable c] (hx : s.OnlyAttestation x) (hy : s.OnlyAttestation y) :
    s.OnlyAttestation (if c then x else y) := by
  split
  · exact hx
  · exact hy

theorem OnlyAttestation.spdm (code cc : Nat) (body : List Byte) : s.OnlyAttestation (s.spdm who code cc body) :=
  OnlyAttestation.send (OnlyAttestation.refl s) _

/-- An answer that ends in a value left open. -/
theorem OnlyAttestation.spdmFree (code cc : Nat) (body : List Byte) : s.OnlyAttestation (s.spdm who code cc body).usedFree :=
  OnlyAttestation.usedFree (OnlyAttestation.spdm s who code cc body)

theorem OnlyAttestation.getVersion : s.OnlyAttestation (s.spdmGetVersion who) :=
  OnlyAttestation.spdmIf (OnlyAttestation.refl s) (OnlyAttestation.send (OnlyAttestation.conn (OnlyAttestation.refl s) _ _) _)

theorem OnlyAttestation.getCaps : s.OnlyAttestation (s.spdmGetCaps who) :=
  OnlyAttestation.spdmIf (OnlyAttestation.refl s) (OnlyAttestation.send (OnlyAttestation.conn (OnlyAttestation.refl s) _ _) _)

theorem OnlyAttestation.algs : s.OnlyAttestation (s.spdmAlgs who) :=
  OnlyAttestation.spdmIf (OnlyAttestation.refl s) (OnlyAttestation.send (OnlyAttestation.conn (OnlyAttestation.refl s) _ _) _)

theorem OnlyAttestation.cert (slot : Nat) : s.OnlyAttestation (s.spdmCert who slot) :=
  OnlyAttestation.spdmIf (OnlyAttestation.refl s) (OnlyAttestation.ite (OnlyAttestation.spdmFree s who _ _ _) (OnlyAttestation.spdm s who _ _ _))

theorem OnlyAttestation.challenge (slot : Nat) : s.OnlyAttestation (s.spdmChallenge who slot) :=
  OnlyAttestation.spdmIf (OnlyAttestation.refl s) (OnlyAttestation.ite (OnlyAttestation.spdmFree s who _ _ _) (OnlyAttestation.spdm s who _ _ _))

theorem OnlyAttestation.meas (idx : Nat) : s.OnlyAttestation (s.spdmMeas who idx) := by
  have hblock10 : s.OnlyAttestation (if s.sec.digBusy ∨ s.sec.digest = none then
      s.setSec fun x => { x with digBusy := true, digWait := x.digWait ++ [(who, idx == 255)] } else s.measAnswer (who, idx == 255)) :=
    OnlyAttestation.ite (OnlyAttestation.wait (OnlyAttestation.refl s) _) (OnlyAttestation.spdm s who _ _ _)
  have hother : s.OnlyAttestation (if idx = 0 then s.spdm who spdmMeasurements 0 [11]
      else if idx ≤ 11 then s.spdm who spdmMeasurements 0 (leBytes 1 idx ++ leBytes 12 (s.measure idx)) else s.spdm who spdmError 1 []) :=
    OnlyAttestation.ite (OnlyAttestation.spdm s who _ _ _)
      (OnlyAttestation.ite (OnlyAttestation.spdm s who _ _ _) (OnlyAttestation.spdm s who _ _ _))
  exact OnlyAttestation.ite (OnlyAttestation.refl s)
    (OnlyAttestation.spdmIf (OnlyAttestation.refl s) (OnlyAttestation.ite hblock10 hother))

theorem OnlyAttestation.keyEx (slot id : Nat) : s.OnlyAttestation (s.spdmKeyEx who slot id) := by
  have hopen : s.OnlyAttestation (s.setSec fun x => { x with sessions := x.sessions ++ [(id, false)] }) :=
    OnlyAttestation.sess (OnlyAttestation.refl s) _
  exact OnlyAttestation.spdmIf (OnlyAttestation.refl s) (OnlyAttestation.ite (OnlyAttestation.spdm s who _ _ _)
    (OnlyAttestation.ite (OnlyAttestation.spdm s who _ _ _) (OnlyAttestation.usedFree (OnlyAttestation.send hopen _))))

theorem OnlyAttestation.finish (id : Nat) : s.OnlyAttestation (s.spdmFinish who id) :=
  OnlyAttestation.spdmIf (OnlyAttestation.refl s)
    (OnlyAttestation.ite (OnlyAttestation.send (OnlyAttestation.sess (OnlyAttestation.refl s) _) _) (OnlyAttestation.spdm s who _ _ _))

end Spdm

/-- Settles O58: firmware work, which waits during a warm restart, or the request's own update and answer. -/
theorem attestationFrame : Obligations.AttestationFrame := by
  refine ⟨?version, ?capabilities, ?algorithms, ?certificate, ?challenge, ?measurements, ?keyExchange, ?finish⟩
  case version => exact fun s _ who h => of_next (OnlyAttestation.firmware (OnlyAttestation.getVersion s who)) h
  case capabilities => exact fun s _ who h => of_next (OnlyAttestation.firmware (OnlyAttestation.getCaps s who)) h
  case algorithms => exact fun s _ who h => of_next (OnlyAttestation.firmware (OnlyAttestation.algs s who)) h
  case certificate => exact fun s _ who slot h => of_next (OnlyAttestation.firmware (OnlyAttestation.cert s who slot)) h
  case challenge => exact fun s _ who slot h => of_next (OnlyAttestation.firmware (OnlyAttestation.challenge s who slot)) h
  case measurements => exact fun s _ who idx h => of_next (OnlyAttestation.firmware (OnlyAttestation.meas s who idx)) h
  case keyExchange => exact fun s _ who slot id h => of_next (OnlyAttestation.firmware (OnlyAttestation.keyEx s who slot id)) h
  case finish => exact fun s _ who id h => of_next (OnlyAttestation.firmware (OnlyAttestation.finish s who id)) h

/-! ### MCTP control requests -/

section Control
variable (s : State) (path eid tag : Nat)

theorem OnlyControl.answerNow (ty cmd cc : Nat) (body : List Byte) : s.OnlyControl (s.answer eid tag ty cmd cc body) :=
  OnlyControl.answer (OnlyControl.refl s) eid tag ty cmd cc body

theorem OnlyControl.setEid (new : Nat) : s.OnlyControl (s.setEid path eid tag new) := by
  have hstatus : s.OnlyControl (if path = 0 then s.put F.CLK_MCTP_STATUS_VDM_EID 0 new else s.put F.CLK_MCTP_STATUS_I3C_EID 0 new) :=
    OnlyControl.ite (OnlyControl.put (OnlyControl.refl s) (.inl rfl) _) (OnlyControl.put (OnlyControl.refl s) (.inl rfl) _)
  have htaken := OnlyControl.ite (c := path = 0) (OnlyControl.mgt hstatus (fun g => { g with vdmSet := true }) fun _ => rfl) hstatus
  have hpool := OnlyControl.send (OnlyControl.mgt htaken (fun g => { g with poolReq := true }) fun _ => rfl) (.mctp eid 0 8 0 [64])
  exact OnlyControl.request (OnlyControl.ite (OnlyControl.refl s) (OnlyControl.ite (OnlyControl.answerNow s eid tag _ _ _ _)
    (OnlyControl.answer (OnlyControl.ite hpool htaken) _ _ _ _ _ _)))

/-- The pool takes its base. -/
theorem OnlyControl.poolBase {t : State} (h : s.OnlyControl t) (base : Nat) :
    s.OnlyControl ((t.put F.CLK_MCTP_STATUS_POOL_BASE 0 base).put F.CLK_MCTP_STATUS_POOL_VALID 0 1) :=
  OnlyControl.put (OnlyControl.put h (.inl rfl) _) (.inl rfl) _

theorem OnlyControl.allocEids (base n : Nat) : s.OnlyControl (s.allocEids path base n) := by
  have hvdm : s.OnlyControl (s.setMgt fun g => { g with poolReq := false }) := OnlyControl.mgt (OnlyControl.refl s) _ fun _ => rfl
  have hi3c : s.OnlyControl (s.setMgt fun g => { g with i3cPool := true }) := OnlyControl.mgt (OnlyControl.refl s) _ fun _ => rfl
  exact OnlyControl.ite (OnlyControl.refl s) (OnlyControl.ite (OnlyControl.ite (OnlyControl.poolBase s hvdm base) (OnlyControl.refl s))
    (OnlyControl.ite hi3c (OnlyControl.poolBase s hi3c base)))

theorem OnlyControl.getEid : s.OnlyControl (s.getEid path eid tag) := OnlyControl.request (OnlyControl.answerNow s eid tag _ _ _ _)

theorem OnlyControl.getVersion : s.OnlyControl (s.getMctpVersion eid tag) :=
  OnlyControl.request (OnlyControl.usedFree (OnlyControl.answerNow s eid tag _ _ _ _))

theorem OnlyControl.getTypes : s.OnlyControl (s.getMctpTypes eid tag) := OnlyControl.request (OnlyControl.answerNow s eid tag _ _ _ _)

theorem OnlyControl.getVendor : s.OnlyControl (s.getMctpVendor eid tag) :=
  OnlyControl.request (OnlyControl.usedFree (OnlyControl.answerNow s eid tag _ _ _ _))

theorem OnlyControl.routingUpdate : s.OnlyControl (s.routingUpdate eid tag) := OnlyControl.request (OnlyControl.answerNow s eid tag _ _ _ _)

end Control

/-- Settles O59: firmware work, which waits or is lost during a warm restart, or the request's own update and answer. -/
theorem controlFrame : Obligations.ControlFrame := by
  refine ⟨?setEid, ?getEid, ?version, ?types, ?vendor, ?allocate, ?routing⟩
  case setEid => exact fun s _ path eid tag new h => of_next (OnlyControl.fwRequest (OnlyControl.setEid s path eid tag new)) h
  case getEid => exact fun s _ path eid tag h => of_next (OnlyControl.fwRequest (OnlyControl.getEid s path eid tag)) h
  case version => exact fun s _ _ eid tag h => of_next (OnlyControl.fwRequest (OnlyControl.getVersion s eid tag)) h
  case types => exact fun s _ _ eid tag h => of_next (OnlyControl.fwRequest (OnlyControl.getTypes s eid tag)) h
  case vendor => exact fun s _ _ eid tag h => of_next (OnlyControl.fwRequest (OnlyControl.getVendor s eid tag)) h
  case allocate => exact fun s _ path base n h => of_next (OnlyControl.allocEids s path base n) h
  case routing => exact fun s _ _ eid tag h => of_next (OnlyControl.fwRequest (OnlyControl.routingUpdate s eid tag)) h

/-! ### Fences and traps of a core -/

theorem OnlyCore.refl (c : Nat) (s : State) : State.OnlyCore c s s := ⟨rfl, fun _ _ => rfl, fun _ _ => rfl⟩

theorem onlyCore_coreFence (s : State) {c : Nat} (hc : c < 4) (ow ir : Bool) : State.OnlyCore c s (s.coreFence c ow ir) := by
  unfold State.coreFence
  split
  · exact OnlyCore.refl c s
  · exact onlyCore_pump hc _

theorem onlyCore_coreTrap (s : State) {c : Nat} (hc : c < 4) : State.OnlyCore c s (s.coreTrap c) := by
  unfold State.coreTrap
  split
  · exact OnlyCore.refl c s
  · exact onlyCore_pump hc _

/-- Settles O60: a fence and a trap mark the core and let its accesses go on. -/
theorem coreFrame : Obligations.CoreFrame := by
  constructor
  · intro s t c ow ir h
    obtain ⟨hc, rfl⟩ := within_next (f := fun u => u.coreFence c ow ir) h
    exact onlyCore_coreFence s (of_decide_eq_true hc) ow ir
  · intro s t c h
    obtain ⟨hc, rfl⟩ := within_next (f := fun u => u.coreTrap c) h
    exact onlyCore_coreTrap s (of_decide_eq_true hc)

end Sys2Proof.Machine
end

section
/-!
PROOFS. Occurrences (R430, R431) and the order of the enclave's checks (R391).
-/
namespace Sys2Proof.Machine
open Sys2Proof

/-! ### Occurrences -/

/-- A further occurrence of a source that fences no window finds its bit set, or about to be. -/
theorem occAt_of_pendingBit {s : State} {n : Nat} (hset : s.pendingBit n = true) (hwin : perWindow n = false) (inst : Nat) (u : Option FUnit) :
    s.occAt n inst u = s := by
  unfold State.occAt
  cases u <;> simp [hset, hwin]

/-- The first occurrence of a source without a unit that raises its FAULT event. -/
theorem occAt_first {s : State} {n : Nat} (hclear : s.pendingBit n = false) (hn : ¬(1152 ≤ n ∧ n ≤ 1237)) (inst : Nat) :
    s.occAt n inst none = ((s.faultLog 0 n 0).setFlt fun t => { t with occs := t.occs ++ [n] }).setMgt fun g =>
      { g with events := g.events ++ [⟨0, faultBlk n inst, inst, n, 0, decide (s.reaction n = 0)⟩] } := by
  unfold State.occAt
  rw [if_neg (by rw [hclear]; exact Bool.false_ne_true)]
  dsimp only
  rw [if_neg hn, Option.isSome_none, Bool.and_false]
  rfl

/-- Settles O16. -/
theorem occurrenceWhileSet : Obligations.OccurrenceWhileSet :=
  ⟨fun _ _ inst u hset hwin => occAt_of_pendingBit hset hwin inst u, fun _ _ inst hclear hn => occAt_first hclear (by omega) inst⟩

/-! ### The enclave's checks -/

section Checks
variable {s : State} {r : SecRec}

theorem secRun_nonce (hnonce : r.nonce ≠ s.nonce) : s.secRun r = s.secDone 3 1 := by
  rw [State.secRun, if_pos hnonce]

theorem secRun_signature (hnonce : r.nonce = s.nonce) (hsig : s.signedBy r = false) : s.secRun r = (s.occAt 16 0 none).secDone 3 2 := by
  rw [State.secRun, if_neg (not_not_intro hnonce), if_pos (by rw [hsig]; rfl)]

theorem secRun_lifecycle (hnonce : r.nonce = s.nonce) (hsig : s.signedBy r = true) (hst : s.stateForbids r.op = true) :
    s.secRun r = s.secDone 3 3 := by
  rw [State.secRun, if_neg (not_not_intro hnonce), if_neg (by simp [hsig]), if_pos hst]

theorem secRun_argument (hnonce : r.nonce = s.nonce) (hsig : s.signedBy r = true) (hst : s.stateForbids r.op = false)
    (harg : s.argError r ≠ 0) : s.secRun r = s.secDone 3 (s.argError r) := by
  rw [State.secRun, if_neg (not_not_intro hnonce), if_neg (by simp [hsig]), if_neg (by simp [hst])]
  exact if_pos harg

end Checks

/-- Settles O17: the tests in their order, each where those before it pass. -/
theorem enclaveOrder : Obligations.EnclaveOrder :=
  ⟨fun _ _ => secRun_nonce, fun _ _ => secRun_signature, fun _ _ => secRun_lifecycle, fun _ _ => secRun_argument, fun _ _ _ => rfl⟩

end Sys2Proof.Machine
end

section
/-!
PROOFS. Register accesses of a path (R13 to R17, R55, R435): how a command with a guard completes, and the writes and reads that a path makes.
-/
namespace Sys2Proof.Machine
open Sys2Proof

/-! ### Completing a command -/

/-- A command of units that exist completes with its effect. -/
theorem next_of_within {o : Outcome} {s t : State} {ok : Bool} {f : State → State} (ho : o = s.within ok f) (hok : ok = true) (ht : f s = t) :
    o = .next t := by
  rw [ho, within_of hok, ht]

/-- A command without a guard completes with its effect. -/
theorem next_of_eq {o : Outcome} {u t : State} (ho : o = .next u) (ht : u = t) : o = .next t := by
  rw [ho, ht]

theorem guard_and {a b : Bool} (ha : a = true) (hb : b = true) : (a && b) = true := by rw [ha, hb]; rfl

/-! ### Accesses of a path -/

section Accesses
variable {s : State} {p : Path} {o : Nat}

theorem pathWrite_eq (v : Word) (hf : csrFails o = false) : s.pathWrite p o v = ((s.csrWrite p o v).writeDone).send (.csr p true 0) := by
  simp only [State.pathWrite, hf, Bool.false_eq_true, if_false]

/-- With no access held behind a commit, a read takes place at once. -/
theorem readCmd_open (ho : s.Open) (hf : csrFails o = false) : s.readCmd p o = (s.csrRead p o).1.send (.csr p true (s.csrRead p o).2) := by
  obtain ⟨hstg, hjobs, -, -⟩ := ho
  simp only [State.readCmd, State.waitsBehind, hstg, hjobs, List.any_nil, Bool.or_false, Bool.false_eq_true, if_false, State.pathRead, hf]

end Accesses

/-- A write of RUN before the start-up awaits it. -/
theorem runWrite_run {s : State} {v : Word} (hrun : F.GLB_STITCH_CTL_RUN.of v = 1)
    (hstep : ((s.storeAt R.GLB_STITCH_CTL v).put F.GLB_STITCH_CTL_RUN 0 1).step? ≠ 3) :
    s.runWrite v = (s.storeAt R.GLB_STITCH_CTL v).put F.GLB_STITCH_CTL_RUN 0 1 := by
  unfold State.runWrite
  rw [if_neg (by omega)]
  exact if_neg fun h => hstep h.1

/-- Settles O19. -/
theorem registerAccess : Obligations.RegisterAccess := by
  refine ⟨?plain, ?lowRead, ?highRead, ?lowWrite, ?highWrite, ?sticky, ?run⟩
  case plain =>
    intro s p off v d k hp ho hk hf hlo hhi hbank hreg hstg
    refine next_of_within (f := fun t => t.pathWrite p off v) rfl hp ?_
    rw [pathWrite_word hf hk hlo hhi ho hbank, wordNow_plain hreg, plainWrite_noStg hstg]
  case lowRead =>
    intro s p off d d2 k k2 hp ho hf hk hk2 hlo hhi hoff
    refine next_of_within (f := fun t => t.readCmd p off) rfl hp ?_
    have hread : s.csrRead p off =
        (s.setAcs fun a => { a with snaps := (p, k, s.viewWord p d2 k2) :: unkeyed a.snaps p k }, s.viewWord p d k) := by
      simp only [State.csrRead, hk, hk2, hhi, hlo, hoff, Bool.false_eq_true, if_false, if_true]
    rw [readCmd_open ho hf, hread]
  case highRead =>
    intro s p off d k w hp ho hf hk hhi hw
    refine next_of_within (f := fun t => t.readCmd p off) rfl hp ?_
    rw [readCmd_open ho hf, csrRead_hi_taken hk hhi hw]
  case lowWrite =>
    intro s p off v d k hp _ hquiet hf hk hlo hwr
    refine next_of_within (f := fun t => t.pathWrite p off v) rfl hp ?_
    rw [pathWrite_eq v hf, csrWrite_lo hk hlo hwr, writeDone_quiet (s := s.setAcs _) hquiet]
  case highWrite =>
    intro s p off v d d0 k k0 lo hp _ hf hk hk0 hlo hhi hheld
    refine next_of_within (f := fun t => t.pathWrite p off v) rfl hp ?_
    rw [pathWrite_eq v hf, csrWrite_hi_held hk hk0 hlo hhi hheld]
  case sticky =>
    intro s p off v w hp ho hw hoff
    refine next_of_within (f := fun t => t.pathWrite p off v) rfl hp ?_
    rw [hoff, pathWrite_FLT_STICKY ho hw]
  case run =>
    intro s p v s1 hp ho hrun hs1 hstep
    refine next_of_within (f := fun t => t.pathWrite p R.GLB_STITCH_CTL v) rfl hp ?_
    subst hs1
    rw [pathWrite_GLB_STITCH_CTL ho, runWrite_run hrun hstep]

end Sys2Proof.Machine
end

section
/-!
PROOFS. The commands of the swap (spec/02 R48 to R57).
-/
namespace Sys2Proof.Machine
open Sys2Proof

/-! ### ARM and DISARM -/

section SwapCtl
variable {s : State} {p : Path} {v : Word}

theorem swapCtlWrite_arm (harm : F.LAST_SWAP_CTL_ARM.of v = 1) (hdis : F.LAST_SWAP_CTL_DISARM.of v = 0)
    (hfree : s.armBlocked (F.LAST_SWAP_CTL_MASK.of v) = false) : s.swapCtlWrite p v = (s.storeAt R.LAST_SWAP_CTL v).armNow := by
  simp [State.swapCtlWrite, harm, hdis, hfree]

theorem swapCtlWrite_disarm (harm : F.LAST_SWAP_CTL_ARM.of v = 0) (hdis : F.LAST_SWAP_CTL_DISARM.of v = 1) :
    s.swapCtlWrite p v = (s.storeAt R.LAST_SWAP_CTL v).disarm := by
  simp [State.swapCtlWrite, harm, hdis]

/-- A swap that no check refuses is armed. -/
theorem armNow_of_armError (h : s.armError = 0) : s.armNow = ((s.setArm (some
    { target := s.swapTgt, mask := s.get F.LAST_SWAP_CTL_MASK 0, fabric := s.on F.LAST_SWAP_CTL_SCOPE 0, exchange := s.on F.LAST_SWAP_CTL_MODE 0
      held := [], fresh := [], done := [], failed := [], wasMixed := s.on F.LAST_ID_STATUS_MIXED 0 })).setSwapErr 0).setSwap swArmed := by
  simp only [State.armNow, h, ne_eq, not_true_eq_false, if_false]

/-- Before the lock point an armed swap is cancelled. -/
theorem disarm_before_lock {a : Arm} (ha : s.tim.arm = some a) (hlock : s.tim.num + 1 < a.target) :
    s.disarm = ((s.setArm none).setSwapErr 0).setSwap swIdle := by
  simp only [State.disarm, ha]
  rw [if_neg (by omega)]

end SwapCtl

/-! ### The blocks -/

/-- A block of a group without banks applies its registers, where the group's checks pass. -/
theorem blockSwap_unbanked {s : State} {g : Grp} {unit : Nat} {x : Bool} (hlb : g ≠ .lb) (hep : g ≠ .ep) (hml : g ≠ .ml)
    (hok : s.groupOk g = true) : s.blockSwap g unit x = ((s.applyKeys g x (unitHas g unit)).groupHook s g, true) := by
  cases g <;> simp_all [State.blockSwap, State.swapGroup]

/-- A masked block that holds the arm state, and has not applied yet, applies its group and is listed as done. -/
theorem applyBlock_held {s : State} {g : Grp} {unit : Nat} {a : Arm} (ha : s.tim.arm = some a) (hmask : a.mask.testBit g.bitNo = true)
    (hheld : (g.bitNo, unit) ∈ a.held) (hdone : (g.bitNo, unit) ∉ a.done) (hlb : g ≠ .lb) (hep : g ≠ .ep) (hml : g ≠ .ml)
    (hok : s.groupOk g = true) :
    s.applyBlock g unit = ((s.applyKeys g a.exchange (unitHas g unit)).groupHook s g).setTim fun t =>
      { t with arm := t.arm.map fun x => { x with done := x.done ++ [(g.bitNo, unit)] } } := by
  simp [State.applyBlock, ha, hmask, hheld, hdone, blockSwap_unbanked hlb hep hml hok]

/-- Settles O20. -/
theorem swapCommands : Obligations.SwapCommands := by
  refine ⟨?arm, ?disarm, ?apply, ?receive, ?late⟩
  case arm =>
    intro s p v s1 hp ho harm hdis hfree hs1 herr
    refine next_of_within (f := fun t => t.pathWrite p R.LAST_SWAP_CTL v) rfl hp ?_
    rw [pathWrite_LAST_SWAP_CTL ho, swapCtlWrite_arm harm hdis hfree, ← hs1, armNow_of_armError herr]
    rfl
  case disarm =>
    intro s p v s1 a hp ho harm hdis hs1 ha hlock
    refine next_of_within (f := fun t => t.pathWrite p R.LAST_SWAP_CTL v) rfl hp ?_
    rw [pathWrite_LAST_SWAP_CTL ho, swapCtlWrite_disarm harm hdis, ← hs1, disarm_before_lock ha hlock]
    rfl
  case apply =>
    intro s g unit a hunit ha hrun hnum hscope hlate hmask hheld hdone hlb hep hml hok
    refine next_of_within (f := fun t => (t.swapApply g unit).writeDone) rfl ((blocks_contains g unit).trans hunit) ?_
    have hnow : s.swapApply g unit = s.applyBlock g unit := by
      simp [State.swapApply, ha, hrun, hnum, hscope, hlate]
    rw [hnow, applyBlock_held ha hmask hheld hdone hlb hep hml hok]
  case receive =>
    intro s g unit a hunit ha hmask hheld
    refine next_of_within (f := fun t => t.armRx g unit) rfl ((blocks_contains g unit).trans hunit) ?_
    have hblock : unit ∈ State.armRx.blocks g := List.contains_iff_mem.mp ((blocks_contains g unit).trans hunit)
    simp [State.armRx, ha, hmask, hheld, hblock]
  case late =>
    intro s g unit a hunit ha hlate hfresh
    refine next_of_within (f := fun t => (t.swapLate g unit).writeDone) rfl ((blocks_contains g unit).trans hunit) ?_
    simp [State.swapLate, ha, hlate, hfresh]

end Sys2Proof.Machine
end

section
/-!
PROOFS. Markers, alignment states, the pin, the backup root, epochs and the boundary (spec/02 R46, R61 to R67).
-/
namespace Sys2Proof.Machine
open Sys2Proof

/-! ### The alignment states (R67) -/

/-- A change of the alignment state shows the new state, clears DRIFT and records the change. -/
theorem alignTo_of_ne {s : State} {st old : Nat} (hold : s.astate = old) (hne : old ≠ st) :
    s.alignTo st = ((s.put F.GLB_STITCH_STATUS_STATE 0 st).put F.GLB_STITCH_STATUS_DRIFT 0 0).event clsTiming 0 0 1 (st + 8 * old) := by
  rw [State.alignTo, hold, if_neg hne]

/-- OUT, from any other state. -/
theorem alignOut_of_ne {s : State} {old : Nat} (hold : s.astate = old) (hne : old ≠ 5) :
    s.alignOut = ((((s.put F.GLB_STITCH_STATUS_STATE 0 5).put F.GLB_STITCH_STATUS_DRIFT 0 0).event clsTiming 0 0 1 (5 + 8 * old)).setTim fun t =>
      { t with hold := none }).occAt 2 0 none := by
  rw [State.alignOut, show asOut = 5 from rfl, alignTo_of_ne hold hne]

/-! ### The pin (R66) -/

/-- A short pulse within its period is remembered and gives the phase. -/
theorem pinPulse_good {s : State} {period : Nat} {ofs x : Int} (hsrc : s.stSrc = srcPin) (hrun : s.tim.running = true)
    (hlo : 2558 ≤ period) (hhi : period ≤ 2562) (hx : x = (ofs + signed 16 (s.get F.GLB_STITCH_PINADJ_DELAY 0)) % 20480) :
    s.pinPulse false period ofs = (s.setTim fun t => { t with pinSeen := true }).setPhase (if x < 10240 then -x else 20480 - x) := by
  subst hx
  have hgood : (decide (period < 2558) || decide (2562 < period)) = false := by simp; omega
  simp [State.pinPulse, hsrc, hrun, hgood]

/-! ### Epochs and the boundary -/

theorem epochEnd_nil {s : State} (h : s.tim.epochEnds = []) (e : Epoch) : s.epochEnd e = s := by
  simp [State.epochEnd, h]

/-- With no epoch ended and no swap armed, a boundary runs its turns and nothing before them. -/
theorem boundary_turns {s : State} (smp : Samples) (hrun : s.on F.GLB_STITCH_CTL_RUN 0 = true) (hends : s.tim.epochEnds = [])
    (harm : s.tim.arm = none) {s1 s2 s3 : State}
    (h1 : s1 = (((s.setMgt fun g => { g with events := [] }).numberTurn s.nextNum.1 s.nextNum.2).soleTurn))
    (h2 : s2 = (s1.homeTurn.insoleTurn.mgmtTurn s.tim.num s.mgt.events).aonTurn smp s.flt.occs.length)
    (h3 : s3 = s2.bankTurn (((List.range 8).filter s2.flows).map fun m => (m, (s2.setTim fun t => { t with seen := s.tim.seen }).markerFor m))) :
    s.boundary smp = ((s3.epochTurn (!s.tim.running) s.nextNum.2).swapFinish).releaseIn.drainAgain.settle := by
  have hepochs : s.each [Epoch.heat, .acct, .tel, .fw] State.epochEnd = s := by simp [State.each, epochEnd_nil hends]
  have hswap : s.swapTurn s.nextNum.1 = s := by simp [State.swapTurn, harm]
  unfold State.boundary
  rw [if_neg (by simp [hrun]), hepochs]
  dsimp only
  rw [hswap, ← h1, ← h2, ← h3]

/-- Settles O21. -/
theorem alignmentCommands : Obligations.AlignmentCommands := by
  refine ⟨?marker, ?acquired, ?lost, ?sourceLost, ?holdExpiry, ?backup, ?pin, ?firmwareEpoch, ?heatEpoch, ?boundary⟩
  case marker =>
    intro s m mk rootOfs arrival hm hflows hrun hup
    refine next_of_within (f := fun t => t.markerRx m mk rootOfs arrival) rfl (decide_eq_true hm) ?_
    simp [State.markerRx, hflows, hrun, hup]
  case acquired =>
    intro s hst hok hfences
    have hop : s.alignAcquired = (s.alignTo 3).setTim fun t => { t with badRun := 0 } := if_pos ⟨hst, hok⟩
    refine next_of_eq (u := s.alignAcquired.settle) rfl ?_
    rw [hop, alignTo_of_ne hst (by decide), settle_nil]
    exact hfences
  case lost =>
    intro s hst hbad
    have hop : s.alignLost = s.alignOut := if_pos ⟨hst, hbad⟩
    refine next_of_eq (u := s.alignLost.settle) rfl ?_
    rw [hop, alignOut_of_ne hst (by decide)]
  case sourceLost =>
    intro s hlost hst hlim
    have hop : s.sourceLost = ((s.alignTo 4).setTim fun t => { t with hold := some (s.after (s.get F.GLB_STITCH_HOLD_LIMIT 0)) }).occAt 3 0 none := by
      simp [State.sourceLost, hlost, hst, hlim, asAligned, asHoldover]
    refine next_of_eq (u := s.sourceLost.settle) rfl ?_
    rw [hop, alignTo_of_ne hst (by decide)]
  case holdExpiry =>
    intro s hst hdue
    have hop : s.holdExpiry = s.alignOut := if_pos ⟨hst, hdue⟩
    refine next_of_eq (u := s.holdExpiry.settle) rfl ?_
    rw [hop, alignOut_of_ne hst (by decide)]
  case backup =>
    intro s i hno hsrc hrun hfences
    have hop : s.backupTakes = s.setTim fun t => { t with actingRoot := true } := by simp [State.backupTakes, hno, hsrc, hrun]
    refine next_of_eq (u := s.backupTakes.settle) rfl ?_
    rw [hop, settle_nil (s := s.setTim _) hfences]
  case pin =>
    intro s long period ofs x hsrc hrun hlo hhi hlong hx
    subst hlong
    exact next_of_eq rfl (pinPulse_good hsrc hrun hlo hhi hx)
  case firmwareEpoch =>
    intro s e he hend
    subst he
    refine next_of_eq (u := (s.epochEnd .fw).writeDone) rfl ?_
    simp only [State.epochEnd, hend, Bool.not_true, Bool.false_eq_true, if_false]
  case heatEpoch =>
    intro s e he hend hscan
    subst he
    have hidle : (s.setTim fun t => { t with epochEnds := t.epochEnds.filter (· != .heat) }).on F.INS_TIER_STATUS_SCANNING 0 = false := hscan
    refine next_of_eq (u := (s.epochEnd .heat).writeDone) rfl ?_
    simp only [State.epochEnd, hend, Bool.not_true, Bool.false_eq_true, if_false, State.heatEnd, hidle]
  case boundary =>
    intro s smp s1 s2 s3 hrun hends harm h1 h2 h3
    exact next_of_eq rfl (boundary_turns smp hrun hends harm h1 h2 h3)

end Sys2Proof.Machine
end

section
/-!
PROOFS. The Last: a load and its states (R80 to R87), held writes and arms (R85), and the firmware's images (R93 to R97).
-/
namespace Sys2Proof.Machine
open Sys2Proof

/-! ### LAST_LOAD_CTL -/

section LoadCtl
variable {s : State} {v : Word}

/-- START where no load is under way, from a source that has an image. -/
theorem loadCtlWrite_start (hstart : F.LAST_LOAD_CTL_START.of v = 1) (hst : s.loadState = 0 ∨ s.loadState = lsCommitted ∨ s.loadState = lsFailed)
    (hsrc : (s.storeAt R.LAST_LOAD_CTL v).get F.LAST_LOAD_CTL_SRC 0 ≠ 0) :
    s.loadCtlWrite v = (s.storeAt R.LAST_LOAD_CTL v).loadBegin ((s.storeAt R.LAST_LOAD_CTL v).get F.LAST_LOAD_CTL_SRC 0) := by
  unfold State.loadCtlWrite
  dsimp only
  rw [if_pos hst, if_pos (by simp [hstart, hsrc])]

/-- ABORT of a load before COMMIT. -/
theorem loadCtlWrite_abort (hstart : F.LAST_LOAD_CTL_START.of v = 0) (habort : F.LAST_LOAD_CTL_ABORT.of v = 1)
    (hlo : 1 ≤ s.loadState) (hhi : s.loadState ≤ 4) :
    s.loadCtlWrite v = if s.loadState = 2 then ((s.storeAt R.LAST_LOAD_CTL v).loadFail ⟨19, 0, 0, none⟩).secNext
      else (s.storeAt R.LAST_LOAD_CTL v).loadFail ⟨19, 0, 0, none⟩ := by
  have hunder : ¬(s.loadState = 0 ∨ s.loadState = lsCommitted ∨ s.loadState = lsFailed) := by simp only [lsCommitted, lsFailed]; omega
  have hbefore : s.loadState ≠ lsCommit := by simp only [lsCommit]; omega
  unfold State.loadCtlWrite
  dsimp only
  rw [if_neg hunder]
  simp [hstart, habort, hbefore, lsAuth, leAborted]

end LoadCtl

/-! ### The checks of a load -/

section Checks
variable {s : State} {l : Load}

theorem secNext_nil (h : s.sec.waiting = []) : s.secNext = s := by
  have hsame : (s.setSec fun x => { x with waiting := [] }) = s := by
    unfold State.setSec
    rw [← h]
  unfold State.secNext
  rw [h, hsame]
  rfl

/-- FETCH goes on to AUTH with what the header says. -/
theorem fetchDone_pass (hload : s.las.load = some l) (hst : s.loadState = lsFetch) (hok : s.fetchErr l.src l.boot = none) :
    s.fetchDone none = (s.updLoad fun x =>
      { x with len := s.imgLen l.src, partImg := s.imgN l.src 6 2 == 2, buildId := s.imgN l.src 0x10 8, baseId := s.imgN l.src 0x18 8
               svn := s.imgN l.src 0x28 4
               groups := if s.imgN l.src 6 2 == 2 then allGrps.filter fun g => (s.sects l.src).any fun z => sectGrp z.ty == some g else allGrps
               digests := ((s.sects l.src).filter fun z => structural z.ty).map (·.digest) }).setLoadState 2 := by
  unfold State.fetchDone
  rw [hload]
  dsimp only
  rw [if_neg (not_not_intro hst), show sourceErr none = none from rfl, hok]
  rfl

/-- AUTH goes on to CHECK. -/
theorem authDone_pass {sigOk : Bool} (hload : s.las.load = some l) (hst : s.loadState = lsAuth) (hok : s.authErr l.src l.boot sigOk = none)
    (hwait : s.sec.waiting = []) : s.authDone sigOk = s.setLoadState 3 := by
  unfold State.authDone
  rw [hload]
  dsimp only
  rw [if_neg (not_not_intro hst), hok]
  exact secNext_nil hwait

/-- CHECK goes on to VERIFIED with the writes of the image's bodies. -/
theorem checkDone_pass {digestOk : List Bool} {structWrites : List RecWrite} {staged : List (Grp × List RecWrite)} (hload : s.las.load = some l)
    (hst : s.loadState = lsCheck) (hbodies : s.checkBodies l.src digestOk = (none, structWrites, staged)) (hbase : baseErr l l.startId = none)
    (hstruct : l.partImg = true ∨ l.boot = true ∨ l.digests = s.las.structDigests) :
    s.checkDone none digestOk = (s.updLoad fun x => { x with structural := structWrites, staged := staged }).setLoadState 4 := by
  have hsame : (!l.partImg && !l.boot && l.digests != s.las.structDigests) = false := by
    obtain h | h | h := hstruct <;> simp [h]
  unfold State.checkDone
  rw [hload]
  dsimp only
  rw [if_neg (not_not_intro hst), hbodies, hbase, hsame]
  rfl

/-- VERIFIED goes on to COMMIT of a runtime load. -/
theorem commitStart_pass (hload : s.las.load = some l) (hst : s.loadState = lsVerified) (hshare : s.armShares l = false)
    (hbase : baseErr l (if s.on F.LAST_ID_STATUS_MIXED 0 then none else some s.activeId) = none) (hboot : l.boot = false) :
    s.commitStart = (s.setLoadState 5).setLas fun x => { x with committing := l.groups.head? } := by
  have hgo : ¬(s.loadState ≠ lsVerified || s.armShares l) = true := by simp [hst, hshare]
  unfold State.commitStart
  rw [hload]
  dsimp only
  rw [if_neg hgo, hbase]
  simp only [hboot, Bool.false_eq_true, if_false, lsCommit]

/-- The commit's end of a runtime load. -/
theorem commitDone_runtime (hload : s.las.load = some l) (hst : s.loadState = lsCommit) (hboot : l.boot = false) (hgroups : l.groups ≠ []) :
    s.commitDone = ((((s.commitAll 15).setStagedId l.buildId).setLoadState 6).loadEvent 6 0 l.buildId).setLas fun x =>
      { x with load := none, committing := none, lastGroups := l.groups } := by
  have hne : l.groups.isEmpty = false := by simpa using hgroups
  unfold State.commitDone
  rw [hload]
  dsimp only
  rw [if_neg (not_not_intro hst)]
  simp only [hne, hboot, Bool.false_eq_true, if_false, lsCommitted]

end Checks

/-- Settles O22. -/
theorem loadCommands : Obligations.LoadCommands := by
  refine ⟨?start, ?abort, ?fetch, ?auth, ?check, ?commitStart, ?commitDone⟩
  case start =>
    intro s p v s1 hp ho hstart hst hs1 hsrc
    refine next_of_within (f := fun t => t.pathWrite p R.LAST_LOAD_CTL v) rfl hp ?_
    subst hs1
    rw [pathWrite_LAST_LOAD_CTL ho, loadCtlWrite_start hstart hst hsrc]
  case abort =>
    intro s p v s3 hp ho hstart habort hlo hhi hs3
    refine next_of_within (f := fun t => t.pathWrite p R.LAST_LOAD_CTL v) rfl hp ?_
    rw [pathWrite_LAST_LOAD_CTL ho, loadCtlWrite_abort hstart habort hlo hhi, ← hs3]
  case fetch =>
    intro s srcErr l hload hst hok hsrc
    subst hsrc
    exact next_of_eq (u := (s.fetchDone none).settle) rfl (congrArg State.settle (fetchDone_pass hload hst hok))
  case auth =>
    intro s sigOk l hload hst hok hwait
    exact next_of_eq (u := (s.authDone sigOk).writeDone) rfl (congrArg State.writeDone (authDone_pass hload hst hok hwait))
  case check =>
    intro s srcErr digestOk l structWrites staged hload hst hsrc hbodies hbase hstruct
    subst hsrc
    exact next_of_eq (u := (s.checkDone none digestOk).settle) rfl (congrArg State.settle (checkDone_pass hload hst hbodies hbase hstruct))
  case commitStart =>
    intro s l hload hst hshare hbase hboot
    exact next_of_eq (u := s.commitStart.writeDone) rfl (congrArg State.writeDone (commitStart_pass hload hst hshare hbase hboot))
  case commitDone =>
    intro s l hload hst hboot hgroups
    refine next_of_eq (u := s.commitEnd) rfl ?_
    rw [State.commitEnd, commitDone_runtime hload hst hboot hgroups]

/-! ### Held writes and arms, and the firmware -/

theorem grpDone_eq {s : State} {l : Load} {g : Grp} (hload : s.las.load = some l) (hgrp : s.las.committing = some g) :
    s.grpDone = ((s.commitGrp l g).updLoad fun x => { x with doneGrps := x.doneGrps ++ [g] }).setLas fun x =>
      { x with committing := l.groups.find? fun k => k != g && !l.doneGrps.contains k } := by
  unfold State.grpDone
  rw [hload, hgrp]

/-- A single held arm whose groups are committed is performed. -/
theorem heldArms_single {s : State} {p : Path} {v : Word} (hheld : s.las.heldArm = [(p, v)])
    (hfree : s.armBlocked (F.LAST_SWAP_CTL_MASK.of v) = false) :
    s.heldArms = ((s.setLas fun l => { l with heldArm := [] }).storeAt R.LAST_SWAP_CTL v).armNow := by
  have hnow : (s.las.heldArm.filter fun e => !s.armBlocked (F.LAST_SWAP_CTL_MASK.of e.2)) = [(p, v)] := by
    rw [hheld, List.filter_singleton, hfree]
    rfl
  have hrest : (s.las.heldArm.filter fun e => s.armBlocked (F.LAST_SWAP_CTL_MASK.of e.2)) = [] := by
    rw [hheld, List.filter_singleton, hfree]
    rfl
  unfold State.heldArms
  rw [hnow]
  unfold State.setLas State.each
  dsimp only
  rw [hrest, List.foldl_cons, List.foldl_nil]

/-- Firmware that passes its checks runs, and the start-up goes on. -/
theorem firmwareDone_pass {s s1 : State} {svn : Nat} (hrun : s.las.fwRunning = false) (hrec : s.las.recovery = false)
    (hsvn : s.get F.SEC_FW_SVN_MIN_SVN 0 ≤ svn) (hself : s.on F.SEC_STATUS_SELFTEST_OK 0 = true) (herr : s.secError = false)
    (hs1 : s1 = ((s.put F.SEC_FW_SVN_SVN 0 svn).setLas fun l => { l with fwRunning := true, confirm := some (s.after 58593750) }).each (List.range 4)
      fun t c => t.put F.CLK_CORE_STATUS_STATE (4 * c) (if t.on F.CLK_CORE_CTL_HOLD (4 * c) then 0 else 1))
    (hstep : s1.step? = 2) : s.firmwareDone true svn = s1.setStep 3 := by
  have hgood : (true && decide (s.get F.SEC_FW_SVN_MIN_SVN 0 ≤ svn) && s.on F.SEC_STATUS_SELFTEST_OK 0 && !s.secError) = true := by
    simp [hsvn, hself, herr]
  unfold State.firmwareDone
  rw [if_neg (by simp [hrun, hrec]), if_pos hgood]
  dsimp only
  rw [← hs1, if_pos hstep]

/-- Settles O23. -/
theorem heldAndBootCommands : Obligations.HeldAndBootCommands := by
  refine ⟨?heldWrites, ?heldArm, ?firmware, ?confirm, ?timeout, ?prefer⟩
  case heldWrites =>
    intro s l g hload hgrp
    refine next_of_eq (u := s.heldRelease) rfl ?_
    rw [State.heldRelease, grpDone_eq hload hgrp]
  case heldArm =>
    intro s p v hheld hfree
    refine next_of_eq (u := s.heldArms.writeDone) rfl ?_
    rw [heldArms_single hheld hfree]
  case firmware =>
    intro s ok svn s1 hhold hrun hrec hok hsvn hself herr hs1 hstep
    refine next_of_eq (u := if s.on F.GLB_RST_MGMT_HOLD 0 then s else (s.firmwareDone ok svn).writeDone) rfl ?_
    rw [if_neg (by simp [hhold]), hok, firmwareDone_pass hrun hrec hsvn hself herr hs1 hstep]
  case confirm =>
    intro s p v s1 hp ho hconfirm hs1 hst
    have hop : s.confirmWrite v = s1 := by
      unfold State.confirmWrite
      rw [if_pos hconfirm]
      dsimp only
      rw [← hs1, if_neg hst]
    refine next_of_within (f := fun t => t.pathWrite p R.LAST_BOOT v) rfl hp ?_
    rw [pathWrite_LAST_BOOT ho, hop]
  case timeout =>
    intro s e hconfirm hdue
    refine next_of_eq (u := s.confirmTimeout.writeDone) rfl ?_
    simp only [State.confirmTimeout, hconfirm, hdue, Bool.true_or, if_true]
  case prefer =>
    intro s p v hp ho
    refine next_of_within (f := fun t => t.pathWrite p R.LAST_BOOT_PREF v) rfl hp ?_
    rw [pathWrite_LAST_BOOT_PREF ho, State.prefWrite]

end Sys2Proof.Machine
end

section
/-!
PROOFS. Losses of lock and the relock, adaptation, snapshots and margins of a lane (spec/04 R110 to R120).
-/
namespace Sys2Proof.Machine
open Sys2Proof

theorem isLane_of {b l : Nat} (hb : b < 20) (hl : l < 16) : isLane b l = true := guard_and (decide_eq_true hb) (decide_eq_true hl)

/-! ### Losses and relocks -/

section Losses
variable {s : State} {b l e : Nat}

theorem laneBlockLoss_data (hm : 16 ≤ b) (hst : s.laneState b l = lsData) :
    s.laneBlockLoss b l = ((((s.laneTo b l lsAlign).put F.LB_LANE_STATUS_BLOCK_LOCK (dLane b l) 0).bump F.LB_LANE_ERR_BAD_HDR (dLane b l) 16).count b 8
      l 0 16).laneLoss b l .block := if_pos (by simp [isMornu, hm, hst])

theorem laneCdrLoss_locked (hst : lsCdr ≤ s.laneState b l) :
    s.laneCdrLoss b l = ((((s.laneTo b l lsCdr).put F.LB_LANE_STATUS_CDR_LOCK (dLane b l) 0).put F.LB_LANE_STATUS_BLOCK_LOCK (dLane b l) 0).setLane b l
      fun x => { x with timer := none }).laneLoss b l .cdr := if_pos hst

theorem laneRelock_block (hst : s.laneState b l = lsAlign) (hrel : (s.lane b l).relock = some (.block, e)) (hdue : s.due e = false) :
    s.laneRelock b l = s.laneBlockRelocked b l := by
  simp [State.laneRelock, hrel, hdue, hst]

theorem laneRelockTimeout_due {k : Relock} (hrel : (s.lane b l).relock = some (k, e)) (hdue : s.due e = true) :
    s.laneRelockTimeout b l = s.laneLasting b l k := by
  simp only [State.laneRelockTimeout, hrel, hdue, if_true]

theorem laneRelockStable_due {k : Relock} (hst : (s.lane b l).stable = some (k, e)) (hdue : s.due e = true) :
    s.laneRelockStable b l = (s.bump F.LB_LANE_ERR_RELOCKS (dLane b l) 1).setLane b l fun x => { x with stable := none } := by
  simp only [State.laneRelockStable, hst, hdue, if_true]

end Losses

/-! ### Adaptation and margins -/

section Margins
variable {s : State} {b l k n : Nat} {v : Word}

/-- With the CTLE frozen only the DFE taps move, unless they are frozen too. -/
theorem adaptUpdate_frozenCtle (hst : lsAdapt ≤ s.laneState b l) (hctle : s.on F.LB_LANE_ADAPT_FREEZE_CTLE (dLane b l) = true) :
    s.adaptUpdate b l = (s.usedFree.usedFree.freeBytes (s.dfeTaps b l)).1.setLane b l fun x =>
      { x with dfe := if s.on F.LB_LANE_ADAPT_FREEZE_DFE (dLane b l) then x.dfe else (s.usedFree.usedFree.freeBytes (s.dfeTaps b l)).2 } := by
  unfold State.adaptUpdate
  dsimp only
  rw [if_neg (by omega)]
  simp only [hctle, if_true]

/-- START of a scan of a lane in DATA, with none under way: its directions are cleared and the first point of the first one is taken. -/
theorem marginWrite_start {s1 : State} (hstart : F.LB_LANE_MARGIN_CTL_START.of v = 1) (hs1 : s1 = s.storeAt (R.LB_LANE_MARGIN_CTL + dLane b l) v)
    (hscan : (s1.lane b l).scan = none) (hhost : s1.on F.LB_LANE_MARGIN_STATUS_HOST (dLane b l) = false)
    (hdir : nextDir (s1.get F.LB_LANE_MARGIN_CTL_MODE (dLane b l)) 0 = some k) (hst : s1.laneState b l = lsData) :
    s.marginWrite b l v =
      ((((s1.each ((List.range 4).filter fun j => (s1.get F.LB_LANE_MARGIN_CTL_MODE (dLane b l)).testBit j) fun t j => t.put (marginFld j) (dLane b l)
        0).put F.LB_LANE_MARGIN_STATUS_STATE (dLane b l) 1).put F.LB_LANE_MARGIN_STATUS_ERR (dLane b l) 0).setLane b l fun x =>
        { x with scan := some (k, 1) }) := by
  unfold State.marginWrite
  dsimp only
  rw [← hs1, if_neg (by omega), if_neg (by simp [hscan, hhost]), hdir]
  dsimp only
  rw [if_neg (not_not_intro hst)]

/-- A point that passes below the limit is followed by the next of its direction. -/
theorem marginPoint_next (hscan : (s.lane b l).scan = some (k, n)) (hn : n < marginLimit k) :
    s.marginPoint b l true = (s.put (marginFld k) (dLane b l) n).setLane b l fun x => { x with scan := some (k, n + 1) } := by
  simp [State.marginPoint, hscan, hn]

/-- A direction's last point, with no direction left, ends the scan. -/
theorem marginPoint_last {pass : Bool} (hscan : (s.lane b l).scan = some (k, n)) (hend : pass = false ∨ n = marginLimit k)
    (hdir : nextDir (s.get F.LB_LANE_MARGIN_CTL_MODE (dLane b l)) (k + 1) = none) :
    s.marginPoint b l pass = ((s.put (marginFld k) (dLane b l) (if pass then n else n - 1)).put F.LB_LANE_MARGIN_STATUS_STATE (dLane b l) 2).setLane b l
      fun x => { x with scan := none } := by
  have hstop : (pass && decide (n < marginLimit k)) = false := by
    obtain h | h := hend <;> simp [h]
  simp only [State.marginPoint, hscan, hstop, Bool.false_eq_true, if_false, hdir]

theorem hostMargin_start (hscan : (s.lane b l).scan = none) : s.hostMargin b l true = s.put F.LB_LANE_MARGIN_STATUS_HOST (dLane b l) 1 := by
  simp [State.hostMargin, hscan, bit]

end Margins

/-- Settles O25. -/
theorem laneLosses : Obligations.LaneLosses := by
  refine ⟨?blockLoss, ?cdrLoss, ?relock, ?relockTimeout, ?stable, ?adapt, ?freeze, ?snap, ?scanStart, ?pointNext, ?pointLast, ?host⟩
  case blockLoss =>
    intro s b l hb hl hm hst
    refine next_of_within (f := fun t => t.lanesFollow (t.laneBlockLoss b l) b) rfl (isLane_of hb hl) ?_
    rw [laneBlockLoss_data hm hst]
    rfl
  case cdrLoss =>
    intro s b l hb hl hst
    refine next_of_within (f := fun t => t.lanesFollow (t.laneCdrLoss b l) b) rfl (isLane_of hb hl) ?_
    rw [laneCdrLoss_locked hst]
    rfl
  case relock =>
    intro s b l e hb hl hst hrel hdue
    refine next_of_within (f := fun t => t.lanesFollow (t.laneRelock b l) b) rfl (isLane_of hb hl) ?_
    rw [laneRelock_block hst hrel hdue]
    rfl
  case relockTimeout =>
    intro s b l k e hb hl hrel hdue
    refine next_of_within (f := fun t => t.lanesFollow (t.laneRelockTimeout b l) b) rfl (isLane_of hb hl) ?_
    rw [laneRelockTimeout_due hrel hdue, State.laneLasting]
  case stable =>
    intro s b l k e hb hl hst hdue
    exact next_of_within (f := fun t => t.laneRelockStable b l) rfl (isLane_of hb hl) (laneRelockStable_due hst hdue)
  case adapt =>
    intro s b l r hb hl hst hctle hr
    subst hr
    exact next_of_within (f := fun t => t.adaptUpdate b l) rfl (isLane_of hb hl) (adaptUpdate_frozenCtle hst hctle)
  case freeze =>
    intro s p b l v hp ho hb hl hup hsnap
    refine next_of_within (f := fun t => t.pathWrite p (R.LB_LANE_ADAPT + dLane b l) v) rfl (guard_and hp (isLane_of hb hl)) ?_
    rw [pathWrite_LB_LANE_ADAPT ho hb hl hup, State.laneAdaptWrite, if_neg (by omega)]
  case snap =>
    intro s p b l v hp ho hb hl hup hsnap
    refine next_of_within (f := fun t => t.pathWrite p (R.LB_LANE_ADAPT + dLane b l) v) rfl (guard_and hp (isLane_of hb hl)) ?_
    rw [pathWrite_LB_LANE_ADAPT ho hb hl hup, State.laneAdaptWrite, if_pos hsnap]
  case scanStart =>
    intro s p b l v s1 s2 mode k hp ho hb hl hup hstart hs1 hscan hhost hmode hdir hst hs2
    refine next_of_within (f := fun t => t.pathWrite p (R.LB_LANE_MARGIN_CTL + dLane b l) v) rfl (guard_and hp (isLane_of hb hl)) ?_
    subst hmode hs2
    rw [pathWrite_LB_LANE_MARGIN_CTL ho hb hl hup, marginWrite_start hstart hs1 hscan hhost hdir hst]
  case pointNext =>
    intro s b l pass k n hb hl hscan hpass hn
    subst hpass
    exact next_of_within (f := fun t => t.marginPoint b l true) rfl (isLane_of hb hl) (marginPoint_next hscan hn)
  case pointLast =>
    intro s b l pass k n hb hl hscan hend hdir
    exact next_of_within (f := fun t => t.marginPoint b l pass) rfl (isLane_of hb hl) (marginPoint_last hscan hend hdir)
  case host =>
    intro s b l start hb hl hstart hscan
    subst hstart
    exact next_of_within (f := fun t => t.hostMargin b l true) rfl (isLane_of hb hl) (hostMargin_start hscan)

end Sys2Proof.Machine
end

section
/-!
PROOFS. The commands of the lane banks: wake, park, ready, PLL loss and lane family (spec/04 R103, R121 to R123).
-/
namespace Sys2Proof.Machine
open Sys2Proof

section Banks
variable {s : State} {b : Nat}

theorem bankWake_off (hen : s.bankEn b = true) (hst : s.bankState b = 0) : s.bankWake b = (s.setBankState b 1).wakeAdd b := by
  simp [State.bankWake, hen, hst]

theorem bankPark_idle (hst : s.bankState b = 3) (hidle : s.bankIdle b = true) :
    s.bankPark b = (s.setBankState b 4).setBank b fun x => { x with timer := some (s.after 10), stable := none } := by
  simp only [State.bankPark, hst, hidle, if_true]

/-- A Mornu bank whose PLL and calibration succeed comes up, and both its links with it. -/
theorem bankReady_mornu (hm : 16 ≤ b) (hst : s.bankState b = 2) (htimer : s.reachedO (s.bank b).timer = true) :
    s.bankReady b true true =
      ((((s.applyMissed b).bankUp b).mlBankReady (2 * (b - 16))).mlBankReady (2 * (b - 16) + 1)).writeDone := by
  have hmornu : isMornu b = true := decide_eq_true hm
  unfold State.bankReady
  rw [if_neg (not_not_intro hst), if_neg (by decide), if_neg (by decide), if_pos htimer]
  dsimp only
  rw [if_pos hmornu]
  simp only [State.each, List.foldl_cons, List.foldl_nil]

/-- The loss of the PLL of a READY bank that neither retries nor has just relocked. -/
theorem pllUnlock_ready (hst : s.bankState b = 3) (hrel : (s.bank b).relocking = false) (hfam : (s.bank b).family = none)
    (hstable : (s.bank b).stable = none) :
    s.pllUnlock b = (State.bankLinksDown (((s.bankLanesIdle b).pllLock b 0).setBank b fun x =>
      { x with relocking := true, timer := some (s.after 250), stable := none }) b).writeDone := by
  have hnow : ¬(s.bankState b ≠ 3 ∨ (s.bank b).relocking = true ∨ (s.bank b).family.isSome = true) := by simp [hst, hrel, hfam]
  have hlost : s.pllLost b = ((s.bankLanesIdle b).pllLock b 0).setBank b fun x =>
      { x with relocking := true, timer := some (s.after 250), stable := none } := by
    unfold State.pllLost
    rw [hstable]
    rfl
  rw [State.pllUnlock, if_neg hnow, hlost]

/-- The PLL has locked again: the bank's ports or links train. -/
theorem pllRetried_locked {locked : Bool} {s1 : State} (hrel : (s.bank b).relocking = true) (hs1 : s1 = s.pllRelock b locked)
    (hst : s1.bankState b = 3) (hdone : (s1.bank b).relocking = false) : s.pllRetried b locked = (s1.bankTrains b).writeDone := by
  unfold State.pllRetried
  dsimp only
  rw [hrel, ← hs1, if_neg (by decide), if_neg (not_not_intro hst), hdone, if_neg (by decide)]

/-- A change of the family of a READY Mornu bank starts its PLL again, and both links lose their lanes. -/
theorem familyWrite_change {v : Word} {s1 s2 : State} {r : Nat} (hm : 16 ≤ b) (hst : s.bankState b = 3)
    (hs1 : s1 = s.storeAt (R.LB_BANK_CTL + dBank b) v) (hne : s1.get F.LB_BANK_CTL_FAMILY (dBank b) ≠ s.get F.LB_BANK_CTL_FAMILY (dBank b))
    (hs2 : s2 = ((s1.put F.LB_BANK_STATUS_PLL_LOCK_A (dBank b) 0).setBank b fun x => { x with family := some (s.after 150) }).bankLanesIdle b)
    (hr : r = if s1.get F.LB_BANK_CTL_FAMILY (dBank b) = 0 then 0 else 1) :
    s.familyWrite b v = (((s2.put F.ML_LINK_STATUS_RATE (dLink (2 * (b - 16))) r).mlLanesLost (2 * (b - 16))).put F.ML_LINK_STATUS_RATE
      (dLink (2 * (b - 16) + 1)) r).mlLanesLost (2 * (b - 16) + 1) := by
  have hchange : (isMornu b && s1.get F.LB_BANK_CTL_FAMILY (dBank b) != s.get F.LB_BANK_CTL_FAMILY (dBank b) && s.bankState b == 3) = true := by
    simp [isMornu, hm, hne, hst]
  unfold State.familyWrite
  dsimp only
  rw [← hs1, if_pos hchange, ← hs2, ← hr]
  rfl

/-- The PLL of the new family has locked: both links, still in TRAIN, train from the start. -/
theorem familyDone_trains {s1 s2 : State} (htimer : s.reachedO (s.bank b).family = true)
    (hs1 : s1 = (s.put F.LB_BANK_STATUS_PLL_LOCK_A (dBank b) 1).setBank b fun x => { x with family := none })
    (hst1 : s1.mlState (2 * (b - 16)) = mlTrain) (hs2 : s2 = s1.mlTrainOn (2 * (b - 16)) 0) (hst2 : s2.mlState (2 * (b - 16) + 1) = mlTrain) :
    s.familyDone b = s2.mlTrainOn (2 * (b - 16) + 1) 0 := by
  unfold State.familyDone
  rw [if_pos htimer]
  dsimp only [State.each, List.foldl_cons, List.foldl_nil]
  rw [← hs1, if_pos hst1, ← hs2, if_pos hst2]

end Banks

/-- Settles O26. -/
theorem bankCommands : Obligations.BankCommands := by
  refine ⟨?wake, ?park, ?ready, ?parked, ?unlock, ?relocked, ?family, ?familyDone⟩
  case wake =>
    intro s p b v s1 hp ho hb hoff hwake hpark hs1 hen hst
    refine next_of_within (f := fun t => t.pathWrite p (R.LB_BANK_CTL + dBank b) v) rfl (guard_and hp (decide_eq_true hb)) ?_
    rw [pathWrite_bankOff ho hb (by omega)]
    dsimp only
    rw [← hs1, if_pos hwake, if_neg (by omega), bankWake_off hen hst]
  case park =>
    intro s p b v s1 hp ho hb hup hwake hpark hs1 hst hidle
    refine next_of_within (f := fun t => t.pathWrite p (R.LB_BANK_CTL + dBank b) v) rfl (guard_and hp (decide_eq_true hb)) ?_
    rw [pathWrite_LB_BANK_CTL ho hb hup]
    dsimp only
    rw [← hs1, if_pos hpark, if_neg (by omega), bankPark_idle hst hidle]
  case ready =>
    intro s b pllOk calOk s1 hb hm hpll hcal hst htimer hs1
    rw [hpll, hcal, hs1]
    exact next_of_within (f := fun t => t.bankReady b true true) rfl (decide_eq_true hb) (bankReady_mornu hm hst htimer)
  case parked =>
    intro s b hb hst
    exact next_of_within (f := fun t => t.bankParked b) rfl (decide_eq_true hb) (if_pos hst)
  case unlock =>
    intro s b hb hst hrel hfam hstable
    exact next_of_within (f := fun t => t.pllUnlock b) rfl (decide_eq_true hb) (pllUnlock_ready hst hrel hfam hstable)
  case relocked =>
    intro s b locked s1 hb hrel hs1 hst hdone
    exact next_of_within (f := fun t => t.pllRetried b locked) rfl (decide_eq_true hb) (pllRetried_locked hrel hs1 hst hdone)
  case family =>
    intro s p b v s1 s2 r hp ho hb hm hup hwake hpark hs1 hne hs2 hr
    refine next_of_within (f := fun t => t.pathWrite p (R.LB_BANK_CTL + dBank b) v) rfl (guard_and hp (decide_eq_true hb)) ?_
    rw [pathWrite_LB_BANK_CTL ho hb hup]
    dsimp only
    rw [if_neg (by omega), if_neg (by omega), familyWrite_change hm hup hs1 hne hs2 hr]
  case familyDone =>
    intro s b s1 s2 hb htimer hs1 hst1 hs2 hst2
    refine next_of_within (f := fun t => (t.familyDone b).settle) rfl (decide_eq_true hb) ?_
    rw [familyDone_trains htimer hs1 hst1 hs2 hst2]

end Sys2Proof.Machine
end

section
/-!
PROOFS. Edge ports: training, resets, completions, loss of the link, discovery and link encryption (spec/05, spec/14).
-/
namespace Sys2Proof.Machine
open Sys2Proof

theorem hpLive_of {h : Nat} (hlo : 2 ≤ h) (hhi : h ≤ 5) : hpLive h = true := guard_and (decide_eq_true hlo) (decide_eq_true hhi)

/-! ### Training -/

section Training
variable {s s1 s2 s3 : State} {n : Nat}

/-- The link up of a port in TRAINING with all its lanes: the insertion is counted and the wait starts. -/
theorem linkUp_training {u : LinkUp} (hok : s.linkUpOk n u = true) (hhp : s.hp n = hpTraining) (hloss : (s.port n).lossAt = none)
    (hwidth : u.width = (s.lanesOfPort n).length)
    (hs1 : s1 = (s.linkUpRegs n u).each (s.lanesOfPort n) fun t l =>
      if t.laneState (n / 4) l = lsTune ∨ t.laneState (n / 4) l = lsAlign then t.laneTo (n / 4) l lsData else t)
    (hs2 : s2 = ((s1.put F.EP_LINK_STATUS_ATTEMPTS (dPort n) 0).put F.EP_XR_STATUS_ACTIVE (dPort n) (bit (u.rate == 6 && u.ver == 3))).setPort n
      fun p => { p with attempt := none, aim := u.rate, everUp := true, loss := none, speedChange := none })
    (hs3 : s3 = ((s2.put F.EP_HP_STATUS_PRESENT (dPort n) 1).bump F.EP_HP_STATUS_INSERTS (dPort n) 1).put F.EP_XR_STATUS_FAILS (dPort n) 0) :
    s.linkUp n u = ((s3.setPort n fun p => { p with wait := some (s.after (s.get F.EP_HP_WAIT_WAIT (dPort n))), xrBar := false }).hpTo n 2).ideLinkUp n := by
  have hready : ¬(!s.linkUpOk n u || !(s.hp n == hpTraining || hpLive (s.hp n)) || (s.port n).lossAt.isSome) = true := by simp [hok, hhp, hloss]
  have hwhole : ¬(!s.on F.EP_DS_CFG_WIDTH_EN (dPort n) && u.width != (s.lanesOfPort n).length && s.hp n == hpTraining) = true := by simp [hwidth]
  unfold State.linkUp
  dsimp only
  rw [if_neg hready, if_neg hwhole, if_pos hhp, ← hs1, ← hs2, ← hs3]
  rfl

/-- Only a port of mode 7 answers its link up by clearing the directory. -/
theorem linkUpAll_of_mode {u : LinkUp} (hmode : s.portMode n ≠ 7) (hs1 : s.linkUp n u = s1) :
    s.linkUpAll n u = s1 := by
  unfold State.linkUpAll
  dsimp only
  rw [hs1, if_neg (by simp [hmode])]

theorem attemptTimeout_due (hdue : s.dueO (s.port n).attempt = true) (hhp : s.hp n = hpTraining) : s.attemptTimeout n = s.attemptFail n :=
  if_pos ⟨hdue, hhp⟩

theorem ltssmDetect_live (hlo : 2 ≤ s.hp n) (hhi : s.hp n ≤ 5) :
    s.ltssmDetect n = ((s.setLtssm n 0).put F.EP_LINK_STATUS_DL_UP (dPort n) 0).setPort n fun p =>
      { p with lossAt := some (p.lossAt.getD s.tim.bnd), loss := none } := by
  have hnot : ¬(s.hp n = hpTraining ∧ (s.port n).attempt.isSome) := by
    rintro ⟨h, -⟩
    rw [h] at hlo
    exact absurd hlo (by decide)
  rw [State.ltssmDetect, if_neg hnot, if_pos (hpLive_of hlo hhi)]

theorem portRecovery_up (hup : s.portUp n = true) :
    s.portRecovery n = ((s.setLtssm n 3).setPort n fun p =>
      { p with recoveries := p.recoveries + 1
               loss := if s.get F.EP_HP_LOSS_LIMIT (dPort n) = 0 then none else some (s.after (s.get F.EP_HP_LOSS_LIMIT (dPort n)))
               advertise128 := p.xrEnable && s.on F.EP_LINK_CTL_XR_POLICY (dPort n) }).count (n / 4) 3 (n % 4) 0 1 := if_pos hup

theorem recoveryWindow_many (hnum : s.tim.num % 1024 = 0) (hlim : s.get F.EP_DS_CFG_RCV_LIMIT (dPort n) ≠ 0)
    (hmany : s.get F.EP_DS_CFG_RCV_LIMIT (dPort n) < (s.port n).recoveries) (hlo : 2 ≤ s.hp n) (hhi : s.hp n ≤ 5) :
    s.recoveryWindow n = (s.setPort n fun p => { p with recoveries := 0 }).downshift n 2 := by
  have hdown : ((decide (s.get F.EP_DS_CFG_RCV_LIMIT (dPort n) ≠ 0) && decide (s.get F.EP_DS_CFG_RCV_LIMIT (dPort n) < (s.port n).recoveries)) &&
      hpLive (s.hp n)) = true := guard_and (guard_and (decide_eq_true hlim) (decide_eq_true hmany)) (hpLive_of hlo hhi)
  unfold State.recoveryWindow
  rw [if_pos hnum]
  dsimp only
  rw [if_pos hdown]

/-- Extended reach enabled on a port that faces downward, with a partner that has it. -/
theorem xrWrite_negotiate {lopt : Bool} (hdown : upMode (s.portMode n) = false) (hpol : s.on F.EP_LINK_CTL_XR_POLICY (dPort n) = true)
    (hok : s.xrOk n = true) (hcap : s.on F.EP_XR_STATUS_PARTNER_CAP (dPort n) = true) (hbar : (s.port n).xrBar = false) :
    s.xrWrite n true lopt =
      ((((s.put F.EP_XR_STATUS_LOCAL_EN (dPort n) 1).setPort n fun p => { p with xrEnable := true, xrLopt := lopt }).put F.EP_XR_STATUS_PARTNER_EN
        (dPort n) 1).setPort n fun p =>
        { p with advertise128 := true, speedChange := some 6, attempt := some (s.after (s.get F.EP_DS_CFG_TRAIN_LIMIT (dPort n) * 256)) }).send
        (.ctl n 1 6) := by
  unfold State.xrWrite
  dsimp only
  rw [if_neg (by simp [hdown]), if_neg (by simp [hpol]), if_pos rfl, if_pos (by simp [hok, hcap, hbar])]
  rfl

theorem xrFail_live (hen : s.on F.EP_XR_STATUS_LOCAL_EN (dPort n) = true) (hlo : 2 ≤ s.hp n) (hhi : s.hp n ≤ 5) (hbar : (s.port n).xrBar = false)
    (hpol : s.on F.EP_LINK_CTL_XR_POLICY (dPort n) = true) :
    s.xrFail n = ((((((s.put F.EP_LINK_STATUS_RATE (dPort n) 5).put F.EP_XR_STATUS_FAILED (dPort n) 1).bump F.EP_XR_STATUS_FAILS (dPort n) 1).put
      F.EP_LINK_STATUS_DS_REASON (dPort n) 3).put F.EP_XR_STATUS_ACTIVE (dPort n) 0).setPort n fun p =>
      { p with speedChange := none, attempt := none, xrBar := true }) :=
  if_pos (by simp [hen, hpLive_of hlo hhi, hbar, hpol])

end Training

/-! ### EP_LINK_CMD -/

section LinkCmd
variable {s s1 : State} {n : Nat} {v : Word}

theorem portCmdWrite_retrain (hretrain : F.EP_LINK_CMD_RETRAIN.of v = 1) (hreset : F.EP_LINK_CMD_HOT_RESET.of v = 0)
    (hs1 : s1 = s.storeAt (R.EP_LINK_CMD + dPort n) v) (hsame : s1.on F.EP_LINK_CMD_DISABLE (dPort n) = s.on F.EP_LINK_CMD_DISABLE (dPort n)) :
    s.portCmdWrite n v = s1.portRetrain n := by
  unfold State.portCmdWrite
  dsimp only
  rw [← hs1, hsame, if_pos hretrain, if_neg (show ¬F.EP_LINK_CMD_HOT_RESET.of v = 1 by omega), if_neg (by simp), if_neg (by simp)]

theorem portCmdWrite_hotReset (hretrain : F.EP_LINK_CMD_RETRAIN.of v = 0) (hreset : F.EP_LINK_CMD_HOT_RESET.of v = 1)
    (hs1 : s1 = s.storeAt (R.EP_LINK_CMD + dPort n) v) (hsame : s1.on F.EP_LINK_CMD_DISABLE (dPort n) = s.on F.EP_LINK_CMD_DISABLE (dPort n)) :
    s.portCmdWrite n v = s1.portHotReset n := by
  unfold State.portCmdWrite
  dsimp only
  rw [← hs1, hsame, if_neg (show ¬F.EP_LINK_CMD_RETRAIN.of v = 1 by omega), if_pos hreset, if_neg (by simp), if_neg (by simp)]

theorem portCmdWrite_disable (hretrain : F.EP_LINK_CMD_RETRAIN.of v = 0) (hreset : F.EP_LINK_CMD_HOT_RESET.of v = 0)
    (hs1 : s1 = s.storeAt (R.EP_LINK_CMD + dPort n) v) (hwas : s.on F.EP_LINK_CMD_DISABLE (dPort n) = false)
    (hnow : s1.on F.EP_LINK_CMD_DISABLE (dPort n) = true) : s.portCmdWrite n v = s1.portDisable n := by
  unfold State.portCmdWrite
  dsimp only
  rw [← hs1, hwas, hnow, if_neg (show ¬F.EP_LINK_CMD_RETRAIN.of v = 1 by omega), if_neg (show ¬F.EP_LINK_CMD_HOT_RESET.of v = 1 by omega),
    if_pos (by decide)]

end LinkCmd

/-- Settles O27. -/
theorem portTraining : Obligations.PortTraining := by
  refine ⟨?linkUp, ?timeout, ?detect, ?recovery, ?window, ?xr, ?xrFail, ?retrain, ?hotReset, ?disable⟩
  case linkUp =>
    intro s n rate width flit ver protos fmt lds bi u s1 s2 s3 hn hu hok hhp hloss hwidth hmode hs1 hs2 hs3
    subst hu
    refine next_of_within (f := fun t => (t.linkUpAll n ⟨rate, width, flit, ver, protos, fmt, lds, bi⟩).writeDone) rfl (decide_eq_true hn) ?_
    rw [linkUpAll_of_mode hmode (linkUp_training hok hhp hloss hwidth hs1 hs2 hs3)]
  case timeout =>
    intro s n hn hdue hhp
    refine next_of_within (f := fun t => (t.attemptTimeout n).settle) rfl (decide_eq_true hn) ?_
    rw [attemptTimeout_due hdue hhp]
  case detect =>
    intro s n hn hlo hhi
    refine next_of_within (f := fun t => (t.ltssmDetect n).settle) rfl (decide_eq_true hn) ?_
    rw [ltssmDetect_live hlo hhi]
  case recovery =>
    intro s n lim hn hup hlim
    subst hlim
    exact next_of_within (f := fun t => t.portRecovery n) rfl (decide_eq_true hn) (portRecovery_up hup)
  case window =>
    intro s n lim hn hnum hlim hne hmany hlo hhi
    subst hlim
    refine next_of_within (f := fun t => (t.recoveryWindow n).settle) rfl (decide_eq_true hn) ?_
    rw [recoveryWindow_many hnum hne hmany hlo hhi]
  case xr =>
    intro s n en lopt hn hen hdown hpol hok hcap hbar
    subst hen
    exact next_of_within (f := fun t => t.xrWrite n true lopt) rfl (decide_eq_true hn) (xrWrite_negotiate hdown hpol hok hcap hbar)
  case xrFail =>
    intro s n hn hen hlo hhi hbar hpol
    exact next_of_within (f := fun t => t.xrFail n) rfl (decide_eq_true hn) (xrFail_live hen hlo hhi hbar hpol)
  case retrain =>
    intro s p n v s1 hp ho hn hup hretrain hreset hs1 hsame
    refine next_of_within (f := fun t => t.pathWrite p (R.EP_LINK_CMD + dPort n) v) rfl (guard_and hp (decide_eq_true hn)) ?_
    rw [pathWrite_EP_LINK_CMD ho hn hup, portCmdWrite_retrain hretrain hreset hs1 hsame]
  case hotReset =>
    intro s p n v s1 hp ho hn hup hretrain hreset hs1 hsame
    refine next_of_within (f := fun t => t.pathWrite p (R.EP_LINK_CMD + dPort n) v) rfl (guard_and hp (decide_eq_true hn)) ?_
    rw [pathWrite_EP_LINK_CMD ho hn hup, portCmdWrite_hotReset hretrain hreset hs1 hsame]
  case disable =>
    intro s p n v s1 hp ho hn hup hretrain hreset hs1 hwas hnow
    refine next_of_within (f := fun t => t.pathWrite p (R.EP_LINK_CMD + dPort n) v) rfl (guard_and hp (decide_eq_true hn)) ?_
    rw [pathWrite_EP_LINK_CMD ho hn hup, portCmdWrite_disable hretrain hreset hs1 hwas hnow]

end Sys2Proof.Machine
end

section
/-!
PROOFS. Edge ports: resets, completions and the loss of the link (spec/05); waiting, discovery and link encryption (spec/05, spec/14).
-/
namespace Sys2Proof.Machine
open Sys2Proof

/-! ### Resets, completions, the loss of a link -/

section Losses
variable {s : State} {n : Nat}

theorem busReset_port {v : Nat} {b : Bound} (hbound : s.bound? v = some b) (hkind : b.kind = 1) :
    s.busReset v = (s.portStale b.port).send (.ctl b.port 0 0) := by
  simp only [State.busReset, hbound, hkind, if_true]

theorem secondaryReset_bound {vs k v : Nat} {b : Bound} (hat : s.vppbAt n vs k = some v) (hbound : s.bound? v = some b) (hkind : b.kind = 1) :
    s.secondaryReset n vs k = (s.portStale b.port).send (.ctl b.port 0 0) := by
  rw [State.secondaryReset, hat]
  exact busReset_port hbound hkind

/-- A completion in time goes back to where its request came from. -/
theorem npArrive_inTime {c : Msg} {e : NpEntry} (hfind : ((s.port n).np.find? fun e => e.msg.id == c.id) = some e) (hdue : s.dueO e.timer = false) :
    s.npArrive n c = (s.npDrop n c.id).step7 n e.msg.via
      { e.msg with kind := respKind e.msg.kind, op := c.op, srcSw := s.ownSw, srcAg := n, dstSw := e.msg.srcSw, dstAg := e.msg.srcAg,
                   colour := .green, body := slotsFor c.data.length, len := c.data.length, data := c.data, poison := c.poison,
                   status := c.status, devload := c.devload, metaV := c.metaV, via := e.msg.via } := by
  rw [State.npArrive, hfind]
  dsimp only
  rw [if_neg (by simp [hdue])]

/-- A completion that does not come in time, on a link that is not being lost. -/
theorem cplTimeout_due {id : Nat} {e : NpEntry} (hfind : ((s.port n).np.find? fun e => e.msg.id == id) = some e) (hdue : s.dueO e.timer = true)
    (hloss : (s.port n).lossAt = none) :
    s.cplTimeout n id = (((s.npDrop n id).bump F.EP_NP_STATUS_TO_COUNT (dPort n) 1).occ 576 n).respond n e.msg
      (match (e.msg.op : Op) with | .memRd | .memRdData => .memData | .memWr | .memWrPtl => .cmp | _ => .cpl) .timeout [] false 0 := by
  rw [State.cplTimeout, hfind]
  exact if_pos (by simp [hdue, hloss])

theorem lossTimeout_due (hdue : s.dueO (s.port n).loss = true) (hlo : 2 ≤ s.hp n) (hhi : s.hp n ≤ 5) (hloss : (s.port n).lossAt = none) :
    s.lossTimeout n = s.setPort n fun p => { p with loss := none, lossAt := some (s.tim.bnd - 1) } :=
  if_pos ⟨hdue, hpLive_of hlo hhi, by simp [hloss]⟩

theorem lossDeclared_ready {b : Nat} (hloss : (s.port n).lossAt = some b) (hb : b < s.tim.bnd) (hlo : 2 ≤ s.hp n) (hhi : s.hp n ≤ 5) :
    s.lossDeclared n =
      ((((s.lossAll n).migsLost n).vampLoss n).setSec fun x => { x with ideKeys := x.ideKeys.filter fun e => e.1 != n }).writeDone := by
  have hready : s.lossReady n = true := by
    rw [State.lossReady, hloss]
    exact guard_and (decide_eq_true hb) (hpLive_of hlo hhi)
  rw [State.lossDeclared, if_pos hready]

theorem lossComplete_done (hhp : s.hp n = hpLost) (hnp : (s.port n).np = []) (hq : s.queuedTo n = []) (hdis : s.ltssm n ≠ 7) :
    s.lossComplete n = ((s.bump F.EP_HP_STATUS_REMOVALS (dPort n) 1).hpTo n 0).portDetect n := by
  rw [State.lossComplete, if_pos ⟨hhp, hnp, hq⟩]
  dsimp only
  rw [if_neg hdis]
  rfl

end Losses

/-- Settles O28. -/
theorem portResets : Obligations.PortResets := by
  refine ⟨?hotReset, ?busReset, ?completion, ?timeout, ?lossLimit, ?declared, ?complete⟩
  case hotReset =>
    intro s n s1 hn hmode hs1
    subst hs1
    refine next_of_within (f := fun t => (t.hotReset n).writeDone) rfl (decide_eq_true hn) ?_
    rw [State.hotReset]
    dsimp only
    rw [if_pos hmode]
  case busReset =>
    intro s n vs k v b hn hat hbound hkind
    exact next_of_within (f := fun t => t.secondaryReset n vs k) rfl (decide_eq_true hn) (secondaryReset_bound hat hbound hkind)
  case completion =>
    intro s n msg e s1 hn hfind hdue hs1
    subst hs1
    refine next_of_within (f := fun t => (t.npArrive n msg).writeDone) rfl (decide_eq_true hn) ?_
    rw [npArrive_inTime hfind hdue]
  case timeout =>
    intro s n id e s1 hn hfind hdue hloss hs1
    subst hs1
    exact next_of_within (f := fun t => (t.cplTimeout n id).writeDone) rfl (decide_eq_true hn) (congrArg State.writeDone (cplTimeout_due hfind hdue hloss))
  case lossLimit =>
    intro s n hn hdue hlo hhi hloss
    exact next_of_within (f := fun t => t.lossTimeout n) rfl (decide_eq_true hn) (lossTimeout_due hdue hlo hhi hloss)
  case declared =>
    intro s n b hn hloss hb hlo hhi
    exact next_of_within (f := fun t => t.lossDeclared n) rfl (decide_eq_true hn) (lossDeclared_ready hloss hb hlo hhi)
  case complete =>
    intro s n s1 hn hhp hnp hq hs1 hdis
    subst hs1
    exact next_of_within (f := fun t => t.lossComplete n) rfl (decide_eq_true hn) (lossComplete_done hhp hnp hq hdis)

/-! ### Waiting, discovery and link encryption -/

section Discovery
variable {s : State} {n : Nat}

/-- The end of the wait, and a DRS message where it is accepted, both start discovery. -/
theorem hpWaitEnd_starts {drs : Bool} (hhp : s.hp n = hpWait)
    (hend : (if drs then s.on F.EP_HP_CFG_DRS_EN (dPort n) else s.dueO (s.port n).wait) = true) :
    s.hpWaitEnd n drs = (s.setPort n fun p => { p with wait := none, disc := some (s.after (s.get F.BND_CFG_DISC_LIMIT 0)) }).hpTo n 3 :=
  if_pos ⟨hhp, hend⟩

/-- A key of the link stream, programmed on a live port whose link stream is not yet secure. -/
theorem ideKeyProg_link (hpol : s.get F.EP_IDE_CFG_LINK_POLICY (dPort n) ≠ 0) (herr : s.secError = false) (hlc : s.lifecycle ≠ lcReturned)
    (hret : s.sec.returning = none) (hup : s.on F.EP_LINK_STATUS_DL_UP (dPort n) = true) (hst : s.get F.EP_IDE_STATUS_LINK_STATE (dPort n) ≠ 1) :
    s.ideKeyProg n 0 true = State.rekeyStart ((((s.put F.EP_IDE_STATUS_LINK_STATE (dPort n) 1).setPort n fun p =>
      { p with est := none, estOnce := true }).syncBlocked n).setSec fun x =>
      { x with ideKeys := if x.ideKeys.contains (n, 0) then x.ideKeys else x.ideKeys ++ [(n, 0)] }) n := by
  have hgo : ¬((0 = 0 ∧ s.get F.EP_IDE_CFG_LINK_POLICY (dPort n) = 0) ∨ s.get F.EP_IDE_CFG_SEL_MAX (dPort n) < 0 ∨ s.secError ∨ s.lifecycle = lcReturned ∨
      s.sec.returning.isSome ∨ ¬s.on F.EP_LINK_STATUS_DL_UP (dPort n)) := by simp [hpol, herr, hlc, hret, hup]
  have hsecure : s.ideSecure n 0 = ((s.put F.EP_IDE_STATUS_LINK_STATE (dPort n) 1).setPort n fun p =>
      { p with est := none, estOnce := true }).syncBlocked n := by
    unfold State.ideSecure
    rw [if_pos rfl, if_neg hst]
  unfold State.ideKeyProg
  dsimp only
  rw [if_neg hgo, if_neg (by decide), hsecure]

theorem ideLimit_due (hdue : s.dueO (s.port n).est = true) (hst : s.get F.EP_IDE_STATUS_LINK_STATE (dPort n) ≠ 1) :
    s.ideLimit n = (s.setPort n fun p => { p with est := none }).occ 768 n := if_pos ⟨hdue, hst⟩

/-- A failed MAC of an active selective stream. -/
theorem ideFailed_selective {stream : Nat} (hsel : stream ≠ 0) (hlive : (s.get F.EP_IDE_STATUS_SEL_ACTIVE (dPort n)).testBit (stream - 1) = true) :
    s.ideFailed n stream = (((s.put F.EP_IDE_STATUS_SEL_ACTIVE (dPort n) (s.get F.EP_IDE_STATUS_SEL_ACTIVE (dPort n) - 2 ^ (stream - 1))).bump
      F.EP_IDE_ERR_MAC_FAIL (dPort n) 1).setSec fun x => { x with ideKeys := x.ideKeys.filter fun e => !(e.1 == n && e.2 == stream) }).settle := by
  unfold State.ideFailed State.ideMacFail
  dsimp only
  rw [if_neg hsel, if_pos hlive, if_neg hsel, if_pos hlive]

theorem ideRekey_due (hdue : s.dueO (s.port n).rekey = true) :
    s.ideRekey n = State.rekeyStart ((s.each ((s.sec.ideKeys.filter fun e => e.1 == n).map (·.2)) fun t st => t.ideKeyProg n st true).setPort n
      fun p => { p with rekey := none }) n := if_pos hdue

end Discovery

/-- Settles O29. -/
theorem portDiscoveryAndIde : Obligations.PortDiscoveryAndIde := by
  refine ⟨?wait, ?drs, ?key, ?limit, ?macFail, ?rekey⟩
  case wait =>
    intro s n hn hhp hdue
    exact next_of_within (f := fun t => t.hpWaitEnd n false) rfl (decide_eq_true hn) (hpWaitEnd_starts hhp hdue)
  case drs =>
    intro s n hn hhp hen
    exact next_of_within (f := fun t => t.hpWaitEnd n true) rfl (decide_eq_true hn) (hpWaitEnd_starts hhp hen)
  case key =>
    intro s n stream ok hn hok hstream hpol herr hlc hret hup hst
    subst hok hstream
    refine next_of_within (f := fun t => (t.ideKeyProg n 0 true).settle) rfl (decide_eq_true hn) ?_
    rw [ideKeyProg_link hpol herr hlc hret hup hst]
  case limit =>
    intro s n hn hdue hst
    refine next_of_within (f := fun t => (t.ideLimit n).settle) rfl (decide_eq_true hn) ?_
    rw [ideLimit_due hdue hst]
  case macFail =>
    intro s n stream a hn hsel ha hlive
    subst ha
    exact next_of_within (f := fun t => t.ideFailed n stream) rfl (decide_eq_true hn) (ideFailed_selective hsel hlive)
  case rekey =>
    intro s n mine hn hdue hmine
    subst hmine
    exact next_of_within (f := fun t => t.ideRekey n) rfl (decide_eq_true hn) (ideRekey_due hdue)

end Sys2Proof.Machine
end

section
/-!
PROOFS. Fabric links: lacing and unlacing (spec/06 R176 to R186), retraining, flushing, and the fences of a route (spec/06 R100, R187).
-/
namespace Sys2Proof.Machine
open Sys2Proof

/-! ### Lacing -/

section Lacing
variable {s s1 : State} {m arg : Nat}

/-- A LACE request that passes its checks, with no change pending. -/
theorem laceReq_pass (hpend : (s.link m).pendSet = none) (hcheck : s.laceCheck m (ctlSet arg) false = 0) :
    s.laceReq m arg = s.laceBegin m (ctlSet arg) (ctlTag arg) false false := by
  simp only [State.laceReq, hpend, hcheck, reduceCtorEq, false_and, if_false, Option.isSome_none, Bool.false_eq_true, if_true]

theorem laceReady_pending (hpend : (s.link m).pendSet = some (ctlSet arg)) (htag : (s.link m).laceTag = ctlTag arg)
    (hlace : (s.link m).unlacing = false) : s.laceReady m arg = (s.setLink m fun l => { l with laceRx := true }).laceStep m :=
  if_pos ⟨hpend, htag, by simp [hlace]⟩

/-- An UNLACE request that passes its checks is answered without an error and switches at once. -/
theorem unlaceReq_pass (hnew : (s.mlState m = mlUpSt ∧ s.lset m = ctlSet arg ∧ s.get F.ML_LACE_STATUS_TAG (dLink m) = ctlTag arg) = False)
    (hpend : (s.link m).pendSet = none) (hcheck : s.laceCheck m (ctlSet arg) true = 0) :
    s.unlaceReq m arg = (State.laceBegin (s.setLink m fun l =>
      { l with lctl := l.lctl ++ [(8, ctlSet arg * 256 + ctlTag arg * 4096 + 0 + 0 * 2 ^ 20)] }) m (ctlSet arg) (ctlTag arg) true false).laceSwitch m
      (ctlSet arg) := by
  unfold State.unlaceReq
  dsimp only
  rw [if_neg (of_eq_false hnew)]
  simp only [hpend, Option.isSome_none, Bool.false_and, Bool.false_eq_true, if_false, hcheck, ne_eq, not_true_eq_false, if_true]

theorem unlaceAck_accepted (hun : (s.link m).unlacing = true) (hown : (s.link m).laceOwn = true) (htag : (s.link m).laceTag = ctlTag arg)
    (hok : arg / 65536 % 2 = 0) : s.unlaceAck m arg = s.laceSwitch m (ctlSet arg) := by
  rw [State.unlaceAck, if_pos ⟨hun, hown, htag⟩, if_neg (by omega)]

theorem laceAbort_pending {v : Nat} (hpend : (s.link m).pendSet = some v) (htag : (s.link m).laceTag = ctlTag arg) :
    s.laceAbort m arg = s.laceFail m (ctlReason arg) := if_pos ⟨by simp [hpend], htag⟩

theorem laceTimeout_own (hdue : s.dueO (s.link m).laceTo = true) (hown : (s.link m).laceOwn = true) :
    s.laceTimeout m = (s.laceFail m 7).repeatCtl m 9 ((s.link m).laceTag * 4096 + 7 * 2 ^ 20) 16 := if_pos ⟨hdue, hown⟩

/-- GO of either command with a valid target, while nothing is pending. -/
theorem laceWrite_go {v : Word} {un : Bool} (hgo : F.ML_LACE_CTL_GO.of v = 1) (hs1 : s1 = s.storeAt (R.ML_LACE_CTL + dLink m) v)
    (hpend : (s1.link m).pendSet = none) (hcmd : s1.get F.ML_LACE_CTL_CMD (dLink m) = if un then 2 else 1)
    (hcheck : s1.laceCheck m (s1.get F.ML_LACE_CTL_TGT_LSET (dLink m)) un = 0) :
    s.laceWrite m v = s1.laceBegin m (s1.get F.ML_LACE_CTL_TGT_LSET (dLink m)) ((s1.link m).laceTag + 1 - 16 * (((s1.link m).laceTag + 1) / 16)) un
      true := by
  have hrun : ¬(F.ML_LACE_CTL_GO.of v = 0 ∨ s1.get F.ML_LACE_CTL_CMD (dLink m) = 0) := by
    rw [hcmd]
    cases un <;> simp [hgo]
  have hun : (s1.get F.ML_LACE_CTL_CMD (dLink m) == 2) = un := by
    rw [hcmd]
    cases un <;> rfl
  unfold State.laceWrite
  dsimp only
  rw [← hs1, if_neg hrun, hun, hpend, if_neg (by decide), hcheck, if_neg (by decide)]

end Lacing

/-- Settles O31. -/
theorem laceCommands : Obligations.LaceCommands := by
  refine ⟨?req, ?ready, ?unlaceReq, ?ack, ?abort, ?go, ?unlaceGo, ?timeout⟩
  case req =>
    intro s m arg hm hpend hcheck
    exact next_of_within (f := fun t => t.laceReq m arg) rfl (decide_eq_true hm) (laceReq_pass hpend hcheck)
  case ready =>
    intro s m arg hm hpend htag hlace
    exact next_of_within (f := fun t => t.laceReady m arg) rfl (decide_eq_true hm) (laceReady_pending hpend htag hlace)
  case unlaceReq =>
    intro s m arg hm hnew hpend hcheck
    exact next_of_within (f := fun t => t.unlaceReq m arg) rfl (decide_eq_true hm) (unlaceReq_pass hnew hpend hcheck)
  case ack =>
    intro s m arg hm hun hown htag hok
    exact next_of_within (f := fun t => t.unlaceAck m arg) rfl (decide_eq_true hm) (unlaceAck_accepted hun hown htag hok)
  case abort =>
    intro s m arg v hm hpend htag
    exact next_of_within (f := fun t => t.laceAbort m arg) rfl (decide_eq_true hm) (laceAbort_pending hpend htag)
  case go =>
    intro s p m v s1 tgt tag hp ho hm hup hgo hs1 hpend hcmd htgt hcheck htag
    subst htgt htag
    refine next_of_within (f := fun t => t.pathWrite p (R.ML_LACE_CTL + dLink m) v) rfl (guard_and hp (decide_eq_true hm)) ?_
    rw [pathWrite_ML_LACE_CTL ho hm hup, laceWrite_go (un := false) hgo hs1 hpend hcmd hcheck]
  case unlaceGo =>
    intro s p m v s1 tgt tag hp ho hm hup hgo hs1 hpend hcmd htgt hcheck htag
    subst htgt htag
    refine next_of_within (f := fun t => t.pathWrite p (R.ML_LACE_CTL + dLink m) v) rfl (guard_and hp (decide_eq_true hm)) ?_
    rw [pathWrite_ML_LACE_CTL ho hm hup, laceWrite_go (un := true) hgo hs1 hpend hcmd hcheck]
  case timeout =>
    intro s m hm hdue hown
    exact next_of_within (f := fun t => t.laceTimeout m) rfl (decide_eq_true hm) (laceTimeout_own hdue hown)

/-! ### Routes -/

section Routes
variable {s s1 s2 s3 : State} {m sw fid e : Nat}

/-- The pending fence is answered while the primary link is UP. -/
theorem fenceDone_pending (hfence : (s.route sw).fence = some (fid, e)) (hup : s.mlState (s.get F.SOLE_ROUTE_PRIMARY (4 * sw)) = 3) :
    s.fenceDone sw fid = s.setRoute sw fun r => { r with onAlt := false, fence := none } := by
  rw [State.fenceDone, hfence]
  dsimp only
  rw [if_pos rfl, hup]
  rfl

theorem flushedRx_waiting (hwait : (s.route sw).wait = some e) :
    s.flushedRx sw (s.session (s.get F.SOLE_ROUTE_PRIMARY (4 * sw))) = s.setRoute sw fun x => { x with wait := none } := by
  unfold State.flushedRx
  dsimp only
  rw [if_neg (by simp), if_pos (by simp [hwait])]

theorem mlCmdWrite_retrain {v : Word} (hretrain : F.ML_LINK_CMD_RETRAIN.of v = 1) (hs1 : s1 = s.storeAt (R.ML_LINK_CMD + dLink m) v)
    (hsame : s1.on F.ML_LINK_CMD_DISABLE (dLink m) = s.on F.ML_LINK_CMD_DISABLE (dLink m)) : s.mlCmdWrite m v = s1.mlRetrain m 255 := by
  unfold State.mlCmdWrite
  dsimp only
  rw [← hs1, hsame, if_pos hretrain, if_neg (by simp), if_neg (by simp)]

/-- DISABLE of a link that is left in RETRAIN flushes it. -/
theorem mlCmdWrite_disable {v : Word} (hretrain : F.ML_LINK_CMD_RETRAIN.of v = 0) (hs1 : s1 = s.storeAt (R.ML_LINK_CMD + dLink m) v)
    (hwas : s.on F.ML_LINK_CMD_DISABLE (dLink m) = false) (hnow : s1.on F.ML_LINK_CMD_DISABLE (dLink m) = true) (hs2 : s2 = s1.mlDown m)
    (hst : s2.mlState m = mlRetrainSt) : s.mlCmdWrite m v = s2.mlFlush m := by
  unfold State.mlCmdWrite
  dsimp only
  rw [← hs1, hwas, hnow, if_neg (show ¬F.ML_LINK_CMD_RETRAIN.of v = 1 by omega), if_pos (by decide), ← hs2, if_pos hst]

theorem mlTrainTimeout_due (hst : s.mlState m = mlTrain) (hdue : s.dueO (s.link m).attempt = true) :
    s.mlTrainTimeout m = (s.mlTrainOn m ((widestSet (((List.range 8).filter fun l => s.mlaneState m (s.linkLane m l) == lsData).foldl (fun a l => a + 2 ^ l)
      0) (s.minWidth m)).getD 0)).setMdl fun x => { x with tried := insNat x.tried m } := if_pos ⟨hst, hdue⟩

theorem graceExpiry_due (hst : s.mlState m = mlRetrainSt) (hdue : s.dueO (s.link m).grace = true) : s.graceExpiry m = s.mlFlush m :=
  if_pos ⟨hst, hdue⟩

/-- The end of a flush of a link that no fence holds. -/
theorem mlFlushDone_restarts (hst : s.mlState m = mlFlushSt) (hlanded : (s.link m).landed = []) (hheld : (s.link m).fenceHeld = false)
    (hs2 : s2 = ((s.mlStart m).setLink m fun l => { l with flushEnd := none, rep := [] }).each (List.range 8) fun t k =>
      if k != m && t.mlState k == mlUpSt && t.on F.ML_PEER_VALID (dLink k) && t.get F.ML_PEER_FAR_SWITCH (dLink k) == s.get F.ML_PEER_FAR_SWITCH (dLink m)
      then t.repeatCtl k 0x0B (m + s.session m * 65536) 64 else t)
    (hs3 : s3 = s2.each (s2.primaryOf m) fun t w => t.routeLeft m w) : s.mlFlushDone m = s3.each (s3.altOf m) fun t w => t.altLeft w := by
  unfold State.mlFlushDone
  rw [if_pos ⟨hst, hlanded⟩]
  dsimp only
  rw [if_neg (by simp [hheld]), ← hs2, ← hs3]

theorem routeTimeout_due (hdue : s.dueO (s.route sw).wait = true) (halt : s.mlState (s.get F.SOLE_ROUTE_ALT (4 * sw)) = mlUpSt) :
    s.routeTimeout sw = (s.setRoute sw fun r => { r with wait := none }).occ 192 (s.get F.SOLE_ROUTE_PRIMARY (4 * sw)) :=
  if_pos (guard_and hdue (beq_iff_eq.2 halt))

theorem fenceRetry_due (hfence : (s.route sw).fence = some (fid, e)) (hdue : s.due e = true)
    (halt : s.mlState (s.get F.SOLE_ROUTE_ALT (4 * sw)) = mlUpSt) : s.fenceRetry sw = s.fenceSend sw := by
  rw [State.fenceRetry, hfence]
  exact if_pos ⟨hdue, halt⟩

end Routes

/-- Settles O32. -/
theorem fabricRoutes : Obligations.FabricRoutes := by
  refine ⟨?fence, ?fenceDone, ?flushed, ?retrain, ?disable, ?timeout, ?grace, ?flushDone, ?failover, ?retry⟩
  case fence =>
    intro s m msg hm hst hop hkind
    exact next_of_within (f := fun t => t.fenceArrive m msg) rfl (decide_eq_true hm) (if_pos ⟨hst, hop, hkind⟩)
  case fenceDone =>
    intro s sw fid e hsw hfence hup
    refine next_of_within (f := fun t => (t.fenceDone sw fid).writeDone) rfl (decide_eq_true hsw) ?_
    rw [fenceDone_pending hfence hup]
  case flushed =>
    intro s sw session e hsw hses hwait
    subst hses
    refine next_of_within (f := fun t => (t.flushedRx sw _).writeDone) rfl (decide_eq_true hsw) ?_
    rw [flushedRx_waiting hwait]
  case retrain =>
    intro s p m v s1 hp ho hm hup hretrain hs1 hsame
    refine next_of_within (f := fun t => t.pathWrite p (R.ML_LINK_CMD + dLink m) v) rfl (guard_and hp (decide_eq_true hm)) ?_
    rw [pathWrite_ML_LINK_CMD ho hm hup, mlCmdWrite_retrain hretrain hs1 hsame]
  case disable =>
    intro s p m v s1 s2 hp ho hm hup hretrain hs1 hwas hnow hs2 hst
    refine next_of_within (f := fun t => t.pathWrite p (R.ML_LINK_CMD + dLink m) v) rfl (guard_and hp (decide_eq_true hm)) ?_
    rw [pathWrite_ML_LINK_CMD ho hm hup, mlCmdWrite_disable hretrain hs1 hwas hnow hs2 hst]
  case timeout =>
    intro s m mask hm hst hdue hmask
    subst hmask
    exact next_of_within (f := fun t => t.mlTrainTimeout m) rfl (decide_eq_true hm) (mlTrainTimeout_due hst hdue)
  case grace =>
    intro s m hm hst hdue
    refine next_of_within (f := fun t => (t.graceExpiry m).writeDone) rfl (decide_eq_true hm) ?_
    rw [graceExpiry_due hst hdue]
  case flushDone =>
    intro s m far s2 s3 hm hst hlanded hheld hfar hs2 hs3
    subst hfar
    refine next_of_within (f := fun t => (t.mlFlushDone m).writeDone) rfl (decide_eq_true hm) ?_
    rw [mlFlushDone_restarts hst hlanded hheld hs2 hs3]
  case failover =>
    intro s sw hsw hdue halt
    refine next_of_within (f := fun t => (t.routeTimeout sw).writeDone) rfl (decide_eq_true hsw) ?_
    rw [routeTimeout_due hdue halt]
  case retry =>
    intro s sw fid e hsw hfence hdue halt
    exact next_of_within (f := fun t => t.fenceRetry sw) rfl (decide_eq_true hsw) (fenceRetry_due hfence hdue halt)

end Sys2Proof.Machine
end

section
/-!
PROOFS. The switch (spec/05 R132, spec/07 R190 to R205, spec/08) and the home agents (spec/09).
-/
namespace Sys2Proof.Machine
open Sys2Proof

/-! ### The switch -/

section Switch
variable {s : State}

/-- A well-formed request of a negotiated protocol at a port that is up and not blocked. -/
theorem requestArrival_port {n : Nat} {r : Route} {msg : Msg} (hn : n < 64) (hup : s.portUp n = true) (hneg : s.notNegotiated n msg = false)
    (hblock : s.on F.EP_IDE_STATUS_BLOCKED (dPort n) = false)
    (hform : malformed n { msg with via := n, hops := 0, srcSw := s.ownSw, srcAg := n } = false) :
    s.requestArrival n r msg = ((s.count (n / 4) 1 (n % 4) msg.slice ((bodyBytes msg + 63) / 64)).ingress n r
      { msg with via := n, hops := 0, srcSw := s.ownSw, srcAg := n }).writeDone := by
  have harrive : s.arrive n r msg = (s.count (n / 4) 1 (n % 4) msg.slice ((bodyBytes msg + 63) / 64)).ingress n r
      { msg with via := n, hops := 0, srcSw := s.ownSw, srcAg := n } := by
    unfold State.arrive
    dsimp only
    rw [hform, if_neg (by simp), if_pos hn]
    rfl
  rw [State.requestArrival, if_pos hn, if_neg (by simp [hup]), if_neg (by simp [hneg]), if_neg (by simp [hblock]), harrive]

/-- A request of a protocol that was not negotiated makes the link retrain. -/
theorem requestArrival_notNegotiated {n : Nat} {r : Route} {msg : Msg} (hn : n < 64) (hup : s.portUp n = true) (hneg : s.notNegotiated n msg = true) :
    s.requestArrival n r msg = s.portRecovery n := by
  rw [State.requestArrival, if_pos hn, if_neg (by simp [hup]), if_pos hneg]

/-- An internal agent's request enters as it is. -/
theorem requestArrival_agent {n : Nat} {r : Route} {msg : Msg} (hn : 72 ≤ n) :
    s.requestArrival n r msg = (s.ingress n r { msg with via := n, hops := 0, srcSw := s.ownSw, srcAg := n }).writeDone := by
  have hport : ¬n < 64 := by omega
  have harrive : s.arrive n r msg = s.ingress n r { msg with via := n, hops := 0, srcSw := s.ownSw, srcAg := n } := by
    unfold State.arrive
    dsimp only
    rw [if_neg (by simp [hport]), if_neg hport]
  rw [State.requestArrival, if_neg hport, harrive]

theorem isSource_agent {n : Nat} (hlo : 72 ≤ n) (hhi : n ≤ 84) : isSource n = true := by simp [isSource, hlo, hhi]

theorem isSource_port {n : Nat} (hn : n < 64) : isSource n = true := by simp [isSource, hn]

theorem allocWaiting_taken {c : Nat} {x : Queued} {ch : Charge} {t : State}
    (hfirst : firstWaiting (s.sole.waiting.filter fun x => x.msg.cls == c) = some x) (hsource : s.source x.msg = some ch)
    (hslot : (s.setSole fun o => { o with waiting := o.waiting.erase x }).claimSlot x.qidx = some t) :
    s.allocWaiting c = (t.takeIn x ch).drainBehind := by
  simp only [State.allocWaiting, hfirst, hsource, hslot]

theorem releaseRed_below {id : Nat} {x : Queued} (hfind : (s.sole.deferred.find? fun x => x.msg.id == id) = some x)
    (hroom : s.qOf x.egress x.msg.cls < s.hardOf x.msg.cls) :
    s.releaseRed id = ((s.setSole fun o => { o with deferred := o.deferred.erase x }).place x).syncBuf.drainBehind := by
  rw [State.releaseRed, hfind]
  exact if_neg (Nat.not_le.2 hroom)

theorem claimWaiting_slot {x : Queued} {t : State} (hfirst : firstWaiting s.sole.slotWait = some x) (hslot : s.claimSlot x.qidx = some t) :
    s.claimWaiting = ((s.setSole fun o => { o with slotWait := o.slotWait.erase x }).place x).syncSlots.drainBehind := by
  simp only [State.claimWaiting, hfirst, hslot]

/-- A queue state that was fetched without an uncorrectable error is ready as it is. -/
theorem queueFetched_good {q out : Nat} (hfetch : q ∈ s.sole.fetching) (hout : out ≤ 1) (hsys : s.sysOk (queueAddr q) = true) :
    s.queueFetched q out = ((s.setSole fun o => { o with fetching := o.fetching.filter (· != q) }).svcDone 3 (queueAddr q)).setQueue q fun x =>
      { x with ready := true } := by
  have hlost : (decide (3 ≤ out) || !s.sysOk (queueAddr q)) = false := by
    rw [hsys, decide_eq_false (by omega)]
    rfl
  have hreread : ¬(decide (out = 2) && !false) = true := by
    rw [decide_eq_false (by omega)]
    decide
  unfold State.queueFetched
  rw [if_pos (List.contains_iff_mem.2 hfetch)]
  dsimp only
  rw [hlost, if_neg hreread, if_neg (by decide)]
  rfl

end Switch

/-- Settles O33. -/
theorem crossbarCommands : Obligations.CrossbarCommands := by
  refine ⟨?enter, ?retrain, ?agent, ?alloc, ?release, ?claim, ?fetched, ?cell, ?avg⟩
  case enter =>
    intro s n r msg hn hup hneg hblock hform
    exact next_of_within (f := fun t => t.requestArrival n r msg) rfl (isSource_port hn) (requestArrival_port hn hup hneg hblock hform)
  case retrain =>
    intro s n r msg hn hup hneg
    exact next_of_within (f := fun t => t.requestArrival n r msg) rfl (isSource_port hn) (requestArrival_notNegotiated hn hup hneg)
  case agent =>
    intro s n r msg hlo hhi
    exact next_of_within (f := fun t => t.requestArrival n r msg) rfl (isSource_agent hlo hhi) (requestArrival_agent hlo)
  case alloc =>
    intro s c x ch t hfirst hsource hslot
    exact next_of_eq (u := (s.allocWaiting c).writeDone) rfl (congrArg State.writeDone (allocWaiting_taken hfirst hsource hslot))
  case release =>
    intro s id x hfind hroom
    exact next_of_eq (u := (s.releaseRed id).writeDone) rfl (congrArg State.writeDone (releaseRed_below hfind hroom))
  case claim =>
    intro s x t hfirst hslot
    exact next_of_eq (u := s.claimWaiting.writeDone) rfl (congrArg State.writeDone (claimWaiting_slot hfirst hslot))
  case fetched =>
    intro s q out hfetch hout hsys
    exact next_of_eq (u := (s.queueFetched q out).writeDone) rfl (congrArg State.writeDone (queueFetched_good hfetch hout hsys))
  case cell =>
    intro s ecc s1 hs1
    subst hs1
    exact next_of_eq (u := s.cellTimeAll ecc) rfl rfl
  case avg =>
    intro s hcells
    exact next_of_eq (u := s.avgTick) rfl (if_pos hcells)

/-! ### The home agents -/

section Home
variable {s s1 s2 : State} {h rgn line id : Nat} {m : Msg}

theorem coherentArrival_crossed {ecc : Nat} (hcross : s.crossed? (76 + h) id = some m) (hreq : isReq m = true) (hop : m.op ≠ .biConflict) :
    s.coherentArrival h id ecc = (((s.uncross (76 + h) id).homeArrive h m ecc).homeSettle h).writeDone := by
  rw [State.coherentArrival, hcross]
  exact if_pos (guard_and hreq (bne_iff_ne.2 hop))

/-- A directory set that was read without an error takes up every tack that waited for it. -/
theorem dirFetched_good {ts : List Tack} (hfetch : s.fetching h (setIdx rgn line) = true) (hans : s.answers (setAddr h (setIdx rgn line)) = true)
    (hs1 : s1 = s.svcDone 2 (setAddr h (setIdx rgn line)))
    (hts : ts = (s1.home h).tacks.filter fun t => t.st == .dirf && setIdx t.rgn t.line == setIdx rgn line)
    (hs2 : s2 = s1.each ts fun u t => u.updTack h t.rgn t.line fun t => { t with st := .lookup }) :
    s.dirFetched h rgn line 0 = s2.each ts fun u t => u.homeStart h t.rgn t.line := by
  have hread : s.eccRead (setAddr h (setIdx rgn line)) 0 = (s, true) := rfl
  unfold State.dirFetched
  dsimp only
  rw [if_neg (by simp [hfetch]), if_pos hans, hread]
  dsimp only
  rw [if_pos rfl, if_neg (by decide), ← hs1, ← hts, ← hs2]

/-- With no answer of this tack at a channel, its memory response is the one that has crossed. -/
theorem homeMemRsp_crossed {k : Nat} (hnone : ∀ c < 4, ∀ a ∈ (s.chan c).homeDone, ¬(a.h = h ∧ a.rgn = rgn ∧ a.line = line))
    (hfind : (s.sole.crossing.find? fun e => e.1 == 76 + h && e.2.kind == .memS2M && e.2.sid == rgn && e.2.tag == line) = some (k, m)) :
    s.homeMemRsp h rgn line =
      (s.uncross (76 + h) m.id).homeMemDone h rgn line (m.op == .cmp) m.data m.poison (m.status == .ok) m.devload := by
  have hchan : ((List.range 4).find? fun c => (s.chan c).homeDone.any fun a => a.h == h && a.rgn == rgn && a.line == line) = none := by
    rw [List.find?_eq_none]
    intro c hc hany
    obtain ⟨a, ha, hmatch⟩ := List.any_eq_true.1 hany
    refine hnone c (List.mem_range.1 hc) a ha ?_
    simpa [and_assoc] using hmatch
  rw [State.homeMemRsp, hchan]
  dsimp only
  rw [hfind]

theorem snoopArrival_crossed (hcross : s.crossed? (76 + h) id = some m) (hrsp : isSnoopRsp m.op = true) :
    s.snoopArrival h id = (((s.uncross (76 + h) id).snoopRsp h m).homeSettle h).writeDone := by
  rw [State.snoopArrival, hcross]
  exact if_pos hrsp

theorem conflictArrival_crossed (hcross : s.crossed? (76 + h) id = some m) (hop : m.op = .biConflict) :
    s.conflictArrival h id = ((s.uncross (76 + h) id).biConflict h m).writeDone := by
  rw [State.conflictArrival, hcross]
  exact if_pos hop

/-- The limit of a tack that has no snoop and no memory access outstanding: it is closed on what it has. -/
theorem tackTimeout_closed {t t2 : Tack} (htack : s.tack? h rgn line = some t) (hdue : s.dueO t.timer = true) (hsnoop : t.toSnoop = [])
    (hwr : t.memWr = 0) (hrd : t.memRd = false) (hmig : t.migration = false) (hop : isWriteOp t.op = false)
    (hs1 : s1 = (s.bump F.HA_TO_STATUS_TIMEOUTS (dHome h) 1).occ 80 h) (htack1 : s1.tack? h rgn line = some t)
    (ht2 : t2 = { t with toSnoop := [], reissue := [], memRd := false, memWr := 0, timer := none, data := t.lineData }) :
    s.tackTimeout h rgn line = ((s1.updTack h rgn line fun _ => t2).homeClose h t2).homeSettle h := by
  have hclosed : ({ t with toSnoop := [], reissue := [], memRd := false, memWr := 0, timer := none, poison := t.poison || (t.memRd && !t.haveDirty),
                           data := if t.memRd && !t.haveDirty then poisonLine 64 else t.lineData } : Tack) = t2 := by
    rw [ht2, hrd]
    simp
  unfold State.tackTimeout
  rw [htack]
  dsimp only
  rw [if_neg (by simp [hdue]), ← hs1, hsnoop, if_pos hwr]
  simp only [State.each, List.foldl_nil, htack1, Option.getD_some]
  rw [hclosed, hmig, hop]
  rfl

end Home

/-- Settles O34. -/
theorem homeCommands : Obligations.HomeCommands := by
  refine ⟨?request, ?fetched, ?memory, ?snoop, ?conflict, ?timeout, ?hold⟩
  case request =>
    intro s h id ecc m hh hcross hreq hop
    exact next_of_within (f := fun t => t.coherentArrival h id ecc) rfl (decide_eq_true hh) (coherentArrival_crossed hcross hreq hop)
  case fetched =>
    intro s h rgn line out s1 s2 ts hh hfetch hans hout hs1 hts hs2
    subst hout
    refine next_of_within (f := fun t => ((t.dirFetched h rgn line 0).homeSettle h).writeDone) rfl (decide_eq_true hh) ?_
    rw [dirFetched_good hfetch hans hs1 hts hs2]
  case memory =>
    intro s h rgn line k m hh hnone hfind
    refine next_of_within (f := fun t => ((t.homeMemRsp h rgn line).homeSettle h).writeDone) rfl (decide_eq_true hh) ?_
    rw [homeMemRsp_crossed hnone hfind]
  case snoop =>
    intro s h id m hh hcross hrsp
    exact next_of_within (f := fun t => t.snoopArrival h id) rfl (decide_eq_true hh) (snoopArrival_crossed hcross hrsp)
  case conflict =>
    intro s h id m hh hcross hop
    exact next_of_within (f := fun t => t.conflictArrival h id) rfl (decide_eq_true hh) (conflictArrival_crossed hcross hop)
  case timeout =>
    intro s h rgn line t t2 s1 hh htack hdue hsnoop hwr hrd hmig hop hs1 htack1 ht2
    refine next_of_within (f := fun t => (t.tackTimeout h rgn line).writeDone) rfl (decide_eq_true hh) ?_
    rw [tackTimeout_closed htack hdue hsnoop hwr hrd hmig hop hs1 htack1 ht2]
  case hold =>
    intro s h rgn line hh
    exact next_of_within (f := fun t => (t.holdEnd h rgn line).writeDone) rfl (decide_eq_true hh) rfl

end Sys2Proof.Machine
end

section
/-!
PROOFS. The Insole: its channels, start-up, tags and remap cache, tiering, and the cleaning of a shelf (spec/11).
-/
namespace Sys2Proof.Machine
open Sys2Proof

/-! ### Channels, start-up, tags and the remap cache -/

section Memory
variable {s s1 : State} {ch : Nat}

/-- The channel's turn falls to the pool and the message that has crossed is a read. -/
theorem insServe_poolRead {k : Nat} {m : Msg} {turns : List Nat} (hcross : (s.sole.crossing.find? fun e => e.1 == 72 + ch) = some (k, m))
    (hpick : s.insPick [true, !(s.chan ch).home.isEmpty, !(s.chan ch).svc.isEmpty] (s.chan ch).turns = some (0, turns)) (hread : isRead m.op = true) :
    s.insServe ch = ((((s.setChan ch fun c => { c with turns := turns }).uncross (72 + ch) m.id).setChan ch fun c =>
      { c with reads := c.reads ++ [m] }).count (cbChan ch) 1 0 0 (units64 m.len)).account m.slice 4 (units64 m.len) := by
  unfold State.insServe
  dsimp only
  rw [hcross, Option.isSome_some, hpick]
  dsimp only
  rw [if_pos rfl, if_pos hread]

/-- A read of the pool from a channel that answers, without an error, gives the bytes and their poison. -/
theorem poolReadDone_good {m : Msg} {rest : List Msg} (hreads : (s.chan ch).reads = m :: rest)
    (hs1 : s1 = s.setChan ch fun c => { c with reads := rest }) (hans : s1.answers m.addr = true) :
    s.poolReadDone ch 0 = (s1.mirrorRead m.addr).respond (72 + ch) m (if m.kind = .io then .cplD else .memData) .ok
      ((s1.mirrorRead m.addr).ins.mem.gets m.addr m.len) (s.rangePoison m.addr m.len) ((s1.mirrorRead m.addr).insDevLoad rest.length) := by
  have hread : s1.eccRead m.addr 0 = (s1, true) := rfl
  rw [State.poolReadDone, hreads]
  dsimp only
  rw [← hs1, if_pos hans, hread]
  simp only [Bool.not_true, Bool.false_or, beq_iff_eq]

theorem bit_true {b : Bool} (h : b = true) : bit b = 1 := by
  rw [h]
  rfl

/-- Every channel has trained: the areas are filled and the start-up goes on to step 5. -/
theorem insoleStarted_all {trained : List Bool} (hstep : s.step? = 4) (hstop : s.on F.GLB_START_STATUS_STOPPED 0 = false)
    (hall : ∀ c < 4, trained.getD c true = true) (hs1 : s1 = s.each (List.range 4) fun t c => t.put F.INS_CH_STATUS_TRAINED (4 * c) 1) :
    s.insoleStarted trained = (((((s1.zeroFill.setLwt fun _ => []).setIns fun i => { i with ready := true }).syncLwt.setStep 5).setMdl fun m =>
      { m with bootWake := true, readyTo := some (s.after (s.get F.GLB_START_CFG_READY_LIMIT 0)) })) := by
  have htrained : (s.each (List.range 4) fun t c => t.put F.INS_CH_STATUS_TRAINED (4 * c) (bit (trained.getD c true))) = s1 := by
    rw [hs1]
    refine List.foldl_ext _ _ _ fun t c hc => ?_
    rw [bit_true (hall c (List.mem_range.1 hc))]
  have hok : ((List.range 4).all fun c => trained.getD c true) = true := List.all_eq_true.2 fun c hc => hall c (List.mem_range.1 hc)
  unfold State.insoleStarted
  rw [if_pos ⟨hstep, by simp [hstop]⟩]
  dsimp only
  rw [htrained, if_pos hok]

/-- GO of a tag of a page of the pool whose extent is not being cleared. -/
theorem tagWrWrite_go {p : Path} {v : Word} {a : Nat} (hgo : F.INS_TAG_WR_GO.of v = 1) (hs1 : s1 = s.storeAt R.INS_TAG_WR v)
    (ha : a = s1.get F.INS_TAG_ADDR_LO_DPA 0 * 4096 + s1.get F.INS_TAG_ADDR_HI_DPA 0 * 2 ^ 32) (hpool : s1.inPool a = true)
    (hext : s1.get F.INS_PEXT_STATE (ent (extentOf a)) ≠ 1) :
    s.tagWrWrite p v = s1.setIns fun i => { i with tagQ := i.tagQ ++ [(a / 4096, F.INS_TAG_WR_TAG.of v)] } := by
  unfold State.tagWrWrite
  dsimp only
  rw [← hs1, if_neg (by omega), ← ha, if_neg (by simp [hpool, hext])]

/-- A fetched line of tags colours the one access that waits for it. -/
theorem tagFilled_good {line a : Nat} {w : TagWait} (hwait : (s.sec.tagWait.filter fun w => w.line == line) = [w]) (ha : a = 0x14000000 + 64 * line)
    (hs1 : s1 = (s.setSec fun x => { x with tagWait := x.tagWait.filter fun w => w.line != line }).svcDone 5 a) (hans : s1.answers a = true) :
    s.tagFilled line 0 = ((s1.mirrorRead a).tagIn line).colourTags w.agent w.msg w.viol w.dpa w.old := by
  have hread : s1.eccRead a 0 = (s1, true) := rfl
  have hserved : ((s.setSec fun x => { x with tagWait := x.tagWait.filter fun w => w.line != line }).each [w] fun t _ => t.svcDone 5 a) = s1 := hs1.symm
  unfold State.tagFilled
  dsimp only
  rw [← ha, hwait, if_neg (by simp), hserved, if_pos hans, hread]
  rfl

/-- A fetched remap entry that decodes is entered, and the one request held for it is looked up again. -/
theorem remapFilled_good {rng gran a : Nat} {f : Nat × Nat × Nat × Msg} {e : Remap}
    (hfill : (s.ins.fills.filter fun f => f.1 == rng && f.2.1 == gran) = [f]) (ha : a = remapAddr (s.remapIdx rng gran))
    (hs1 : s1 = (s.setIns fun i => { i with fills := i.fills.filter fun f => !(f.1 == rng && f.2.1 == gran) }).svcDone 4 a) (hans : s1.answers a = true)
    (hword : Remap.ofWord (s1.memN a 8) = some e) :
    s.remapFilled rng gran 0 = ((s1.remapIn (s.remapIdx rng gran) { e with v := true }).lookAgain [f.2.2]).writeDone := by
  have hread : s1.eccRead a 0 = (s1, true) := rfl
  have hfilled : s.remapFill rng gran 0 = (s1.remapIn (s.remapIdx rng gran) { e with v := true }, [f.2.2]) := by
    unfold State.remapFill
    dsimp only
    rw [hfill, ← ha, ← hs1, if_neg (by simp), if_pos hans, hread, if_pos rfl, hword]
    rfl
  rw [State.remapFilled, hfilled]

end Memory

/-- Settles O36. -/
theorem insoleMemory : Obligations.InsoleMemory := by
  refine ⟨?request, ?read, ?startup, ?fault, ?tag, ?tagFill, ?remap⟩
  case request =>
    intro s ch k m turns hch hcross hpick hread
    refine next_of_within (f := fun t => (t.insServe ch).writeDone) rfl (decide_eq_true hch) ?_
    rw [insServe_poolRead hcross hpick hread]
  case read =>
    intro s ch client out m rest s1 s2 hch hclient hreads hs1 hans hout hs2
    subst hclient hout hs2
    exact next_of_within (f := fun t => t.insReadDone ch 0 0) rfl (decide_eq_true hch) (congrArg State.writeDone (poolReadDone_good hreads hs1 hans))
  case startup =>
    intro s trained s1 hstep hstop hall hs1
    exact next_of_eq (u := (s.insoleStarted trained).writeDone) rfl (congrArg State.writeDone (insoleStarted_all hstep hstop hall hs1))
  case fault =>
    intro s ch hch
    exact next_of_within (f := fun t => (t.occ 96 ch).writeDone) rfl (decide_eq_true hch) rfl
  case tag =>
    intro s p v s1 a hp ho hgo hs1 ha hpool hext
    refine next_of_within (f := fun t => t.pathWrite p R.INS_TAG_WR v) rfl hp ?_
    rw [pathWrite_INS_TAG_WR ho, tagWrWrite_go hgo hs1 ha hpool hext]
  case tagFill =>
    intro s line out w a s1 hwait ha hs1 hans hout
    subst hout
    exact next_of_eq (u := (s.tagFilled line 0).writeDone) rfl (congrArg State.writeDone (tagFilled_good hwait ha hs1 hans))
  case remap =>
    intro s rng gran out f a s1 e hfill ha hs1 hans hout hword
    subst hout
    exact next_of_eq (u := s.remapFilled rng gran 0) rfl (remapFilled_good hfill ha hs1 hans hword)

/-! ### Tiering -/

section Tiering
variable {s s1 : State} {rng gran : Nat}

/-- The end of a scan over the granules that have been touched. -/
theorem scanDone_lists {p : Nat} {ids : List Nat} {cand hot cold : List (Nat × Nat × Nat)} (hend : s.ins.scanEnd = some p)
    (hids : ids = s.touched.filter fun i => (s.granOf i).isSome)
    (hs1 : s1 = s.each ids fun t i => t.remapSet i (scanOne p (s.get F.INS_TIER_CFG_DECAY 0) (t.remapAt i)))
    (hcand : cand = ids.filterMap fun i => (s1.granOf i).map fun g => ((s1.remapAt i).heat, g.1, g.2))
    (hhot : hot = (cand.filter fun c => s1.canPromote c.2.1 c.2.2).foldl (fun l c => insertBy (fun x y => decide (y.1 < x.1)) c l) [])
    (hcold : cold = (cand.filter fun c => s1.canDemote c.2.1 c.2.2).foldl (fun l c => insertBy (fun x y => decide (x.1 < y.1)) c l) []) :
    s.scanDone = (s1.setIns fun i => { i with scanEnd := none, promo := hot.take 4096, demo := cold.take 4096 }).put F.INS_TIER_STATUS_SCANNING 0 0 := by
  unfold State.scanDone
  rw [hend]
  dsimp only
  rw [← hids, ← hs1, ← hcand, ← hhot, ← hcold]

/-- The budget allows a migration, a granule can be promoted and a frame is free. -/
theorem migNext_promotes {coh : Nat → Nat → Bool} {h r g f : Nat} {rest : List (Nat × Nat × Nat)}
    (hscan : s.on F.INS_TIER_STATUS_SCANNING 0 = false) (hbudget : s.ins.started < s.get F.INS_TIER_CFG_MIG_BUDGET 0)
    (hopen : (s.ins.migs.filter fun g => g.kind != 2).length < s.get F.INS_TIER_CFG_MIG_OPEN 0)
    (hcand : (s.ins.promo.dropWhile fun c => !s.canPromote c.2.1 c.2.2) = (h, r, g) :: rest) (hframe : s.frameFree? = some f) :
    s.migNext coh = ((s.setIns fun i => { i with promo := rest }).migStart r g 0 f false (coh r g)).setIns fun i => { i with started := i.started + 1 } := by
  have hgo : ¬(s.on F.INS_TIER_STATUS_SCANNING 0 || decide (s.get F.INS_TIER_CFG_MIG_BUDGET 0 ≤ s.ins.started) ||
      decide (s.get F.INS_TIER_CFG_MIG_OPEN 0 ≤ (s.ins.migs.filter fun g => g.kind != 2).length)) = true := by
    rw [hscan, decide_eq_false (by omega), decide_eq_false (by omega)]
    decide
  unfold State.migNext
  dsimp only
  rw [if_neg hgo, hcand]
  dsimp only
  rw [hframe]

theorem migDrained_drained (hout : s.outstanding (s.remapIdx rng gran) true = 0) :
    s.migDrained rng gran = s.setIns fun i =>
      { i with migs := i.migs.map fun g => if g.rng == rng && g.gran == gran then { g with copying := true } else g } := if_pos hout

/-- A promotion of a granule that is not coherent, copied without an error, fills its frame and switches. -/
theorem migrationCopied_promotion {data : List Byte} {poison : Bool} {g : Mig} (hmig : s.mig? rng gran = some g) (hcopy : g.copying = true)
    (hcoh : g.coh = false) (hback : s.backBound rng = true) (hkind : g.kind = 0) (hframe : s.frameWriteFails = false) :
    s.migrationCopied rng gran true data poison = (releaseHeld ((s.migFill g data poison).migSwitch g)).writeDone := by
  rw [State.migrationCopied, hmig]
  dsimp only
  rw [if_neg (by simp [hcopy, hcoh]), if_neg (by simp [hback, hframe]), if_pos hkind]

/-- A frame that no old read names any more is freed. -/
theorem frameFreeDone_free {f : Nat} (hfree : f ∈ s.ins.freeing) (hold : ∀ e ∈ s.ins.oldReads, e.2 ≠ f) :
    s.frameFreeDone f = ((s.setIns fun i => { i with freeing := i.freeing.filter (· != f) }).setIns fun i =>
      { i with frames := i.frames.filter (· != f) }).syncFrames := by
  have hnone : (s.ins.oldReads.any fun e => e.2 == f) = false :=
    List.any_eq_false.2 fun e he => by simpa using hold e he
  rw [State.frameFreeDone, if_pos (by simp [hfree, hnone]), State.frameRelease]

/-! #### The granule commands -/

/-- GO hands the command to the granule named, and its copy starts. -/
theorem gcmdWrite_go {v : Word} {op : Nat} (hgo : F.INS_GCMD_GO.of v = 1) (hop : F.INS_GCMD_OP.of v = op) (hrng : rng = F.INS_GCMD_RNG.of v)
    (hs1 : s1 = s.storeAt R.INS_GCMD v) (hgran : gran = s1.get F.INS_GCMD_GRAN_GRANULE 0) :
    s.gcmdWrite v = (s1.gcmd op rng gran (s1.rngBound rng) (s1.coherentGran rng gran)).migIssue rng gran := by
  unfold State.gcmdWrite
  dsimp only
  rw [← hs1, if_neg (by omega), hop, ← hrng, ← hgran]

section Granule
variable {bound coh : Bool} {r : Remap} (hgran : s.granOk rng gran = true) (hr : r = s.remapAt (s.remapIdx rng gran))
include hgran hr

theorem gcmd_promote {f : Nat} (hst : r.st = 0) (hsh3 : s.shelfState (s.rngShelf rng) ≠ 3) (hsh4 : s.shelfState (s.rngShelf rng) ≠ 4)
    (hframe : s.frameFree? = some f) : s.gcmd 0 rng gran bound coh = (s.migStart rng gran 0 f true coh).gcmdStatus 1 0 rng gran := by
  unfold State.gcmd
  dsimp only
  rw [← hr, if_neg (by simp [hgran]), if_neg (by simp [hst]), if_pos rfl, if_neg (by simp [hst]), if_neg (by simp [hsh3, hsh4]), hframe]

theorem gcmd_demote (hst : r.st = 1) (hd : r.d = true) (hsh3 : s.shelfState (s.rngShelf rng) ≠ 3) (hsh4 : s.shelfState (s.rngShelf rng) ≠ 4)
    (hback : s.backBound rng = true) : s.gcmd 1 rng gran bound coh = (s.migStart rng gran 1 0 true coh).gcmdStatus 1 0 rng gran := by
  unfold State.gcmd
  dsimp only
  rw [← hr, if_neg (by simp [hgran]), if_neg (by simp [hst]), if_neg (by decide), if_pos rfl, if_neg (by simp [hst]),
    if_neg (by simp [hback, hsh3, hsh4]), if_pos (by simp [hd])]

theorem gcmd_pin (hst : r.st ≤ 1) : s.gcmd 2 rng gran bound coh = (s.remapSet (s.remapIdx rng gran) { r with pin := true }).gcmdStatus 2 0 rng gran := by
  unfold State.gcmd
  dsimp only
  rw [← hr, if_neg (by simp [hgran]), if_neg (by simp; omega), if_neg (by decide), if_neg (by decide), if_pos rfl]

theorem gcmd_unpin (hst : r.st ≤ 1) : s.gcmd 3 rng gran bound coh = (s.remapSet (s.remapIdx rng gran) { r with pin := false }).gcmdStatus 2 0 rng gran := by
  unfold State.gcmd
  dsimp only
  rw [← hr, if_neg (by simp [hgran]), if_neg (by simp; omega), if_neg (by decide), if_neg (by decide), if_neg (by decide), if_pos rfl]

/-- RESET of a clean granule at home. -/
theorem gcmd_reset (hst : r.st = 0) (hd : r.d = false) :
    s.gcmd 4 rng gran bound coh = (s.remapSet (s.remapIdx rng gran) { r with st := 0, d := false, heat := 0 }).gcmdStatus 2 0 rng gran := by
  unfold State.gcmd
  dsimp only
  rw [← hr, if_neg (by simp [hgran]), if_neg (by simp [hst]), if_neg (by decide), if_neg (by decide), if_neg (by decide), if_neg (by decide),
    if_neg (by simp [hd]), if_neg (by simp [hst])]

end Granule
end Tiering

/-- Settles O37. -/
theorem tieringCommands : Obligations.TieringCommands := by
  refine ⟨?scan, ?start, ?drained, ?copied, ?free, ?promote, ?demote, ?pin, ?unpin, ?reset⟩
  case scan =>
    intro s p ids s1 cand hot cold hend hids hs1 hcand hhot hcold
    exact next_of_eq (u := s.scanDone) rfl (scanDone_lists hend hids hs1 hcand hhot hcold)
  case start =>
    intro s h r g f rest s1 hscan hbudget hopen hcand hframe hs1
    refine next_of_eq (u := s.migrationStart) rfl ?_
    unfold State.migrationStart
    rw [migNext_promotes hscan hbudget hopen hcand hframe, ← hs1]
  case drained =>
    intro s rng gran hout
    refine next_of_eq (u := s.migrationDrained rng gran) rfl ?_
    rw [State.migrationDrained, migDrained_drained hout]
  case copied =>
    intro s rng gran ok data poison g hmig hcopy hcoh hok hback hkind hframe
    subst hok
    exact next_of_eq (u := s.migrationCopied rng gran true data poison) rfl (migrationCopied_promotion hmig hcopy hcoh hback hkind hframe)
  case free =>
    intro s frame hfree hold
    exact next_of_eq (u := (s.frameFreeDone frame).writeDone) rfl (congrArg State.writeDone (frameFreeDone_free hfree hold))
  case promote =>
    intro s p v rng gran s1 r f hp ho hgo hop hrng hs1 hgran hok hr hst hsh3 hsh4 hback hframe
    refine next_of_within (f := fun t => t.pathWrite p R.INS_GCMD v) rfl hp ?_
    rw [pathWrite_INS_GCMD ho, gcmdWrite_go hgo hop hrng hs1 hgran, gcmd_promote hok hr hst hsh3 hsh4 hframe]
  case demote =>
    intro s p v rng gran s1 r hp ho hgo hop hrng hs1 hgran hok hr hst hd hsh3 hsh4 hback
    refine next_of_within (f := fun t => t.pathWrite p R.INS_GCMD v) rfl hp ?_
    rw [pathWrite_INS_GCMD ho, gcmdWrite_go hgo hop hrng hs1 hgran, gcmd_demote hok hr hst hd hsh3 hsh4 hback]
  case pin =>
    intro s p v rng gran s1 r hp ho hgo hop hrng hs1 hgran hok hr hst
    refine next_of_within (f := fun t => t.pathWrite p R.INS_GCMD v) rfl hp ?_
    rw [pathWrite_INS_GCMD ho, gcmdWrite_go hgo hop hrng hs1 hgran, gcmd_pin hok hr hst]
  case unpin =>
    intro s p v rng gran s1 r hp ho hgo hop hrng hs1 hgran hok hr hst
    refine next_of_within (f := fun t => t.pathWrite p R.INS_GCMD v) rfl hp ?_
    rw [pathWrite_INS_GCMD ho, gcmdWrite_go hgo hop hrng hs1 hgran, gcmd_unpin hok hr hst]
  case reset =>
    intro s p v rng gran s1 r hp ho hgo hop hrng hs1 hgran hok hr hst hd
    refine next_of_within (f := fun t => t.pathWrite p R.INS_GCMD v) rfl hp ?_
    rw [pathWrite_INS_GCMD ho, gcmdWrite_go hgo hop hrng hs1 hgran, gcmd_reset hok hr hst hd]

/-! ### Cleaning a shelf -/

section Cleaning
variable {s s1 : State} {p : Path} {v : Word} {sh : Nat}

/-- CLEAN of a shelf that is AWAKE (state 0). -/
theorem shelfClean_awake {ids : List Nat} (hst : s.shelfState sh = 0)
    (hids : ids = (s.dirtyIdx fun r => s.rngShelf r == sh).filter fun i => (s.remapAt i).st == 1) :
    s.shelfClean sh = (((s.setShelf sh 1).put F.INS_SHELF_STATUS_DIRTY (ent sh) 0).setIns fun i =>
      { i with cleaning := insNat i.cleaning sh }).each ids fun t i =>
        match t.granOf i with | some (r, g) => t.migStart r g 2 0 false false | none => t := by
  subst hids
  exact if_pos hst

theorem shelfRelease_cleaned (hst : s.shelfState sh = 1 ∨ s.shelfState sh = 2) :
    s.shelfRelease sh = (s.setShelf sh 0).setIns fun i => { i with cleaning := i.cleaning.filter (· != sh) } := by
  refine if_pos ?_
  obtain h | h := hst <;> simp [h]

theorem insShelfWrite_clean (hsh : sh = s.sel p F.INS_SHSEL_SHELF) (hclean : F.INS_SHELF_CMD_CLEAN.of v = 1) (hrel : F.INS_SHELF_CMD_RELEASE.of v = 0) :
    s.insShelfWrite p v = s.shelfClean sh := by
  unfold State.insShelfWrite
  dsimp only
  rw [← hsh, if_pos hclean, if_neg (by omega)]

theorem insShelfWrite_release (hsh : sh = s.sel p F.INS_SHSEL_SHELF) (hclean : F.INS_SHELF_CMD_CLEAN.of v = 0) (hrel : F.INS_SHELF_CMD_RELEASE.of v = 1) :
    s.insShelfWrite p v = s.shelfRelease sh := by
  unfold State.insShelfWrite
  dsimp only
  rw [← hsh, if_pos hrel, if_neg (by omega)]

/-- A pass that leaves nothing of the shelf to clean, on a shelf that is not being parked. -/
theorem cleanEnd_done (hst : s.shelfState sh = 1) (hdone : ∀ g ∈ s.ins.migs, g.kind = 2 → s.rngShelf g.rng ≠ sh)
    (hs1 : s1 = (s.setShelf sh 2).setIns fun i => { i with cleaning := i.cleaning.filter (· != sh) }) (hpark : s1.bndShelf sh ≠ 1) :
    s.cleanEnd sh = ((s1.event clsBind 0xB sh 4 (s1.bndShelf sh + s1.get F.INS_SHELF_STATUS_DIRTY (ent sh) * 65536)).gpfStep).writeDone := by
  have hall : (s.ins.migs.all fun g => g.kind != 2 || s.rngShelf g.rng != sh) = true := by
    refine List.all_eq_true.2 fun g hg => ?_
    by_cases hkind : g.kind = 2
    · simp [hdone g hg hkind]
    · simp [hkind]
  unfold State.cleanEnd
  rw [if_pos ⟨hst, hall⟩]
  dsimp only
  rw [← hs1, if_neg hpark]

end Cleaning

/-- Settles O38. -/
theorem shelfCleaning : Obligations.ShelfCleaning := by
  refine ⟨?clean, ?release, ?pass⟩
  case clean =>
    intro s p v sh ids hp ho hsh hclean hrel hst hids
    refine next_of_within (f := fun t => t.pathWrite p R.INS_SHELF_CMD v) rfl hp ?_
    rw [pathWrite_INS_SHELF_CMD ho, insShelfWrite_clean hsh hclean hrel]
    exact congrArg (fun t => t.writeDone.send (.csr p true 0)) (shelfClean_awake hst hids)
  case release =>
    intro s p v sh hp ho hsh hclean hrel hst
    refine next_of_within (f := fun t => t.pathWrite p R.INS_SHELF_CMD v) rfl hp ?_
    rw [pathWrite_INS_SHELF_CMD ho, insShelfWrite_release hsh hclean hrel, shelfRelease_cleaned hst]
  case pass =>
    intro s sh s1 hsh hst hdone hs1 hpark
    exact next_of_within (f := fun t => t.cleanEnd sh) rfl (decide_eq_true hsh) (cleanEnd_done hst hdone hs1 hpark)

end Sys2Proof.Machine
end

section
/-!
PROOFS. Discovery and binding of vPPBs, slices, frames and the wake budget (spec/12, spec/18).
-/
namespace Sys2Proof.Machine
open Sys2Proof

/-- Outside a warm restart the firmware does its work at once. -/
theorem firmware_running {s : State} {k : Nat} {i : Instr} {f : State → State} (h : s.restarting = false) : s.firmware k i f = f s := by
  rw [State.firmware, if_neg (by simp [h])]

/-! ### Discovery and binding -/

section Binding
variable {s s1 : State}

/-- Discovery under policy 0, at a port that faces downward and whose partner has no extended reach. -/
theorem discoveryDone_policy0 {n kind lds vendor : Nat} {dcd : Bool} {sn : Option Nat} (hhp : s.hp n = hpDiscover)
    (hpol : s.get F.EP_HP_CFG_POLICY (dPort n) = 0) (hide : s.get F.EP_IDE_CFG_LINK_POLICY (dPort n) = 0) (hmode : upMode (s.portMode n) = false)
    (hs1 : s1 = ((s.partnerSet n ⟨kind, lds, dcd, false, sn, vendor⟩).setPort n fun x => { x with disc := none }).put F.EP_XR_STATUS_PARTNER_CAP
      (dPort n) 0) : s.discoveryDone n ⟨kind, lds, dcd, false, sn, vendor⟩ = s1.hpTo n 5 := by
  have hgo : ¬(s.hp n ≠ hpDiscover ∨ (s.get F.EP_HP_CFG_POLICY (dPort n) ≠ 2 ∧ s.get F.EP_IDE_CFG_LINK_POLICY (dPort n) = 2 ∧
      s.get F.EP_IDE_STATUS_LINK_STATE (dPort n) ≠ 1)) := by simp [hhp, hide]
  unfold State.discoveryDone
  dsimp only
  rw [if_neg hgo, hmode, hpol]
  simp only [Bool.false_eq_true, if_false, Nat.zero_ne_one, false_and, show ¬(0 = 2) by decide, Bool.and_false]
  rw [hs1]
  rfl

theorem discoveryTimeout_due {n : Nat} (hhp : s.hp n = hpDiscover) (hdue : s.dueO (s.port n).disc = true) :
    s.discoveryTimeout n = ((s.setPort n fun x => { x with disc := none }).hpTo n 5).occ 832 n := if_pos ⟨hhp, hdue⟩

/-- A BIND that passes its checks, of a requester with no command pending. -/
theorem bcmdWrite_bind {p : Path} {v : Word} {vp : Nat} {b : Bound} (hvp : vp = s.sel p F.BND_VSEL_VPPB) (hs1 : s1 = s.storeAt (R.BND_BCMD + ent vp) v)
    (hgo : F.BND_BCMD_GO.of v = 1) (hop : F.BND_BCMD_OP.of v = 0)
    (hb : b = ⟨F.BND_BCMD_KIND.of v, F.BND_BCMD_PORT.of v, F.BND_BCMD_LD_OBJ.of v, F.BND_BCMD_SLICE.of v⟩) (hbusy : s1.bindBusy (some p) = false)
    (hok : s1.bindReason vp b = 0) :
    s.bcmdWrite p v = (s1.setBnd fun x => { x with binds := x.binds ++ [⟨s1.tim.bnd, some p, vp, b.kind, b.port, b.obj, b.slice⟩] }).bcmdStatus (some p) vp
      1 0 := by
  have hreason : (if s1.bindBusy (some p) then 9 else s1.bindReason vp b) = 0 := by rw [hbusy, hok]; rfl
  have hbind : s1.bindCmd (some p) vp b = ((s1.setBnd fun x =>
      { x with binds := x.binds ++ [⟨s1.tim.bnd, some p, vp, b.kind, b.port, b.obj, b.slice⟩] }).bcmdStatus (some p) vp 1 0, 0) := by
    unfold State.bindCmd
    dsimp only
    rw [hreason, if_pos rfl]
  unfold State.bcmdWrite
  dsimp only
  rw [← hvp, ← hs1, if_neg (by omega), if_pos hop, ← hb, hbind]

/-- An UNBIND of a bound vPPB that none is pending for, in a mode without a notice to the host. -/
theorem bcmdWrite_unbind {p : Path} {v : Word} {vp : Nat} {b : Bound} (hvp : vp = s.sel p F.BND_VSEL_VPPB) (hs1 : s1 = s.storeAt (R.BND_BCMD + ent vp) v)
    (hgo : F.BND_BCMD_GO.of v = 1) (hop : F.BND_BCMD_OP.of v = 1) (hbusy : s1.bindBusy (some p) = false) (hbound : s1.bound? vp = some b)
    (hnone : ∀ u ∈ s1.bnd.unbinds, u.vppb ≠ vp) (hmode : F.BND_BCMD_UMODE.of v ≠ 1) :
    s.bcmdWrite p v = (s1.setBnd fun x => { x with unbinds := x.unbinds ++ [⟨s1.tim.bnd, some p, vp, F.BND_BCMD_UMODE.of v⟩] }).bcmdStatus (some p) vp
      1 0 := by
  have hfree : (s1.bnd.unbinds.any fun u => u.vppb == vp) = false := List.any_eq_false.2 fun u hu => by simpa using hnone u hu
  have hreason : (if s1.bindBusy (some p) then 9 else if (s1.bound? vp).isNone || s1.bnd.unbinds.any (fun u => u.vppb == vp) then 1 else 0) = 0 := by
    rw [hbusy, hbound, hfree]; rfl
  have hunbind : s1.unbindCmd (some p) vp (F.BND_BCMD_UMODE.of v) = ((s1.setBnd fun x =>
      { x with unbinds := x.unbinds ++ [⟨s1.tim.bnd, some p, vp, F.BND_BCMD_UMODE.of v⟩] }).bcmdStatus (some p) vp 1 0, 0) := by
    unfold State.unbindCmd
    dsimp only
    rw [hreason, if_pos rfl, if_neg hmode]
  unfold State.bcmdWrite
  dsimp only
  rw [← hvp, ← hs1, if_neg (by omega), if_neg (by omega), hunbind]

/-- The one pending binding of kind 3 is applied after its boundary. -/
theorem bindApply_kind3 {c : BindCmd} (hbinds : s.bnd.binds = [c]) (hsince : s.since c.since = true) (hkind : c.kind = 3)
    (hs1 : s1 = s.setBnd fun x => { x with binds := x.binds.filter fun c => !s.since c.since }) :
    s.bindApply = (((s1.put F.BND_VPPB_BIND_TARGET (ent c.vppb) (Bound.mk c.kind c.port c.obj c.slice).word).put F.BND_VPPB_BIND_BOUND (ent c.vppb)
      1).bcmdStatus c.path c.vppb 2 0).bindEvent c.vppb 0 false := by
  have hone : s1.bindApply1 c = (((s1.put F.BND_VPPB_BIND_TARGET (ent c.vppb) (Bound.mk c.kind c.port c.obj c.slice).word).put F.BND_VPPB_BIND_BOUND
      (ent c.vppb) 1).bcmdStatus c.path c.vppb 2 0).bindEvent c.vppb 0 false := by
    unfold State.bindApply1
    dsimp only
    rw [if_neg (by omega), if_neg (by omega)]
  unfold State.bindApply
  dsimp only
  rw [← hs1, hbinds, List.filter_singleton, hsince]
  exact hone

/-- An UNBIND is applied when its mode or the host's side says so. -/
theorem unbindApply_due {v : Nat} {hostDown : Bool} {u : Unbind} (hfind : (s.bnd.unbinds.find? fun u => u.vppb == v) = some u)
    (hsince : s.since u.since = true) (hwhen : u.umode = 2 ∨ hostDown = true) :
    s.unbindApply v hostDown = (((s.setBnd fun x => { x with unbinds := x.unbinds.filter fun u => u.vppb != v }).unbind v (u.umode == 2)).bcmdStatus u.path v
      2 0).bindEvent v 0 true := by
  rw [State.unbindApply, hfind]
  dsimp only
  rw [if_pos (by simp [hsince, hwhen])]

end Binding

/-- Settles O39. -/
theorem bindingCommands : Obligations.BindingCommands := by
  refine ⟨?discovery, ?timeout, ?bind, ?unbind, ?bindApply, ?unbindApply⟩
  case discovery =>
    intro s n kind lds dcd xr sn vendor s1 hn hhp hpol hide hmode hxr hs1 hrun
    subst hxr
    refine next_of_within (f := fun t => (t.firmware 0 (.discoveryComplete n kind lds dcd false sn vendor) fun u =>
      u.discoveryDone n ⟨kind, lds, dcd, false, sn, vendor⟩).writeDone) rfl (decide_eq_true hn) ?_
    rw [firmware_running hrun, discoveryDone_policy0 hhp hpol hide hmode hs1]
  case timeout =>
    intro s n hn hhp hdue
    refine next_of_within (f := fun t => (t.discoveryTimeout n).settle) rfl (decide_eq_true hn) ?_
    rw [discoveryTimeout_due hhp hdue]
  case bind =>
    intro s p v vp s1 b hp ho hvp hs1 hgo hop hb hbusy hok
    refine next_of_within (f := fun t => t.pathWrite p R.BND_BCMD v) rfl hp ?_
    rw [pathWrite_BND_BCMD ho, bcmdWrite_bind hvp hs1 hgo hop hb hbusy hok]
  case unbind =>
    intro s p v vp s1 b hp ho hvp hs1 hgo hop hbusy hbound hnone hmode
    refine next_of_within (f := fun t => t.pathWrite p R.BND_BCMD v) rfl hp ?_
    rw [pathWrite_BND_BCMD ho, bcmdWrite_unbind hvp hs1 hgo hop hbusy hbound hnone hmode]
  case bindApply =>
    intro s c s1 hbinds hsince hkind hs1
    exact next_of_eq (u := s.bindApply.writeDone) rfl (congrArg State.writeDone (bindApply_kind3 hbinds hsince hkind hs1))
  case unbindApply =>
    intro s v hostDown u hv hfind hsince hwhen
    refine next_of_within (f := fun t => (t.unbindApply v hostDown).writeDone) rfl (decide_eq_true hv) ?_
    rw [unbindApply_due hfind hsince hwhen]

/-! ### Slices, frames and the wake budget -/

section Slices
variable {s s1 : State} {sl : Nat} {c : SlCmd}

/-- GO of a command of one slice that passes its checks: it is PENDING until its gate. -/
theorem slCmdWrite_go {p : Path} {v : Word} {target op : Nat} (hsl : sl = s.sel p F.BND_SSEL_SLICE) (hs1 : s1 = s.storeAt (R.BND_SL_CMD + ent sl) v)
    (hgo : F.BND_SL_CMD_GO.of v = 1) (hop : F.BND_SL_CMD_OP.of v = op) (hscope : F.BND_SL_CMD_SCOPE.of v = 0)
    (htarget : target = s.get F.BND_SL_TGT_LO_TGT (ent sl) + s.get F.BND_SL_TGT_HI_TGT (ent sl) * 2 ^ 32) (hok : s.slCheck sl false target = 0) :
    s.slCmdWrite p v = ((s1.setBnd fun b =>
      { b with slCmds := b.slCmds ++ [⟨s.tim.bnd, sl, op == 1, F.BND_SL_CMD_MODE.of v == 1, none, false, none, false⟩] }).slStatus sl 1 0).put
      F.BND_SL_CMD_STATUS_SQUASHED (ent sl) 0 := by
  have hfabric : (F.BND_SL_CMD_SCOPE.of v == 1) = false := by rw [hscope]; rfl
  unfold State.slCmdWrite
  dsimp only
  rw [← hsl, ← hs1, if_neg (by omega), ← htarget, hfabric, hok, if_neg (by decide), hop]
  rfl

/-- The gate of a command that drains, on a slice whose queue pair is not enabled. -/
theorem slGate_drains (hfind : (s.bnd.slCmds.find? fun c => c.slice == sl && !c.running) = some c) (htarget : c.target = none)
    (hsince : s.since c.since = true) (hsquash : c.squash = false)
    (hs1 : s1 = (s.setBnd fun b =>
      { b with slCmds := b.slCmds.map fun x => if x.slice == sl then
          { c with running := true, since := s.tim.bnd, timer := some (s.after (s.get F.BND_SL_CFG_DRAIN (ent sl))) } else x }).slStatus sl 2 0)
    (hqp : s1.qpState sl ≠ qpEnabled) : s.slGate sl = s1.setSl sl slDraining := by
  have hrun : ({ c with running := true, since := s.tim.bnd, timer := if c.squash then none else some (s.after (s.get F.BND_SL_CFG_DRAIN (ent sl))) } :
      SlCmd) = { c with running := true, since := s.tim.bnd, timer := some (s.after (s.get F.BND_SL_CFG_DRAIN (ent sl))) } := by
    rw [if_neg (by simp [hsquash])]
  rw [State.slGate, hfind]
  dsimp only
  rw [hrun, ← hs1, htarget]
  dsimp only
  rw [if_neg (by simp [hsince]), if_neg hqp, if_neg (by simp [hsquash])]

theorem slDrainTimeout_squashes (hfind : (s.bnd.slCmds.find? fun c => c.slice == sl && c.running && s.dueO c.timer) = some c)
    (hout : s.get F.BND_SL_STATUS_OUT (ent sl) ≠ 0) :
    s.slDrainTimeout sl = ((s.setBnd fun b => { b with slCmds := b.slCmds.map fun x => if x.slice == sl then { x with timer := none, fell := true } else
      x }).put F.BND_SL_CMD_STATUS_SQUASHED (ent sl) 1).slSquash sl := by
  rw [State.slDrainTimeout, hfind]
  exact if_neg hout

/-- The end of a removal with nothing outstanding. -/
theorem slEnd_remove (hfind : (s.bnd.slCmds.find? fun c => c.slice == sl && c.running && s.since c.since) = some c)
    (hout : s.get F.BND_SL_STATUS_OUT (ent sl) = 0) (hremove : c.remove = true) :
    s.slEnd sl = ((((s.setBnd fun b => { b with slCmds := b.slCmds.filter fun x => x.slice != sl }).slStatus sl 3 0).setSl sl slClosed).report 2 sl).event
      clsBind 0xB sl 2 (sl + bit c.fell * 512 + 1024) := by
  rw [State.slEnd, hfind]
  dsimp only
  rw [if_neg (not_not_intro hout), hremove, if_pos rfl]
  rfl

/-- The end of a reset with nothing outstanding. -/
theorem slEnd_reset (hfind : (s.bnd.slCmds.find? fun c => c.slice == sl && c.running && s.since c.since) = some c)
    (hout : s.get F.BND_SL_STATUS_OUT (ent sl) = 0) (hremove : c.remove = false) :
    s.slEnd sl = (((((s.setBnd fun b => { b with slCmds := b.slCmds.filter fun x => x.slice != sl }).slStatus sl 3 0).qpDisable sl).acctReset sl).setSl sl
      slOpen).event clsBind 0xB sl 2 (sl + bit c.fell * 512 + 0) := by
  rw [State.slEnd, hfind]
  dsimp only
  rw [if_neg (not_not_intro hout), hremove, if_neg (by decide)]
  rfl

/-- A frame written to the system area. -/
theorem dumpDone_system {f : Frame} {rest : List Frame} {a : Nat} (hbufs : s.cnt.bufs = f :: rest) (ha : a = f.base + frameBytes * f.slot)
    (hs1 : s1 = (s.setCnt fun c => { c with bufs := rest }).syncDump) (hok : s.dumpOk f a = true) (hhost : f.host = false) :
    s.dumpDone true = (s1.each (List.range 512) fun t sl => t.sysWrite (a + 128 + 128 * sl) (leBytes 128 (f.record sl))).sysWrite a
      (leBytes 128 (f.header s.ownSw)) := by
  rw [State.dumpDone, hbufs]
  dsimp only
  rw [← ha, ← hs1, if_neg (by simp [hok]), if_neg (by simp [hhost])]

/-- The oldest wake request, of a bank, is granted when the tokens suffice. -/
theorem wakeGrant_bank {st k : Nat} {rest : List (Nat × Nat)} (hq : s.bnd.wakeQ = (st, k) :: rest) (hst : st < s.tim.num) (hk : k < 20)
    (hcost : s.wakeCost k ≤ s.get F.BND_WAKE_STATUS_TOKENS 0) :
    s.wakeGrant = ((((s.setBnd fun b => { b with wakeQ := rest }).syncWake).put F.BND_WAKE_STATUS_TOKENS 0
      (s.get F.BND_WAKE_STATUS_TOKENS 0 - s.wakeCost k)).bankGrant k) := by
  have herase : (s.setBnd fun b => { b with wakeQ := b.wakeQ.erase (st, k) }) = s.setBnd fun b => { b with wakeQ := rest } := by
    unfold State.setBnd
    dsimp only
    rw [hq, List.erase_cons_head]
  have hfirst : (s.bnd.wakeQ.find? fun e => decide (e.2 < 20) || !s.restarting) = some (st, k) := by
    rw [hq]
    exact List.find?_cons_of_pos (by simp [hk])
  rw [State.wakeGrant, hfirst]
  dsimp only
  rw [herase, if_neg (by omega), if_pos hk]

end Slices

/-- Settles O40. -/
theorem sliceCommands : Obligations.SliceCommands := by
  refine ⟨?reset, ?remove, ?gate, ?timeout, ?endRemove, ?endReset, ?frame, ?wake⟩
  case reset =>
    intro s p v sl s1 target hp ho hsl hs1 hgo hop hscope htarget hok
    refine next_of_within (f := fun t => t.pathWrite p R.BND_SL_CMD v) rfl hp ?_
    rw [pathWrite_BND_SL_CMD ho, slCmdWrite_go hsl hs1 hgo hop hscope htarget hok]
    rfl
  case remove =>
    intro s p v sl s1 target hp ho hsl hs1 hgo hop hscope htarget hok
    refine next_of_within (f := fun t => t.pathWrite p R.BND_SL_CMD v) rfl hp ?_
    rw [pathWrite_BND_SL_CMD ho, slCmdWrite_go hsl hs1 hgo hop hscope htarget hok]
    rfl
  case gate =>
    intro s sl c s1 hsl hfind htarget hsince hsquash hs1 hqp
    refine next_of_within (f := fun t => (t.slGate sl).writeDone) rfl (decide_eq_true hsl) ?_
    rw [slGate_drains hfind htarget hsince hsquash hs1 hqp]
  case timeout =>
    intro s sl c hsl hfind hout
    refine next_of_within (f := fun t => (t.slDrainTimeout sl).writeDone) rfl (decide_eq_true hsl) ?_
    rw [slDrainTimeout_squashes hfind hout]
  case endRemove =>
    intro s sl c hsl hfind hout hremove
    refine next_of_within (f := fun t => (t.slEnd sl).writeDone) rfl (decide_eq_true hsl) ?_
    rw [slEnd_remove hfind hout hremove]
  case endReset =>
    intro s sl c hsl hfind hout hremove
    refine next_of_within (f := fun t => (t.slEnd sl).writeDone) rfl (decide_eq_true hsl) ?_
    rw [slEnd_reset hfind hout hremove]
  case frame =>
    intro s ok f rest a s1 hbufs ha hs1 hok hdump hhost
    subst hok
    exact next_of_eq (u := (s.dumpDone true).writeDone) rfl (congrArg State.writeDone (dumpDone_system hbufs ha hs1 hdump hhost))
  case wake =>
    intro s st k rest hq hst hk hcost
    exact next_of_eq (u := s.wakeGrant) rfl (wakeGrant_bank hq hst hk hcost)

end Sys2Proof.Machine
end

section
/-!
PROOFS. The power of shelves, and Cobbler's queue pairs and descriptors (spec/12).
-/
namespace Sys2Proof.Machine
open Sys2Proof

/-! ### Power of shelves -/

section ShelfPower
variable {s s1 : State} {p : Path} {v : Word} {sh : Nat}

theorem shelfPark_active (hst : s.bndShelf sh = 0) : s.shelfPark sh = ((s.shelfErr sh 0).setBndShelf sh 1).shelfClean sh := if_pos hst

theorem shelfWake_parked (hst : s.bndShelf sh = 3) : s.shelfWake sh = (((s.shelfErr sh 0).setBndShelf sh 4).setShelf sh 4).wakeAdd (20 + sh) := if_pos hst

theorem shelfCmdWrite_park (hsh : sh = s.sel p F.BND_SHSEL_SHELF) (hpark : F.BND_SHELF_CMD_PARK.of v = 1) (hwake : F.BND_SHELF_CMD_WAKE.of v = 0)
    (hrun : s.restarting = false) : s.shelfCmdWrite p v = s.shelfPark sh := by
  unfold State.shelfCmdWrite
  dsimp only
  rw [← hsh, firmware_running hrun, State.shelfCmd]
  simp [hpark, hwake]

theorem shelfCmdWrite_wake (hsh : sh = s.sel p F.BND_SHSEL_SHELF) (hpark : F.BND_SHELF_CMD_PARK.of v = 0) (hwake : F.BND_SHELF_CMD_WAKE.of v = 1)
    (hrun : s.restarting = false) : s.shelfCmdWrite p v = s.shelfWake sh := by
  unfold State.shelfCmdWrite
  dsimp only
  rw [← hsh, firmware_running hrun, State.shelfCmd]
  simp [hpark, hwake]

/-- An ACTIVE shelf none of whose ports has had a request for the idle time parks itself. -/
theorem shelfIdlePark_idle {idle : Nat} (hidle : idle = s.get F.BND_SHELF_TIME_PARK_IDLE (ent sh) * 1024) (hst : s.bndShelf sh = 0)
    (hen : s.on F.BND_SHELF_CFG_PARK_EN (ent sh) = true) (hpos : 0 < idle) (hall : ∀ n ∈ s.shelfPorts sh, (s.port n).lastReq + idle ≤ s.tim.bnd) :
    s.shelfIdlePark sh = ((s.shelfErr sh 0).setBndShelf sh 1).shelfClean sh := by
  unfold State.shelfIdlePark
  dsimp only
  rw [← hidle]
  exact if_pos ⟨hst, hen, hpos, List.all_eq_true.2 fun n hn => decide_eq_true (hall n hn)⟩

/-- The acknowledgement of a park with no wake kept. -/
theorem shelfParkAck_parked (hst : s.bndShelf sh = 2) (hs1 : s1 = ((s.setBndShelf sh 3).shelfTimer sh false).shelfParked sh)
    (hkept : sh ∉ s1.bnd.pendWake) : s.shelfParkAck sh = s1 := by
  unfold State.shelfParkAck
  rw [if_pos hst]
  dsimp only
  rw [← hs1, if_neg (by simp [hkept])]

theorem shelfParkTimeout_due (hst : s.bndShelf sh = 2) (hdue : s.dueO (s.bnd.shelfTo.find sh) = true) :
    s.shelfParkTimeout sh = ((((s.shelfTimer sh false).shelfErr sh 2).setBndShelf sh 0).shelfRelease sh).setBnd fun b =>
      { b with pendWake := b.pendWake.filter (· != sh) } := if_pos ⟨hst, hdue⟩

/-- A wake whose ports are all BOUND again. -/
theorem shelfWakeDone_bound (hst : s.bndShelf sh = 5) (hall : ∀ n ∈ s.shelfPorts sh, s.hp n = hpBound)
    (hs1 : s1 = ((s.shelfTimer sh false).setBndShelf sh 0).bump F.BND_SHELF_STATUS_WAKES (ent sh) 1) :
    s.shelfWakeDone sh = releaseHeld (s1.shelfAwake sh s1.coherentGran) := by
  subst hs1
  exact if_pos ⟨hst, List.all_eq_true.2 fun n hn => beq_iff_eq.2 (hall n hn)⟩

theorem shelfWakeTimeout_due {r : State × List Msg} (hst : s.bndShelf sh = 5) (hdue : s.dueO (s.bnd.shelfTo.find sh) = true)
    (hr : r = ((((s.shelfTimer sh false).shelfErr sh 3).setBndShelf sh 3).occ 384 sh).shelfWakeFailed sh) :
    s.shelfWakeTimeout sh = r.1.each r.2 fun t m =>
      if 76 ≤ m.srcAg ∧ m.srcAg ≤ 79 ∧ m.srcSw = t.ownSw then t.homeSelf (m.srcAg - 76) m.sid m.tag (m.op == .memWr) else t.failBack 83 m := by
  subst hr
  exact if_pos ⟨hst, hdue⟩

end ShelfPower

/-- Settles O41. -/
theorem shelfCommands : Obligations.ShelfCommands := by
  refine ⟨?park, ?wake, ?idle, ?ack, ?parkTimeout, ?wakeDone, ?wakeTimeout⟩
  case park =>
    intro s p v sh hp ho hsh hpark hwake hst hrun
    refine next_of_within (f := fun t => t.pathWrite p R.BND_SHELF_CMD v) rfl hp ?_
    rw [pathWrite_BND_SHELF_CMD ho, shelfCmdWrite_park hsh hpark hwake hrun, shelfPark_active hst]
  case wake =>
    intro s p v sh hp ho hsh hpark hwake hst hrun
    refine next_of_within (f := fun t => t.pathWrite p R.BND_SHELF_CMD v) rfl hp ?_
    rw [pathWrite_BND_SHELF_CMD ho, shelfCmdWrite_wake hsh hpark hwake hrun, shelfWake_parked hst]
  case idle =>
    intro s sh idle hsh hidle hst hen hpos hall hrun
    refine next_of_within (f := fun t => (t.firmware sh (.shelfIdlePark sh) fun u => u.shelfIdlePark sh).writeDone) rfl (decide_eq_true hsh) ?_
    rw [firmware_running hrun, shelfIdlePark_idle hidle hst hen hpos hall]
  case ack =>
    intro s sh s1 hsh hst hs1 hkept hrun
    refine next_of_within (f := fun t => t.firmware sh (.shelfParkAck sh) fun u => u.shelfParkAck sh) rfl (decide_eq_true hsh) ?_
    rw [firmware_running hrun, shelfParkAck_parked hst hs1 hkept]
  case parkTimeout =>
    intro s sh hsh hst hdue
    exact next_of_within (f := fun t => t.shelfParkTimeout sh) rfl (decide_eq_true hsh) (shelfParkTimeout_due hst hdue)
  case wakeDone =>
    intro s sh s1 hsh hst hall hs1 hrun
    refine next_of_within (f := fun t => (t.firmware sh (.shelfWakeDone sh) fun u => u.shelfWakeDone sh).writeDone) rfl (decide_eq_true hsh) ?_
    rw [firmware_running hrun, shelfWakeDone_bound hst hall hs1]
  case wakeTimeout =>
    intro s sh r hsh hst hdue hr
    refine next_of_within (f := fun t => (t.shelfWakeTimeout sh).writeDone) rfl (decide_eq_true hsh) ?_
    rw [shelfWakeTimeout_due hst hdue hr]

/-! ### Cobbler -/

section Cobbler
variable {s s1 : State} {p : Path} {v : Word} {q : Nat} {d : Desc}

theorem qpEnable_valid (hvalid : s.on F.COB_QP_CFG_VALID (ent q) = true) :
    s.qpEnable q = (((s.put F.COB_QP_STATE_SQ_HEAD (ent q) 0).setCob fun c =>
      { c with tails := c.tails.set q 0, cqTails := c.cqTails.set q 0, phase := c.phase.set q false }).setQp q qpEnabled).syncCob q := if_pos hvalid

theorem qpCtlWrite_enable (hq : q = s.sel p F.COB_QSEL_QP) (hen : F.COB_QP_CTL_ENABLE.of v = 1) (hdis : F.COB_QP_CTL_DISABLE.of v = 0) :
    s.qpCtlWrite p v = s.qpEnable q := by
  unfold State.qpCtlWrite
  dsimp only
  rw [← hq, if_pos hen, if_neg (by omega)]

theorem qpCtlWrite_disable (hq : q = s.sel p F.COB_QSEL_QP) (hen : F.COB_QP_CTL_ENABLE.of v = 0) (hdis : F.COB_QP_CTL_DISABLE.of v = 1) :
    s.qpCtlWrite p v = s.setQp q qpDisabled := by
  unfold State.qpCtlWrite
  dsimp only
  rw [← hq, if_pos hdis, if_neg (by omega), State.qpDisable]

/-- A doorbell of a submission tail within the ring of an enabled pair of an OPEN slice. -/
theorem doorbell_tail {n : Nat} (hn : n < s.sqSize q) (hqp : s.qpState q = qpEnabled) (hsl : s.slState q = 1) :
    s.doorbell q false n = (s.setCob fun c => { c with tails := c.tails.set q n }).syncCob q := by
  rw [State.doorbell, if_neg (by simp [hqp, hsl, hn])]
  rfl

/-- A doorbell of a completion head within the ring of an enabled pair of an OPEN slice. -/
theorem doorbell_head {n : Nat} (hn : n < s.cqSize q) (hqp : s.qpState q = qpEnabled) (hsl : s.slState q = 1) :
    s.doorbell q true n = (s.setCob fun c => { c with cqHeads := c.cqHeads.set q n }).syncCob q := by
  rw [State.doorbell, if_neg (by simp [hqp, hsl, hn])]
  rfl

/-- A descriptor fetched from a ring in the host's memory joins the queue. -/
theorem descFetched_host {data : List Byte} {k : Nat} (hfetch : s.fetchable q = true) (hring : s.ringDpa q = false)
    (hk : k = s.get F.COB_QP_STATE_SQ_HEAD (ent q)) :
    s.descFetched q true data = ((s.setCob fun c =>
      { c with descs := c.descs ++ [s.descOf q k (leNat (data.take 64))], seq := c.seq + 1 }).put F.COB_QP_STATE_SQ_HEAD (ent q)
      ((k + 1) % s.sqSize q)).syncCob q := by
  unfold State.descFetched
  rw [if_pos hfetch]
  dsimp only
  rw [← hk, hring, if_neg (by simp), if_neg (by simp)]

/-- The next ready descriptor of the pair whose turn it is starts. -/
theorem descStart_next {before : List Desc} (hopen : (s.cob.descs.filter fun d => d.st == .running).length < s.get F.COB_CFG_MAX_OPEN 0)
    (hturn : s.qpTurn = some q) (hnext : s.nextReady q = some (d, before)) :
    s.descStart = (State.updDesc (s.setCob fun c => { c with rr := q }) d.no fun d =>
      if d.op = 0 then { d with st := .ended } else { d with st := .running, timer := some (s.after (s.get F.COB_TO_LIMIT 0)) }).syncCob q := by
  rw [State.descStart, if_neg (by omega), hturn]
  dsimp only
  rw [hnext]

/-- A descriptor that has ended well writes its completion into a ring in the Insole. -/
theorem descComplete_insole {a t : Nat}
    (hfind : (s.cob.descs.find? fun d => d.qp == q && d.st == .ended && decide (d.postAt ≤ s.tim.bnd)) = some d) (hqp : s.qpState q ≠ qpError)
    (hfull : s.cqFull q = false) (hring : s.ringDpa q = true) (ha : a = s.cqBase q + 16 * s.cob.cqTails.getD q 0) (hans : s.answers a = true)
    (hsize : a + 16 ≤ insBytes) (hstatus : d.status = csSuccess) (hnotify : d.notify = false)
    (hs1 : s1 = ((s.setCob fun c => { c with descs := c.descs.filter fun e => e.no != d.no }).sanEnd d).insWrite a (leBytes 16 (s.cqEntry d)) false)
    (ht : t = (s.cob.cqTails.getD q 0 + 1) % s.cqSize q) :
    s.descComplete q true = ((((s1.setCob fun c =>
      { c with cqTails := c.cqTails.set q t, phase := if t = 0 then c.phase.set q (!(c.phase.getD q false)) else c.phase }).bump F.COB_CNT_DONE 0
      1).count cbCob 2 0 q 1).syncCob q) := by
  have hwritten : ¬(!true || (s.ringDpa q && (!s.answers a || decide (insBytes < a + 16)))) = true := by
    rw [hans, decide_eq_false (Nat.not_lt.2 hsize)]
    simp
  have hgood : (d.status == csSuccess) = true := beq_iff_eq.2 hstatus
  rw [State.descComplete, hfind]
  dsimp only
  rw [if_neg (by simp [hqp, hfull]), ← ha, if_neg hwritten, if_pos hring, ← hs1, ← ht, hgood, if_pos rfl, hnotify, if_neg (by simp)]
  rfl

theorem descTimeout_due (hfind : (s.cob.descs.find? fun d => d.qp == q && d.st == .running && s.dueO d.timer) = some d) :
    s.descTimeout q = s.descEnd d csTimeout := by
  rw [State.descTimeout, hfind]

end Cobbler

/-- Settles O42. -/
theorem cobblerCommands : Obligations.CobblerCommands := by
  refine ⟨?enable, ?disable, ?tail, ?head, ?fetched, ?start, ?complete, ?timeout⟩
  case enable =>
    intro s p v q hp ho hq hen hdis hvalid
    refine next_of_within (f := fun t => t.pathWrite p R.COB_QP_CTL v) rfl hp ?_
    rw [pathWrite_COB_QP_CTL ho, qpCtlWrite_enable hq hen hdis, qpEnable_valid hvalid]
  case disable =>
    intro s p v q hp ho hq hen hdis
    refine next_of_within (f := fun t => t.pathWrite p R.COB_QP_CTL v) rfl hp ?_
    rw [pathWrite_COB_QP_CTL ho, qpCtlWrite_disable hq hen hdis]
  case tail =>
    intro s qp head v hqp hhead hv hst hsl
    subst hhead
    exact next_of_within (f := fun t => t.doorbell qp false v) rfl (decide_eq_true hqp) (doorbell_tail hv hst hsl)
  case head =>
    intro s qp head v hqp hhead hv hst hsl
    subst hhead
    exact next_of_within (f := fun t => t.doorbell qp true v) rfl (decide_eq_true hqp) (doorbell_head hv hst hsl)
  case fetched =>
    intro s qp ok data k hqp hfetch hok hring hk
    subst hok
    refine next_of_within (f := fun t => (t.descFetched qp true data).settle) rfl (decide_eq_true hqp) ?_
    rw [descFetched_host hfetch hring hk]
  case start =>
    intro s q d before hopen hturn hnext hop
    exact next_of_eq (u := s.descStart) rfl (descStart_next hopen hturn hnext)
  case complete =>
    intro s qp ok d a s1 t hqp hfind hst hfull hok hring ha hans hsize hstatus hnotify hs1 ht
    subst hok
    refine next_of_within (f := fun t => (t.descComplete qp true).writeDone) rfl (decide_eq_true hqp) ?_
    rw [descComplete_insole hfind hst hfull hring ha hans hsize hstatus hnotify hs1 ht]
  case timeout =>
    intro s qp d hqp hfind
    exact next_of_within (f := fun t => t.descTimeout qp) rfl (decide_eq_true hqp) (descTimeout_due hfind)

end Sys2Proof.Machine
end

section
/-!
PROOFS. The fabric manager's commands and reports (spec/12; log entry 36).
-/
namespace Sys2Proof.Machine
open Sys2Proof

section FabricManager
variable {s t : State} {eid sw cmd : Nat} {f : State → State}

/-- Outside recovery a fabric manager's command is served. -/
theorem fmServed_running (hrec : s.las.recovery = false) : s.fmServed eid cmd f = f s := by
  rw [State.fmServed, if_neg (by simp [hrec])]

/-- A command of the owner acts on the state with the lease renewed. -/
theorem fmOwned_accepted (hrec : s.las.recovery = false) (hown : s.ownerAccept eid sw = (t, true)) : s.fmOwned eid sw cmd f = f t := by
  rw [State.fmOwned, fmServed_running hrec]
  dsimp only
  rw [hown, if_pos rfl]

theorem fmBind_owned {v : Nat} {b : Bound} {r : State × Nat} (hrec : s.las.recovery = false) (hown : s.ownerAccept eid sw = (t, true))
    (hr : r = t.bindCmd none v b) : s.fmBind eid sw v b = r.1.fmAnswer eid 0x5201 (if r.2 = 0 then 0 else 2) [] := by
  rw [State.fmBind, fmOwned_accepted hrec hown, hr]

theorem fmUnbind_owned {v umode : Nat} {r : State × Nat} (hrec : s.las.recovery = false) (hown : s.ownerAccept eid sw = (t, true))
    (hr : r = t.unbindCmd none v umode) : s.fmUnbind eid sw v umode = r.1.fmAnswer eid 0x5202 (if r.2 = 0 then 0 else 2) [] := by
  rw [State.fmUnbind, fmOwned_accepted hrec hown, hr]

theorem fmAer_bound {v err u : Nat} (hrec : s.las.recovery = false) (hup : s.upOf v = some u) :
    s.fmAer eid v err = (s.send (.ctl u 5 (v + 1024 * err))).fmAnswer eid 0x5203 0 [] := by
  rw [State.fmAer, fmServed_running hrec, hup]

/-- A configuration read of an edge port is sent on. -/
theorem fmConfig_read {n rg val len : Nat} {id : Nat} {m : Msg} (hrec : s.las.recovery = false) (hn : n < 64) (hid : id = 2 ^ 123 + s.mgt.seq)
    (hm : m = { s.mctpMsg s.ownSw 0 0 0 [] with id := id, kind := .io, op := .cfgRd, dstAg := n, body := 1 + 0, sid := 0, addr := rg, len := len,
                                                data := [] }) :
    s.fmConfig eid n rg false val len = ((s.setMgt fun g => { g with seq := g.seq + 1, fmReqs := g.fmReqs ++ [(id, eid)] }).enqueue 82 m).settle := by
  subst hid hm
  rw [State.fmConfig, fmServed_running hrec, if_neg (by omega)]
  rfl

theorem fmTunnel_mld {n ld : Nat} {body : List Byte} (hrec : s.las.recovery = false) (hn : n < 64) (hkind : s.get F.BND_PARTNER_KIND (ent n) = 3)
    (hld : ld < s.get F.BND_PARTNER_LDS (ent n)) :
    s.fmTunnel eid n ld body = (s.send (.port n { s.mctpMsg s.ownSw 0 0 0 body with dstAg := n, sid := ld })).fmAnswer eid 0x5300 0 [] := by
  rw [State.fmTunnel, fmServed_running hrec, if_neg (by omega)]

/-- Extents are taken from an object that has them. -/
theorem fmDcd_release {obj ext n cnt : Nat} {s1 : State} (hrec : s.las.recovery = false) (hown : s.ownerAccept eid sw = (t, true))
    (hcnt : cnt = t.staged F.INS_OBJ_CFG_COUNT (ent obj)) (hobj : obj < 512) (hvalid : t.staged F.INS_OBJ_CFG_VALID (ent obj) ≠ 0) (hn : n ≤ cnt)
    (hs1 : s1 = (t.put F.INS_OBJ_CFG_COUNT (ent obj) (cnt - n)).setLas fun l =>
      { l with direct := if l.direct.contains .ins then l.direct else l.direct ++ [.ins] }) :
    s.fmDcd eid sw obj ext false n = ((s1.setBnd fun b => { b with dcdArm := true }).dcdTry).fmAnswer eid 0x5605 0 [] := by
  rw [State.fmDcd, fmOwned_accepted hrec hown]
  dsimp only
  rw [← hcnt, if_neg (by simp; omega), if_neg (by decide), ← hs1]
  rfl

theorem leaseExpiry_due (howned : s.on F.BND_FM_OWNED 0 = true) (hdue : s.dueO s.bnd.lease = true) :
    s.leaseExpiry = ((s.put F.BND_FM_OWNED 0 0).setBnd fun b => { b with lease := none }).ownerEvent (s.get F.BND_FM_OWNER_EID 0)
      (s.get F.BND_FM_OWNER_SW 0) false := if_pos ⟨howned, hdue⟩

/-- DISABLE of a port is a write of its EP_LINK_CMD. -/
theorem fmPort_disable {n : Nat} (hrec : s.las.recovery = false) (hown : s.ownerAccept eid sw = (t, true)) (hn : n < 64) :
    s.fmPort eid sw n 0 = (t.portCmdWrite n (F.EP_LINK_CMD_DISABLE.upd (t.reg (R.EP_LINK_CMD + dPort n)) 1)).fmAnswer eid 0x5102 0 [] := by
  rw [State.fmPort, fmOwned_accepted hrec hown, if_neg (by omega)]
  rfl

end FabricManager

/-- Settles O43. -/
theorem fabricManagerCommands : Obligations.FabricManagerCommands := by
  refine ⟨?bind, ?unbind, ?aer, ?config, ?tunnel, ?dcd, ?lease, ?reportRx, ?reportRepeat, ?reportAck, ?port⟩
  case bind =>
    intro s eid sw v kind port obj slice t r hown hr hrun hrec
    refine next_of_eq (u := (s.firmware 0 (.fmBindVppb eid sw v kind port obj slice) fun t => t.fmBind eid sw v ⟨kind, port, obj, slice⟩).writeDone) rfl ?_
    rw [firmware_running hrun, fmBind_owned hrec hown hr]
  case unbind =>
    intro s eid sw v umode t r hown hr hrun hrec
    refine next_of_eq (u := (s.firmware 0 (.fmUnbindVppb eid sw v umode) fun t => t.fmUnbind eid sw v umode).writeDone) rfl ?_
    rw [firmware_running hrun, fmUnbind_owned hrec hown hr]
  case aer =>
    intro s eid sw v err u hup hrun hrec
    refine next_of_eq (u := s.firmware 0 (.fmGenerateAerEvent eid sw v err) fun t => t.fmAer eid v err) rfl ?_
    rw [firmware_running hrun, fmAer_bound hrec hup]
  case config =>
    intro s eid sw n reg write val len id m hn hid hwrite hm hrun hrec
    subst hwrite
    refine next_of_eq (u := (s.firmware 0 (.fmPpbConfigRequest eid sw n reg false val len) fun t => t.fmConfig eid n reg false val len).writeDone) rfl ?_
    rw [firmware_running hrun, fmConfig_read hrec hn hid hm]
  case tunnel =>
    intro s eid sw n ld body hn hkind hld hrun hrec
    refine next_of_eq (u := s.firmware 0 (.fmMldTunnel eid sw n ld body) fun t => t.fmTunnel eid n ld body) rfl ?_
    rw [firmware_running hrun, fmTunnel_mld hrec hn hkind hld]
  case dcd =>
    intro s eid sw obj ext add n t s1 cnt hown hadd hcnt hobj hvalid hn hs1 hrun hrec
    subst hadd
    refine next_of_eq (u := (s.firmware 0 (.fmDcdCapacityChange eid sw obj ext false n) fun t => t.fmDcd eid sw obj ext false n).writeDone) rfl ?_
    rw [firmware_running hrun, fmDcd_release hrec hown hcnt hobj hvalid hn hs1]
  case lease =>
    intro s howned hdue
    exact next_of_eq (u := s.leaseExpiry) rfl (leaseExpiry_due howned hdue)
  case reportRx =>
    intro s sw kind val s1 hsw hs1
    subst hs1
    exact next_of_within (f := fun t => (t.reportRx sw kind val).writeDone) rfl (decide_eq_true hsw) rfl
  case reportRepeat =>
    intro s sw due s1 hsw hdue hs1
    subst hdue hs1
    exact next_of_within (f := fun t => (t.reportRepeat sw).writeDone) rfl (decide_eq_true hsw) rfl
  case reportAck =>
    intro s sw kind val hsw
    exact next_of_within (f := fun t => t.reportAcked sw kind val) rfl (decide_eq_true hsw) rfl
  case port =>
    intro s eid sw n op t hown hn hop hrun hrec
    subst hop
    refine next_of_eq (u := (s.firmware 0 (.fmPhysicalPortControl eid sw n 0) fun t => t.fmPort eid sw n 0).writeDone) rfl ?_
    rw [firmware_running hrun, fmPort_disable hrec hown hn]

end Sys2Proof.Machine
end

section
/-!
PROOFS. Vamp: requests, messages, completions, locks, configuration and the violation records (spec/13, spec/14).
-/
namespace Sys2Proof.Machine
open Sys2Proof

section Requests
variable {s s1 : State} {id : Nat} {m : Msg}

/-- A message that has crossed to Vamp and is of the command's kind is taken up. -/
theorem vampTakes_kind {kind : Msg → Bool} {f : State → Msg → State} (hcross : s.crossed? 80 id = some m) (hkind : kind m = true)
    (hs1 : s1 = s.uncross 80 id) : s.vampTakes id kind f = (f s1 m).writeDone := by
  rw [State.vampTakes, hcross, hs1]
  exact if_pos hkind

/-- A request that no lock holds and no broken lock refuses passes to its function. -/
theorem vampOut_free {f : Nat} (hfn : s.fnOf m.sid = some f) (hbroken : s.lockBroken (s.fnPort f) m = false)
    (hlocked : s.lockedOut (s.fnPort f) m = false) : s.vampOut m = s.outCore m f := by
  have hholds : s.lockHolds (s.fnPort f) m = false := by rw [State.lockHolds, hlocked, Bool.and_false]
  have hlock : s.outLock m f = s.outCore m f := by
    unfold State.outLock
    dsimp only
    simp only [hholds, Bool.false_eq_true, false_and, if_false]
    unfold State.outPass
    dsimp only
    rw [if_neg (by simp [hbroken]), if_neg (by simp [hlocked])]
  rw [State.vampOut, hfn]
  exact hlock

/-- A device's write passes through the window that matches it. -/
theorem vampIn_write {w : Nat} (hop : m.op = .mWr) (hmatch : s.inMatch (m.sid - 1024) m = some w) (hfence : s.winFenced w = false) :
    s.vampIn m = s.inMsg ⟨m.sid - 1024, if s.on F.VAMP_WIN_CFG_MSG (ent w) then vqMsi else vqWrite, m, w⟩ := by
  unfold State.vampIn
  dsimp only
  rw [if_neg (by simp [hop]), hmatch]
  dsimp only
  rw [if_neg (by simp [hfence]), if_pos hop]

/-- A good completion in time ends its track with the data asked for. -/
theorem vampCpl_good {t : VTrack} (hfind : (s.vmp.tracks.find? fun t => vampId t.tag == m.id) = some t) (hdue : s.due t.timer = false)
    (hdet : t.detached = false) (hstatus : m.status = .ok) (hextra : t.extra = 0) :
    s.vampCpl m = (s.trackAnswer t .ok (m.data.take t.req.len) m.poison).trackEnd t := by
  have hgood : ((Status.ok == .ok) || (decide (0 < t.extra) && decide (t.req.len ≤ m.data.length))) = true := rfl
  rw [State.vampCpl, hfind]
  dsimp only
  rw [if_neg (by simp [hdue]), if_neg (by simp [hdet]), hstatus, if_neg (by decide), hgood]
  simp only [if_true, hextra]

theorem vampUnlock_held {f : Nat} {k : VLock} (hfn : s.fnOf m.sid = some f) (hbroken : s.lockBroken (s.fnPort f) m = false)
    (hlock : s.lock? (s.fnPort f) = some k) (hown : s.lockedOut (s.fnPort f) m = false) : s.vampUnlock m = s.lockRelease (s.fnPort f) := by
  rw [State.vampUnlock, hfn]
  dsimp only
  rw [if_neg (by simp [hbroken]), if_pos (by simp [hlock, hown])]

theorem lockTimeout_due {n : Nat} {k : VLock} (hlock : s.lock? n = some k) (hdue : s.due k.timer = true) : s.lockTimeout n = s.lockBreak n true := by
  rw [State.lockTimeout, hlock]
  exact if_pos hdue

/-- A message of a device for the one function its requester names. -/
theorem vampMsg_one {kind rtid tag f : Nat} (hkind : kind ≠ vqEat) (hfns : s.fnsAt (m.sid - 1024) rtid = [f]) :
    s.vampMsg kind m rtid tag = (s.devLinesGone (m.sid - 1024)).inMsg ⟨m.sid - 1024, kind, { m with tag := tag }, f⟩ := by
  unfold State.vampMsg
  dsimp only
  rw [if_neg hkind, hfns]
  rfl

theorem vampMessage_taken {kind rtid tag : Nat} (hcross : s.crossed? 80 id = some m) (hop : m.op = .msg) (hdev : fromHost m = false)
    (hroom : s.inRoom m = true) (hs1 : s1 = s.uncross 80 id) : s.vampMessage id kind rtid tag = (s1.vampMsg kind m rtid tag).writeDone :=
  vampTakes_kind hcross (by simp [hop, hdev, hroom]) hs1

end Requests

/-- Settles O44. -/
theorem vampRequests : Obligations.VampRequests := by
  refine ⟨?outbound, ?inbound, ?completion, ?lockedRead, ?unlock, ?lockTimeout, ?intx, ?err, ?forward, ?consumed⟩
  case outbound =>
    intro s id m s1 f hcross hreq hhost hplain hs1 hfn hbroken hlocked
    refine next_of_eq (u := s.vampTakes id (fun m => isReq m && fromHost m && outPlain m.op) State.vampOut) rfl ?_
    rw [vampTakes_kind hcross (by simp [hreq, hhost, hplain]) hs1, vampOut_free hfn hbroken hlocked]
  case inbound =>
    intro s id m s1 w hcross hreq hdev hop hroom hs1 hmatch hfence
    refine next_of_eq (u := s.vampTakes id (fun m => isReq m && !fromHost m && m.op != .msg && (m.op != .mWr || s.inRoom m)) State.vampIn) rfl ?_
    rw [vampTakes_kind hcross (by simp [hreq, hdev, hop, hroom]) hs1, vampIn_write hop hmatch hfence]
  case completion =>
    intro s id m s1 t hcross hrsp hs1 hfind hdue hdet hstatus hextra
    refine next_of_eq (u := s.vampTakes id (fun m => isResp m.op) State.vampCpl) rfl ?_
    rw [vampTakes_kind hcross hrsp hs1, vampCpl_good hfind hdue hdet hstatus hextra]
  case lockedRead =>
    intro s id m s1 f hcross hop hhost hs1 hfn hbroken hlocked
    refine next_of_eq (u := s.vampTakes id (fun m => m.op == .mRdLk && fromHost m) State.vampOut) rfl ?_
    rw [vampTakes_kind hcross (by simp [hop, hhost]) hs1, vampOut_free hfn hbroken hlocked]
  case unlock =>
    intro s id m s1 f k hcross hop hhost hs1 hfn hbroken hlock hown
    refine next_of_eq (u := s.vampTakes id (fun m => m.op == .unlock && fromHost m) State.vampUnlock) rfl ?_
    rw [vampTakes_kind hcross (by simp [hop, hhost]) hs1, vampUnlock_held hfn hbroken hlock hown]
  case lockTimeout =>
    intro s n k hn hlock hdue
    refine next_of_within (f := fun t => (t.lockTimeout n).writeDone) rfl (decide_eq_true hn) ?_
    rw [lockTimeout_due hlock hdue]
  case intx =>
    intro s id rtid pin on m s1 f hcross hop hdev hroom hs1 hfns
    refine next_of_eq (u := s.vampMessage id vqIntx rtid (2 * pin + bit on)) rfl ?_
    rw [vampMessage_taken hcross hop hdev hroom hs1, vampMsg_one (by decide) hfns]
  case err =>
    intro s id rtid sev m s1 f hcross hop hdev hroom hs1 hfns
    refine next_of_eq (u := s.vampMessage id vqErr rtid sev) rfl ?_
    rw [vampMessage_taken hcross hop hdev hroom hs1, vampMsg_one (by decide) hfns]
  case forward =>
    intro s id rtid m s1 f hcross hop hdev hroom hs1 hfns
    refine next_of_eq (u := s.vampMessage id vqFwd rtid 0) rfl ?_
    rw [vampMessage_taken hcross hop hdev hroom hs1, vampMsg_one (by decide) hfns]
  case consumed =>
    intro s id m s1 hcross hop hdev hroom hs1
    refine next_of_eq (u := s.vampMessage id vqEat 0 0) rfl ?_
    rw [vampMessage_taken hcross hop hdev hroom hs1]
    rfl

section Ends
variable {s : State} {m : Msg}

theorem vampRelease_next {n : Nat} {q : VMsg} {t : State} (hnone : s.inUnaccepted n = false) (htake : s.inTake n = some (q, t)) :
    s.vampRelease n = State.inWrites t.vmp.inq.length (t.msgEffect q) n := by
  rw [State.vampRelease, if_neg (by simp [hnone]), htake]

/-- A track past its limit answers with a completer abort and raises its occurrence. -/
theorem vampNpTimeout_due {no : Nat} {t : VTrack} (hfind : (s.vmp.tracks.find? fun t => t.tag == no && s.due t.timer) = some t)
    (hdet : t.detached = false) :
    s.vampNpTimeout no = ((s.trackAnswer t .ca [] false).occAt (1088 + t.port) t.win (if t.win < 2048 then some (.win t.win) else none)).trackEnd t := by
  rw [State.vampNpTimeout, hfind]
  dsimp only
  rw [if_neg (by simp [hdet])]

/-- A configuration write of a BAR of the function moves its base. -/
theorem vampCfgWrite_bar {k f w bar : Nat} {high : Bool} (hfn : s.fnOf m.sid = some f) (hwin : s.barWin f k = some (w, high))
    (hbar : bar = s.get F.VAMP_WIN_CFG_BAR (ent w)) :
    s.vampCfgWrite m cfBar k = (s.setVbind m.sid fun b =>
      { b with bars := b.bars.set bar (barBase (b.bars.getD bar 0) (s.winSize w) (leNat (m.data.take 4)) high) }).respond 80 m .cpl .ok [] false 0 := by
  subst hbar
  unfold State.vampCfgWrite
  dsimp only
  rw [hfn]
  dsimp only
  rw [if_pos rfl, hwin]

/-- A configuration read of the high half of a BAR answers from the binding. -/
theorem vampCfgRead_barHigh {k f w : Nat} (hfn : s.fnOf m.sid = some f) (hwin : s.barWin f k = some (w, true)) :
    s.vampCfgRead m cfBar k = s.respond 80 m .cplD .ok (leBytes 4 ((s.vbind m.sid).bars.getD (s.get F.VAMP_WIN_CFG_BAR (ent w)) 0 / 2 ^ 32)) false 0 := by
  unfold State.vampCfgRead
  dsimp only
  rw [hfn]
  dsimp only
  rw [if_pos rfl, hwin]
  rfl

/-- The oldest queued violation is written to its record, shown and reported. -/
theorem violWrite_oldest {v : Viol} {rest : List Viol} {s1 s2 : State} (hq : s.sec.violQ = v :: rest)
    (hs1 : s1 = ((s.setSec fun x => { x with violQ := rest }).put F.EYE_VIOL_STATUS_QUEUED 0 rest.length).sysWrite
      (0x3C000000 + 64 * (v.seq % 1048576)) (leBytes 64 v.word))
    (hs2 : s2 = (s1.put F.EYE_VIOL_LAST_LO_ADDR 0 v.addr).put F.EYE_VIOL_LAST_HI_ADDR 0 (v.addr / 2 ^ 32)) :
    s.violWrite = State.occAt (((((s2.put F.EYE_VIOL_LAST_INFO_REASON 0 v.reason).put F.EYE_VIOL_LAST_INFO_KIND 0 v.kind).put
      F.EYE_VIOL_LAST_INFO_SLOT 0 v.slot).put F.EYE_VIOL_LAST_INFO_SLICE 0 v.slice).event 1 0xD v.slot v.reason (v.seq % 2 ^ 32 + v.slot * 2 ^ 32))
      (1152 + v.slot) v.slot (slotUnit v.slot) := by
  unfold State.violWrite
  rw [hq]
  dsimp only
  rw [← hs1, ← hs2]

end Ends

/-- Settles O45. -/
theorem vampEnds : Obligations.VampEnds := by
  refine ⟨?release, ?notice, ?aged, ?timeout, ?cfgWrite, ?cfgRead, ?violation⟩
  case release =>
    intro s n q t hn hnone htake
    refine next_of_within (f := fun t => (t.vampRelease n).writeDone) rfl (decide_eq_true hn) ?_
    rw [vampRelease_next hnone htake]
  case notice =>
    intro s id
    exact next_of_eq (u := s.noticeRx id) rfl rfl
  case aged =>
    intro s w slice addr
    exact next_of_eq (u := (s.pfAged w slice addr).settle) rfl rfl
  case timeout =>
    intro s no t s1 hfind hdet hs1
    subst hs1
    exact next_of_eq (u := (s.vampNpTimeout no).writeDone) rfl (congrArg State.writeDone (vampNpTimeout_due hfind hdet))
  case cfgWrite =>
    intro s id what k m s1 f w bar high hcross hop hhost hs1 hfn hwhat hwin hbar
    subst hwhat
    refine next_of_eq (u := s.vampTakes id (fun m => m.op == .cfgWr && fromHost m) fun t m => t.vampCfgWrite m cfBar k) rfl ?_
    rw [vampTakes_kind hcross (by simp [hop, hhost]) hs1, vampCfgWrite_bar hfn hwin hbar]
  case cfgRead =>
    intro s id what k m s1 f w hcross hop hhost hs1 hfn hwhat hwin
    subst hwhat
    refine next_of_eq (u := s.vampTakes id (fun m => m.op == .cfgRd && fromHost m) fun t m => t.vampCfgRead m cfBar k) rfl ?_
    rw [vampTakes_kind hcross (by simp [hop, hhost]) hs1, vampCfgRead_barHigh hfn hwin]
  case violation =>
    intro s v rest s1 s2 hq hs1 hs2
    exact next_of_eq (u := s.violWrite.settle) rfl (congrArg State.settle (violWrite_oldest hq hs1 hs2))

end Sys2Proof.Machine
end

section
/-!
PROOFS. The enclave's accepted commands (spec/14 R391; log entry 33) and the attestation requests (spec/14; log entry 34).
-/
namespace Sys2Proof.Machine
open Sys2Proof

/-! ### What the enclave checks -/

section Checks
variable {s : State}

theorem stateForbids_claim (h : s.lifecycle = lcShipped) : s.stateForbids opClaim = false := by simp [State.stateForbids, h]

theorem stateForbids_install (h : s.lifecycle = lcOwned) : s.stateForbids opInstall = false := by
  simp [State.stateForbids, h, opInstall, opClaim]

theorem stateForbids_release (h : s.lifecycle = lcOwned) : s.stateForbids opRelease = false := by
  simp [State.stateForbids, h, opInstall, opClaim, opRelease]

/-- UNLOCK, LOCK and RETURN are refused in RETURNED alone. -/
theorem stateForbids_returned {op : Nat} (hop : op = opUnlock ∨ op = opLock ∨ op = opReturn) (h : s.lifecycle ≠ lcReturned) :
    s.stateForbids op = false := by
  have hclaim : op ≠ opClaim := by simp only [opUnlock, opLock, opReturn, opClaim] at hop ⊢; omega
  have hrelease : ¬(op = opInstall ∨ op = opRelease) := by simp only [opUnlock, opLock, opReturn, opInstall, opRelease] at hop ⊢; omega
  unfold State.stateForbids
  dsimp only
  rw [if_neg hclaim, if_neg hrelease, if_pos hop]
  exact beq_eq_false_iff_ne.2 h

theorem argError_claim {nonce e : Nat} {signer : Option Nat} {ids : List Nat} (hlen : ids.length = 12) (hfree : s.keyFree = some e) :
    s.argError (secRecord opClaim nonce signer 0 0 true ids) = 0 := by
  simp [State.argError, secRecord, hlen, hfree]

theorem argError_install {nonce usage e : Nat} {signer : Option Nat} {ids : List Nat} (hlen : ids.length = 12) (hfree : s.keyFree = some e)
    (husage : usage < 16) : s.argError (secRecord opInstall nonce signer usage 0 true ids) = 0 := by
  have hprov : usage.testBit useProv = false := Nat.testBit_lt_two_pow (by simpa [useProv] using husage)
  have hsmall : ¬32 ≤ usage := by omega
  simp [State.argError, secRecord, opInstall, opClaim, hlen, hfree, hprov, hsmall]

theorem argError_revoke {nonce entry : Nat} {signer : Option Nat} (hentry : entry < 32) (hst : s.keyState entry = 1) (hauth : s.keyLeft entry 2 = true)
    (hlast : s.keyLeft entry 0 = true) (hfw : s.keyLeft entry 1 = true) : s.argError (secRecord opRevoke nonce signer entry 0 true []) = 0 := by
  have hsmall : ¬32 ≤ entry := by omega
  simp [State.argError, secRecord, opRevoke, opInstall, opClaim, useAuth, useLast, useFw, hst, hauth, hlast, hfw, hsmall]

theorem argError_svnFw {nonce v : Nat} {signer : Option Nat} (hlo : s.get F.SEC_FW_SVN_MIN_SVN 0 ≤ v) (hhi : v ≤ s.get F.SEC_FW_SVN_SVN 0) :
    s.argError (secRecord opSvn nonce signer (bit true) v true []) = 0 := by
  have hin : ¬(v < s.get F.SEC_FW_SVN_MIN_SVN 0 ∨ s.get F.SEC_FW_SVN_SVN 0 < v) := by omega
  simp [State.argError, secRecord, opSvn, opRevoke, opInstall, opClaim, bit, hin]

theorem argError_svnLast {nonce v : Nat} {signer : Option Nat} (hlo : s.get F.LAST_SVN_MIN_MIN 0 ≤ v) (hhi : v ≤ s.get F.LAST_SVN_SVN 0) :
    s.argError (secRecord opSvn nonce signer (bit false) v true []) = 0 := by
  have hin : ¬(v < s.get F.LAST_SVN_MIN_MIN 0 ∨ s.get F.LAST_SVN_SVN 0 < v) := by omega
  simp [State.argError, secRecord, opSvn, opRevoke, opInstall, opClaim, bit, hin]

theorem argError_flash {nonce img : Nat} {data : List Nat} (herr : s.secError = false) (himg : img % 2 ≠ s.get F.LAST_BOOT_IMAGE 0) :
    s.argError (secRecord opFlash nonce none img 0 true data) = 0 := by
  simp [State.argError, secRecord, opFlash, opUnlock, opSvn, opRevoke, opInstall, opClaim, herr, himg]

/-- RETURN runs on after it is accepted. -/
theorem secRun_return {r : SecRec} (hnonce : r.nonce = s.nonce) (hsig : s.signedBy r = true) (hst : s.stateForbids r.op = false)
    (harg : s.argError r = 0) (hop : r.op = opReturn) :
    s.secRun r = (((s.put F.SEC_CMD_STATUS_STATE 0 1).put F.SEC_CMD_STATUS_ERR 0 0).setSec fun x => { x with running := some opReturn }).secWork r := by
  unfold State.secRun
  dsimp only
  rw [if_neg (not_not_intro hnonce), if_neg (by simp [hsig]), if_neg (by simp [hst]), if_neg (not_not_intro harg), if_pos hop]

/-- A command that finds none running and none waiting, outside the checks of an image, is run. -/
theorem secCmd_runs {s1 : State} {r : SecRec} (hs1 : s1 = s.put F.SEC_CMD_OP 0 r.op) (hrun : s1.sec.running = none) (hwait : s1.sec.waiting = [])
    (hver : s1.verifying = false) : s.secCmd r = s1.secRun r := by
  unfold State.secCmd
  dsimp only
  rw [← hs1, if_neg (by simp [hrun, hwait]), if_neg (by simp [hver])]

end Checks

/-- Settles O46. -/
theorem securityCommands : Obligations.SecurityCommands := by
  refine ⟨?claim, ?install, ?revoke, ?svnFw, ?svnLast, ?unlock, ?lock, ?release, ?flash, ?selftest, ?ret, ?returnDone, ?health⟩
  case claim =>
    intro s nonce signer snOk ids s1 e hs1 hrun hwait hver hnonce hsig hlc hsn hlen hfree
    subst hsn
    refine next_of_eq (u := (s.secCmd (secRecord opClaim nonce signer 0 0 true ids)).settle) rfl ?_
    rw [sec_accepted hs1 hrun hwait hver hnonce hsig (stateForbids_claim hlc) (argError_claim hlen hfree) (show opClaim ≠ opReturn by decide)]
    have hwork : s1.secWork (secRecord opClaim nonce signer 0 0 true ids) =
        ((s1.keyAdd (s1.keyFree.getD 0) 4 ids).setSec fun x => { x with ownerKey := true }).setLifecycle 1 := rfl
    rw [hwork, hfree, Option.getD_some]
  case install =>
    intro s nonce signer usage ids s1 e hs1 hrun hwait hver hnonce hsig hlc hlen hfree husage
    refine next_of_eq (u := (s.secCmd (secRecord opInstall nonce signer usage 0 true ids)).settle) rfl ?_
    rw [sec_accepted hs1 hrun hwait hver hnonce hsig (stateForbids_install hlc) (argError_install hlen hfree husage) (show opInstall ≠ opReturn by decide)]
    have hwork : s1.secWork (secRecord opInstall nonce signer usage 0 true ids) = s1.keyAdd (s1.keyFree.getD 0) usage ids := rfl
    rw [hwork, hfree, Option.getD_some]
  case revoke =>
    intro s nonce signer entry s1 hs1 hrun hwait hver hnonce hsig hentry hst hauth hlast hfw
    refine next_of_eq (u := (s.secCmd (secRecord opRevoke nonce signer entry 0 true [])).settle) rfl ?_
    exact congrArg State.settle (sec_accepted hs1 hrun hwait hver hnonce hsig rfl (argError_revoke hentry hst hauth hlast hfw) (show opRevoke ≠ opReturn by decide))
  case svnFw =>
    intro s nonce signer fw v s1 hs1 hrun hwait hver hnonce hsig hfw hlo hhi
    subst hfw
    refine next_of_eq (u := (s.secCmd (secRecord opSvn nonce signer (bit true) v true [])).settle) rfl ?_
    exact congrArg State.settle (sec_accepted hs1 hrun hwait hver hnonce hsig rfl (argError_svnFw hlo hhi) (show opSvn ≠ opReturn by decide))
  case svnLast =>
    intro s nonce signer fw v s1 hs1 hrun hwait hver hnonce hsig hfw hlo hhi
    subst hfw
    refine next_of_eq (u := (s.secCmd (secRecord opSvn nonce signer (bit false) v true [])).settle) rfl ?_
    exact congrArg State.settle (sec_accepted hs1 hrun hwait hver hnonce hsig rfl (argError_svnLast hlo hhi) (show opSvn ≠ opReturn by decide))
  case unlock =>
    intro s nonce signer snOk s1 hs1 hrun hwait hver hnonce hsig hlc hsn
    subst hsn
    refine next_of_eq (u := (s.secCmd (secRecord opUnlock nonce signer 0 0 true [])).settle) rfl ?_
    exact congrArg State.settle (sec_accepted hs1 hrun hwait hver hnonce hsig (stateForbids_returned (.inl rfl) hlc) rfl (show opUnlock ≠ opReturn by decide))
  case lock =>
    intro s nonce s1 hs1 hrun hwait hver hnonce hlc
    refine next_of_eq (u := (s.secCmd (secRecord opLock nonce none 0 0 true [])).settle) rfl ?_
    exact congrArg State.settle (sec_accepted hs1 hrun hwait hver hnonce rfl (stateForbids_returned (.inr (.inl rfl)) hlc) rfl (show opLock ≠ opReturn by decide))
  case release =>
    intro s nonce signer s1 hs1 hrun hwait hver hnonce hsig hlc
    refine next_of_eq (u := (s.secCmd (secRecord opRelease nonce signer 0 0 true [])).settle) rfl ?_
    exact congrArg State.settle (sec_accepted hs1 hrun hwait hver hnonce hsig (stateForbids_release hlc) rfl (show opRelease ≠ opReturn by decide))
  case flash =>
    intro s nonce img ok data s1 hs1 hrun hwait hver hnonce hok herr himg
    subst hok
    refine next_of_eq (u := (s.secCmd (secRecord opFlash nonce none img 0 true data)).settle) rfl ?_
    exact congrArg State.settle (sec_accepted hs1 hrun hwait hver hnonce rfl rfl (argError_flash herr himg) (show opFlash ≠ opReturn by decide))
  case selftest =>
    intro s nonce ok s1 hs1 hrun hwait hver hnonce hok
    subst hok
    refine next_of_eq (u := (s.secCmd (secRecord opTest nonce none 0 0 true [])).settle) rfl ?_
    exact congrArg State.settle (sec_accepted hs1 hrun hwait hver hnonce rfl rfl rfl (show opTest ≠ opReturn by decide))
  case ret =>
    intro s nonce signer s1 hs1 hrun hwait hver hnonce hsig hlc
    refine next_of_eq (u := (s.secCmd (secRecord opReturn nonce signer 0 0 true [])).settle) rfl ?_
    rw [secCmd_runs hs1 hrun hwait hver, secRun_return hnonce hsig (stateForbids_returned (.inr (.inr rfl)) hlc) rfl rfl]
    rfl
  case returnDone =>
    intro s b s1 s2 hret hreach hs1 hs2 hdbg hrun
    have hop : s.returnDone = s2.secDone 2 0 := by
      unfold State.returnDone
      rw [hret]
      dsimp only
      rw [if_pos hreach, ← hs1, if_pos hdbg, show (s1.put F.SEC_STATUS_DEBUG 0 1).setLifecycle lcReturned = s2 from hs2.symm]
      exact if_pos hrun
    exact next_of_eq (u := s.returnDone.settle) rfl (congrArg State.settle hop)
  case health =>
    intro s
    exact next_of_eq (u := s.secFail.settle) rfl rfl

/-! ### Attestation -/

section Attest
variable {s : State} {who : Nat}

/-- Outside recovery and the error state a request that comes in its order is answered. -/
theorem spdmIf_ready {least : Nat} {f : State → State} (hrec : s.las.recovery = false) (herr : s.secError = false)
    (hleast : least ≤ s.sec.conns.getD who 0) : s.spdmIf who least f = f s := by
  rw [State.spdmIf, if_neg (by simp [hrec]), if_neg (by simp [herr]), if_neg (by omega)]

theorem spdmCert_slot {slot : Nat} (hrec : s.las.recovery = false) (herr : s.secError = false) (hleast : 3 ≤ s.sec.conns.getD who 0)
    (hslot : s.slotOk slot = true) : s.spdmCert who slot = (s.spdm who 0x02 0 (leBytes 1 slot ++ leBytes 8 s.freeVal)).usedFree := by
  rw [State.spdmCert, spdmIf_ready hrec herr hleast]
  exact if_pos hslot

theorem spdmChallenge_slot {slot : Nat} (hrec : s.las.recovery = false) (herr : s.secError = false) (hleast : 3 ≤ s.sec.conns.getD who 0)
    (hslot : s.slotOk slot = true) : s.spdmChallenge who slot = (s.spdm who 0x03 0 (leBytes 1 slot ++ leBytes 8 s.freeVal)).usedFree := by
  rw [State.spdmChallenge, spdmIf_ready hrec herr hleast]
  exact if_pos hslot

/-- One measurement other than that of the rule set. -/
theorem spdmMeas_one {idx : Nat} (hrec : s.las.recovery = false) (herr : s.secError = false) (hleast : 3 ≤ s.sec.conns.getD who 0)
    (hlc : s.lifecycle ≠ lcReturned) (hlo : 1 ≤ idx) (hhi : idx ≤ 11) (hidx : idx ≠ 10) :
    s.spdmMeas who idx = s.spdm who 0x60 0 (leBytes 1 idx ++ leBytes 12 (s.measure idx)) := by
  rw [State.spdmMeas, if_neg hlc, spdmIf_ready hrec herr hleast, if_neg (by omega), if_neg (by omega), if_pos hhi]
  rfl

/-- A new session of a slot that has a chain. -/
theorem spdmKeyEx_new {slot id : Nat} (hrec : s.las.recovery = false) (herr : s.secError = false) (hleast : 3 ≤ s.sec.conns.getD who 0)
    (hroom : s.sec.sessions.length < 16) (hslot : s.slotOk slot = true) (hnew : (s.sec.sessions.any fun e => e.1 == id) = false) :
    s.spdmKeyEx who slot id =
      ((s.setSec fun x => { x with sessions := x.sessions ++ [(id, false)] }).spdm who 0x64 0 (leBytes 4 id ++ leBytes 8 s.freeVal)).usedFree := by
  rw [State.spdmKeyEx, spdmIf_ready hrec herr hleast, if_neg (by omega), hslot, hnew]
  rfl

theorem spdmFinish_open {id : Nat} (hrec : s.las.recovery = false) (herr : s.secError = false) (hleast : 3 ≤ s.sec.conns.getD who 0)
    (hopen : (s.sec.sessions.any fun e => e.1 == id && !e.2) = true) :
    s.spdmFinish who id = (s.setSec fun x => { x with sessions := x.sessions.map fun e => if e.1 == id then (id, true) else e }).spdm who 0x65 0
      (leBytes 4 id) := by
  rw [State.spdmFinish, spdmIf_ready hrec herr hleast]
  exact if_pos hopen

/-- The digest's end answers the one request that waited for block 10. -/
theorem eyeDigestDone_answers {d : Nat} {s1 : State} (hbusy : s.sec.digBusy = true) (hwait : s.sec.digWait = [(who, false)])
    (hd : d = digestOf 10 s.ruleSet) (hs1 : s1 = s.setSec fun x => { x with digBusy := false, digest := some d, digWait := [] })
    (hlc : s1.lifecycle ≠ lcReturned) : s.eyeDigestDone = s1.spdm who 0x60 0 (leBytes 1 10 ++ leBytes 8 d) := by
  have hdigest : s1.sec.digest = some d := by rw [hs1]; rfl
  have hblock : s1.measBlock 10 = leBytes 1 10 ++ leBytes 8 d := by
    rw [State.measBlock, if_pos rfl, hdigest]
    rfl
  unfold State.eyeDigestDone
  rw [if_pos hbusy]
  dsimp only
  rw [← hd, ← hs1, hwait]
  simp only [State.each, List.foldl_cons, List.foldl_nil]
  rw [if_neg hlc, State.measAnswer, if_neg Bool.false_ne_true, hblock]
  rfl

end Attest

/-- Settles O47. -/
theorem attestation : Obligations.Attestation := by
  refine ⟨?version, ?caps, ?algs, ?cert, ?challenge, ?meas, ?keyEx, ?finish, ?digest⟩
  case version =>
    intro s who herr hleast hrun hrec
    refine next_of_eq (u := s.firmware 0 (.spdmGetVersion who) fun t => t.spdmGetVersion who) rfl ?_
    rw [firmware_running hrun, State.spdmGetVersion, spdmIf_ready hrec herr hleast]
    rfl
  case caps =>
    intro s who herr hleast hrun hrec
    refine next_of_eq (u := s.firmware 0 (.spdmGetCapabilities who) fun t => t.spdmGetCaps who) rfl ?_
    rw [firmware_running hrun, State.spdmGetCaps, spdmIf_ready hrec herr hleast]
    rfl
  case algs =>
    intro s who herr hleast hrun hrec
    refine next_of_eq (u := s.firmware 0 (.spdmNegotiateAlgorithms who) fun t => t.spdmAlgs who) rfl ?_
    rw [firmware_running hrun, State.spdmAlgs, spdmIf_ready hrec herr hleast]
    rfl
  case cert =>
    intro s who slot herr hleast hslot hrun hrec
    refine next_of_eq (u := s.firmware 0 (.spdmGetCertificate who slot) fun t => t.spdmCert who slot) rfl ?_
    rw [firmware_running hrun, spdmCert_slot hrec herr hleast hslot]
  case challenge =>
    intro s who slot herr hleast hslot hrun hrec
    refine next_of_eq (u := s.firmware 0 (.spdmChallenge who slot) fun t => t.spdmChallenge who slot) rfl ?_
    rw [firmware_running hrun, spdmChallenge_slot hrec herr hleast hslot]
  case meas =>
    intro s who idx herr hleast hlc hlo hhi hidx hrun hrec
    refine next_of_eq (u := s.firmware 0 (.spdmGetMeasurements who idx) fun t => t.spdmMeas who idx) rfl ?_
    rw [firmware_running hrun, spdmMeas_one hrec herr hleast hlc hlo hhi hidx]
  case keyEx =>
    intro s who slot id herr hleast hroom hslot hnew hrun hrec
    refine next_of_eq (u := s.firmware 0 (.spdmKeyExchange who slot id) fun t => t.spdmKeyEx who slot id) rfl ?_
    rw [firmware_running hrun, spdmKeyEx_new hrec herr hleast hroom hslot hnew]
  case finish =>
    intro s who id herr hleast hopen hrun hrec
    refine next_of_eq (u := s.firmware 0 (.spdmFinish who id) fun t => t.spdmFinish who id) rfl ?_
    rw [firmware_running hrun, spdmFinish_open hrec herr hleast hopen]
  case digest =>
    intro s who d s1 hbusy hwait hd hs1 hlc
    exact next_of_eq (u := s.eyeDigestDone) rfl (eyeDigestDone_answers hbusy hwait hd hs1 hlc)

end Sys2Proof.Machine
end

section
/-!
PROOFS. MCTP packets and control requests (spec/15; log entry 35), vendor commands, recovery boot and the debug session (spec/15, spec/20; log
entry 36).
-/
namespace Sys2Proof.Machine
open Sys2Proof

section Requests
variable {s : State} {eid tag : Nat}

/-- Outside a warm restart a request of the firmware is taken at once. -/
theorem fwRequest_running {i : Instr} {f : State → State} (hrun : s.restarting = false) : s.fwRequest eid tag i f = f s := by
  rw [State.fwRequest, if_neg (by simp [hrun]), firmware_running hrun]

/-- A request at its turn that recovery allows, or outside recovery, is served. -/
theorem request_turn {ty cmd : Nat} {rec : Bool} {f : State → State} (hturn : s.mctpTurn eid tag = true) (hrec : rec = true ∨ s.las.recovery = false) :
    s.request eid tag ty cmd rec f = f s := by
  have hallowed : ¬(s.las.recovery && !rec) = true := by
    obtain h | h := hrec <;> simp [h]
  rw [State.request, if_neg (by simp [hturn]), if_neg hallowed]

end Requests

/-! ### MCTP -/

section Mctp
variable {s s1 : State} {path src dst eid tag ty new base n : Nat} {body : List Byte}

/-- A packet for an identifier of the pool is bridged. -/
theorem mctpPacket_pool {som eom : Bool} {w : Nat} (hon : s.bindingOn path = true) (hdst : dst ≠ 0) (hown : dst ≠ s.ownEid path)
    (hpool : s.poolSw dst = some w) : s.mctpPacket path src dst tag ty som eom body = s.mctpBridge path w src dst tag body := by
  unfold State.mctpPacket
  rw [if_neg (by simp [hon]), if_pos ⟨hdst, hown⟩, hpool]

/-- A message in a single packet for the Clicker becomes an outstanding request of its source. -/
theorem mctpPacket_single (hon : s.bindingOn path = true) (hrun : s.restarting = false) (hdst : dst = 0 ∨ dst = s.ownEid path)
    (hty : ty ∈ mctpTypes) (hlen : body.length ≤ 8192)
    (hs1 : s1 = s.setMgt fun g => { g with reasm := g.reasm.filter fun r => !(r.src == src && r.tag == tag) })
    (hroom : (s1.mgt.open_.filter fun e => e.1 == src).length < 8) :
    s.mctpPacket path src dst tag ty true true body = s1.setMgt fun g => { g with open_ := g.open_ ++ [(src, tag)] } := by
  have hhere : ¬(dst ≠ 0 ∧ dst ≠ s.ownEid path) := by
    rintro ⟨h0, howns⟩
    exact hdst.elim h0 howns
  have hrun1 : s1.restarting = false := by rw [hs1]; exact hrun
  unfold State.mctpPacket
  rw [if_neg (by simp [hon]), if_neg hhere]
  dsimp only
  rw [← hs1, if_pos rfl, if_pos (List.contains_iff_mem.2 hty), if_neg (by omega), if_neg (by simp [hrun1]), if_pos rfl, State.mctpWhole,
    if_neg (by omega)]

/-- Set Endpoint ID over the sideband. -/
theorem setEid_sideband (hturn : s.mctpTurn eid tag = true) (hon : s.bindingOn 1 = true) (h0 : new % 256 ≠ 0) (h255 : new % 256 ≠ 255) :
    s.setEid 1 eid tag new = (s.put F.CLK_MCTP_STATUS_I3C_EID 0 new).answer eid tag 0 1 0 [0, BitVec.ofNat 8 new] := by
  rw [State.setEid, request_turn hturn (.inl rfl), if_neg (by simp [hon]), if_neg (by simp [h0, h255])]
  rfl

/-- Set Endpoint ID over the port's binding, after the first. -/
theorem setEid_vdm (hturn : s.mctpTurn eid tag = true) (hon : s.bindingOn 0 = true) (h0 : new % 256 ≠ 0) (h255 : new % 256 ≠ 255)
    (hset : s.mgt.vdmSet = true) :
    s.setEid 0 eid tag new = ((s.put F.CLK_MCTP_STATUS_VDM_EID 0 new).setMgt fun g => { g with vdmSet := true }).answer eid tag 0 1 0
      [0, BitVec.ofNat 8 new] := by
  rw [State.setEid, request_turn hturn (.inl rfl), if_neg (by simp [hon]), if_neg (by simp [h0, h255]), hset]
  rfl

theorem allocEids_requested (hn : 64 ≤ n) (hreq : s.mgt.poolReq = true) :
    s.allocEids 0 base n =
      ((s.setMgt fun g => { g with poolReq := false }).put F.CLK_MCTP_STATUS_POOL_BASE 0 base).put F.CLK_MCTP_STATUS_POOL_VALID 0 1 := by
  rw [State.allocEids, if_neg (by omega), if_pos rfl, if_pos hreq]

theorem allocEids_sideband (hn : 64 ≤ n) (hvalid : s.on F.CLK_MCTP_STATUS_POOL_VALID 0 = false) :
    s.allocEids 1 base n =
      ((s.setMgt fun g => { g with i3cPool := true }).put F.CLK_MCTP_STATUS_POOL_BASE 0 base).put F.CLK_MCTP_STATUS_POOL_VALID 0 1 := by
  rw [State.allocEids, if_neg (by omega), if_neg (by decide)]
  dsimp only
  rw [if_neg (by simp [hvalid])]

end Mctp

/-- Settles O48. -/
theorem managementControl : Obligations.ManagementControl := by
  refine ⟨?bridge, ?single, ?setSideband, ?setVdm, ?getEid, ?version, ?types, ?vendorSupport, ?allocVdm, ?allocSideband, ?routing⟩
  case bridge =>
    intro s path src dst tag ty som eom body w hon hdst hown hpool
    exact next_of_eq (u := (s.mctpPacket path src dst tag ty som eom body).writeDone) rfl
      (congrArg State.writeDone (mctpPacket_pool hon hdst hown hpool))
  case single =>
    intro s path src dst tag ty som eom body s1 hon hrun hdst hsom heom hty hlen hs1 hroom
    subst hsom heom
    exact next_of_eq (u := (s.mctpPacket path src dst tag ty true true body).writeDone) rfl
      (congrArg State.writeDone (mctpPacket_single hon hrun hdst hty hlen hs1 hroom))
  case setSideband =>
    intro s path eid tag new hturn hon h0 h255 hpath hrun
    subst hpath
    refine next_of_eq (u := s.fwRequest eid tag (.setEndpointId 1 eid tag new) fun t => t.setEid 1 eid tag new) rfl ?_
    rw [fwRequest_running hrun, setEid_sideband hturn hon h0 h255]
  case setVdm =>
    intro s path eid tag new hturn hon h0 h255 hpath hset hrun
    subst hpath
    refine next_of_eq (u := s.fwRequest eid tag (.setEndpointId 0 eid tag new) fun t => t.setEid 0 eid tag new) rfl ?_
    rw [fwRequest_running hrun, setEid_vdm hturn hon h0 h255 hset]
  case getEid =>
    intro s path eid tag hturn hrun
    refine next_of_eq (u := s.fwRequest eid tag (.getEndpointId path eid tag) fun t => t.getEid path eid tag) rfl ?_
    rw [fwRequest_running hrun, State.getEid, request_turn hturn (.inl rfl)]
  case version =>
    intro s path eid tag hturn hrun
    refine next_of_eq (u := s.fwRequest eid tag (.getMctpVersionSupport path eid tag) fun t => t.getMctpVersion eid tag) rfl ?_
    rw [fwRequest_running hrun, State.getMctpVersion, request_turn hturn (.inl rfl)]
  case types =>
    intro s path eid tag hturn hrun
    refine next_of_eq (u := s.fwRequest eid tag (.getMessageTypeSupport path eid tag) fun t => t.getMctpTypes eid tag) rfl ?_
    rw [fwRequest_running hrun, State.getMctpTypes, request_turn hturn (.inl rfl)]
    rfl
  case vendorSupport =>
    intro s path eid tag hturn hrun
    refine next_of_eq (u := s.fwRequest eid tag (.getVendorDefinedSupport path eid tag) fun t => t.getMctpVendor eid tag) rfl ?_
    rw [fwRequest_running hrun, State.getMctpVendor, request_turn hturn (.inl rfl)]
  case allocVdm =>
    intro s path base n hn hpath hreq
    subst hpath
    exact next_of_eq (u := s.allocEids 0 base n) rfl (allocEids_requested hn hreq)
  case allocSideband =>
    intro s path base n hn hpath hvalid
    subst hpath
    exact next_of_eq (u := s.allocEids 1 base n) rfl (allocEids_sideband hn hvalid)
  case routing =>
    intro s path eid tag hturn hrun
    refine next_of_eq (u := s.fwRequest eid tag (.routingInfoUpdate path eid tag) fun t => t.routingUpdate eid tag) rfl ?_
    rw [fwRequest_running hrun, State.routingUpdate, request_turn hturn (.inl rfl)]

/-! ### Vendor commands -/

section Vendor
variable {s s1 s2 : State} {eid sw tag off : Nat}

theorem readRegs_one {p : Path} {slot o w : Nat} (hcheck : s.csrCheck slot o w 0 = (s1, 0)) :
    s.readRegs p slot o w [] 0 1 =
      ((s1.csrRead p (o / 4 * 4)).1, leBytes w ((s1.csrRead p (o / 4 * 4)).2.toNat / 256 ^ (o % 4)), none) := by
  unfold State.readRegs
  dsimp only
  rw [Nat.mul_zero, Nat.add_zero, hcheck]
  rfl

theorem writeRegs_one {p : Path} {slot o : Nat} {v : Word} (hcheck : s.csrCheck slot o 4 1 = (s1, 0)) :
    s.writeRegs p slot o 0 [v] = (s1.csrWrite p o v, none) := by
  unfold State.writeRegs
  rw [Nat.mul_zero, Nat.add_zero, hcheck]
  rfl

/-- A read of one register. -/
theorem vendorRead_one (hturn : s.mctpTurn eid tag = true) (hrec : s.las.recovery = false) (hwait : s.waitsBehind (.mctp eid) off = false)
    (hcheck : s.csrCheck 82 off 4 0 = (s1, 0)) :
    s.vendorRead eid tag off 2 1 = (s1.csrRead (.mctp eid) (off / 4 * 4)).1.vendor eid tag 1 0
      (leBytes 4 ((s1.csrRead (.mctp eid) (off / 4 * 4)).2.toNat / 256 ^ (off % 4))) := by
  have hread : s.readRegs (.mctp eid) 82 off (2 ^ 2) [] 0 1 = _ := readRegs_one (w := 4) hcheck
  rw [State.vendorRead, request_turn hturn (.inr hrec), if_neg (by omega), if_neg (by omega), if_neg (by omega), if_neg (by omega),
    if_neg (by simp [hwait]), hread]

/-- The owner of the switch renews its lease with each command. -/
theorem ownerAccept_owner (howned : s.on F.BND_FM_OWNED 0 = true) (heid : s.get F.BND_FM_OWNER_EID 0 = eid) (hsw : s.get F.BND_FM_OWNER_SW 0 = sw) :
    s.ownerAccept eid sw = (s.setBnd fun b => { b with lease := s.leaseEnd }, true) := by
  rw [State.ownerAccept, if_pos howned, if_pos ⟨heid, hsw⟩]

/-- A write of one register by the owner. -/
theorem vendorWrite_one {v : Word} (hturn : s.mctpTurn eid tag = true) (hrec : s.las.recovery = false) (hown : s.ownerAccept eid sw = (s1, true))
    (hcheck : s1.csrCheck 82 off 4 1 = (s2, 0)) :
    s.vendorWrite eid sw tag off 2 [v] = ((s2.csrWrite (.mctp eid) off v).vendor eid tag 2 0 []).writeDone := by
  have hwrite : s1.writeRegs (.mctp eid) 82 off 0 [v] = (s2.csrWrite (.mctp eid) off v, none) := writeRegs_one hcheck
  rw [State.vendorWrite, request_turn hturn (.inr hrec)]
  dsimp only
  rw [hown, if_neg (by simp), if_neg (by omega), if_neg (by simp), if_neg (by simp)]
  dsimp only
  rw [hwrite]

/-- A transfer of the owner into the load buffer. -/
theorem lastXfer_fits {len : Nat} {data : List Byte} (hturn : s.mctpTurn eid tag = true) (hrec : s.las.recovery = false)
    (hown : s.ownerAccept eid sw = (s1, true)) (hlo : 4 < len) (hhi : len ≤ 8184) (hfit : off + (len - 4) ≤ 33554432) (hlock : s.loadBufLocked = false) :
    s.lastXfer eid sw tag len off data =
      (s1.insWrite (loadBuf + off) ((data ++ List.replicate (len - 4) 0).take (len - 4)) false).vendor eid tag 3 0 [] := by
  rw [State.lastXfer, request_turn hturn (.inr hrec)]
  dsimp only
  rw [hown, if_neg (by simp), if_neg (by omega), if_neg (by omega), if_neg (by omega), if_neg (by omega), if_neg (by simp [hlock])]

/-- A security command of the owner, with none running, is relayed. -/
theorem secRelay_owner {r : SecRec} (hturn : s.mctpTurn eid tag = true) (hrec : s.las.recovery = false) (hown : s.ownerAccept eid sw = (s1, true))
    (hrun : s.sec.running = none) (hs2 : s2 = s1.secCmd r) :
    s.secRelay eid sw tag r = s2.vendor eid tag 4 0 (leBytes 4 (s2.reg R.SEC_CMD_STATUS).toNat) := by
  rw [State.secRelay, request_turn hturn (.inr hrec)]
  dsimp only
  rw [if_neg (show ¬s.las.recovery = true by simp [hrec]), hown, if_neg (by simp [hrun]), ← hs2]

theorem eventReplay_present {first n : Nat} (hturn : s.mctpTurn eid tag = true) (hrec : s.las.recovery = false) (hlo : 1 ≤ n) (hhi : n ≤ 32)
    (hgone : s.goneRec first = false) : s.eventReplay eid tag first n = s.vendor eid tag 5 0 (s.logRecords first n) := by
  rw [State.eventReplay, request_turn hturn (.inr hrec), if_neg (by omega), if_neg (by omega), if_neg (by simp [hgone])]

theorem moduleInfo_running (hturn : s.mctpTurn eid tag = true) (hrec : s.las.recovery = false) :
    s.moduleInfo eid tag = s.vendor eid tag 6 0 (leBytes 4 (s.reg R.GLB_SWITCH).toNat ++ leBytes 4 (s.reg R.GLB_FABRIC_ID).toNat ++
      leBytes 4 (s.reg R.GLB_SERIAL_LO).toNat ++ leBytes 4 (s.reg R.GLB_SERIAL_HI).toNat ++ leBytes 4 (s.reg R.GLB_ID).toNat ++ leBytes 8 s.activeId ++
      leBytes 1 s.lifecycle ++ leBytes 1 0) := by
  rw [State.moduleInfo, request_turn hturn (.inr hrec)]
  dsimp only
  rw [hrec, if_neg (by decide)]
  rfl

theorem recoveryBoot_recovering {img : Nat} (hturn : s.mctpTurn eid tag = true) (hrec : s.las.recovery = true) :
    s.recoveryBoot eid tag img = (((s.vendor eid tag 7 0 []).setLas fun l => { l with recovery := false, bootFailed := [] }).setFlt fun f =>
      { f with encAlert := false }).bootFrom (img % 2) := by
  rw [State.recoveryBoot, if_neg (by simp [hturn]), if_neg (by simp [hrec])]

end Vendor

/-! ### The debug session -/

section Debug
variable {s s1 s2 : State} {path eid tag : Nat}

theorem dbgOpen_free (hturn : s.mctpTurn eid tag = true) (hon : s.dbgOn path = true) (hfree : s.mgt.dbg = none)
    (hs1 : s1 = (s.setDbg (some (eid, s.dbgIdle))).put F.DBG_STATUS_DEBUG 0 (s.get F.SEC_STATUS_DEBUG 0)) :
    s.dbgOpen path eid tag = s1.vendor eid tag 8 0 (leBytes 4 (s1.reg R.DBG_STATUS).toNat) := by
  rw [State.dbgOpen, if_neg (by simp [hturn]), if_neg (by simp [hon]), if_neg (by simp [hfree]), ← hs1]

section Access
variable {write : Bool} {sp ident len addr : Nat} {data : List Byte} (hturn : s.mctpTurn eid tag = true) (hon : s.dbgOn path = true)
  (hmine : s.dbgMine eid = true) (hidle : s.mgt.dbgRun = none) (hs1 : s1 = s.setDbg (some (eid, s.dbgIdle)))
include hturn hon hmine hidle hs1

/-- An access of the session's own endpoint to a space other than the registers is issued. -/
theorem dbgAccess_memory (hsp : sp = 1 ∨ sp = 2 ∨ sp = 3) (hlo : 1 ≤ len) (hhi : len ≤ 4096)
    (hlock : s1.lockedReason 84 sp addr len (bit write) = 0)
    (hwin : (s1.winCheck 84 sp ident (s1.get F.BND_AGSL_SLICE 48) addr len (bit write)).1 = 0) :
    s.dbgAccess path eid tag write sp ident len addr data = (s1.dbgIssue
      { tag := tag, write := write, sp := sp, ident := ident, addr := addr, len := len, done := 0, wait := 0
        data := if write then (data ++ List.replicate len 0).take len else [] }).settle := by
  unfold State.dbgAccess
  rw [if_neg (by simp [hturn]), if_neg (by simp [hon]), if_neg (by simp [hmine, hidle]), ← hs1]
  dsimp only
  rw [if_neg (by omega), if_neg (by omega), if_neg (by omega), if_neg (not_not_intro hlock), if_neg (not_not_intro hwin), if_neg (by omega)]

/-- A read of one register that nothing is held before. -/
theorem dbgAccess_register (halign : addr % 4 = 0) (hlock : s1.lockedReason 84 4 addr 4 (bit false) = 0)
    (hwin : (s1.winCheck 84 4 ident (s1.get F.BND_AGSL_SLICE 48) addr 4 (bit false)).1 = 0) (hwait : s1.waitsBehind .debug addr = false)
    (hcheck : s1.csrCheck 84 addr 4 0 = (s2, 0)) :
    s.dbgAccess path eid tag false 4 ident 4 addr data = (s2.csrRead .debug (addr / 4 * 4)).1.vendor eid tag 9 0
      (leBytes 4 ((s2.csrRead .debug (addr / 4 * 4)).2.toNat / 256 ^ (addr % 4))) := by
  have hread : s1.readRegs .debug 84 addr 4 [] 0 (4 / 4) = _ := readRegs_one hcheck
  unfold State.dbgAccess
  rw [if_neg (by simp [hturn]), if_neg (by simp [hon]), if_neg (by simp [hmine, hidle]), ← hs1]
  dsimp only
  rw [if_neg (by omega), if_neg (by omega), if_neg (by omega), if_neg (not_not_intro hlock), if_neg (not_not_intro hwin), if_pos rfl,
    if_neg (not_not_intro halign), if_neg (by simp [hwait]), if_neg Bool.false_ne_true, hread]

end Access

theorem dbgClose_mine (hturn : s.mctpTurn eid tag = true) (hon : s.dbgOn path = true) (hmine : s.dbgMine eid = true) :
    s.dbgClose path eid tag = (s.setDbg none).vendor eid tag 10 0 [] := by
  rw [State.dbgClose, if_neg (by simp [hturn]), if_neg (by simp [hon]), if_neg (by simp [hmine])]

theorem dbgTimeout_due {d : Nat × Nat} (hdbg : s.mgt.dbg = some d) (hdue : s.due d.2 = true) : s.dbgTimeout = s.setDbg none := by
  rw [State.dbgTimeout, hdbg]
  exact if_pos hdue

end Debug

/-- Settles O49. -/
theorem managementVendor : Obligations.ManagementVendor := by
  refine ⟨?read, ?write, ?xfer, ?relay, ?replay, ?info, ?boot, ?dbgOpen, ?dbgMemory, ?dbgRegister, ?dbgClose, ?dbgIdle⟩
  case read =>
    intro s eid tag off width n s1 hturn hrec hwidth hn hwait hcheck
    subst hwidth hn
    exact next_of_eq (u := (s.vendorRead eid tag off 2 1).settle) rfl (congrArg State.settle (vendorRead_one hturn hrec hwait hcheck))
  case write =>
    intro s eid sw tag off width vals s1 s2 v hturn hrec howned heid hsw hs1 hwidth hvals hcheck
    have hown : s.ownerAccept eid sw = (s1, true) := by rw [ownerAccept_owner howned heid hsw, hs1]
    subst hwidth hvals
    exact next_of_eq (u := (s.vendorWrite eid sw tag off 2 [v]).writeDone) rfl (congrArg State.writeDone (vendorWrite_one hturn hrec hown hcheck))
  case xfer =>
    intro s eid sw tag len off data s1 hturn hrec howned heid hsw hs1 hlo hhi hfit hlock hrun
    have hown : s.ownerAccept eid sw = (s1, true) := by rw [ownerAccept_owner howned heid hsw, hs1]
    refine next_of_eq (u := (s.fwRequest eid tag (.lastXfer eid sw tag len off data) fun t => t.lastXfer eid sw tag len off data).settle) rfl ?_
    rw [fwRequest_running hrun, lastXfer_fits hturn hrec hown hlo hhi hfit hlock]
  case relay =>
    intro s eid sw tag op nonce signer a b ok ids s1 s2 hturn hrec howned heid hsw hs1 hidle hs2 hrun
    have hown : s.ownerAccept eid sw = (s1, true) := by rw [ownerAccept_owner howned heid hsw, hs1]
    refine next_of_eq (u := (s.fwRequest eid tag (.secRelay eid sw tag op nonce signer a b ok ids) fun t =>
      t.secRelay eid sw tag (secRecord op nonce signer a b ok ids)).settle) rfl ?_
    rw [fwRequest_running hrun, secRelay_owner hturn hrec hown hidle hs2]
  case replay =>
    intro s eid tag first n hturn hrec hlo hhi hgone hrun
    refine next_of_eq (u := s.fwRequest eid tag (.eventReplay eid tag first n) fun t => t.eventReplay eid tag first n) rfl ?_
    rw [fwRequest_running hrun, eventReplay_present hturn hrec hlo hhi hgone]
  case info =>
    intro s eid tag hturn hrec hrun
    refine next_of_eq (u := s.fwRequest eid tag (.moduleInfo eid tag) fun t => t.moduleInfo eid tag) rfl ?_
    rw [fwRequest_running hrun, moduleInfo_running hturn hrec]
  case boot =>
    intro s eid tag img hturn hrec
    exact next_of_eq (u := (s.recoveryBoot eid tag img).writeDone) rfl (congrArg State.writeDone (recoveryBoot_recovering hturn hrec))
  case dbgOpen =>
    intro s path eid tag s1 hturn hon hfree hs1 hrun
    refine next_of_eq (u := s.fwRequest eid tag (.dbgOpen path eid tag) fun t => t.dbgOpen path eid tag) rfl ?_
    rw [fwRequest_running hrun, dbgOpen_free hturn hon hfree hs1]
  case dbgMemory =>
    intro s path eid tag write sp ident len addr data s1 hturn hon hmine hidle hs1 hsp hlo hhi hlock hwin hrun
    refine next_of_eq (u := (s.fwRequest eid tag (.dbgAccess path eid tag write sp ident len addr data) fun t =>
      t.dbgAccess path eid tag write sp ident len addr data).writeDone) rfl ?_
    rw [fwRequest_running hrun, dbgAccess_memory hturn hon hmine hidle hs1 hsp hlo hhi hlock hwin]
  case dbgRegister =>
    intro s path eid tag write sp ident len addr data s1 s2 hturn hon hmine hidle hs1 hsp hlen halign hwrite hlock hwin hwait hcheck hrun
    subst hsp hlen hwrite
    refine next_of_eq (u := (s.fwRequest eid tag (.dbgAccess path eid tag false 4 ident 4 addr data) fun t =>
      t.dbgAccess path eid tag false 4 ident 4 addr data).writeDone) rfl ?_
    rw [fwRequest_running hrun, dbgAccess_register hturn hon hmine hidle hs1 halign hlock hwin hwait hcheck]
  case dbgClose =>
    intro s path eid tag hturn hon hmine hrun
    refine next_of_eq (u := s.fwRequest eid tag (.dbgClose path eid tag) fun t => t.dbgClose path eid tag) rfl ?_
    rw [fwRequest_running hrun, dbgClose_mine hturn hon hmine]
  case dbgIdle =>
    intro s d hdbg hdue
    exact next_of_eq (u := s.dbgTimeout) rfl (dbgTimeout_due hdbg hdue)

end Sys2Proof.Machine
end

section
/-!
PROOFS. The Clicker's cores (spec/15; log entry 37), and what waits while a warm restart runs (spec/16 R440).
-/
namespace Sys2Proof.Machine
open Sys2Proof

/-! ### The cores -/

section Cores
variable {s s1 : State} {c addr n : Nat}

theorem coreTarget_mbox (h : addr < 0x10000) : s.coreTarget addr = .mbox addr := if_pos h

theorem coreTarget_sram (hlo : 0x8000000 ≤ addr) (hhi : addr < 0x8200000) : s.coreTarget addr = .sram (addr - 0x8000000) := by
  rw [State.coreTarget, if_neg (by omega), if_pos ⟨hlo, hhi⟩]

theorem coreTarget_csr (hlo : 0x10000000 ≤ addr) (hhi : addr < 0x14000000) : s.coreTarget addr = .csr (addr - 0x10000000) := by
  rw [State.coreTarget, if_neg (by omega), if_neg (by omega), if_pos ⟨hlo, hhi⟩]

theorem coreTarget_nowhere (h : 0x4000000000 ≤ addr) : s.coreTarget addr = .nowhere := by
  rw [State.coreTarget, if_neg (by omega), if_neg (by omega), if_neg (by omega), if_neg (by omega), if_neg (by omega)]

section Running
variable {acc : CoreAcc} {v : Word} (hrun : s.coreRuns c = true) (hwait : s.coreWaits c = false)
include hrun hwait

/-- A running core that waits for nothing may access. -/
theorem core_goes : ¬(!s.coreRuns c || s.coreWaits c) = true := by simp [hrun, hwait]

theorem coreLoad_mbox (haddr : addr < 0x10000) :
    s.coreLoad c addr n acc = s.setCore c fun x => { x with result := BitVec.ofNat 32 (leNat (s.mgt.mbox.gets addr n)) } := by
  rw [State.coreLoad, if_neg (core_goes hrun hwait)]
  dsimp only
  rw [coreTarget_mbox haddr]

theorem coreLoad_csr (hlo : 0x10000000 ≤ addr) (hhi : addr < 0x14000000) :
    s.coreLoad c addr n .load =
      ((s.setCore c fun x => { x with loads := x.loads ++ [⟨addr, n, false, none⟩] }).count cbClk 2 c 0 1).corePump c := by
  rw [State.coreLoad, if_neg (core_goes hrun hwait)]
  dsimp only
  rw [coreTarget_csr hlo hhi]
  rfl

/-- An AMO, LR or SC at the CSR space. -/
theorem coreLoad_csr_atomic (hlo : 0x10000000 ≤ addr) (hhi : addr < 0x14000000) (hacc : acc ≠ .load) : s.coreLoad c addr n acc = s.loadFault c addr := by
  rw [State.coreLoad, if_neg (core_goes hrun hwait)]
  dsimp only
  rw [coreTarget_csr hlo hhi]
  exact if_pos hacc

theorem coreLoad_nowhere (haddr : 0x4000000000 ≤ addr) : s.coreLoad c addr n acc = s.loadFault c addr := by
  rw [State.coreLoad, if_neg (core_goes hrun hwait)]
  dsimp only
  rw [coreTarget_nowhere haddr]

variable (hroom : ((s.core c).sb.filter fun t => !t.complete).length < 16)
include hroom

/-- A core with room in its store buffer may store. -/
theorem core_stores : ¬(!s.coreRuns c || s.coreWaits c || decide (16 ≤ ((s.core c).sb.filter fun t => !t.complete).length)) = true := by
  rw [decide_eq_false (by omega)]
  simp [hrun, hwait]

theorem coreStore_sram (hlo : 0x8000000 ≤ addr) (hhi : addr < 0x8200000) :
    s.coreStore c addr n v = s.setMgt fun g => { g with sram := g.sram.sets (addr - 0x8000000) (leBytes n v.toNat) } := by
  rw [State.coreStore, if_neg (core_stores hrun hwait hroom)]
  dsimp only
  rw [coreTarget_sram hlo hhi]

theorem coreStore_csr (hlo : 0x10000000 ≤ addr) (hhi : addr < 0x14000000) :
    s.coreStore c addr n v = ((s.setCore c fun x =>
      { x with sb := x.sb ++ [{ addr := addr, n := n, data := v, device := true, ea := s.eaOf addr, accepted := false, timer := none }] }).count cbClk 3 c 0
      1).corePump c := by
  rw [State.coreStore, if_neg (core_stores hrun hwait hroom)]
  dsimp only
  rw [coreTarget_csr hlo hhi]
  rfl

end Running

/-- The end of the oldest accepted device store, without an error. -/
theorem storeDone_good {err : Nat} {x : CStore} (hc : c < 4) (hdropped : (s.core c).dropped = [])
    (hfind : ((s.core c).sb.find? fun t => t.device && t.accepted) = some x) (hcause : s.storeCause x err = 0) :
    s.storeDone c err false = State.corePump ((s.setCore c fun y => { y with sb := dropStore y.sb }).storeEffect c x) c := by
  rw [State.storeDone, if_neg (by omega)]
  dsimp only
  rw [if_neg Bool.false_ne_true, hdropped]
  dsimp only
  rw [hfind]
  dsimp only
  rw [if_pos hcause]

/-- The late end of a store that has expired is only counted. -/
theorem storeDone_late {err : Nat} {x : CStore} {xs : List CStore} (hc : c < 4) (hexpired : (s.core c).expired = x :: xs) :
    s.storeDone c err true = ((s.setCore c fun y => { y with expired := xs }).storeEffect c x).bump F.CLK_STERR_INFO_LATE (4 * c) 1 := by
  rw [State.storeDone, if_neg (by omega)]
  dsimp only
  rw [if_pos rfl, hexpired]

/-- The end of a load from another switch. -/
theorem loadDone_remote {v : Word} {l : CLoad} {w o : Nat} (hc : c < 4) (hfind : (s.core c).loads.find? (·.out) = some l)
    (htarget : s.coreTarget l.addr = .remote w o) :
    s.loadDone c 0 v false = ((s.setCore c fun y => { y with loads := dropLoad y.loads }).setCore c fun y => { y with result := v }).corePump c := by
  rw [State.loadDone, if_neg (by omega)]
  dsimp only
  rw [if_neg Bool.false_ne_true, hfind]
  dsimp only
  rw [htarget]
  rfl

/-- The end of a load from a register that no held write is before. -/
theorem loadDone_csr {err : Nat} {v : Word} {l : CLoad} {o : Nat} {r : State × Word} (hc : c < 4) (hfind : (s.core c).loads.find? (·.out) = some l)
    (htarget : s.coreTarget l.addr = .csr o) (hwait : s.waitsBehind (.core c) o = false) (hcause : csrCause o l.n false = 0)
    (hs1 : s1 = s.setCore c fun y => { y with loads := dropLoad y.loads }) (hr : r = s1.csrRead (.core c) (o / 4 * 4)) :
    s.loadDone c err v false =
      (r.1.setCore c fun y => { y with result := BitVec.ofNat 32 (r.2.toNat / 256 ^ (o % 4) % 256 ^ l.n) }).corePump c := by
  rw [State.loadDone, if_neg (by omega)]
  dsimp only
  rw [if_neg Bool.false_ne_true, hfind]
  dsimp only
  rw [htarget]
  dsimp only
  rw [if_neg (by simp [hwait]), ← hs1, if_neg (not_not_intro hcause), ← hr]

/-- A device store past its limit expires and is reported. -/
theorem accessTimeout_store {x : CStore}
    (hfind : ((s.core c).sb.find? fun t => t.device && t.accepted && t.timer.any fun t => decide (t ≤ s.mgmtClk)) = some x) :
    s.accessTimeout c = ((s.setCore c fun y => { y with sb := y.sb.erase x, expired := y.expired ++ [x] }).storeError c x.addr 1).corePump c := by
  unfold State.accessTimeout
  dsimp only
  rw [hfind]

variable {v : Word} (hs1 : s1 = s.storeAt (R.CLK_CORE_CTL + 4 * c) v)
include hs1

/-- RESET of a core that is not held, while the firmware runs. -/
theorem coreCtlWrite_reset (hreset : F.CLK_CORE_CTL_RESET.of v = 1) (hhold : s1.on F.CLK_CORE_CTL_HOLD (4 * c) = false)
    (hfw : s1.las.fwRunning = true) : s.coreCtlWrite c v = (s1.coreReset c).put F.CLK_CORE_STATUS_STATE (4 * c) 1 := by
  have hfw2 : (s1.coreReset c).las.fwRunning = true := by rw [coreReset_las, hfw]
  unfold State.coreCtlWrite
  dsimp only
  rw [← hs1, if_pos (show (decide (F.CLK_CORE_CTL_RESET.of v = 1) || _) = true by simp [hreset]), if_neg (by simp [hhold, hfw2]),
    if_pos (by simp [hreset])]

/-- HOLD of a core that was not held. -/
theorem coreCtlWrite_hold (hwas : s.on F.CLK_CORE_CTL_HOLD (4 * c) = false) (hnow : s1.on F.CLK_CORE_CTL_HOLD (4 * c) = true) :
    s.coreCtlWrite c v = (s1.coreReset c).put F.CLK_CORE_STATUS_STATE (4 * c) 0 := by
  unfold State.coreCtlWrite
  dsimp only
  rw [← hs1, hwas, hnow, if_pos (show (decide (F.CLK_CORE_CTL_RESET.of v = 1) || _) = true by simp), if_pos (by simp)]

end Cores

/-- Settles O50. -/
theorem coreAccesses : Obligations.CoreAccesses := by
  refine ⟨?loadMbox, ?loadCsr, ?loadAtomic, ?loadNowhere, ?storeSram, ?storeCsr, ?fence, ?trap, ?storeDone, ?storeLate, ?loadRemote, ?loadDone, ?timeout,
    ?reset, ?hold, ?shankCured, ?shankFails⟩
  case loadMbox =>
    intro s c addr n acc hc hrun hwait haddr
    refine next_of_within (f := fun t => (t.coreLoad c addr n acc).writeDone) rfl (decide_eq_true hc) ?_
    rw [coreLoad_mbox hrun hwait haddr]
  case loadCsr =>
    intro s c addr n acc hc hrun hwait hlo hhi hacc
    subst hacc
    refine next_of_within (f := fun t => (t.coreLoad c addr n .load).writeDone) rfl (decide_eq_true hc) ?_
    rw [coreLoad_csr hrun hwait hlo hhi]
  case loadAtomic =>
    intro s c addr n acc hc hrun hwait hlo hhi hacc
    refine next_of_within (f := fun t => (t.coreLoad c addr n acc).writeDone) rfl (decide_eq_true hc) ?_
    rw [coreLoad_csr_atomic hrun hwait hlo hhi hacc]
  case loadNowhere =>
    intro s c addr n acc hc hrun hwait haddr
    refine next_of_within (f := fun t => (t.coreLoad c addr n acc).writeDone) rfl (decide_eq_true hc) ?_
    rw [coreLoad_nowhere hrun hwait haddr]
  case storeSram =>
    intro s c addr n v hc hrun hwait hroom hlo hhi
    refine next_of_within (f := fun t => (t.coreStore c addr n v).writeDone) rfl (decide_eq_true hc) ?_
    rw [coreStore_sram hrun hwait hroom hlo hhi]
  case storeCsr =>
    intro s c addr n v hc hrun hwait hroom hlo hhi
    refine next_of_within (f := fun t => (t.coreStore c addr n v).writeDone) rfl (decide_eq_true hc) ?_
    rw [coreStore_csr hrun hwait hroom hlo hhi]
  case fence =>
    intro s c ow ir hc hrun hwait
    exact next_of_within (f := fun t => t.coreFence c ow ir) rfl (decide_eq_true hc) (if_neg (core_goes hrun hwait))
  case trap =>
    intro s c hc hrun
    exact next_of_within (f := fun t => t.coreTrap c) rfl (decide_eq_true hc) (if_neg (by simp [hrun]))
  case storeDone =>
    intro s c err late x hc hlate hdropped hfind hcause
    subst hlate
    refine next_of_within (f := fun t => (t.storeDone c err false).writeDone) rfl (decide_eq_true hc) ?_
    rw [storeDone_good hc hdropped hfind hcause]
  case storeLate =>
    intro s c err late x xs hc hlate hexpired
    subst hlate
    refine next_of_within (f := fun t => (t.storeDone c err true).writeDone) rfl (decide_eq_true hc) ?_
    rw [storeDone_late hc hexpired]
  case loadRemote =>
    intro s c err v late l w o hc hlate hfind htarget herr
    subst hlate herr
    refine next_of_within (f := fun t => (t.loadDone c 0 v false).writeDone) rfl (decide_eq_true hc) ?_
    rw [loadDone_remote hc hfind htarget]
  case loadDone =>
    intro s c err v late l o s1 r hc hlate hfind htarget hwait hcause hs1 hr
    subst hlate
    refine next_of_within (f := fun t => (t.loadDone c err v false).writeDone) rfl (decide_eq_true hc) ?_
    rw [loadDone_csr hc hfind htarget hwait hcause hs1 hr]
  case timeout =>
    intro s c x hc hfind
    refine next_of_within (f := fun t => (t.accessTimeout c).settle) rfl (decide_eq_true hc) ?_
    rw [accessTimeout_store hfind]
  case reset =>
    intro s p c v s1 hp ho hc hreset hs1 hhold hfw
    refine next_of_within (f := fun t => t.pathWrite p (R.CLK_CORE_CTL + 4 * c) v) rfl (guard_and hp (decide_eq_true hc)) ?_
    rw [pathWrite_CLK_CORE_CTL ho hc, coreCtlWrite_reset hs1 hreset hhold hfw]
  case hold =>
    intro s p c v s1 hp ho hc hreset hs1 hwas hnow
    refine next_of_within (f := fun t => t.pathWrite p (R.CLK_CORE_CTL + 4 * c) v) rfl (guard_and hp (decide_eq_true hc)) ?_
    rw [pathWrite_CLK_CORE_CTL ho hc, coreCtlWrite_hold hs1 hwas hnow]
  case shankCured =>
    intro s x y cured hcured
    subst hcured
    exact next_of_eq (u := (s.shankError x y true).settle) rfl rfl
  case shankFails =>
    intro s x y cured hcured
    subst hcured
    exact next_of_eq (u := (s.shankError x y false).settle) rfl rfl

/-! ### What waits for a warm restart -/

section Deferred
variable {s : State}

theorem firmware_restarting {k : Nat} {i : Instr} {f : State → State} (h : s.restarting = true) :
    s.firmware k i f = s.setMgt fun g => { g with fwJobs := g.fwJobs ++ [(k, i)] } := if_pos h

theorem fwRequest_arrived {eid tag : Nat} {i : Instr} {f : State → State} (h : s.restarting = true) (hopen : (eid, tag) ∈ s.mgt.open_) :
    s.fwRequest eid tag i f = s.setMgt fun g => { g with fwJobs := g.fwJobs ++ [(0, i)] } := by
  rw [State.fwRequest, if_neg (by simp [hopen]), firmware_restarting h]

theorem fwRequest_lost {eid tag : Nat} {i : Instr} {f : State → State} (h : s.restarting = true) (hopen : (eid, tag) ∉ s.mgt.open_) :
    s.fwRequest eid tag i f = s.bump F.CLK_MCTP_CNT_REASM_DROP 0 1 := by
  rw [State.fwRequest, if_pos (by simp [h, hopen]), State.reasmDrop]

end Deferred

/-- Settles O52. -/
theorem restartDefers : Obligations.RestartDefers := by
  refine ⟨?discovery, ?idlePark, ?spdm, ?bind, ?arrived, ?lost⟩
  case discovery =>
    intro s n kind lds dcd xr sn vendor hn hrun
    refine next_of_within (f := fun t => (t.firmware 0 (.discoveryComplete n kind lds dcd xr sn vendor) fun u =>
      u.discoveryDone n ⟨kind, lds, dcd, xr, sn, vendor⟩).writeDone) rfl (decide_eq_true hn) ?_
    rw [firmware_restarting hrun]
  case idlePark =>
    intro s sh hsh hrun
    refine next_of_within (f := fun t => (t.firmware sh (.shelfIdlePark sh) fun u => u.shelfIdlePark sh).writeDone) rfl (decide_eq_true hsh) ?_
    rw [firmware_restarting hrun]
  case spdm =>
    intro s who hrun
    exact next_of_eq (u := s.firmware 0 (.spdmGetVersion who) fun t => t.spdmGetVersion who) rfl (firmware_restarting hrun)
  case bind =>
    intro s eid sw v kind port obj slice hrun
    exact next_of_eq (u := (s.firmware 0 (.fmBindVppb eid sw v kind port obj slice) fun t => t.fmBind eid sw v ⟨kind, port, obj, slice⟩).writeDone) rfl
      (congrArg State.writeDone (firmware_restarting hrun))
  case arrived =>
    intro s eid tag first n hopen hrun
    exact next_of_eq (u := s.fwRequest eid tag (.eventReplay eid tag first n) fun t => t.eventReplay eid tag first n) rfl (fwRequest_arrived hrun hopen)
  case lost =>
    intro s eid tag first n hopen hrun
    exact next_of_eq (u := s.fwRequest eid tag (.eventReplay eid tag first n) fun t => t.eventReplay eid tag first n) rfl (fwRequest_lost hrun hopen)

end Sys2Proof.Machine
end

section
/-!
PROOFS. Release of fenced units, warm restart, power-down and GPF (spec/16).
-/
namespace Sys2Proof.Machine
open Sys2Proof

section Units
variable {s : State}

/-- A unit at its instant of release whose fence is over. -/
theorem unitRelease_over {u : FUnit} {n : Nat} (hrel : u ∈ s.flt.released) (hover : s.fenceOver u = true)
    (hfind : (s.flt.fences.find? fun e => e.1 == u) = some (u, n)) :
    s.unitRelease u = ((s.faultLog 4 n 0).setFlt fun f =>
      { f with fences := f.fences.filter (fun e => e.1 != u), released := f.released.filter (· != u) }).applyRelease u := by
  rw [State.unitRelease, if_pos (guard_and (List.contains_iff_mem.2 hrel) hover), hfind]
  rfl

end Units

/-! ### Warm restart -/

section Restart
variable {s s1 s2 : State} {v : Word} {svn : Nat}

theorem restartWrite_go (hgo : F.FLT_RESTART_GO.of v = 1) (hst : s.restartState = 0) (hs1 : s1 = s.storeAt R.FLT_RESTART v) :
    s.restartWrite v = (s1.setRestart 1).setFlt fun f =>
      { f with restartImg := s1.get F.FLT_RESTART_IMAGE 0, restartPrev := s.get F.LAST_BOOT_IMAGE 0, reverting := false } := by
  subst hs1
  exact if_pos ⟨hgo, hst⟩

theorem restartVerified_good (hst : s.restartState = 1) (hsvn : s.get F.SEC_FW_SVN_MIN_SVN 0 ≤ svn) (htest : s.on F.SEC_STATUS_SELFTEST_OK 0 = true)
    (herr : s.secError = false) : s.restartVerified true svn = (s.setRestart 2).setFlt fun f => { f with restartSvn := svn } := by
  rw [State.restartVerified, if_neg (not_not_intro hst), if_pos (by simp [hsvn, htest, herr])]

theorem restartVerified_bad (hst : s.restartState = 1) :
    s.restartVerified false svn = (s.setRestart 0).put F.FLT_RESTART_STATUS_REFUSED 0 1 := by
  rw [State.restartVerified, if_neg (not_not_intro hst)]
  rfl

/-- The new image is loaded: its confirmation limit runs and the work that waited is done. -/
theorem restartDone_loaded (hrun : s.restarting = true) (hback : s.flt.reverting = false)
    (hs2 : s2 = (((s.put F.LAST_BOOT_IMAGE 0 s.flt.restartImg).put F.SEC_FW_SVN_SVN 0 s.flt.restartSvn).setLas fun l =>
      { l with fwRunning := true }).setFlt fun f =>
      { f with restartSvn := s.get F.SEC_FW_SVN_SVN 0, reverting := false, restartTo := some (s.after 58593750) }) :
    s.restartDone = ((s2.each (List.range 4) fun t c =>
      t.put F.CLK_CORE_STATUS_STATE (4 * c) (if t.on F.CLK_CORE_CTL_HOLD (4 * c) then 0 else 1)).setRestart 3).fwResume := by
  have hloaded : s.restartLoaded = (s2.each (List.range 4) fun t c =>
      t.put F.CLK_CORE_STATUS_STATE (4 * c) (if t.on F.CLK_CORE_CTL_HOLD (4 * c) then 0 else 1)).setRestart 3 := by
    unfold State.restartLoaded
    rw [if_pos hrun]
    dsimp only
    rw [hback, if_neg Bool.false_ne_true, if_neg Bool.false_ne_true, if_neg Bool.false_ne_true, ← hs2]
  rw [State.restartDone, if_pos hrun, hloaded]

theorem restartRevert_due (hst : s.restartState = 3) (hdue : s.dueO s.flt.restartTo = true) :
    s.restartRevert = State.occAt (((s.setRestart 2).put F.FLT_RESTART_STATUS_REVERTED 0 1).setFlt fun f =>
      { f with restartTo := none, reverting := true }) 28 0 none := if_pos ⟨hst, hdue⟩

end Restart

/-! ### Power-down -/

section PowerDown
variable {s : State} {v : Word}

/-- GO of a power-down while none runs and none is asked for. -/
theorem pwrdnWrite_go (hgo : F.FLT_PWRDN_CTL_GO.of v = 1) (habort : F.FLT_PWRDN_CTL_ABORT.of v = 0) (hstart : s.flt.pdStart = false)
    (hstep : s.pdStep = 0 ∨ 6 ≤ s.pdStep) : s.pwrdnWrite v = s.setFlt fun f => { f with pdStart := true } := by
  have hruns : (s.flt.pdStart || (decide (1 ≤ s.pdStep) && decide (s.pdStep ≤ 5))) = false := by
    rw [hstart, Bool.false_or, ← Bool.decide_and]
    exact decide_eq_false (by omega)
  unfold State.pwrdnWrite
  dsimp only
  rw [hruns, if_neg (by simp [habort]), if_pos (by simp [hgo])]

/-- ABORT of a power-down that runs. -/
theorem pwrdnWrite_abort (habort : F.FLT_PWRDN_CTL_ABORT.of v = 1) (hlo : 1 ≤ s.pdStep) (hhi : s.pdStep ≤ 5) :
    s.pwrdnWrite v = s.setFlt fun f => { f with pdAbort := true } := by
  have hruns : (s.flt.pdStart || (decide (1 ≤ s.pdStep) && decide (s.pdStep ≤ 5))) = true := by simp [hlo, hhi]
  unfold State.pwrdnWrite
  dsimp only
  rw [hruns, if_pos (by simp [habort]), if_neg (by simp)]

theorem pdDrained_done (hstep : s.pdStep = 2) (hdrained : s.drained = true) :
    s.pdDrained = ((s.setPd 3).setFlt fun f => { f with pdTimer := some (s.after (s.get F.FLT_PWRDN_CFG_CLEAN_LIMIT 0 * 1024)) }).cleanBehind
      (List.range 64) := if_pos ⟨hstep, hdrained⟩

theorem pdDrainTimeout_due (hstep : s.pdStep = 2) (hdue : s.reachedO s.flt.pdTimer = true) (hdrained : s.drained = false) :
    s.pdDrainTimeout = ((s.put F.FLT_PWRDN_STATUS_DRAIN_TO 0 1).dirtyLeft (s.dirtyIdx fun _ => true)).pdClean :=
  if_pos ⟨hstep, hdue, by simp [hdrained]⟩

/-- Nothing is left dirty and nothing is being cleaned: the first GPF phase follows. -/
theorem pdCleanDone_clean (hstep : s.pdStep = 3) (hdirty : (s.dirtyIdx fun _ => true) = []) (hclean : s.ins.cleaning = []) :
    s.pdCleanDone = s.pdGpf 1 := by
  rw [State.pdCleanDone, if_pos ⟨hstep, by simp [hdirty], by simp [hclean]⟩]
  unfold State.pdCleaned
  rw [hdirty]
  rfl

theorem pdCleanTimeout_due (hstep : s.pdStep = 3) (hdue : s.reachedO s.flt.pdTimer = true) :
    s.pdCleanTimeout = ((s.put F.FLT_PWRDN_STATUS_CLEAN_TO 0 1).dirtyLeft (s.dirtyIdx fun _ => true)).pdCleaned := if_pos ⟨hstep, hdue⟩

/-- Every partner has answered the second phase: the fabric links are disabled. -/
theorem pdGpfDone_answered {ls : List Nat} (hstep : s.pdStep = 4) (hphase : s.flt.pdPhase = 2) (hwait : s.flt.pdWait = []) (hfail : s.flt.pdFail = false)
    (hls : ls = (List.range 8).filter fun m => !s.on F.ML_LINK_CMD_DISABLE (dLink m)) :
    s.pdGpfDone = State.setFlt ((s.each ls fun t m => t.mlCmdWrite m 2).setPd 5) fun f => { f with pdDisabled := ls, pdWait := [], pdTimer := none } := by
  unfold State.pdGpfDone
  rw [if_pos ⟨hstep, hphase, .inl (by simp [hwait])⟩]
  dsimp only
  rw [← hls, if_neg (by simp [hfail, hwait])]

end PowerDown

/-! ### GPF -/

section Gpf
variable {s : State} {n : Nat}

/-- A host without partners is answered at once. -/
theorem gpfForward_alone {ph : Nat} (hnone : s.hostPartners n = []) : s.gpfForward n ph = s.send (.ctl n 10 (4 + ph)) := by
  unfold State.gpfForward
  rw [hnone]
  rfl

theorem gpfPhase1_alone (hmode : upMode (s.portMode n) = true) (hup : s.portUp n = true) (hnone : s.hostPartners n = []) :
    s.gpfPhase1 n = s.send (.ctl n 10 5) := by
  rw [State.gpfPhase1, if_pos (guard_and hmode hup), gpfForward_alone hnone]

theorem gpfPhase2_alone (hmode : upMode (s.portMode n) = true) (hup : s.portUp n = true) (hclean : s.gpfClean n = true) (hnone : s.hostPartners n = []) :
    s.gpfPhase2 n = s.send (.ctl n 10 6) := by
  rw [State.gpfPhase2, if_pos (guard_and hmode hup), if_pos hclean, gpfForward_alone hnone]

/-- The limit of the cleaning before a second phase. -/
theorem gpfTimeout_due {e : Nat × Nat} {s1 : State} (hfind : (s.flt.gpfBack.find? fun e => e.1 == n) = some e) (hdue : s.due e.2 = true)
    (hs1 : s1 = (s.dirtyLeft (s.dirtyRanges (s.hostPartners n))).setFlt fun f => { f with gpfBack := f.gpfBack.erase e }) :
    s.gpfTimeout n = (s1.occAt 27 0 none).gpfForward n 2 := by
  rw [State.gpfTimeout, hfind]
  dsimp only
  rw [if_pos hdue, ← hs1]

/-- The last partner of the one open phase has answered, and its host is answered. -/
theorem gpfAnswer_last {h ph : Nat} (hreqs : s.flt.gpfReqs = [(h, ph, [n])]) :
    s.gpfAnswer n = (s.setFlt fun f => { f with gpfReqs := [], pdWait := f.pdWait.filter (· != n) }).send (.ctl h 10 (4 + ph)) := by
  have hopen : (s.flt.gpfReqs.map fun r => (r.1, r.2.1, r.2.2.filter (· != n))) = [(h, ph, [])] := by
    rw [hreqs]
    simp
  unfold State.gpfAnswer
  dsimp only
  rw [hopen]
  rfl

end Gpf

/-- Settles O51. -/
theorem faultUnits : Obligations.FaultUnits := by
  refine ⟨?release, ?restart, ?verified, ?refused, ?loaded, ?revert, ?go, ?abort, ?drained, ?drainTimeout, ?clean, ?cleanTimeout, ?gpfDone, ?phase1,
    ?phase2, ?gpfTimeout, ?answer⟩
  case release =>
    intro s kind unit n hrel hover hfind
    exact next_of_eq (u := (s.unitRelease (unitOf kind unit)).writeDone) rfl (congrArg State.writeDone (unitRelease_over hrel hover hfind))
  case restart =>
    intro s p v s1 hp ho hgo hst hs1
    refine next_of_within (f := fun t => t.pathWrite p R.FLT_RESTART v) rfl hp ?_
    rw [pathWrite_FLT_RESTART ho, restartWrite_go hgo hst hs1]
  case verified =>
    intro s ok svn hst hok hsvn htest herr
    subst hok
    exact next_of_eq (u := s.restartVerified true svn) rfl (restartVerified_good hst hsvn htest herr)
  case refused =>
    intro s ok svn hst hok
    subst hok
    exact next_of_eq (u := s.restartVerified false svn) rfl (restartVerified_bad hst)
  case loaded =>
    intro s s2 hrun hback hs2
    exact next_of_eq (u := s.restartDone.writeDone) rfl (congrArg State.writeDone (restartDone_loaded hrun hback hs2))
  case revert =>
    intro s hst hdue
    exact next_of_eq (u := s.restartRevert.settle) rfl (congrArg State.settle (restartRevert_due hst hdue))
  case go =>
    intro s p v hp ho hgo habort hstart hstep
    refine next_of_within (f := fun t => t.pathWrite p R.FLT_PWRDN_CTL v) rfl hp ?_
    rw [pathWrite_FLT_PWRDN_CTL ho, pwrdnWrite_go hgo habort hstart hstep]
  case abort =>
    intro s p v hp ho hgo habort hlo hhi
    refine next_of_within (f := fun t => t.pathWrite p R.FLT_PWRDN_CTL v) rfl hp ?_
    rw [pathWrite_FLT_PWRDN_CTL ho, pwrdnWrite_abort habort hlo hhi]
  case drained =>
    intro s hstep hdrained
    exact next_of_eq (u := s.pdDrained.writeDone) rfl (congrArg State.writeDone (pdDrained_done hstep hdrained))
  case drainTimeout =>
    intro s hstep hdue hdrained
    exact next_of_eq (u := s.pdDrainTimeout.writeDone) rfl (congrArg State.writeDone (pdDrainTimeout_due hstep hdue hdrained))
  case clean =>
    intro s hstep hdirty hclean
    exact next_of_eq (u := s.pdCleanDone.writeDone) rfl (congrArg State.writeDone (pdCleanDone_clean hstep hdirty hclean))
  case cleanTimeout =>
    intro s hstep hdue
    exact next_of_eq (u := s.pdCleanTimeout.writeDone) rfl (congrArg State.writeDone (pdCleanTimeout_due hstep hdue))
  case gpfDone =>
    intro s ls hstep hphase hwait hfail hls
    exact next_of_eq (u := s.pdGpfDone.writeDone) rfl (congrArg State.writeDone (pdGpfDone_answered hstep hphase hwait hfail hls))
  case phase1 =>
    intro s n hn hmode hup hnone
    exact next_of_within (f := fun t => t.gpfPhase1 n) rfl (decide_eq_true hn) (gpfPhase1_alone hmode hup hnone)
  case phase2 =>
    intro s n hn hmode hup hclean hnone
    exact next_of_within (f := fun t => (t.gpfPhase2 n).writeDone) rfl (decide_eq_true hn) (congrArg State.writeDone (gpfPhase2_alone hmode hup hclean hnone))
  case gpfTimeout =>
    intro s n e s1 hn hfind hdue hs1
    exact next_of_within (f := fun t => (t.gpfTimeout n).settle) rfl (decide_eq_true hn) (congrArg State.settle (gpfTimeout_due hfind hdue hs1))
  case answer =>
    intro s n h ph hn hreqs
    exact next_of_within (f := fun t => t.gpfAnswer n) rfl (decide_eq_true hn) (gpfAnswer_last hreqs)

end Sys2Proof.Machine
end

section
/-!
PROOFS. The power entry controller (spec/18 R459 to R473) and the AVS steps (R474 to R476).
-/
namespace Sys2Proof.Machine
open Sys2Proof

/-! ### The transitions that follow an event, state by state (R463) -/

section Turns
variable {p q r : PwrSt}

theorem turn_nobias (h : p.ctl = pcNobias) : p.turn = p := by simp [PwrSt.turn, h, pcNobias, pcOff, pcInsert, pcLatched]

theorem turn_off_feed (h : p.ctl = pcOff) (hfeed : p.anyFeed = true) : p.turn = { p with ctl := pcInsert } := if_pos (by simp [h, hfeed])

theorem turn_off_noFeed (h : p.ctl = pcOff) (hfeed : p.anyFeed = false) : p.turn = p := by
  simp [PwrSt.turn, h, hfeed, pcOff, pcInsert, pcLatched]

theorem turn_insert_waits (h : p.ctl = pcInsert) (hfeed : p.anyFeed = true) (hwait : (p.insDone && p.pmEn) = false) : p.turn = p := by
  have hstay : ¬(decide (p.ctl = pcInsert) && p.insDone && p.pmEn) = true := by rw [Bool.and_assoc, hwait, Bool.and_false]; decide
  rw [PwrSt.turn, if_neg (by simp [h, pcInsert, pcOff]), if_neg (by simp [hfeed]), if_neg hstay, if_neg (by simp [h, pcInsert, pcLatched])]

theorem turn_insert_ramps (h : p.ctl = pcInsert) (hfeed : p.anyFeed = true) (hdone : p.insDone = true) (hen : p.pmEn = true) :
    p.turn = { p with ctl := pcRamp } := by
  rw [PwrSt.turn, if_neg (by simp [h, pcInsert, pcOff]), if_neg (by simp [hfeed]), if_pos (by simp [h, hdone, hen])]

theorem turn_fetOn (h : p.ctl = pcRamp ∨ p.ctl = pcOn) : p.turn = p := by
  obtain h | h := h <;> simp [PwrSt.turn, h, pcRamp, pcOn, pcOff, pcInsert, pcLatched]

theorem turn_latched_holds (h : p.ctl = pcLatched) (hhold : p.latch = true ∨ p.cool = true) : p.turn = p := by
  have hstay : ¬(decide (p.ctl = pcLatched) && !p.latch && !p.cool) = true := by
    obtain h | h := hhold <;> simp [h]
  rw [PwrSt.turn, if_neg (by simp [h, pcLatched, pcOff]), if_neg (by simp [h, pcLatched, pcInsert]), if_neg (by simp [h, pcLatched, pcInsert]),
    if_neg hstay]

theorem turn_latched_clears (h : p.ctl = pcLatched) (hlatch : p.latch = false) (hcool : p.cool = false) : p.turn = { p with ctl := pcOff } := by
  rw [PwrSt.turn, if_neg (by simp [h, pcLatched, pcOff]), if_neg (by simp [h, pcLatched, pcInsert]), if_neg (by simp [h, pcLatched, pcInsert]),
    if_pos (by simp [h, hlatch, hcool])]

theorem settle_still (h : p.turn = p) : p.settle = p := by rw [PwrSt.settle, h, h, h]

theorem settle_once (hp : p.turn = q) (hq : q.turn = q) : p.settle = q := by rw [PwrSt.settle, hp, hq, hq]

theorem settle_twice (hp : p.turn = q) (hq : q.turn = r) (hr : r.turn = r) : p.settle = r := by rw [PwrSt.settle, hp, hq, hr]

theorem anyFeed_of (h : p.feedA = true ∨ p.feedB = true) : p.anyFeed = true := by
  obtain h | h := h <;> simp [PwrSt.anyFeed, h]

theorem anyFeed_none (ha : p.feedA = false) (hb : p.feedB = false) : p.anyFeed = false := by simp [PwrSt.anyFeed, ha, hb]

theorem fetOn_of (h : p.ctl = pcRamp ∨ p.ctl = pcOn) : p.fetOn = true := by
  obtain h | h := h <;> simp [PwrSt.fetOn, h]

end Turns

/-! ### The events -/

section Events
variable {s s1 : State}

/-- The first feed in its window enters INSERT with the timer started. -/
theorem feedEnter_A (hctl : s.pwr.ctl = pcOff) (ha : s.pwr.feedA = false) (hb : s.pwr.feedB = false) :
    s.feedEnter 0 = (s.setPwr fun _ => { s.pwr with ctl := 2, feedA := true, insRun := true, insDone := false }).syncPwr := by
  rw [State.feedEnter, if_neg (by simp [hctl, pcOff, pcNobias])]
  refine ctl_next ?_
  rw [if_neg (show ¬s.pwr.anyFeed = true by simp [anyFeed_none ha hb]), if_pos rfl]
  exact settle_once (turn_off_feed hctl rfl) (turn_insert_waits rfl rfl rfl)

theorem feedEnter_B (hctl : s.pwr.ctl = pcOff) (ha : s.pwr.feedA = false) (hb : s.pwr.feedB = false) :
    s.feedEnter 1 = (s.setPwr fun _ => { s.pwr with ctl := 2, feedB := true, insRun := true, insDone := false }).syncPwr := by
  rw [State.feedEnter, if_neg (by simp [hctl, pcOff, pcNobias])]
  refine ctl_next ?_
  rw [if_neg (show ¬s.pwr.anyFeed = true by simp [anyFeed_none ha hb]), if_neg (by decide)]
  exact settle_once (turn_off_feed hctl (anyFeed_of (.inr rfl))) (turn_insert_waits rfl (anyFeed_of (.inr rfl)) rfl)

/-- The last feed leaves its window while the controller is ON. -/
theorem feedLeave_A (hfeed : s.pwr.feedA = true) (hregs : s.pwr.regsOn = true) (hs1 : s1 = s.occAt 21 0 none) (hctl : s1.pwr.ctl = pcOn)
    (hother : s1.pwr.feedB = false) :
    s.feedLeave 0 = (s1.setPwr fun _ =>
      { s1.pwr with ctl := 1, regsOn := false, recCause := 1, feedA := false, orA := false, insRun := false, insDone := false }).syncPwr := by
  rw [State.feedLeave, if_neg (by simp [hfeed]), if_pos hregs, if_pos rfl, ← hs1]
  refine ctl_next ?_
  rw [if_pos rfl, if_neg (by simp [PwrSt.anyFeed, hother])]
  exact (congrArg PwrSt.settle (if_pos (fetOn_of (.inr hctl)))).trans (settle_still (turn_off_noFeed rfl (anyFeed_none rfl hother)))

theorem feedLeave_B (hfeed : s.pwr.feedB = true) (hregs : s.pwr.regsOn = true) (hs1 : s1 = s.occAt 22 0 none) (hctl : s1.pwr.ctl = pcOn)
    (hother : s1.pwr.feedA = false) :
    s.feedLeave 1 = (s1.setPwr fun _ =>
      { s1.pwr with ctl := 1, regsOn := false, recCause := 1, feedB := false, orB := false, insRun := false, insDone := false }).syncPwr := by
  rw [State.feedLeave, if_neg (by simp [hfeed]), if_pos hregs, if_neg (by decide), ← hs1]
  refine ctl_next ?_
  rw [if_neg (show ¬(1 = 0) by decide), if_neg (by simp [PwrSt.anyFeed, hother])]
  exact (congrArg PwrSt.settle (if_pos (fetOn_of (.inr hctl)))).trans (settle_still (turn_off_noFeed rfl (anyFeed_none hother rfl)))

theorem biasPresent_off (hctl : s.pwr.ctl = pcNobias) (ha : s.pwr.feedA = false) (hb : s.pwr.feedB = false) :
    s.biasPresent = (s.setPwr fun _ => { s.pwr with ctl := 1, latch := false, cool := false }).syncPwr := by
  rw [State.biasPresent, if_pos hctl]
  exact ctl_next (settle_still (turn_off_noFeed rfl (anyFeed_none ha hb)))

theorem biasLoss_nobias :
    s.biasLoss = (s.setPwr fun _ =>
      { s.pwr with ctl := 0, feedA := false, feedB := false, orA := false, orB := false, insRun := false, insDone := false, latch := false, cool := false,
                   regsOn := false, recCause := if s.pwr.fetOn then 8 else s.pwr.recCause }).syncPwr :=
  ctl_next (settle_still (turn_nobias rfl))

/-- The end of the delay with PM_EN high enters RAMP. -/
theorem insertionEnd_ramps (hrun : s.pwr.insRun = true) (hctl : s.pwr.ctl = pcInsert) (hfeed : s.pwr.feedA = true ∨ s.pwr.feedB = true)
    (hen : s.pwr.pmEn = true) : s.insertionEnd = (s.setPwr fun _ => { s.pwr with ctl := 3, insDone := true }).syncPwr := by
  rw [State.insertionEnd, if_pos hrun]
  exact ctl_next (settle_once (turn_insert_ramps hctl (anyFeed_of hfeed) rfl hen) (turn_fetOn (.inl rfl)))

theorem pmEnRise_ramps (hctl : s.pwr.ctl = pcInsert) (hfeed : s.pwr.feedA = true ∨ s.pwr.feedB = true) (hdone : s.pwr.insDone = true) :
    s.pmEnRise = (s.setPwr fun _ => { s.pwr with ctl := 3, pmEn := true }).syncPwr :=
  ctl_next (settle_once (turn_insert_ramps hctl (anyFeed_of hfeed) hdone rfl) (turn_fetOn (.inl rfl)))

/-- PM_EN low turns off and goes back to INSERT. -/
theorem pmEnLow_on (hctl : s.pwr.ctl = pcOn) (hfeed : s.pwr.feedA = true ∨ s.pwr.feedB = true) :
    s.pmEnLow = (s.setPwr fun _ => { s.pwr with ctl := 2, pmEn := false, regsOn := false, recCause := 2, insDone := true }).syncPwr := by
  refine ctl_next ?_
  exact (congrArg PwrSt.settle (if_pos (fetOn_of (.inr hctl)))).trans
    (settle_once (turn_off_feed rfl (anyFeed_of hfeed)) (turn_insert_waits rfl (anyFeed_of hfeed) rfl))

/-- The latch is cleared after the cool-down, with PM_EN low and feed A in its window. -/
theorem latchClear_inserts (hen : s.pwr.pmEn = false) (hfeed : s.pwr.feedA = true) (hctl : s.pwr.ctl = pcLatched) (hcool : s.pwr.cool = false) :
    s.latchClear = (s.setPwr fun _ => { s.pwr with ctl := 2, latch := false }).syncPwr := by
  rw [State.latchClear, if_pos (by simp [hen, anyFeed_of (.inl hfeed)])]
  refine ctl_next (settle_twice (turn_latched_clears hctl rfl hcool) (turn_off_feed rfl (anyFeed_of (.inl hfeed)))
    (turn_insert_waits rfl (anyFeed_of (.inl hfeed)) ?_))
  simp [hen]

theorem cooldownEnd_latched (hctl : s.pwr.ctl = pcLatched) (hlatch : s.pwr.latch = true) :
    s.cooldownEnd = (s.setPwr fun _ => { s.pwr with cool := false }).syncPwr :=
  ctl_next (settle_still (turn_latched_holds hctl (.inl hlatch)))

theorem powerGood_ramp (hctl : s.pwr.ctl = pcRamp) : s.powerGood = (s.setPwr fun _ => { s.pwr with ctl := 4 }).syncPwr := by
  refine ctl_next ?_
  rw [if_pos hctl]
  exact settle_still (turn_fetOn (.inr rfl))

theorem regulatorEnable_on (hctl : s.pwr.ctl = pcOn) (hregs : s.pwr.regsOn = false) :
    s.regulatorEnable = ((s.setPwr fun p => { p with regsOn := true }).dieReset 0).setMdl fun m => { m with aonHeld := true } :=
  if_pos (by simp [hctl, hregs])

/-- A trip while the FET ramps or is on enters LATCHED with its cause and count (R470). -/
theorem fetTrip_fetOn {cause : Nat} (hctl : s.pwr.ctl = pcRamp ∨ s.pwr.ctl = pcOn) :
    s.fetTrip cause = (s.setPwr fun _ =>
      { s.pwr with ctl := 5, regsOn := false, latch := true, cool := true, recCause := cause, recTrips := min 65535 (s.pwr.recTrips + 1) }).syncPwr := by
  refine ctl_next ?_
  rw [PwrSt.trip, if_pos (fetOn_of hctl)]
  exact settle_still (turn_latched_holds rfl (.inl rfl))

theorem reverseOff_A (hfeed : s.pwr.feedA = true) (hs1 : s1 = (s.occAt 24 0 none).bump F.PWR_STATUS_REVERSALS 0 1) (hctl : s1.pwr.ctl = pcOn) :
    s.reverseOff 0 = (s1.setPwr fun _ => { s1.pwr with orA := false }).syncPwr := by
  rw [State.reverseOff, if_pos (by simp [hfeed]), ← hs1]
  refine ctl_next ?_
  rw [if_pos rfl]
  exact settle_still (turn_fetOn (.inr hctl))

end Events

/-! ### AVS -/

section Avs
variable {s : State}

theorem avsLower_due (hon : s.avsOn = true) (hcnt : s.get F.PWR_AVS_STATUS_LOWER_CNT 0 = 1024) :
    s.avsLower = (s.put F.PWR_AVS_STATUS_SETPOINT 0 (if s.vmin < s.setpoint then s.setpoint - 1 else s.setpoint)).put F.PWR_AVS_STATUS_LOWER_CNT 0 0 :=
  if_pos (by simp [hon, hcnt])

/-- An urgent raise, the first or 20,000 clocks after the last. -/
theorem avsUrgent_free {margin t : Nat} (hmargin : margin < s.get F.PWR_AVS_MARGIN_M_CRIT 0)
    (hfree : s.pwr.urgentAt = none ∨ s.pwr.urgentAt = some t ∧ t + 20000 ≤ s.soleClk) :
    s.avsUrgent margin = ((s.put F.PWR_AVS_STATUS_SETPOINT 0 (max s.setpoint (min s.vmax (s.setpoint + 5)))).bump F.PWR_AVS_CNT_URGENT 0 1).setPwr fun p =>
      { p with urgentAt := some s.soleClk } := by
  unfold State.avsUrgent
  obtain hnone | ⟨hsome, hclk⟩ := hfree
  · rw [hnone]
    exact if_pos (by simp [hmargin])
  · rw [hsome]
    exact if_pos (by simp [hmargin, hclk])

end Avs

/-- Settles O53. -/
theorem powerController : Obligations.PowerController := by
  refine ⟨?enterA, ?enterB, ?leaveA, ?leaveB, ?bias, ?biasLoss, ?delay, ?pmRise, ?pmLow, ?clear, ?cool, ?good, ?regs, ?goodLost, ?fast, ?breaker, ?soa,
    ?overtemp, ?rampTimeout, ?reverse, ?nvCommit, ?peak, ?lower, ?urgent⟩
  case enterA =>
    intro s feed hfeed hctl ha hb
    subst hfeed
    exact next_of_within (f := fun t => t.feedEnter 0) rfl rfl (feedEnter_A hctl ha hb)
  case enterB =>
    intro s feed hfeed hctl ha hb
    subst hfeed
    exact next_of_within (f := fun t => t.feedEnter 1) rfl rfl (feedEnter_B hctl ha hb)
  case leaveA =>
    intro s feed s1 hfeed ha hregs hs1 hctl hother
    subst hfeed
    exact next_of_within (f := fun t => (t.feedLeave 0).settle) rfl rfl (congrArg State.settle (feedLeave_A ha hregs hs1 hctl hother))
  case leaveB =>
    intro s feed s1 hfeed hb hregs hs1 hctl hother
    subst hfeed
    exact next_of_within (f := fun t => (t.feedLeave 1).settle) rfl rfl (congrArg State.settle (feedLeave_B hb hregs hs1 hctl hother))
  case bias =>
    intro s hctl ha hb
    exact next_of_eq (u := s.biasPresent) rfl (biasPresent_off hctl ha hb)
  case biasLoss =>
    intro s
    exact next_of_eq (u := s.biasLoss) rfl biasLoss_nobias
  case delay =>
    intro s hrun hctl hfeed hen
    exact next_of_eq (u := s.insertionEnd) rfl (insertionEnd_ramps hrun hctl hfeed hen)
  case pmRise =>
    intro s hctl hfeed hdone
    exact next_of_eq (u := s.pmEnRise) rfl (pmEnRise_ramps hctl hfeed hdone)
  case pmLow =>
    intro s hctl hfeed
    exact next_of_eq (u := s.pmEnLow) rfl (pmEnLow_on hctl hfeed)
  case clear =>
    intro s hen hfeed hctl hcool
    exact next_of_eq (u := s.latchClear) rfl (latchClear_inserts hen hfeed hctl hcool)
  case cool =>
    intro s hctl hlatch
    exact next_of_eq (u := s.cooldownEnd) rfl (cooldownEnd_latched hctl hlatch)
  case good =>
    intro s hctl
    exact next_of_eq (u := s.powerGood) rfl (powerGood_ramp hctl)
  case regs =>
    intro s hctl hregs
    exact next_of_eq (u := s.regulatorEnable) rfl (regulatorEnable_on hctl hregs)
  case goodLost =>
    intro s hctl
    have hon : s.pwr.ctl = pcOn := hctl
    exact next_of_eq (u := s.powerGoodLost) rfl ((if_pos hon).trans (fetTrip_fetOn (.inr hon)))
  case fast =>
    intro s hctl
    exact next_of_eq (u := s.fetTrip ocFast) rfl (fetTrip_fetOn hctl)
  case breaker =>
    intro s hctl
    exact next_of_eq (u := s.fetTrip ocBreaker) rfl (fetTrip_fetOn hctl)
  case soa =>
    intro s hctl
    exact next_of_eq (u := s.fetTrip ocSoa) rfl (fetTrip_fetOn hctl)
  case overtemp =>
    intro s hctl
    exact next_of_eq (u := s.fetTrip ocFetOt) rfl (fetTrip_fetOn hctl)
  case rampTimeout =>
    intro s hctl
    have hramp : s.pwr.ctl = pcRamp := hctl
    exact next_of_eq (u := s.rampTimeout) rfl ((if_pos hramp).trans (fetTrip_fetOn (.inl hramp)))
  case reverse =>
    intro s feed s1 hfeed ha hs1 hctl
    subst hfeed
    exact next_of_within (f := fun t => (t.reverseOff 0).settle) rfl rfl (congrArg State.settle (reverseOff_A ha hs1 hctl))
  case nvCommit =>
    intro s p v s1 hp ho hcommit hs1
    subst hs1
    refine next_of_within (f := fun t => t.pathWrite p R.PWR_CFG v) rfl hp ?_
    rw [pathWrite_PWR_CFG ho, State.pwrCfgWrite]
    rw [if_pos hcommit]
  case peak =>
    intro s p v hp ho hclr
    refine next_of_within (f := fun t => t.pathWrite p R.PWR_PIN_PEAK v) rfl hp ?_
    rw [pathWrite_PWR_PIN_PEAK ho, State.peakWrite, if_pos hclr]
  case lower =>
    intro s hon hcnt
    exact next_of_eq (u := s.avsLower) rfl (avsLower_due hon hcnt)
  case urgent =>
    intro s d margin t hd hmargin hfree
    exact next_of_within (f := fun t => t.avsUrgent margin) rfl (decide_eq_true hd) (avsUrgent_free hmargin hfree)

end Sys2Proof.Machine
end

section
/-!
PROOFS. Resets of the module, start-up, READY and the I3C sideband (spec/19).
-/
namespace Sys2Proof.Machine
open Sys2Proof

/-! ### GLB_RST -/

section Rst
variable {s : State} {v : Word}

theorem rstWrite_module (hmod : F.GLB_RST_MODULE.of v = 1) : s.rstWrite v = (s.dieReset 2).setMdl fun m => { m with pulse := true } := if_pos hmod

/-- A write that asks for a management reset where it is refused. -/
theorem rstWrite_refused (hmod : F.GLB_RST_MODULE.of v = 0) (hclr : F.GLB_RST_REFUSED.of v = 0) (hmgmt : F.GLB_RST_MGMT.of v = 1)
    (hhold : F.GLB_RST_MGMT_HOLD.of v = 0) (hno : s.mgmtRefused = true) :
    s.rstWrite v = (s.put F.GLB_RST_REFUSED 0 1).put F.GLB_RST_MGMT_HOLD 0 0 := by
  simp [State.rstWrite, hmod, hclr, hmgmt, hhold, hno, bit]

theorem rstWrite_resets (hmod : F.GLB_RST_MODULE.of v = 0) (hclr : F.GLB_RST_REFUSED.of v = 0) (hmgmt : F.GLB_RST_MGMT.of v = 1)
    (hhold : F.GLB_RST_MGMT_HOLD.of v = 0) (hgo : s.mgmtRefused = false) :
    s.rstWrite v = (s.mgmtClear.put F.GLB_RST_MGMT_HOLD 0 0).setMdl fun m => { m with mgmtLoad := true } := by
  simp [State.rstWrite, hmod, hclr, hmgmt, hhold, hgo, bit]

/-- The write that begins a hold clears the management block, too. -/
theorem rstWrite_holds (hmod : F.GLB_RST_MODULE.of v = 0) (hclr : F.GLB_RST_REFUSED.of v = 0) (hhold : F.GLB_RST_MGMT_HOLD.of v = 1)
    (hwas : s.on F.GLB_RST_MGMT_HOLD 0 = false) (hgo : s.mgmtRefused = false) :
    s.rstWrite v = (s.mgmtClear.put F.GLB_RST_MGMT_HOLD 0 1).setMdl fun m => { m with mgmtLoad := false } := by
  simp [State.rstWrite, hmod, hclr, hhold, hwas, hgo, bit]

theorem rstWrite_endsHold (hmod : F.GLB_RST_MODULE.of v = 0) (hclr : F.GLB_RST_REFUSED.of v = 0) (hmgmt : F.GLB_RST_MGMT.of v = 0)
    (hhold : F.GLB_RST_MGMT_HOLD.of v = 0) (hwas : s.on F.GLB_RST_MGMT_HOLD 0 = true) :
    s.rstWrite v = (s.put F.GLB_RST_MGMT_HOLD 0 0).setMdl fun m => { m with mgmtLoad := true } := by
  simp [State.rstWrite, hmod, hclr, hmgmt, hhold, hwas, bit]

end Rst

/-! ### Start-up -/

section Start
variable {s s1 : State}

theorem perstAssert_up (hregs : s.pwr.regsOn = true) (haon : s.mdl.aonHeld = false) :
    s.perstAssert = (s.setMdl fun m => { m with perst := true }).dieReset 1 := if_pos (by simp [hregs, haon])

/-- Step 2 is entered when the Always-on block is up in step 1. -/
theorem toStep2_up (hup : s.aonUp = true) (hstep : s.step? = 1) : s.toStep2 = s.setStep 2 := if_pos (by simp [hup, hstep])

theorem mgmtRestart_loads (hload : s.mdl.mgmtLoad = true) (hfw : s.las.fwRunning = true) (hhold : s.on F.GLB_RST_MGMT_HOLD 0 = false) :
    s.mgmtRestart = (s.restartLoad true []).setMdl fun m => { m with mgmtLoad := false } := if_pos (by simp [hload, hfw, hhold])

/-- The release of the Always-on block where no trip is recorded. -/
theorem aonRelease_noTrip (hregs : s.pwr.regsOn = true) (haon : s.mdl.aonHeld = true) (hcause : s.pwr.recCause < ocBreaker ∨ ocFetOt < s.pwr.recCause)
    (hs1 : s1 = (s.setMdl fun m => { m with aonHeld := false }).syncPwr) (hup : s1.aonUp = true) (hstep : s1.step? = 1) :
    s.aonRelease = s1.setStep 2 := by
  have hno : ¬(ocBreaker ≤ s.pwr.recCause ∧ s.pwr.recCause ≤ ocFetOt) := by omega
  rw [State.aonRelease, if_pos (guard_and hregs haon)]
  dsimp only
  rw [if_neg hno, ← hs1, toStep2_up hup hstep]

theorem powerUpTests_boot {ok : Bool} (hstep : s.step? = 2) (htest : s.on F.SEC_STATUS_SELFTEST_OK 0 = false) (herr : s.secError = false)
    (hret : s.sec.returning = none) : s.powerUpTests ok = (s.selfTest ok).bootEntry := by
  rw [State.powerUpTests, if_pos (by simp [hstep, htest, herr]), hret]

theorem cageRelease_due {b e : Nat} (hcage : s.mdl.cages.find b = some e) (hdue : s.reached e = true) :
    s.cageRelease b = ((s.setMdl fun m => { m with cages := m.cages.del b, released := insNat m.released b }).each
      ((List.range 4).map fun i => 4 * b + i) fun t n => if upMode (t.portMode n) then t else t.portDetect n) := by
  rw [State.cageRelease, hcage]
  exact if_pos hdue

/-! ### READY -/

theorem readySend_whole (hstep : s.step? = 8) (hok : s.readyOk = true) : s.readySend = s.readyEvent false := if_pos (by simp [hstep, hok])

theorem readyLimit_early (hge : 5 ≤ s.step?) (hle : s.step? ≤ 7) (hdue : s.reachedO s.mdl.readyTo = true) :
    s.readyLimit = s.startBindings.readyEvent true := by
  have hbefore : s.step? ≠ 8 := by omega
  rw [State.readyLimit, if_pos ⟨hge, by omega, hdue, fun h => hbefore h.1⟩, if_neg hbefore]

end Start

/-- Settles O54. -/
theorem moduleResets : Obligations.ModuleResets := by
  refine ⟨?perst, ?perstEnd, ?pulseEnd, ?module, ?mgmt, ?refused, ?hold, ?letGo, ?restart, ?aon, ?tests, ?cage, ?ready, ?limit⟩
  case perst =>
    intro s hregs haon
    exact next_of_eq (u := s.perstAssert) rfl (perstAssert_up hregs haon)
  case perstEnd =>
    intro s s1 hs1 hup hstep
    subst hs1
    exact next_of_eq (u := s.perstRelease) rfl (toStep2_up hup hstep)
  case pulseEnd =>
    intro s s1 hs1 hup hstep
    subst hs1
    exact next_of_eq (u := s.pulseEnd) rfl (toStep2_up hup hstep)
  case module =>
    intro s p v hp ho hmod
    refine next_of_within (f := fun t => t.pathWrite p R.GLB_RST v) rfl hp ?_
    rw [pathWrite_GLB_RST ho, rstWrite_module hmod]
  case mgmt =>
    intro s p v hp ho hmod hclr hmgmt hhold hgo
    refine next_of_within (f := fun t => t.pathWrite p R.GLB_RST v) rfl hp ?_
    rw [pathWrite_GLB_RST ho, rstWrite_resets hmod hclr hmgmt hhold hgo]
  case refused =>
    intro s p v hp ho hmod hclr hmgmt hhold hno
    refine next_of_within (f := fun t => t.pathWrite p R.GLB_RST v) rfl hp ?_
    rw [pathWrite_GLB_RST ho, rstWrite_refused hmod hclr hmgmt hhold hno]
  case hold =>
    intro s p v hp ho hmod hclr _ hhold hwas hgo
    refine next_of_within (f := fun t => t.pathWrite p R.GLB_RST v) rfl hp ?_
    rw [pathWrite_GLB_RST ho, rstWrite_holds hmod hclr hhold hwas hgo]
  case letGo =>
    intro s p v hp ho hmod hclr hmgmt hhold hwas
    refine next_of_within (f := fun t => t.pathWrite p R.GLB_RST v) rfl hp ?_
    rw [pathWrite_GLB_RST ho, rstWrite_endsHold hmod hclr hmgmt hhold hwas]
  case restart =>
    intro s hload hfw hhold
    exact next_of_eq (u := s.mgmtRestart.writeDone) rfl (congrArg State.writeDone (mgmtRestart_loads hload hfw hhold))
  case aon =>
    intro s s1 hregs haon hcause hs1 hup hstep
    exact next_of_eq (u := s.aonRelease.settle) rfl (congrArg State.settle (aonRelease_noTrip hregs haon hcause hs1 hup hstep))
  case tests =>
    intro s ok hstep htest herr hret
    exact next_of_eq (u := (s.powerUpTests ok).settle) rfl (congrArg State.settle (powerUpTests_boot hstep htest herr hret))
  case cage =>
    intro s b e hb hcage hdue
    exact next_of_within (f := fun t => t.cageRelease b) rfl (decide_eq_true hb) (cageRelease_due hcage hdue)
  case ready =>
    intro s hstep hok
    exact next_of_eq (u := s.readySend.writeDone) rfl (congrArg State.writeDone (readySend_whole hstep hok))
  case limit =>
    intro s s1 hge hle hdue hs1
    subst hs1
    exact next_of_eq (u := s.readyLimit.writeDone) rfl (congrArg State.writeDone (readyLimit_early hge hle hdue))

/-! ### The I3C sideband -/

/-- Settles O55: each command of a block that is up, or of a module that holds an address, does its work. -/
theorem sideband : Obligations.Sideband := by
  refine ⟨?entdaa, ?rstdaa, ?setnewda, ?getpid, ?getbcr, ?getdcr, ?getmxds, ?enec, ?disec, ?setmrl, ?setmwl, ?hotJoin⟩
  case entdaa =>
    intro s addr hup hfree
    exact next_of_eq (u := s.i3cEntdaa addr) rfl (if_pos (by simp [hup, hfree]))
  case rstdaa =>
    intro s hup
    exact next_of_eq (u := s.i3cRstdaa) rfl (if_pos hup)
  case setnewda =>
    intro s addr hheld
    exact next_of_eq (u := s.i3cSetnewda addr) rfl (if_pos hheld)
  case getpid =>
    intro s hheld
    exact next_of_eq (u := s.i3cGet 0x8D s.provisionalId) rfl (if_pos hheld)
  case getbcr =>
    intro s hheld
    exact next_of_eq (u := s.i3cGet 0x8E ((Config.device 1).toNat % 256)) rfl (if_pos hheld)
  case getdcr =>
    intro s hheld
    exact next_of_eq (u := s.i3cGet 0x8F ((Config.device 2).toNat % 256)) rfl (if_pos hheld)
  case getmxds =>
    intro s hheld
    exact next_of_eq (u := s.i3cGet 0x94 ((Config.device 3).toNat % 65536)) rfl (if_pos hheld)
  case enec =>
    intro s hup
    exact next_of_eq (u := s.i3cIbi true) rfl (if_pos hup)
  case disec =>
    intro s hup
    exact next_of_eq (u := s.i3cIbi false) rfl (if_pos hup)
  case setmrl =>
    intro s n hup
    exact next_of_eq (u := s.i3cLimit true n) rfl (if_pos hup)
  case setmwl =>
    intro s n hup
    exact next_of_eq (u := s.i3cLimit false n) rfl (if_pos hup)
  case hotJoin =>
    intro s hup hfree hnone
    exact next_of_eq (u := s.i3cHotJoin) rfl (if_pos (by simp [hup, hfree, hnone]))

end Sys2Proof.Machine
end
